-- ==== Sys2Proof/Word.lean ====
section
/-!
DEFINITION. The word types of the FQ7608 and their plainest arithmetic: bytes, operand registers, bit fields of a
register value, little-endian byte lists (00 R13).
-/
namespace Sys2Proof

/-- One byte of the data space or of a frame. -/
abbrev Byte := BitVec 8
/-- An operand or result register of a function unit: four bytes (04 R148). -/
abbrev Word := BitVec 32
/-- A bundle (04 R135). -/
abbrev Bundle := BitVec 64
/-- A bundle index (07 R301). -/
abbrev Index := BitVec 15

/-- Field of `w` bits of `v` from bit `lo`. -/
def fld (v lo w : Nat) : Nat := v / 2 ^ lo % 2 ^ w

/-- `v` with the field of `w` bits from bit `lo` replaced by `x`. -/
def putFld (v lo w x : Nat) : Nat := v - fld v lo w * 2 ^ lo + x % 2 ^ w * 2 ^ lo

/-- Bit `i` of `v`. -/
def bit (v i : Nat) : Bool := v / 2 ^ i % 2 == 1

/-- `v` with bit `i` set or clear as `b` says. -/
def putBit (v i : Nat) (b : Bool) : Nat := putFld v i 1 (if b then 1 else 0)

/-- 1 for true, 0 for false. -/
def b2n (b : Bool) : Nat := if b then 1 else 0

/-- The `n` bytes of `v`, least significant first (00 R13). -/
def leBytes : Nat → Nat → List Byte
  | 0, _ => []
  | n + 1, v => BitVec.ofNat 8 v :: leBytes n (v / 256)

/-- The number whose bytes, least significant first, are given (00 R13). -/
def leNat : List Byte → Nat
  | [] => 0
  | b :: bs => b.toNat + 256 * leNat bs

/-- The number whose bytes, most significant first, are given. -/
def beNat (bs : List Byte) : Nat := bs.foldl (fun a b => 256 * a + b.toNat) 0

/-- The `n` bytes of `v`, most significant first. -/
def beBytes (n v : Nat) : List Byte := (leBytes n v).reverse

/-- `v` as a signed number of `w` bits. -/
def toSigned (w v : Nat) : Int := if v % 2 ^ w < 2 ^ (w - 1) then (v % 2 ^ w : Nat) else (v % 2 ^ w : Nat) - 2 ^ w

/-- The `w` low bits of a signed number. -/
def ofSigned (w : Nat) (x : Int) : Nat := (x % 2 ^ w).toNat

/-- `x` lies after `y` under serial-number arithmetic of `w` bits (14 R668, 08 R369). -/
def serialAfter (w x y : Nat) : Bool :=
  let d := (x + 2 ^ w - y % 2 ^ w) % 2 ^ w
  decide (0 < d) && decide (d < 2 ^ (w - 1))

/-- `n + 1`, stopping at the largest value of `w` bits (saturating counters). -/
def satInc (w n : Nat) : Nat := if n + 1 < 2 ^ w then n + 1 else 2 ^ w - 1

end Sys2Proof
end

