-- ==== Sys2Proof/Args.lean ====
section
/-!
DEFINITION. The operands of the commands: which thread, port, writer or reader a command names, and the frames and
lines that reach the FQ7608 from outside.
-/
namespace Sys2Proof

/-- A thread: 0 to 15 are the main-core threads (8 × core + thread, 01 R755), 16 to 19 the Warden threads s0 to s3
(08 R364). The lockstep pair is one architectural thread state. -/
abbrev Thread := Fin 20

/-- What the comparator saw of the bundle's outgoing vector (08 R360 to R362). It matters on the Warden only. -/
inductive Lockstep where
  | agree | mismatch | parity | rail
  deriving DecidableEq, Repr

/-- The two floating-point units (05 R227, R228). -/
inductive FpUnit where
  | fph | fps
  deriving DecidableEq, Repr

/-- The Rp advertisement seen on CC1 and CC2 (12 R562). -/
inductive RpAdvert where
  | none | default | rp15 | rp30
  deriving DecidableEq, Repr

/-- The result of BC1.2 detection (12 R562). -/
inductive Bc12 where
  | nothing | sdp | cdp | dcp
  deriving DecidableEq, Repr

/-- Who writes a register or a descriptor: a main-core thread, a Warden thread, the host over SPI or over I²C. -/
inductive Writer where
  | main (t : Fin 16)
  | warden (s : Fin 4)
  | spi
  | i2c
  deriving DecidableEq, Repr

/-- The three kinds of reader that keep latches apart (00 R1012); a main reader is a thread, because a refused read
raises its exception in that thread. -/
inductive Reader where
  | main (t : Fin 16)
  | warden (s : Fin 4)
  | spi
  | i2c
  deriving DecidableEq, Repr

/-- The two host ports (19 R888). -/
inductive HostPort where
  | spi | i2c
  deriving DecidableEq, Repr

/-- The fields of a host's sequenced order after the command byte (19 R888). -/
structure HostOrder where
  seq : BitVec 16
  epoch : BitVec 8
  issue : BitVec 32
  ap : BitVec 8
  value : BitVec 16
  options : BitVec 8
  deriving DecidableEq, Repr

/-- What the host target finds of a transaction's frame: good, a wrong CRC or PEC, a byte count that differs from the
frame (19 R894, R928). -/
inductive FrameCheck where
  | ok | badCrc | badLength
  deriving DecidableEq, Repr

/-- The entropy health tests (18 R855, R856). -/
inductive HealthFail where
  | rct | apt | startup
  deriving DecidableEq, Repr

/-- How an I²C controller transfer ends (19 R919). -/
inductive IcResult where
  | ok | nackAddr | nackData | arbLost | timeout
  deriving DecidableEq, Repr

/-- The wake sources of HIBERNATE (20 R942). -/
inductive WakeSource where
  | time | input | host | order | button
  deriving DecidableEq, Repr

/-- A Tarnline frame without preamble and CRC (15 R706): the header's fields, the payload (its length is LEN) and
the tag when FLAGS.MAC is set. -/
structure Frame where
  dst : BitVec 13
  src : BitVec 13
  kind : BitVec 4
  hop : BitVec 6
  queue : BitVec 14
  seq : BitVec 16
  flags : BitVec 6
  epoch : BitVec 8
  hseq : BitVec 4
  payload : List Byte
  tag : Option (BitVec 64)
  deriving DecidableEq, Repr

end Sys2Proof
end

