-- ==== Sys2Proof/Syntax.lean ====
section
/-!
DEFINITION. The commands of the FQ7608: one constructor for each row of spec/opcode_table.json. The comment of each names
the row's rule. A command's operands are what the row leaves to the sender: the thread or unit it names, and what the
hardware measures or receives when it comes about.
-/
namespace Sys2Proof

/-- A command of the block. -/
inductive Instr where
  /-- BUNDLE_ISSUE (R138): A core issues one ready thread's bundle, reading all guards and sources, then applying moves in slot order and then triggers. -/
  | bundleIssue (c : Fin 3) (k : Lockstep)
  /-- ADD (R216): ALU add of A and B at width W, with carry and overflow flags. -/
  | add (t : Thread) (u : Fin 2) (w : Fin 3)
  /-- ADC (R217): ALU add with the carry in of the thread's last completed operation on the unit. -/
  | adc (t : Thread) (u : Fin 2) (w : Fin 3)
  /-- SUB (R216): ALU subtract B from A with borrow and overflow flags. -/
  | sub (t : Thread) (u : Fin 2) (w : Fin 3)
  /-- SBC (R217): ALU subtract with borrow in. -/
  | sbc (t : Thread) (u : Fin 2) (w : Fin 3)
  /-- AND (R216): ALU bitwise AND. -/
  | and (t : Thread) (u : Fin 2) (w : Fin 3)
  /-- OR (R216): ALU bitwise OR. -/
  | or (t : Thread) (u : Fin 2) (w : Fin 3)
  /-- XOR (R216): ALU bitwise XOR. -/
  | xor (t : Thread) (u : Fin 2) (w : Fin 3)
  /-- ANDN (R216): ALU A AND NOT B. -/
  | andn (t : Thread) (u : Fin 2) (w : Fin 3)
  /-- ADDS (R271): Signed saturating add setting S and V on clamp. -/
  | adds (t : Thread) (u : Fin 2) (w : Fin 3)
  /-- ADDUS (R271): Unsigned saturating add. -/
  | addus (t : Thread) (u : Fin 2) (w : Fin 3)
  /-- SUBS (R271): Signed saturating subtract. -/
  | subs (t : Thread) (u : Fin 2) (w : Fin 3)
  /-- SUBUS (R271): Unsigned saturating subtract. -/
  | subus (t : Thread) (u : Fin 2) (w : Fin 3)
  /-- MINS (R216): Signed minimum of A and B. -/
  | mins (t : Thread) (u : Fin 2) (w : Fin 3)
  /-- MINU (R216): Unsigned minimum of A and B. -/
  | minu (t : Thread) (u : Fin 2) (w : Fin 3)
  /-- MAXS (R216): Signed maximum of A and B. -/
  | maxs (t : Thread) (u : Fin 2) (w : Fin 3)
  /-- MAXU (R216): Unsigned maximum of A and B. -/
  | maxu (t : Thread) (u : Fin 2) (w : Fin 3)
  /-- NOT (R216): Unary bitwise NOT of A. -/
  | not (t : Thread) (u : Fin 2) (w : Fin 3)
  /-- NEG (R273): Unary wrapping negation of A, V set for the most negative value. -/
  | neg (t : Thread) (u : Fin 2) (w : Fin 3)
  /-- ABSS (R273): Unary saturating absolute value. -/
  | abss (t : Thread) (u : Fin 2) (w : Fin 3)
  /-- PASS (R216): Unary copy of A to the result. -/
  | pass (t : Thread) (u : Fin 2) (w : Fin 3)
  /-- SHL (R218): Logical shift left by B[7:0]. -/
  | shl (t : Thread) (w : Fin 3)
  /-- SHR (R218): Logical shift right by B[7:0]. -/
  | shr (t : Thread) (w : Fin 3)
  /-- SAR (R218): Arithmetic shift right with sign fill. -/
  | sar (t : Thread) (w : Fin 3)
  /-- ROL (R218): Rotate left by amount modulo width. -/
  | rol (t : Thread) (w : Fin 3)
  /-- ROR (R218): Rotate right by amount modulo width. -/
  | ror (t : Thread) (w : Fin 3)
  /-- SHLS (R273): Signed saturating shift left. -/
  | shls (t : Thread) (w : Fin 3)
  /-- BSWAP (R218): Unary byte-order reversal. -/
  | bswap (t : Thread) (w : Fin 3)
  /-- CMP_EQ (R220): Compare A equal to B into the target guard, optionally ANDed. -/
  | cmpEq (t : Thread) (w : Fin 3) (g : Fin 4) (anded : Bool)
  /-- CMP_NE (R220): Compare A not equal to B into a guard. -/
  | cmpNe (t : Thread) (w : Fin 3) (g : Fin 4) (anded : Bool)
  /-- CMP_LTU (R220): Unsigned less-than compare into a guard. -/
  | cmpLtu (t : Thread) (w : Fin 3) (g : Fin 4) (anded : Bool)
  /-- CMP_GEU (R220): Unsigned greater-or-equal compare into a guard. -/
  | cmpGeu (t : Thread) (w : Fin 3) (g : Fin 4) (anded : Bool)
  /-- CMP_LTS (R220): Signed less-than compare into a guard. -/
  | cmpLts (t : Thread) (w : Fin 3) (g : Fin 4) (anded : Bool)
  /-- CMP_GES (R220): Signed greater-or-equal compare into a guard. -/
  | cmpGes (t : Thread) (w : Fin 3) (g : Fin 4) (anded : Bool)
  /-- CMP_TST (R220): Test A AND B non-zero into a guard. -/
  | cmpTst (t : Thread) (w : Fin 3) (g : Fin 4) (anded : Bool)
  /-- CMP_TSTZ (R220): Test A AND B zero into a guard. -/
  | cmpTstz (t : Thread) (w : Fin 3) (g : Fin 4) (anded : Bool)
  /-- MULU (R222): Unsigned multiply, long at W = 2. -/
  | mulu (t : Thread) (w : Fin 3)
  /-- MULS (R222): Signed multiply. -/
  | muls (t : Thread) (w : Fin 3)
  /-- MULHU (R222): Upper half of the unsigned double-width product. -/
  | mulhu (t : Thread) (w : Fin 3)
  /-- MULHS (R222): Upper half of the signed double-width product. -/
  | mulhs (t : Thread) (w : Fin 3)
  /-- MULQ (R223): Rounded signed fractional multiply, saturating only for two most negative operands. -/
  | mulq (t : Thread) (w : Fin 3)
  /-- POPCNT (R224): Count of set bits of A. -/
  | popcnt (t : Thread) (w : Fin 3)
  /-- CLZ (R224): Leading zero count of A. -/
  | clz (t : Thread) (w : Fin 3)
  /-- CTZ (R224): Trailing zero count of A. -/
  | ctz (t : Thread) (w : Fin 3)
  /-- BREV (R224): Bit-order reversal of A. -/
  | brev (t : Thread) (w : Fin 3)
  /-- EXTU (R225): Zero-extended field extract at u5 position and u6 length. -/
  | extu (t : Thread)
  /-- EXTS (R225): Sign-extended field extract. -/
  | exts (t : Thread)
  /-- INS (R225): Insert low bits of B into the field of A. -/
  | ins (t : Thread)
  /-- FADD (R228): Floating add on FPH or FPS, rounded by FPMODE at trigger. -/
  | fadd (t : Thread) (u : FpUnit)
  /-- FSUB (R228): Floating subtract. -/
  | fsub (t : Thread) (u : FpUnit)
  /-- FMUL (R228): Floating multiply. -/
  | fmul (t : Thread) (u : FpUnit)
  /-- FMA (R227): FPH fused multiply-add x × y + z with one rounding. -/
  | fma (t : Thread)
  /-- FMIN (R230): Floating minimum, −0 below +0, NaN handling per rule. -/
  | fmin (t : Thread) (u : FpUnit)
  /-- FMAX (R230): Floating maximum. -/
  | fmax (t : Thread) (u : FpUnit)
  /-- FCMP (R229): Quiet floating compare writing one of LT, EQ, GT, UN to q0. -/
  | fcmp (t : Thread) (u : FpUnit)
  /-- FDIV (R290): Floating divide with acceptance limit per core. -/
  | fdiv (t : Thread) (u : FpUnit)
  /-- FSQRT (R289): Floating square root. -/
  | fsqrt (t : Thread) (u : FpUnit)
  /-- FABS (R230): Clear the sign bit without flags. -/
  | fabs (t : Thread) (u : FpUnit)
  /-- FNEG (R230): Invert the sign bit without flags. -/
  | fneg (t : Thread) (u : FpUnit)
  /-- CVT_INT_TO_FLOAT (R228): Signed integer to float conversion. -/
  | cvtIntToFloat (t : Thread) (u : FpUnit)
  /-- CVT_FLOAT_TO_INT (R231): Float to signed integer conversion with NV on NaN or range. -/
  | cvtFloatToInt (t : Thread) (u : FpUnit)
  /-- CVT_UINT_TO_FLOAT (R228): Unsigned integer to float conversion. -/
  | cvtUintToFloat (t : Thread) (u : FpUnit)
  /-- CVT_FLOAT_TO_UINT (R231): Float to unsigned integer conversion. -/
  | cvtFloatToUint (t : Thread) (u : FpUnit)
  /-- CVT_FORMAT (R228): Conversion between binary32 and binary16. -/
  | cvtFormat (t : Thread) (u : FpUnit)
  /-- LD (R232): Zero-extended load of 8, 16 or 32 bits from A[23:0]. -/
  | ld (t : Thread) (w : Fin 3)
  /-- LD_SIGNED (R232): Sign-extended load of 8 or 16 bits. -/
  | ldSigned (t : Thread) (w : Fin 2)
  /-- ST (R232): Store of 8, 16 or 32 bits from B, refused whole if any byte is refused. -/
  | st (t : Thread) (w : Fin 3)
  /-- SWAP8 (R237): Atomic byte swap in DMEM returning the old byte. -/
  | swap8 (t : Thread)
  /-- CRC_INIT (R238): Set the CRC accumulator to the polynomial's initial value. -/
  | crcInit (t : Thread) (p : Fin 3)
  /-- CRC_BYTE (R238): Fold the ta byte into the accumulator. -/
  | crcByte (t : Thread) (p : Fin 3)
  /-- CRC_BLOCK (R240): Long fold of B[15:0] bytes from A into the accumulator. -/
  | crcBlock (t : Thread) (p : Fin 3)
  /-- CRC_SEED (R238): Set the accumulator to B raw. -/
  | crcSeed (t : Thread) (p : Fin 3)
  /-- JUMP (R242): Continue at bundle index B[14:0]. -/
  | jump (t : Thread)
  /-- CALL (R243): Push the next index and PRIV and continue at B[14:0]. -/
  | call (t : Thread)
  /-- RET (R243): Pop the return stack and continue there. -/
  | ret (t : Thread)
  /-- ERET (R343): Exception return restoring PRIV, optionally skipping one bundle. -/
  | eret (t : Thread)
  /-- WAIT (R244): Thread enters WAITING until a WAITMASK source is pending. -/
  | wait (t : Thread)
  /-- YIELD (R242): Thread not ready for the ta byte's count of cycles. -/
  | yield (t : Thread)
  /-- SPAWN (R245): Start a HALTED thread at an index, privileged only from a privileged spawner. -/
  | spawn (t : Thread)
  /-- SYNC (R171): Commit all the thread's pending shadows of sync-required sockets. -/
  | sync (t : Thread)
  /-- FENCE (R319): Thread not ready until all its earlier long operations retire. -/
  | fence (t : Thread)
  /-- HALT (R246): Thread becomes HALTED after its long operations retire, discarding shadows. -/
  | halt (t : Thread)
  /-- TRAP (R336): Trap exception with the ta byte as tag, the trap bundle's moves taking effect. -/
  | trap (t : Thread)
  /-- TSET (R247): Set the thread deadline to TICKCNT plus B. -/
  | tset (t : Thread)
  /-- TSETABS (R247): Set the thread deadline at absolute TICKCNT[31:0]. -/
  | tsetabs (t : Thread)
  /-- TCANCEL (R247): Remove the deadline and clear EXP. -/
  | tcancel (t : Thread)
  /-- TNOW (R247): Return TICKCNT[31:0]. -/
  | tnow (t : Thread)
  /-- TLEFT (R247): Return ticks remaining to the deadline. -/
  | tleft (t : Thread)
  /-- TMR_EXPIRE (R248): A thread deadline passes, setting EXP and a WAITMASK source. -/
  | tmrExpire (t : Thread)
  /-- RDPHASE (R249): Read the selected wheel's angle. -/
  | rdphase (t : Thread)
  /-- RDTURN (R249): Read the selected wheel's turn count and state. -/
  | rdturn (t : Thread)
  /-- RDTICK (R249): Read TICKCNT low word and latch the high word. -/
  | rdtick (t : Thread)
  /-- RDTICKH (R249): Read the TICKCNT high word latched by the last rdtick. -/
  | rdtickh (t : Thread)
  /-- MARK (R101): Post a firmware phase mark with angle and time stamp to a wheel. -/
  | mark (t : Thread)
  /-- SETPHASE (R1018): Privileged phase step of a wheel the shorter way round, with catch-up rules. -/
  | setphase (t : Thread)
  /-- ARM (R251): Commit a slot's staged entry with EN set and record the arming origin. -/
  | arm (t : Thread)
  /-- DISARM (R116): Clear EN of a live slot at the next tick without committing staged bytes. -/
  | disarm (t : Thread)
  /-- ENQ (R664): Append a message from a DMEM buffer to a local or outbound queue. -/
  | enq (t : Thread)
  /-- DEQ (R664): Remove the head message of a queue into a DMEM buffer. -/
  | deq (t : Thread)
  /-- PEEK (R664): Copy the head message without removal. -/
  | peek (t : Thread)
  /-- QFENCE (R672): Enter a fence on an outbound queue. -/
  | qfence (t : Thread)
  /-- ABANDON (R678): Remove a gap marker at the head and pass its span. -/
  | abandon (t : Thread)
  /-- FREEZE (R664): Set FROZEN on a queue. -/
  | freeze (t : Thread)
  /-- THAW (R664): Clear FROZEN on a queue. -/
  | thaw (t : Thread)
  /-- ROUND (R680): QUE operation that starts a round descriptor. -/
  | round (t : Thread)
  /-- RND (R255): Long RNG read of 8, 16 or 32 DRBG bits, optionally writing a guard. -/
  | rnd (t : Thread) (w : Fin 3)
  /-- SENDW (R258): Send a message to the Warden inbox. -/
  | sendw (t : Thread)
  /-- SENDH (R257): Send a message to the host outbox. -/
  | sendh (t : Thread)
  /-- RECV (R258): Take the oldest message from the thread's inbox. -/
  | recv (t : Thread)
  /-- REQ (R259): Raise a request on an actuation point and return a ticket. -/
  | req (t : Thread)
  /-- SENDC (R260): Warden send of a message to a main-core thread inbox. -/
  | sendc (t : Thread)
  /-- PCMD (R262): Warden power command with commit number, staged and applied or refused. -/
  | pcmd (t : Thread)
  /-- PLAST (R261): Return the last committed number. -/
  | plast (t : Thread)
  /-- PPG (R261): Return the power-good mask. -/
  | ppg (t : Thread)
  /-- PHOLD (R377): Hold all power hardware state until the next accepted pcmd. -/
  | phold (t : Thread)
  /-- LONG_OP_RETIRE (R317): A long operation retires, updating its q and fl ports or raising its exception. -/
  | longOpRetire (t : Thread) (u : Fin 16)
  /-- EXCEPTION_ENTRY (R338): After other long operations retire, push a resume entry, record causes and enter the handler. -/
  | exceptionEntry (t : Thread)
  /-- THREAD_WAKE (R244): A WAITMASK source becomes pending and the waiting thread resumes. -/
  | threadWake (t : Thread)
  /-- CORE_WIDE_COMMIT (R172): A pending core-wide shadow commits once all LSU operations of the core retire. -/
  | coreWideCommit (c : Fin 2)
  /-- DOORBELL_POP (R121): A read of the DOORBELL socket pops the oldest doorbell byte. -/
  | doorbellPop (t : Thread)
  /-- THERMAL_PAUSE_STEP (R178): Each 1 ms in FIXED mode the paused share rises or falls by one sixteenth. -/
  | thermalPauseStep (c : Fin 2) (dieC : Int)
  /-- ADAPTIVE_FREQ_STEP (R203): Each 1 ms at THERMLIM in ADAPTIVE mode the core lowers its frequency by 2 MHz. -/
  | adaptiveFreqStep (c : Fin 2) (dieC : Int)
  /-- FILLER_ISSUE (R523): The issue unit issues a filler bundle in an idle cycle when below the Millpond level. -/
  | fillerIssue (c : Fin 2)
  /-- WARDEN_ROLLBACK_DONE (R365): Rollback replay of the undo log ends and the Warden resumes at the checkpoint. -/
  | wardenRollbackDone
  /-- WARDEN_CHECKPOINT (R363): A checkpoint saves Warden thread state and clears the undo log. -/
  | wardenCheckpoint
  /-- COMPARATOR_EXERCISE (R372): Every 1 ms an injected one-bit mismatch tests the comparator. -/
  | comparatorExercise (rails : BitVec 2)
  /-- EXERCISE_MISSING (R375): No exercise completed for 2 ms puts the Warden in UNCHECKED. -/
  | exerciseMissing
  /-- WARDEN_LOST_TIMEOUT (R384): WDN_LOSTTO in LOST elapses and a fault shut-off with cause WARDEN_LOST follows. -/
  | wardenLostTimeout
  /-- WDN_VERDICT_WRITE (R392): The Warden vetoes or defers a handled order by writing WDN_VERDICT. -/
  | wdnVerdictWrite (v : BitVec 16)
  /-- VERDICT_TIMEOUT (R393): An order without verdict in WDN_VTO is answered WARDEN_TIMEOUT and its entry freed. -/
  | verdictTimeout (h : Fin 14)
  /-- THREAD_AP_WRITE (R34): A thread write to an actuation-point field becomes a request from its origin. -/
  | threadApWrite (t : Thread) (ap : BitVec 7) (v : BitVec 16)
  /-- ARBITRATION_WINDOW_CLOSE (R769): The window closes, the arbiter picks one winner and stages all orders. -/
  | arbitrationWindowClose (ap : BitVec 7)
  /-- LOCK_EXPIRE (R772): A timed lock on an actuation point runs out. -/
  | lockExpire (ap : BitVec 7)
  /-- LEDGER_COMMIT (R780): A final staged entry is programmed into the Ledger bank and its staging entry freed. -/
  | ledgerCommit
  /-- LEDGER_ERASE_DONE (R785): A Ledger segment erase completes and stalled commits resume. -/
  | ledgerEraseDone
  /-- SEQ_DELAY_EXPIRE (R409): SEQ_DELAY elapses and the domain is enabled into RAMP. -/
  | seqDelayExpire (x : Fin 13)
  /-- SEQ_PG_HIGH (R421): First filtered PG high in RAMP starts blanking. -/
  | seqPgHigh (x : Fin 13) (elapsed : BitVec 16)
  /-- SEQ_BLANK_EXPIRE (R421): Blanking ends and the domain becomes ON or faults PG_LOSS. -/
  | seqBlankExpire (x : Fin 13)
  /-- SEQ_PG_TIMEOUT (R420): No PG within SEQ_PGTO faults with PG_TIMEOUT. -/
  | seqPgTimeout (x : Fin 13)
  /-- SEQ_OFF_DELAY_EXPIRE (R409): SEQ_OFFDLY elapses and the domain is disabled to OFF. -/
  | seqOffDelayExpire (x : Fin 13)
  /-- PG_LOSS (R419): A filtered PG low of a domain judged by PG is a fault. -/
  | pgLoss (x : Fin 13)
  /-- FAULT_N_EXTERNAL (R439): An external FAULT_N assertion of 200 ns or more is a fault. -/
  | faultNExternal
  /-- FAULT_N_HOLD_END (R428): SEQ_FNHOLD elapses and the part releases FAULT_N. -/
  | faultNHoldEnd
  /-- RESTART_WAIT_HIGH_DONE (R440): FAULT_N high for 10 ms ends WAIT_HIGH and starts backoff or a restart. -/
  | restartWaitHighDone
  /-- RESTART_BACKOFF_EXPIRE (R440): Backoff of 1 s × 2^n ends; n increments and WRD starts. -/
  | restartBackoffExpire
  /-- RESTART_STABLE (R442): WRD ON for SEQ_STABLE without fault clears the restart count. -/
  | restartStable
  /-- LATCHED_LONGWAIT_EXPIRE (R444): SEQ_LONGWAIT hours in LATCHED end the latch and start WRD. -/
  | latchedLongwaitExpire
  /-- SEQ_PARITY_ERROR (R447): A parity error on a sequencer register faults or freezes the sequencer. -/
  | seqParityError (x : Fin 13) (inDelay : Bool)
  /-- BOOT_ROM_START (R960): The boot ROM runs its flow from OTP checks to policy start. -/
  | bootRomStart (exerciseOk : Bool)
  /-- LOAD_MAIN (R967): Boot ROM service powers CPU, reloads and rechecks IMEM and releases the cores. -/
  | loadMain (t : Thread)
  /-- BOOT_RETRY (R974): Host RETRY in a halted boot restarts WRD with kind BOOT_RETRY. -/
  | bootRetry
  /-- BOOT_RELOAD (R974): Host RELOAD places a type 0x85 message in the Warden inbox. -/
  | bootReload
  /-- OTP_HALT_LISTEN_SWITCH (R971): In OTP_HALT the boot ROM alternates SHORT and LONG listening every 1 s. -/
  | otpHaltListenSwitch
  /-- SOFT_START_END (R471): A channel's soft-start ramp ends and limit timing begins. -/
  | softStartEnd (n : Fin 8)
  /-- CHANNEL_PG_CHANGE (R473): Internal PG asserts or deasserts after its deglitch time. -/
  | channelPgChange (n : Fin 8) (good : Bool)
  /-- SLEW_END (R466): 100 µs after a slew ends the OVP reference and forced PWM return. -/
  | slewEnd (n : Fin 8)
  /-- CURRENT_LIMIT_ENTER (R476): A channel reaches its limit, regulates and sets IN_LIMIT. -/
  | currentLimitEnter (n : Fin 8)
  /-- CURRENT_LIMIT_TIMEOUT (R476): Continuous limiting for CHn_ILTO trips HW_OCP. -/
  | currentLimitTimeout (n : Fin 8)
  /-- SHORT_TRIP (R477): In limit below 50 % output for 20 µs trips HW_OCP SHORT. -/
  | shortTrip (n : Fin 8)
  /-- OVP_TRIP (R478): Output above the OVP threshold for 2 µs trips HW_OVP. -/
  | ovpTrip (n : Fin 8)
  /-- CH5_IMMEDIATE_TRIP (R487): CH5 current at twice its threshold trips within 1 µs. -/
  | ch5ImmediateTrip
  /-- CH5_REVERSE_TRIP (R488): CH5_SRC above the supply by 30 mV for 1 µs trips REVERSE. -/
  | ch5ReverseTrip (on : Bool)
  /-- CH3_LIMIT_FALLBACK (R480): CH3 above 3.0 A for 10 ms drops its limit to 3.0 A. -/
  | ch3LimitFallback
  /-- CH3_LIMIT_RESTORE (R480): CH3 below 2.5 A for 100 ms restores CH3_ILIM. -/
  | ch3LimitRestore
  /-- CH2_PHASE_SHED (R483): CH2 phase 2 stops after 100 µs below 4 A. -/
  | ch2PhaseShed
  /-- CH2_PHASE_RESUME (R483): CH2 phase 2 resumes once current exceeds 5 A. -/
  | ch2PhaseResume
  /-- CH6_REVERSE_FLOW (R495): CH6 pushed 3 % above target runs its bridge backwards. -/
  | ch6ReverseFlow (on : Bool)
  /-- CH4_BYPASS (R501): VSYS above the CH4 target minus 0.5 V puts CH4 in bypass. -/
  | ch4Bypass (on : Bool)
  /-- CH0_DROPOUT (R500): CH0_IN too low puts CH0 in dropout. -/
  | ch0Dropout (on : Bool)
  /-- VSYS_UNDERVOLTAGE (R462): VSYS below 2.7 V stops channel switching. -/
  | vsysUndervoltage
  /-- CAP_EVALUATE (R508): Every CAP_WIN/16 the cap engine escalates or relaxes PERF, throttle and cut. -/
  | capEvaluate (pavg : BitVec 16)
  /-- MILLPOND_PERIOD (R522): Every 10 µs each core's level L is updated. -/
  | millpondPeriod
  /-- MILLPOND_RAMP_BEGIN (R527): After the dithered delay the ramp starts or FILL asserts. Target 0 and 1 are the cores, 2 is
CH2. -/
  | millpondRampBegin (target : Fin 3)
  /-- FILL_HOLD_END (R528): FILL deasserts HOLD × 100 µs after assertion. -/
  | fillHoldEnd
  /-- FILL_NOACK (R531): No FILL_ACK within MP_ACKTO counts FILL_NOACK. -/
  | fillNoack
  /-- FILL_ACK_STUCK (R532): FILL_ACK asserted 1 ms while FILL is deasserted. -/
  | fillAckStuck
  /-- CH5_SHAPE_RELEASE (R536): CH5 shaping releases to CH5_ILIM after MP_SHAPEMAX. -/
  | ch5ShapeRelease
  /-- GOV_GRANT_WRITE (R543): A Warden write of GOV_GRANT, raises refused in UNCHECKED. -/
  | govGrantWrite (v : BitVec 8)
  /-- INPUT_PRESENT (R78): An input stays above 4.2 V for 50 ms and becomes present, ramping its gate. -/
  | inputPresent (i : Fin 4)
  /-- INPUT_ABSENT (R78): An input below 4.0 V for 10 µs becomes absent and its gate opens. -/
  | inputAbsent (i : Fin 4)
  /-- INPUT_OVERVOLTAGE (R1008): An input above its lockout for 1 µs becomes absent at once. -/
  | inputOvervoltage (i : Fin 4)
  /-- AON_SOURCE_SWITCH (R75): The AON selector changes to a source 100 mV higher. -/
  | aonSourceSwitch (src : Fin 5)
  /-- AON_POR_END (R76): The selected source rises above 2.45 V, ending AON reset and starting WRD. -/
  | aonPorEnd (faultNHigh : Bool)
  /-- AON_POR_BEGIN (R76): The selected source falls below 2.25 V and AON reset begins. -/
  | aonPorBegin
  /-- BANK_GOOD (R72): A VDDIO bank rises above 1.6 V and becomes good. -/
  | bankGood (b : Fin 3)
  /-- BANK_LOST (R87): A bank stops being good; outputs float and host transactions abort. -/
  | bankLost (b : Fin 3)
  /-- BANK_EDGE_BLANK_END (R73): 100 µs after a bank becomes good its input edges count again. -/
  | bankEdgeBlankEnd (b : Fin 3)
  /-- PORT_ATTACH (R563): PORT attach passes debounce and CC and BC1.2 detection starts. -/
  | portAttach (rp : RpAdvert)
  /-- PORT_DETECTION_DONE (R563): PORT detection ends and its limit applies. -/
  | portDetectionDone (bc : Bc12)
  /-- RP_CHANGE (R565): A change of Rp advertisement on an attached PORT. -/
  | rpChange (rp : RpAdvert)
  /-- WAVE_SIGNATURE_FOUND (R567): Three qualifying ripple periods mark the WAVE signature present. -/
  | waveSignatureFound
  /-- WAVE_SIGNATURE_LOST (R567): 60 s without a qualifying period loses the signature. -/
  | waveSignatureLost
  /-- VOC_SAMPLE_START (R568): Every CHG_VOCPER W3 turns SOLAR draw stops for a sample. -/
  | vocSampleStart
  /-- VOC_SAMPLE_END (R568): After CHG_VOCT the SOLAR reading is stored and classed. -/
  | vocSampleEnd (mv : BitVec 16)
  /-- CHG_VOCNOW_WRITE (R568): A write of 1 to CHG_VOCNOW takes a sample at once. -/
  | chgVocnowWrite (w : Writer)
  /-- VBAT_UV_TRIP (R576): VBAT below threshold for 10 ms opens the FET and shuts off. -/
  | vbatUvTrip
  /-- VBAT_OV_TRIP (R576): VBAT above threshold for 100 µs opens the FET and shuts off. -/
  | vbatOvTrip
  /-- VBAT_OV_RECOVER (R577): VBAT falls 100 mV per cell below CHG_VOV and the FET may close. -/
  | vbatOvRecover
  /-- BATTERY_REMOVED (R613): VBAT_PRES clears and the charger enters WAIT. -/
  | batteryRemoved
  /-- CHARGER_START (R582): From WAIT with battery and usable input the charger enters PRECHARGE, PULSE, CV or DONE. -/
  | chargerStart (vbat : Nat) (usable : Bool)
  /-- PRECHARGE_COMPLETE (R582): VBAT above VLOW plus 100 mV per cell for 1 s ends precharge. -/
  | prechargeComplete (vbat : Nat)
  /-- PRECHARGE_TIMEOUT (R582): Precharge time reaches CHG_TPRE and the charger faults. -/
  | prechargeTimeout
  /-- PULSE_TIME_TIMEOUT (R582): Accumulated pulse time reaches CHG_TFAST and the charger faults. -/
  | pulseTimeTimeout
  /-- PULSE_END (R587): T_on elapses, IEND and IPULSE update and REST or DONE follows. -/
  | pulseEnd (iend : BitVec 16) (limited : Bool)
  /-- REST_PHASE_END (R583): T_rest elapses and a new pulse begins. -/
  | restPhaseEnd
  /-- RECHARGE (R582): VBAT below recharge level for 10 s in DONE starts pulses again. -/
  | recharge (vbat : Nat)
  /-- GATED_PHASE_BACKSTOP (R592): A gated pulse of 60 s or rest of 2,000 ms ends without a gate. -/
  | gatedPhaseBackstop (iend : BitVec 16) (limited : Bool)
  /-- CHARGER_HOLD (R582): NTC0 cold, hot, open or short puts the charger in HOLD. -/
  | chargerHold (z : Fin 5)
  /-- CHARGER_HOLD_EXIT (R582): The zone allows charging again and HOLD returns to WAIT. -/
  | chargerHoldExit (z : Fin 5)
  /-- ZONE_CHANGE (R598): A temperature zone change adjusts current or voltage. -/
  | zoneChange (z : Fin 5)
  /-- SHIP_DEFER_END (R600): SHIP_WAKE_N goes high and SEQ_EN returns to 0x0001 for orderly stop. -/
  | shipDeferEnd
  /-- SHIP_POWER_DOWN (R600): With domains off and commit done, WRD powers off and FETs open. -/
  | shipPowerDown
  /-- SHIP_WAKE_PRESS (R86): A SHIP_WAKE_N press meeting the hold time is recognised. -/
  | shipWakePress
  /-- SINK_ATTACH (R605): A sink attaches or detaches while Rp is presented. -/
  | sinkAttach (attached : Bool)
  /-- REVERSE_RESERVE_LOW (R607): SOC or VBAT below the reverse reserve posts a type 0x83 message. -/
  | reverseReserveLow (bySoc : Bool)
  /-- DOCK_LIVE_CHANGE (R618): DOCK_SNS crosses 4.0 V with CH6 not ON. -/
  | dockLiveChange (live : Bool)
  /-- HW_THERMAL_TRIP (R989): The junction crosses the thermal shutdown threshold. -/
  | hwThermalTrip (above : Bool)
  /-- GAU_SEQGO_WRITE (R624): A write of GAU_SEQGO starts or queues an ADC sequence. -/
  | gauSeqgoWrite (w : Writer) (seq : BitVec 8)
  /-- ADC_SEQUENCE_DONE (R624): A sequence's entries finish and its doorbell is sent. -/
  | adcSequenceDone (results : List (BitVec 16))
  /-- GAUGE_CONVERSION (R626): The gauge inserts its periodic VBAT or NTC0 conversion. -/
  | gaugeConversion (isNtc : Bool) (v : BitVec 16) (ratioPermille : Nat)
  /-- REST_BEGIN (R631): Battery current falls below 5 mA and a rest begins. -/
  | restBegin (iBefore : Int) (vBefore : Nat) (vAfter1ms : Nat)
  /-- REST_END (R632): A rest ends and, if valid, its record is taken. -/
  | restEnd (ms : Nat) (ocv : Nat) (endUv : Int) (beforeUv : Int)
  /-- COUNTER_EMPTY (R630): GAU_QACC falls to zero or below. -/
  | counterEmpty
  /-- FORCED_REST_PENDING (R644): 60 s without a valid rest with disagreement sets FPEND and FHOLD. -/
  | forcedRestPending (vbat : Nat)
  /-- FORCED_REST_START (R645): The GAU_FWAIT deadline starts a forced rest. -/
  | forcedRestStart
  /-- FORCED_REST_END (R648): A forced rest ends, clearing FPEND and FHOLD. -/
  | forcedRestEnd (valid : Bool)
  /-- GAU_OCVADDR_WRITE (R636): A write of GAU_OCVADDR rechecks the OCV table. -/
  | gauOcvaddrWrite (w : Writer) (v : BitVec 24)
  /-- GAU_QACC_WRITE (R651): A logged write of GAU_QACC, replaced by a same-tick anchor. -/
  | gauQaccWrite (w : Writer) (v : BitVec 40)
  /-- WEIR_DESCRIPTOR_WRITE (R659): A descriptor write, emptying or dropping a queue on EN change. -/
  | weirDescriptorWrite (w : Writer) (q : Fin 16384) (v : BitVec 93)
  /-- WEIR_RETRANSMIT_TIMEOUT (R667): No ACK for WEI_RTO retransmits from RSEQ. -/
  | weirRetransmitTimeout (q : Fin 16384)
  /-- WEIR_DATA_RECEIVE (R668): An inbound queue stores, discards or acknowledges a DATA or FENCE frame. -/
  | weirDataReceive (f : Frame)
  /-- WEIR_ACK_RECEIVE (R667): An ACK advances RSEQ and frees acknowledged entries. -/
  | weirAckReceive (f : Frame)
  /-- WEIR_NACK_RECEIVE (R667): A NACK retransmits from the named sequence. -/
  | weirNackReceive (f : Frame)
  /-- WEIR_SKIP_RECEIVE (R677): A SKIP advances RSEQ and stores a gap or counts expiry. -/
  | weirSkipReceive (f : Frame)
  /-- WEIR_GSYNC_RECEIVE (R676): A GSYNC moves the expected group stamp forward. -/
  | weirGsyncReceive (f : Frame)
  /-- WEIR_RESYNC_RECEIVE (R679): A RESYNC resets the queue's sequences and epoch. -/
  | weirResyncReceive (f : Frame)
  /-- WEIR_REJOIN_RECEIVE (R687): A REJOIN enters WEI_REJFIFO and rings the round owner. -/
  | weirRejoinReceive (f : Frame)
  /-- WEIR_ACK_SEND (R669): Coalesced ACKs of a queue are sent within 1 ms. -/
  | weirAckSend (q : Fin 16384)
  /-- ROUND_WINDOW_CLOSE (R682): The input window closes, missing partners get synthetic messages. -/
  | roundWindowClose (r : Fin 32)
  /-- ROUND_EXPIRY (R686): At a turn boundary expired round outputs are discarded. -/
  | roundExpiry (r : Fin 32)
  /-- WEI_QCMD_RESYNC (R679): A WEI_QCMD RESYNC resets the selected queue's sequences. -/
  | weiQcmdResync (w : Writer)
  /-- WEI_QCMD_UNBIND (R673): A WEI_QCMD UNBIND releases the selected group binding. -/
  | weiQcmdUnbind (w : Writer)
  /-- WEI_REJFIFO_POP (R1012): A byte-0 read pops and latches the next REJOIN report. -/
  | weiRejfifoPop (r : Reader)
  /-- FRAME_RECEIVE (R700): A node delivers, forwards or discards a received Tarnline frame. -/
  | frameReceive (p : Fin 3) (f : Frame) (crcOk : Bool)
  /-- FRAME_FORWARD_STORE (R716): A frame touching a LONG port leaves 20 µs after its last bit. -/
  | frameForwardStore (p : Fin 3) (f : Frame)
  /-- FORWARD_BUFFER_START (R717): A buffered frame starts when its port is next idle. -/
  | forwardBufferStart (p : Fin 3)
  /-- HACK_SEND (R711): After IFG the receiver sends a HACK with its next expected HSEQ. -/
  | hackSend (p : Fin 3)
  /-- HACK_RECEIVE (R710): A HACK advances the hop window. -/
  | hackReceive (p : Fin 3) (next : BitVec 4)
  /-- HOP_RETRANSMIT (R712): TACK or 2 × TACK without progress retransmits from the oldest frame. -/
  | hopRetransmit (p : Fin 3)
  /-- JABBER_STOP (R705): A transmitter at its jabber limit stops and aborts the frame. -/
  | jabberStop (p : Fin 3)
  /-- BEACON_SEND (R719): The head sends a beacon and presence segment at each W2 turn start. -/
  | beaconSend
  /-- BEACON_RECEIVE (R722): A node accepts a beacon, forwards it and posts a W2 mark. -/
  | beaconReceive (p : Fin 3) (f : Frame) (stamp : BitVec 64)
  /-- HEAD_LISTEN_END (R699): One superframe of silence on UP lets a head send its first beacon. -/
  | headListenEnd
  /-- CONTENTION_SLOT_OPEN (R723): TLN_CONTOFF after a beacon the contention slot opens. -/
  | contentionSlotOpen (p : Fin 3)
  /-- TARNLINE_SLOT_END (R725): A slot's length elapses. -/
  | tarnlineSlotEnd (p : Fin 3)
  /-- JOIN_REQ_SEND (R727): An unjoined node sends JOIN_REQ after random backoff and jitter. -/
  | joinReqSend
  /-- JOIN_REQ_RECEIVE (R728): A node records a JOIN_REQ in its join table and forwards it. -/
  | joinReqReceive (p : Fin 3) (f : Frame)
  /-- JOIN_REPLY_RECEIVE (R730): A matching JOIN_REPLY assigns the node ID and budget. -/
  | joinReplyReceive (p : Fin 3) (f : Frame)
  /-- JOIN_TABLE_EXPIRE (R728): A join-table entry is freed after 2 s without reply. -/
  | joinTableExpire (uid : BitVec 64)
  /-- JOIN_ANSWER_TIMEOUT (R729): The head's firmware gives no answer within TLN_JTO. -/
  | joinAnswerTimeout
  /-- TLN_JREPLY_WRITE (R729): A write of TLN_JREPLY byte 4 answers the last popped JOIN_REQ. -/
  | tlnJreplyWrite (w : Writer) (v : BitVec 40)
  /-- TLN_JOINFIFO_POP (R1012): A byte-0 read pops and latches a join FIFO entry. -/
  | tlnJoinfifoPop (r : Reader)
  /-- LEAVE_RECEIVE (R734): A parent handles a child's LEAVE as an absence. -/
  | leaveReceive (p : Fin 3) (f : Frame)
  /-- STATUS_RECEIVE (R729): A STATUS frame arrives; OTP_FAULT enters the head's FIFO. -/
  | statusReceive (p : Fin 3) (f : Frame)
  /-- PRESENCE_RECEIVE (R731): A node copies a presence segment into TLN_PMAP. -/
  | presenceReceive (p : Fin 3) (f : Frame)
  /-- NOTICE_RECEIVE (R729): A LOST notice arrives and enters the head's FIFO. -/
  | noticeReceive (p : Fin 3) (f : Frame)
  /-- BEACON_LOSS (R732): No beacon for SL_MISS superframes unjoins the node. -/
  | beaconLoss
  /-- CHILD_ABSENT (R733): No frame from a child for SL_MISS superframes removes its routes. -/
  | childAbsent (p : Fin 3)
  /-- TLN_CMD_JOIN (R730): TLN_CMD JOIN resumes join attempts. -/
  | tlnCmdJoin (w : Writer)
  /-- TLN_CMD_LEAVE (R734): TLN_CMD LEAVE sends LEAVE and enters LISTEN. -/
  | tlnCmdLeave (w : Writer)
  /-- ROLE_CHANGE_APPLY (R746): TLN_ROLE and TLN_PMODE take effect at the superframe boundary. -/
  | roleChangeApply
  /-- PORT_ISOLATE (R748): Two babbling superframes isolate a port. -/
  | portIsolate (p : Fin 3)
  /-- PORT_RETRY (R748): An isolated port is retried after 2^k superframes. -/
  | portRetry (p : Fin 3)
  /-- ORDER_RECEIVE (R737): A received ORDER enters the order route with origin 0x2000 + SRC. -/
  | orderReceive (p : Fin 3) (f : Frame)
  /-- ORDER_REPLY_RECEIVE (R738): An ORDER_REPLY removes the order and enqueues its outcome. -/
  | orderReplyReceive (p : Fin 3) (f : Frame)
  /-- ORDER_TIMEOUT (R739): No reply after SL_TIMEOUT answers NOT_DELIVERED. -/
  | orderTimeout (q : Fin 16384)
  /-- NVM_OWN_WRITE (R823): A write of NVM_OWN takes or releases the NVM interface. -/
  | nvmOwnWrite (w : Writer) (v : BitVec 16)
  /-- NVM_OWNER_TIMEOUT (R824): 1 s without an owner's NVM write releases the interface. -/
  | nvmOwnerTimeout
  /-- PROGRAM1 (R828): Program one flash granule. -/
  | program1 (w : Writer) (sourceMv : Nat)
  /-- PROGRAM2 (R829): Program two consecutive flash granules. -/
  | program2 (w : Writer) (sourceMv : Nat)
  /-- ERASE (R830): Count and erase a main flash sector. -/
  | erase (w : Writer) (sourceMv : Nat)
  /-- OTP_PROGRAM (R808): Program an OTP row and re-sense it. -/
  | otpProgram (w : Writer) (sourceMv : Nat) (dieC : Int)
  /-- OTP_SEAL (R811): Compute and program a section's CRC row. -/
  | otpSeal (w : Writer) (sourceMv : Nat) (dieC : Int)
  /-- ARB_INC (R816): Program the next anti-rollback step. -/
  | arbInc (w : Writer) (sourceMv : Nat) (dieC : Int)
  /-- NVM_COMMAND_DONE (R825): An NVM command completes and its result appears. -/
  | nvmCommandDone (verified : Bool)
  /-- ERASE_SUSPEND (R832): A read of an erasing bank suspends the erase after 100 µs of progress. -/
  | eraseSuspend
  /-- ERASE_RESUME (R832): 1 µs without pending reads resumes the erase. -/
  | eraseResume
  /-- NVM_WPLIM_WRITE (R838): A write of NVM_WPLIM may only raise the protection limit. -/
  | nvmWplimWrite (w : Writer) (v : BitVec 16)
  /-- HEALTH_TEST_FAILURE (R863): An RCT, APT or startup failure sets FAILED and empties the buffer. -/
  | healthTestFailure (k : HealthFail)
  /-- ENT_HOLDOFF_END (R863): 1 ms after a failure the entropy source restarts. -/
  | entHoldoffEnd
  /-- ENT_STARTUP_PASS (R862): The startup test passes, the DRBG instantiates and ENT enters RUN. -/
  | entStartupPass (entropy : BitVec 512) (nonce : BitVec 256)
  /-- DRBG_RESEED (R859): After 65,536 requests or 1 s the DRBG reseeds. -/
  | drbgReseed (entropy : BitVec 512)
  /-- ENT_RESTARTS_CLEAR (R865): 24 h in RUN without failure clears ENT_RESTARTS. -/
  | entRestartsClear
  /-- LFSR_RESEED (R868): Each second in RUN the fallback LFSRs are reseeded. -/
  | lfsrReseed
  /-- RNG_STALL_TIMEOUT (R867): A stalled RNG read retires EMPTY after ENT_RNGTMO. -/
  | rngStallTimeout (t : Thread)
  /-- PEB_UNLOCK_WRITE (R873): A 12-byte unlock submission is verified and accepted or refused. -/
  | pebUnlockWrite (w : Writer) (v : BitVec 96)
  /-- PEBBLE_EXPIRE (R875): An unlock or PEB_MAXT expiry clears Pebble enables. -/
  | pebbleExpire (i : Option (Fin 5))
  /-- PEBBLE_HELD_RELEASE (R879): A reordered or delayed frame is released. -/
  | pebbleHeldRelease (i : Fin 5) (k : Nat)
  /-- HOST_READ (R893): Host read command 0x03 of up to 256 bytes. -/
  | hostRead (h : HostPort) (addr : BitVec 24) (len : BitVec 8) (chk : FrameCheck)
  /-- HOST_READ_DATA_READY (R898): Read data becomes ready and the token follows. -/
  | hostReadDataReady (h : HostPort)
  /-- HOST_WRITE (R890): Host write command 0x02 applied all or nothing at transaction end. -/
  | hostWrite (h : HostPort) (addr : BitVec 24) (data : List (BitVec 8)) (chk : FrameCheck)
  /-- HOST_STATUS (R899): Host status command 0x0B returns six status bytes. -/
  | hostStatus (h : HostPort) (chk : FrameCheck)
  /-- HOST_SEQUENCED_ORDER (R894): Host command 0x40 enters an order into the route. -/
  | hostSequencedOrder (h : HostPort) (o : HostOrder) (chk : FrameCheck)
  /-- HOST_BAD_COMMAND (R888): An unknown command is answered BAD_CMD. -/
  | hostBadCommand (h : HostPort) (cmd : BitVec 8)
  /-- HOST_SPI_ABORT (R86): HSPI_CS_N held 10 ms without SCK aborts the transaction. -/
  | hostSpiAbort
  /-- HOST_I2C_TIMEOUT (R904): SCL low over 35 ms resets the I²C target under SMBus timeouts. -/
  | hostI2cTimeout
  /-- HIF_MBIN_WRITE (R909): A host write of HIF_MBIN byte 5 sends a message to a thread inbox. -/
  | hifMbinWrite (h : HostPort) (v : BitVec 48)
  /-- HIF_MBOUT_POP (R908): A byte-0 read pops the oldest host outbox message. -/
  | hifMboutPop (r : Reader)
  /-- HIF_ORDREP_POP (R910): A byte-0 read pops an order reply entry. -/
  | hifOrdrepPop (r : Reader)
  /-- SDI12_COMMAND (R912): A GO write sends an SDI-12 command with break and marking. -/
  | sdi12Command
  /-- SDI12_RESPONSE_TIMEOUT (R912): No response within 15 ms retries or reports NO_RESPONSE. -/
  | sdi12ResponseTimeout
  /-- SDI12_LINE_RECEIVED (R914): A response line enters the FIFO. -/
  | sdi12LineReceived (line : List (BitVec 8))
  /-- SDI12_SERVICE_REQUEST (R913): A service request triggers data commands. -/
  | sdi12ServiceRequest (address : BitVec 8)
  /-- SDI12_WAIT_TIMEOUT (R913): ttt seconds elapse and data commands are issued. -/
  | sdi12WaitTimeout
  /-- SDI12_BUS_FAULT (R916): A break over 100 ms not driven by the part aborts the command. -/
  | sdi12BusFault
  /-- SDI12_RAW_WRITE (R915): Firmware sends a raw byte or break. -/
  | sdi12RawWrite (w : Writer) (b : BitVec 8) (brk : Bool)
  /-- SIO_SDILINE_POP (R1012): A byte-0 read pops an SDI-12 line. -/
  | sioSdilinePop (r : Reader)
  /-- UART_RX_FRAME (R917): A UART receives a character frame. -/
  | uartRxFrame (u : Fin 2) (b : BitVec 8)
  /-- UART_BREAK (R86): Line low for two frames reports one break. -/
  | uartBreak (u : Fin 2)
  /-- NMEA_SENTENCE (R918): UART0 frames a sentence with checksum and time stamp. -/
  | nmeaSentence (text : List (BitVec 8)) (startTick : BitVec 32)
  /-- IC_TRANSFER (R919): An I²C controller transfer starts. -/
  | icTransfer (c : Fin 2)
  /-- IC_TRANSFER_DONE (R919): An I²C transfer ends with its result. -/
  | icTransferDone (c : Fin 2) (res : IcResult) (data : List (BitVec 8))
  /-- SPC0_TRANSFER (R920): An SPC0 full-duplex transfer starts. -/
  | spc0Transfer
  /-- SPC0_TRANSFER_DONE (R920): An SPC0 transfer completes. -/
  | spc0TransferDone (data : List (BitVec 8))
  /-- GPIO_EDGE (R922): A qualifying GPIO edge places a doorbell. -/
  | gpioEdge (p : Fin 16) (rising : Bool)
  /-- EVT_SET_WRITE (R923): SIO_EVTSET sets EVT output bits. -/
  | evtSetWrite (w : Writer) (v : BitVec 8)
  /-- EVT_CLEAR_WRITE (R923): SIO_EVTCLR clears EVT output bits. -/
  | evtClearWrite (w : Writer) (v : BitVec 8)
  /-- EVT_PULSE_END (R122): A pulse reaches its width and drives the pin low. -/
  | evtPulseEnd (p : Fin 8)
  /-- JTAG_BYPASS (R925): JTAG BYPASS instruction. -/
  | jtagBypass (tdi : Bool)
  /-- JTAG_IDCODE (R925): JTAG IDCODE returns 0x1760_8F4B. -/
  | jtagIdcode
  /-- JTAG_SAMPLE_PRELOAD (R925): JTAG SAMPLE/PRELOAD instruction. -/
  | jtagSamplePreload (pins : BitVec 256) (scanIn : BitVec 256)
  /-- JTAG_EXTEST (R927): JTAG EXTEST, acting as BYPASS unless every channel is OFF. -/
  | jtagExtest (pins : BitVec 256) (scanIn : BitVec 256)
  /-- DOZE_ENTER (R934): All threads waiting or halted gates the core clocks. -/
  | dozeEnter
  /-- DOZE_EXIT (R937): A wake source ends DOZE. -/
  | dozeExit
  /-- HIBERNATE_REQUEST (R940): The Warden writes SYS_PSTATE.HIB to request HIBERNATE. -/
  | hibernateRequest
  /-- HIBERNATE_ENTER (R941): After final entries commit WRD powers off. -/
  | hibernateEnter
  /-- HIBERNATE_WAKE (R942): An enabled wake source ends HIBERNATE and starts WRD. -/
  | hibernateWake (src : WakeSource) (faultNHigh : Bool)
  /-- CKLF_CRYSTAL_SWITCH (R1010): CK_LF moves to the crystal after 1 s of steady oscillation. -/
  | cklfCrystalSwitch
  /-- CKLF_RC_FALLBACK (R1010): CK_LF falls back to the RC when the crystal stops. -/
  | cklfRcFallback
  /-- WHEEL_TURN_CARRY (R94): A wheel fraction carries and its turn count increments, W3 incrementing station time. -/
  | wheelTurnCarry (n : Fin 4)
  /-- STATION_SECOND (R45): While WRD is off the seconds counter increments on CK_LF. -/
  | stationSecond
  /-- SLOT_MATCH (R119): A slot's angle is reached and its action occurs one tick later. -/
  | slotMatch (n : Fin 256)
  /-- REFERENCE_EDGE (R104): A reference edge is accepted or rejected and the discipline loop corrects the wheel. -/
  | referenceEdge (n : Fin 4)
  /-- WHEEL_LOSS_TIMEOUT (R110): No accepted edge for WHn_LOSS intervals enters HOLDOVER. -/
  | wheelLossTimeout (n : Fin 4)
  /-- HOLDOVER_EXPIRE (R110): WHn_HOLD turns in HOLDOVER return the wheel to FREE. -/
  | holdoverExpire (n : Fin 4)
  /-- NOISY_CLEAR (R110): 16 clean edge intervals return a NOISY wheel to ACQUIRE. -/
  | noisyClear (n : Fin 4)
  /-- W3_CKLF_EDGE (R102): A FREE W3 corrects from a CK_LF second edge. -/
  | w3CklfEdge
  /-- SLOT_COMMIT (R116): A write of slot byte 0 commits the staged entry at the next tick. -/
  | slotCommit (n : Fin 256)
  /-- SYS_TIME_WRITE (R62): A logged write of SYS_TIME pending until the next W3 turn. -/
  | sysTimeWrite (w : Writer) (v : BitVec 32)
  /-- LATCHING_READ (R1012): A read including byte 0 of a latching register takes the reader's latch. -/
  | latchingRead (r : Reader) (addr : BitVec 24) (len : Nat)
  /-- REGISTER_WRITE (R21): A write to a register without its own row, logged or refused per its access. -/
  | registerWrite (w : Writer) (addr : BitVec 24) (data : List (BitVec 8))
  /-- COUNTER_SAMPLE (R628): Each 1 kHz coulomb-counter sample adds I × 1 ms to GAU_QACC and updates GAU_I and GAU_SOC. -/
  | counterSample (nanovolts : Int)
  /-- CURRENT_LIMIT_EXIT (R476): A channel's current falls below its limit, IN_LIMIT clears and the CHn_ILTO count restarts. -/
  | currentLimitExit (n : Fin 8)
  /-- FILL_ACK_EDGE (R532): FILL_ACK asserts or deasserts, acknowledging a FILL request or ending FILL_ACK_STUCK. -/
  | fillAckEdge (asserted : Bool)
  /-- BOOST_STOP (R203): The die reaches 70 °C and an ADAPTIVE core above 250 MHz leaves boost at once. -/
  | boostStop (c : Fin 2) (dieC : Int)
  /-- JUNCTION_LIMIT (R181): The junction reaches 125 °C and an ADAPTIVE core falls to FMIN regardless of FMAX. -/
  | junctionLimit (c : Fin 2) (dieC : Int)
  /-- VBAT_PRESENT (R93): VBAT rises above 2.25 V, VBAT_PRES sets and SYS_SUPPLY_CHG raises the supply event. -/
  | vbatPresent
  /-- GPIO_RATE_LIMIT_EXPIRE (R922): A pin's rate-limit interval ends and its coalesced pending doorbell is delivered. -/
  | gpioRateLimitExpire (p : Fin 16)
  /-- SDI12_RAW_RECEIVE (R915): In raw mode a byte arrives on SDI12_DATA and RX_VALID sets in SIO_SDIRAW. -/
  | sdi12RawReceive (b : BitVec 8)
  /-- LOOP_PROPORTIONAL_END (R105): The nominal period after an accepted edge ends and the proportional term leaves the frequency word. -/
  | loopProportionalEnd (n : Fin 4)
  deriving DecidableEq, Repr

end Sys2Proof
end

