-- ==== Sys2Proof/Decode.lean ====
section
/-!
DEFINITION. The decoder of table words: the opcode table gives no row any bits (its commands arrive as register accesses, link
frames and events), so no word spells a command.
-/
namespace Sys2Proof

/-- The command a word of the table spells: none, for every word. -/
def decodeTableWord (_nbits _w : Nat) : Option Instr := none

end Sys2Proof
end

