-- ==== Sys2Proof/Config.lean ====
section
/-!
DEFINITION. What the spec leaves open: free values, each a constant without a body, so that no proof can see what it is
(log entry 9), and the contents of the boot ROM, which the spec describes by its flow alone.
-/
namespace Sys2Proof

/-- The bundles of the boot ROM (08 R394, 21): the spec gives their flow, not their bits. -/
opaque Config.bootRom : Index → Bundle

/-- The bundle of the boot ROM at which the standard image starts (08 R397): the spec gives no index. -/
opaque Config.standardEntry : Index

/-- A byte the spec leaves undefined, by a number the step takes from State.free: the content of a flash granule whose
program or erase was cut off (17 R844). -/
opaque Config.freeByte : Nat → Byte

/-- A random choice whose source the spec names and does not value: the link's backoff and jitter while no DRBG serves
(15 R727). -/
opaque Config.freeNat : Nat → Nat

end Sys2Proof
end

