-- ==== Sys2Proof/Machine/Crypto.lean ====
section
/-!
DEFINITION. The algorithms the spec names by their standards: AES-128, AES-128-CMAC (RFC 4493; 15 R741, 16 R783, 18 R872),
SHA-256 and ECDSA over P-256 (08 R398, 21 R958), CTR_DRBG with AES-128 and derivation function (18 R858). Byte strings are
lists of numbers below 256 here; `natBytes` and `toBytes` pass between them and bytes.
-/
namespace Sys2Proof.Machine

/-- A byte string as numbers. -/
def natBytes (l : List Byte) : List Nat := l.map (fun b => b.toNat)
/-- Numbers as a byte string. -/
def toBytes (l : List Nat) : List Byte := l.map (fun n => BitVec.ofNat 8 n)
/-- Bytes most significant first. -/
def beOf (n v : Nat) : List Nat := natBytes (beBytes n v)
/-- The number of bytes most significant first. -/
def ofBe (l : List Nat) : Nat := l.foldl (fun a b => 256 * a + b) 0
/-- Bytewise exclusive or, as long as the shorter. -/
def xorBytes (a b : List Nat) : List Nat := List.zipWith (fun x y => x ^^^ y) a b
/-- A list cut into pieces of `k` entries (the last may be shorter). -/
def chunks (k : Nat) : Nat → List Nat → List (List Nat)
  | 0, _ => []
  | n + 1, l => if l.isEmpty then [] else l.take k :: chunks k n (l.drop k)

/-! ### AES-128 -/

/-- Multiplication by x in GF(2^8) modulo x^8 + x^4 + x^3 + x + 1. -/
def xtime (a : Nat) : Nat := if a < 128 then 2 * a else (2 * a - 256) ^^^ 0x1B
/-- The product in GF(2^8), over the `n` low bits of `b`. -/
def gmulN : Nat → Nat → Nat → Nat
  | 0, _, _ => 0
  | n + 1, a, b => (if b % 2 = 1 then a else 0) ^^^ gmulN n (xtime a) (b / 2)
/-- The product in GF(2^8). -/
def gmul (a b : Nat) : Nat := gmulN 8 a b
/-- The inverse in GF(2^8), as the power 254; 0 for 0. -/
def ginv (a : Nat) : Nat :=
  let a2 := gmul a a
  let a3 := gmul a2 a
  let a12 := gmul (gmul a3 a3) (gmul a3 a3)
  let a15 := gmul a12 a3
  let a30 := gmul a15 a15
  let a60 := gmul a30 a30
  let a120 := gmul a60 a60
  let a240 := gmul a120 a120
  gmul (gmul a240 a12) a2
/-- A byte turned left by `n`. -/
def rol8 (n a : Nat) : Nat := a * 2 ^ n % 256 + a / 2 ^ (8 - n)
/-- The S-box. -/
def sbox (a : Nat) : Nat :=
  let b := ginv a
  b ^^^ rol8 1 b ^^^ rol8 2 b ^^^ rol8 3 b ^^^ rol8 4 b ^^^ 0x63
/-- ShiftRows on a block in column order. -/
def shiftRows (s : List Nat) : List Nat :=
  (List.range 16).map (fun i => s.getD ((i + 4 * (i % 4)) % 16) 0)
/-- MixColumns on one column. -/
def mixCol (c : List Nat) : List Nat :=
  (List.range 4).map (fun i =>
    let g (k : Nat) : Nat := c.getD ((i + k) % 4) 0
    xtime (g 0) ^^^ (xtime (g 1) ^^^ g 1) ^^^ g 2 ^^^ g 3)
/-- The round key after `k`, with the round constant `rc`. -/
def nextKey (k : List Nat) (rc : Nat) : List Nat :=
  let g (i : Nat) : Nat := k.getD i 0
  let w0 := [g 0 ^^^ sbox (g 13) ^^^ rc, g 1 ^^^ sbox (g 14), g 2 ^^^ sbox (g 15), g 3 ^^^ sbox (g 12)]
  let w1 := xorBytes w0 ((k.drop 4).take 4)
  let w2 := xorBytes w1 ((k.drop 8).take 4)
  let w3 := xorBytes w2 (k.drop 12)
  w0 ++ w1 ++ w2 ++ w3
/-- The `n` remaining rounds from the state `s`, the round key `k` and the round constant `rc`. -/
def aesRounds : Nat → List Nat → List Nat → Nat → List Nat
  | 0, s, _, _ => s
  | n + 1, s, k, rc =>
    let k' := nextKey k rc
    let t := shiftRows (s.map sbox)
    let t := if n = 0 then t else mixCol (t.take 4) ++ mixCol ((t.drop 4).take 4) ++ mixCol ((t.drop 8).take 4) ++ mixCol (t.drop 12)
    aesRounds n (xorBytes t k') k' (xtime rc)
/-- One block of 16 bytes enciphered under a key of 16 bytes. -/
def aes (key block : List Nat) : List Nat := aesRounds 10 (xorBytes block key) key 1

/-! ### CMAC (RFC 4493) -/

/-- A 128-bit value doubled in GF(2^128). -/
def dbl128 (v : Nat) : Nat := if v < 2 ^ 127 then 2 * v else (2 * v - 2 ^ 128) ^^^ 0x87
/-- The chain over the blocks before the last, then the last block. -/
def cmacChain (key : List Nat) : List Nat → List (List Nat) → List Nat → List Nat
  | x, [], last => aes key (xorBytes x last)
  | x, b :: bs, last => cmacChain key (aes key (xorBytes x b)) bs last
/-- AES-128-CMAC, 16 bytes. -/
def cmac (key msg : List Nat) : List Nat :=
  let k1 := dbl128 (ofBe (aes key (List.replicate 16 0)))
  let bs := chunks 16 (msg.length + 1) msg
  let last := bs.getLastD []
  let fin := if last.length = 16 then xorBytes last (beOf 16 k1)
    else xorBytes (last ++ 0x80 :: List.replicate (15 - last.length) 0) (beOf 16 (dbl128 k1))
  cmacChain key (List.replicate 16 0) bs.dropLast fin

/-! ### SHA-256 -/

/-- The round constants. -/
def shaK : List Nat :=
  [0x428A2F98, 0x71374491, 0xB5C0FBCF, 0xE9B5DBA5, 0x3956C25B, 0x59F111F1, 0x923F82A4, 0xAB1C5ED5,
   0xD807AA98, 0x12835B01, 0x243185BE, 0x550C7DC3, 0x72BE5D74, 0x80DEB1FE, 0x9BDC06A7, 0xC19BF174] ++
  [0xE49B69C1, 0xEFBE4786, 0x0FC19DC6, 0x240CA1CC, 0x2DE92C6F, 0x4A7484AA, 0x5CB0A9DC, 0x76F988DA,
   0x983E5152, 0xA831C66D, 0xB00327C8, 0xBF597FC7, 0xC6E00BF3, 0xD5A79147, 0x06CA6351, 0x14292967] ++
  [0x27B70A85, 0x2E1B2138, 0x4D2C6DFC, 0x53380D13, 0x650A7354, 0x766A0ABB, 0x81C2C92E, 0x92722C85,
   0xA2BFE8A1, 0xA81A664B, 0xC24B8B70, 0xC76C51A3, 0xD192E819, 0xD6990624, 0xF40E3585, 0x106AA070] ++
  [0x19A4C116, 0x1E376C08, 0x2748774C, 0x34B0BCB5, 0x391C0CB3, 0x4ED8AA4A, 0x5B9CCA4F, 0x682E6FF3,
   0x748F82EE, 0x78A5636F, 0x84C87814, 0x8CC70208, 0x90BEFFFA, 0xA4506CEB, 0xBEF9A3F7, 0xC67178F2]
/-- A 32-bit value turned right by `n`. -/
def ror32 (n x : Nat) : Nat := x / 2 ^ n + x % 2 ^ n * 2 ^ (32 - n)
/-- The rounds over the constants left: `w` is the window of the 16 next schedule words, `v` the working variables. -/
def shaRounds : List Nat → List Nat → List Nat → List Nat
  | [], _, v => v
  | k :: ks, w, v =>
    match v with
    | [a, b, c, d, e, f, g, h] =>
      let w0 := w.getD 0 0
      let s1 := ror32 6 e ^^^ ror32 11 e ^^^ ror32 25 e
      let ch := (e &&& f) ^^^ ((e ^^^ 0xFFFFFFFF) &&& g)
      let t1 := h + s1 + ch + k + w0
      let s0 := ror32 2 a ^^^ ror32 13 a ^^^ ror32 22 a
      let maj := (a &&& b) ^^^ (a &&& c) ^^^ (b &&& c)
      let g0 := w.getD 1 0
      let g1 := w.getD 14 0
      let nw := w0 + (ror32 7 g0 ^^^ ror32 18 g0 ^^^ (g0 / 8)) + w.getD 9 0 + (ror32 17 g1 ^^^ ror32 19 g1 ^^^ (g1 / 1024))
      shaRounds ks (w.drop 1 ++ [nw % 2 ^ 32]) [(t1 + s0 + maj) % 2 ^ 32, a, b, c, (d + t1) % 2 ^ 32, e, f, g]
    | _ => v
/-- One block of 64 bytes folded into the hash. -/
def shaBlock (h blk : List Nat) : List Nat :=
  List.zipWith (fun x y => (x + y) % 2 ^ 32) h (shaRounds shaK ((chunks 4 16 blk).map ofBe) h)
/-- SHA-256, 32 bytes. -/
def sha256 (msg : List Nat) : List Nat :=
  let n := msg.length
  let padded := msg ++ 0x80 :: List.replicate ((119 - n % 64) % 64) 0 ++ beOf 8 (8 * n)
  let h0 := [0x6A09E667, 0xBB67AE85, 0x3C6EF372, 0xA54FF53A, 0x510E527F, 0x9B05688C, 0x1F83D9AB, 0x5BE0CD19]
  ((chunks 64 (n / 64 + 2) padded).foldl shaBlock h0).flatMap (beOf 4)

/-! ### ECDSA over P-256 -/

/-- The field prime, the group order, the coefficient b and the base point. -/
def p256 : Nat := 0xFFFFFFFF00000001000000000000000000000000FFFFFFFFFFFFFFFFFFFFFFFF
def n256 : Nat := 0xFFFFFFFF00000000FFFFFFFFFFFFFFFFBCE6FAADA7179E84F3B9CAC2FC632551
def b256 : Nat := 0x5AC635D8AA3A93E7B3EBBD55769886BC651D06B0CC53B0F63BCE3C3E27D2604B
def g256 : Nat × Nat :=
  (0x6B17D1F2E12C4247F8BCE6E563A440F277037D812DEB33A0F4A13945D898C296,
   0x4FE342E2FE1A7F9B8EE7EB4A7C0F9E162BCE33576B315ECECBB6406837BF51F5)
/-- The power of `a`, over the `n` low bits of the exponent, least significant first. -/
def powModN (m : Nat) : Nat → Nat → Nat → Nat
  | 0, _, _ => 1
  | n + 1, a, e => (if e % 2 = 1 then a else 1) * powModN m n (a * a % m) (e / 2) % m
/-- The inverse modulo a prime of at most 256 bits. -/
def invMod (m a : Nat) : Nat := powModN m 256 (a % m) (m - 2)
/-- The sum of two points; none is the point at infinity. -/
def ecAdd (x y : Option (Nat × Nat)) : Option (Nat × Nat) :=
  match x, y with
  | none, q => q
  | p, none => p
  | some (x1, y1), some (x2, y2) =>
    let third (l : Nat) : Option (Nat × Nat) :=
      let x3 := (l * l + 2 * p256 - x1 - x2) % p256
      some (x3, (l * (x1 + p256 - x3) + p256 - y1) % p256)
    if x1 = x2 then
      if (y1 + y2) % p256 = 0 then none
      else third ((3 * x1 * x1 + p256 - 3) * invMod p256 (2 * y1) % p256)
    else third ((y2 + p256 - y1) * invMod p256 (x2 + p256 - x1) % p256)
/-- A multiple of a point, over the `n` low bits of the factor. -/
def ecMulN : Nat → Option (Nat × Nat) → Nat → Option (Nat × Nat)
  | 0, _, _ => none
  | n + 1, p, k => ecAdd (if k % 2 = 1 then p else none) (ecMulN n (ecAdd p p) (k / 2))
/-- The point lies on the curve. -/
def onCurve (x y : Nat) : Bool :=
  decide (x < p256) && decide (y < p256) && y * y % p256 == (x * x % p256 * x + (p256 - 3) * x + b256) % p256
/-- The signature (r, s) of the hash value `z` verifies under the public key (x, y). -/
def ecdsaOk (x y z r s : Nat) : Bool :=
  onCurve x y && decide (0 < r) && decide (r < n256) && decide (0 < s) && decide (s < n256) &&
  (let w := invMod n256 s
   match ecAdd (ecMulN 256 (some g256) (z * w % n256)) (ecMulN 256 (some (x, y)) (r * w % n256)) with
   | none => false
   | some (px, _) => px % n256 == r)

/-! ### CTR_DRBG with AES-128 and derivation function (SP 800-90A) -/

/-- The chaining value of blocks of 16 bytes (BCC). -/
def bcc (key : List Nat) (data : List Nat) : List Nat :=
  (chunks 16 (data.length + 1) data).foldl (fun x b => aes key (xorBytes x b)) (List.replicate 16 0)
/-- The derivation function, 32 bytes. -/
def drbgDf (input : List Nat) : List Nat :=
  let s := beOf 4 input.length ++ beOf 4 32 ++ input ++ [0x80]
  let s := s ++ List.replicate ((16 - s.length % 16) % 16) 0
  let k := (List.range 16)
  let iv (i : Nat) : List Nat := beOf 4 i ++ List.replicate 12 0
  let t0 := bcc k (iv 0 ++ s)
  let x := bcc k (iv 1 ++ s)
  let a := aes t0 x
  a ++ aes t0 a
/-- The block V raised by one. -/
def incBlock (v : List Nat) : List Nat := beOf 16 ((ofBe v + 1) % 2 ^ 128)
/-- The update of key and V with 32 bytes. -/
def drbgUpdate (key v data : List Nat) : List Nat × List Nat :=
  let v1 := incBlock v
  let v2 := incBlock v1
  (xorBytes (aes key v1) (data.take 16), xorBytes (aes key v2) (data.drop 16))
/-- Instantiate from entropy, nonce and personalisation string. -/
def drbgInit (entropy nonce pers : List Nat) : List Nat × List Nat :=
  drbgUpdate (List.replicate 16 0) (List.replicate 16 0) (drbgDf (entropy ++ nonce ++ pers))
/-- Reseed. -/
def drbgReseed (key v entropy : List Nat) : List Nat × List Nat := drbgUpdate key v (drbgDf entropy)
/-- `n` blocks of output, with V raised before each. -/
def drbgBlocks (key : List Nat) : Nat → List Nat → List Nat × List Nat
  | 0, v => ([], v)
  | n + 1, v =>
    let v := incBlock v
    let r := drbgBlocks key n v
    (aes key v ++ r.1, r.2)
/-- One generate request of `n` blocks: output, new key and V. -/
def drbgGenerate (key v : List Nat) (n : Nat) : List Nat × List Nat × List Nat :=
  let r := drbgBlocks key n v
  (r.1, drbgUpdate key r.2 (List.replicate 32 0))

end Sys2Proof.Machine
end

