-- ==== Sys2Proof/Machine/FMap.lean ====
section
/-!
DEFINITION. Sparse tables of the state: a list of (key, value) pairs in one canonical form, keys strictly rising and no
entry equal to what an unlisted key reads as. Memories, register files and per-queue records are such tables.
-/
namespace Sys2Proof.Machine

/-- A sparse table. An unlisted key reads as the table's default, which the reader names. -/
abbrev FMap (α : Type) := List (Nat × α)

/-- The listed value of a key. -/
def FMap.find? {α : Type} : FMap α → Nat → Option α
  | [], _ => none
  | e :: m, k => if k = e.1 then some e.2 else FMap.find? m k

/-- The value of key `k`; `d` is what an unlisted key reads as. -/
def FMap.get {α : Type} (d : α) (m : FMap α) (k : Nat) : α := (FMap.find? m k).getD d

/-- `m` without key `k`. -/
def FMap.erase {α : Type} (m : FMap α) (k : Nat) : FMap α := m.filter (fun e => !(e.1 == k))

/-- `m` with `k` listed as `v`, in its place in the order of keys. -/
def FMap.insert {α : Type} : FMap α → Nat → α → FMap α
  | [], k, v => [(k, v)]
  | e :: m, k, v =>
    if k < e.1 then (k, v) :: e :: m
    else if k = e.1 then (k, v) :: m
    else e :: FMap.insert m k v

/-- `m` with key `k` holding `v`: a value equal to the default is not listed. -/
def FMap.set {α : Type} [DecidableEq α] (d : α) (m : FMap α) (k : Nat) (v : α) : FMap α :=
  if v = d then FMap.erase m k else FMap.insert m k v

/-- `f` applied to the value of `k`. -/
def FMap.upd {α : Type} [DecidableEq α] (d : α) (m : FMap α) (k : Nat) (f : α → α) : FMap α :=
  FMap.set d m k (f (FMap.get d m k))

/-- Keys strictly rise. -/
def FMap.sorted {α : Type} : FMap α → Bool
  | [] => true
  | [_] => true
  | a :: b :: m => decide (a.1 < b.1) && FMap.sorted (b :: m)

/-- The canonical form: keys strictly rise and no entry equals the default. -/
def FMap.wf {α : Type} [DecidableEq α] (d : α) (m : FMap α) : Bool :=
  FMap.sorted m && m.all (fun e => !decide (e.2 = d))

/-- A memory: bytes by address (Host.Cell is one entry). -/
abbrev Mem := FMap Byte

/-- `n` bytes from address `a` on, lowest address first; `d` is what an unlisted address holds. -/
def Mem.readN (d : Byte) (m : Mem) (a : Nat) : Nat → List Byte
  | 0 => []
  | n + 1 => FMap.get d m a :: Mem.readN d m (a + 1) n

/-- The bytes `bs` written from address `a` on. -/
def Mem.writeN (d : Byte) (m : Mem) (a : Nat) : List Byte → Mem
  | [] => m
  | b :: bs => Mem.writeN d (FMap.set d m a b) (a + 1) bs

/-- The canonical form of a memory. -/
def Memory.wf (d : Byte) (m : Mem) : Bool := FMap.wf d m

end Sys2Proof.Machine
end

