-- ==== Sys2Proof/Machine/Regs.lean ====
section
/-!
DEFINITION. The registers of the data map, written from the register references of spec/: address, width in bytes, reset
value (00 R18), the bits that exist (00 R23), who may write, and the domain that holds them.
-/
namespace Sys2Proof.Machine

/-- How a register answers a write (00, register headings and access codes, and the owning chapter). -/
inductive Acc where
  /-- Read only. -/
  | ro
  /-- Takes effect at once. -/
  | rw
  /-- A 1 clears the bit; a counter clears on a write of all ones. -/
  | w1c
  /-- Reads 0; the write is a command of the owning chapter. -/
  | wo
  /-- Lands in the writer's shadow until its commit point (R18 to R20). -/
  | rws
  /-- The field of an actuation point: a thread's write becomes a request (01 R34), the host's is refused (19 R891). -/
  | ap
  /-- CHn_MODE: bits of the Warden beside the actuation point AP32 (10). -/
  | chMode
  /-- Weir descriptor bits [91:0] under 14 R658. -/
  | desc
  /-- Write-only for the host. -/
  | hostWo
  /-- Host and privileged threads, logged. -/
  | hp
  /-- NVM command registers, for the owner (17 R823). -/
  | nvm
  /-- NVM_OWN (17 R823). -/
  | nvmOwn
  /-- Pebble rules (18 R885). -/
  | pebRule
  /-- TLN_PMAP: written at the head only. -/
  | pmap
  /-- Round descriptor bytes, written while EN is clear (14 R696). -/
  | rnd
  /-- Round descriptor byte 0: EN may be cleared in any state (14 R696). -/
  | rndCtrl
  /-- Staged slot bytes 1 to 14 (03 R116). -/
  | slot
  /-- Slot byte 0, whose write commits the entry (03 R116). -/
  | slot0
  /-- SKIPCNT of a slot: a write of 0xFF clears it. -/
  | slot15
  /-- The Warden and the host, logged. -/
  | whl
  /-- The Warden, the host and privileged threads, logged. -/
  | whp
  /-- The Warden alone, logged. -/
  | wl
  /-- The Warden alone, not logged. -/
  | wn
  /-- Write-only, privileged threads and the host. -/
  | wop
  /-- Write-only command of the host and privileged threads. -/
  | wohp
  deriving DecidableEq, Repr

/-- The domain whose power-on reset gives a register its reset value (00 R18); `nv` is nonvolatile. -/
inductive Dom where
  | aon | wrd | cpu | wei | lnk | afe | nv
  deriving DecidableEq, Repr

/-- One register of the data map. -/
structure Reg where
  addr : Nat
  width : Nat
  reset : Nat
  mask : Nat
  acc : Acc
  dom : Dom
  deriving DecidableEq, Repr

/-- One row of a block's register table: `count` registers from `base` on, `stride` bytes apart. -/
structure RegRow where
  base : Nat
  stride : Nat
  count : Nat
  reg : Nat → Reg

/-- The mask of a whole value of `w` bytes. -/
def allBits (w : Nat) : Nat := 256 ^ w - 1

/-- 00 R2. -/
def R.SYS_ID : Reg := ⟨0x800000, 4, 0xB00876, allBits 4, .ro, .aon⟩
/-- 02 SYS_SUPPLY (Live). -/
def R.SYS_SUPPLY : Reg := ⟨0x800010, 2, 0, 0x7FF, .ro, .aon⟩
/-- 02 R93. -/
def R.SYS_SUPPLY_CHG : Reg := ⟨0x800012, 2, 0, 0x73F, .w1c, .aon⟩
/-- 20 R940. -/
def R.SYS_PSTATE : Reg := ⟨0x800020, 1, 0, 4, .wn, .aon⟩
/-- 20 R942. -/
def R.SYS_WAKE : Reg := ⟨0x800021, 1, 0, 0xF, .wn, .aon⟩
/-- 20 R942. -/
def R.SYS_WAKECAUSE : Reg := ⟨0x800022, 1, 0, allBits 1, .ro, .aon⟩
/-- 20 R942. -/
def R.SYS_WAKETIME : Reg := ⟨0x800024, 4, 0, allBits 4, .wn, .aon⟩
/-- 21 R952. -/
def R.SYS_RSTREC_KIND : Reg := ⟨0x800030, 1, 1, allBits 1, .ro, .aon⟩
/-- 21 R60 R964. -/
def R.SYS_RSTREC_FLAGS : Reg := ⟨0x800031, 1, 1, 1, .w1c, .aon⟩
/-- 21. -/
def R.SYS_RSTREC_BOOTCNT : Reg := ⟨0x800032, 2, 0, allBits 2, .ro, .aon⟩
/-- 21. -/
def R.SYS_RSTREC_TIME : Reg := ⟨0x800034, 4, 0, allBits 4, .ro, .aon⟩
/-- 21. -/
def R.SYS_BOOT : Reg := ⟨0x800038, 4, 0, allBits 4, .ro, .aon⟩
/-- 21 R974. -/
def R.SYS_BOOTCTL : Reg := ⟨0x80003C, 1, 0, 3, .hostWo, .aon⟩
/-- 01 R61 R62. -/
def R.SYS_TIME : Reg := ⟨0x800040, 4, 0, allBits 4, .whp, .aon⟩
/-- 09 R407. -/
def R.SEQ_NEED (n : Nat) : Reg := ⟨0x801000 + 0x10 * n, 2, ([0, 0, 2, 6, 0, 0, 0, 0x40, 0x40, 0x40, 0, 0, 0].getD n 0), 0x1FFF, .wl, .aon⟩
/-- 09 R412. -/
def R.SEQ_DELAY (n : Nat) : Reg := ⟨0x801002 + 0x10 * n, 2, ([0, 0xA, 0xA, 0xA, 0xA, 0xA, 0xA, 0xA, 0xA, 0xA, 0xA, 0xA, 0xA].getD n 0), allBits 2, .wl, .aon⟩
/-- 09 R420. -/
def R.SEQ_PGTO (n : Nat) : Reg := ⟨0x801004 + 0x10 * n, 2, 0x3E8, allBits 2, .wl, .aon⟩
/-- 09 R412. -/
def R.SEQ_OFFDLY (n : Nat) : Reg := ⟨0x801006 + 0x10 * n, 2, 0xA, allBits 2, .wl, .aon⟩
/-- 09 R421. -/
def R.SEQ_BLANK (n : Nat) : Reg := ⟨0x801008 + 0x10 * n, 1, 0xA, allBits 1, .wl, .aon⟩
/-- 09 R405. -/
def R.SEQ_STATE (n : Nat) : Reg := ⟨0x801009 + 0x10 * n, 1, 0, allBits 1, .ro, .aon⟩
/-- 09 R423. -/
def R.SEQ_PGTIME (n : Nat) : Reg := ⟨0x80100A + 0x10 * n, 2, 0, allBits 2, .ro, .aon⟩
/-- 09 R406. -/
def R.SEQ_EN : Reg := ⟨0x801100, 2, 1, allBits 2, .ro, .aon⟩
/-- 09. -/
def R.SEQ_ON : Reg := ⟨0x801102, 2, 0, allBits 2, .ro, .aon⟩
/-- 09 R440. -/
def R.SEQ_STATUS : Reg := ⟨0x801104, 1, 0, allBits 1, .ro, .aon⟩
/-- 09 R448. -/
def R.SEQ_PARERR : Reg := ⟨0x801106, 2, 0, allBits 2, .ro, .aon⟩
/-- 09 R441. -/
def R.SEQ_POLICY : Reg := ⟨0x801108, 1, 3, 7, .wl, .aon⟩
/-- 09 R428. -/
def R.SEQ_FNHOLD : Reg := ⟨0x801109, 1, 0x14, allBits 1, .wl, .aon⟩
/-- 09 R442. -/
def R.SEQ_STABLE : Reg := ⟨0x80110A, 1, 0x3C, allBits 1, .wl, .aon⟩
/-- 09 R444. -/
def R.SEQ_LONGWAIT : Reg := ⟨0x80110B, 1, 0x18, allBits 1, .wl, .aon⟩
/-- 09 R440. -/
def R.SEQ_RCOUNT : Reg := ⟨0x80110C, 1, 0, allBits 1, .ro, .aon⟩
/-- 09 R459. -/
def R.SEQ_FREC : Reg := ⟨0x801110, 16, 0, allBits 16, .ro, .aon⟩
/-- 10 R461. -/
def R.CHn_SET (n : Nat) : Reg := ⟨0x802000 + 0x20 * n, 2, 0, ([0xFFFF, 0xFFFF, 0xFFFF, 0xFFFF, 0xFFFF, 0, 0xFFFF, 0].getD n 0), .ap, .aon⟩
/-- 10 R479. -/
def R.CHn_ILIM (n : Nat) : Reg := ⟨0x802002 + 0x20 * n, 1, ([0xE, 0x19, 0x28, 0x23, 0xA, 0x14, 0x32, 6].getD n 0), allBits 1, .ap, .aon⟩
/-- 10 R468. -/
def R.CHn_FSW (n : Nat) : Reg := ⟨0x802005 + 0x20 * n, 1, ([0, 8, 0x20, 0x10, 0x10, 0, 0x20, 0].getD n 0), ([0, 0xFF, 0xFF, 0xFF, 0xFF, 0, 0xFF, 0].getD n 0), .wl, .aon⟩
/-- 10 R469. -/
def R.CHn_SPREAD (n : Nat) : Reg := ⟨0x802006 + 0x20 * n, 1, ([0, 4, 4, 4, 4, 0, 4, 0].getD n 0), ([0, 0xF, 0xF, 0xF, 0xF, 0, 0xF, 0].getD n 0), .wl, .aon⟩
/-- 10 R483 R491. -/
def R.CHn_MODE (n : Nat) : Reg := ⟨0x80200A + 0x20 * n, 1, 0, ([0, 1, 3, 1, 1, 0, 0xD, 0].getD n 0), .chMode, .aon⟩
/-- 10 R490. -/
def R.CH6_PATH : Reg := ⟨0x8020CB, 1, 0, 3, .wl, .aon⟩
/-- 10 R471. -/
def R.CHn_SS (n : Nat) : Reg := ⟨0x802003 + 0x20 * n, 1, ([0xA, 0xA, 0xA, 0xA, 0xA, 0, 0xA, 0xA].getD n 0), ([0xFF, 0xFF, 0xFF, 0xFF, 0xFF, 0, 0xFF, 0xFF].getD n 0), .wl, .aon⟩
/-- 10 R465. -/
def R.CHn_SLEW (n : Nat) : Reg := ⟨0x802004 + 0x20 * n, 1, ([0xA, 0xA, 0xA, 0xA, 0xA, 0, 0xA, 0].getD n 0), ([0xFF, 0xFF, 0xFF, 0xFF, 0xFF, 0, 0xFF, 0].getD n 0), .wl, .aon⟩
/-- 10 R473. -/
def R.CHn_PG (n : Nat) : Reg := ⟨0x802007 + 0x20 * n, 1, ([0x2A, 0x2A, 0, 0x2A, 0x2A, 0, 0, 0x2A].getD n 0), ([0x7F, 0x7F, 0, 0x7F, 0x7F, 0, 0, 0x7F].getD n 0), .wl, .aon⟩
/-- 10 R478. -/
def R.CHn_OVP (n : Nat) : Reg := ⟨0x802008 + 0x20 * n, 1, ([1, 1, 1, 1, 1, 0, 1, 0].getD n 0), ([3, 3, 3, 3, 3, 0, 3, 0].getD n 0), .wl, .aon⟩
/-- 10 R476. -/
def R.CHn_ILTO (n : Nat) : Reg := ⟨0x802009 + 0x20 * n, 1, 0xA, allBits 1, .wl, .aon⟩
/-- 10. -/
def R.CHn_STAT (n : Nat) : Reg := ⟨0x80200C + 0x20 * n, 1, 0, allBits 1, .ro, .aon⟩
/-- 10 R505. -/
def R.CHn_TRIP (n : Nat) : Reg := ⟨0x80200D + 0x20 * n, 1, 0, 0xF, .w1c, .aon⟩
/-- 10. -/
def R.CHn_LIMCNT (n : Nat) : Reg := ⟨0x80200E + 0x20 * n, 2, 0, allBits 2, .w1c, .aon⟩
/-- 10 R463. -/
def R.CHn_VEFF (n : Nat) : Reg := ⟨0x802010 + 0x20 * n, 2, 0, allBits 2, .ro, .aon⟩
/-- 12 R581. -/
def R.CHG_MODE : Reg := ⟨0x803000, 1, 0, 3, .ap, .aon⟩
/-- 12 R573. -/
def R.CHG_CHEM : Reg := ⟨0x803001, 1, 0, 0xF, .whp, .aon⟩
/-- 12 R574. -/
def R.CHG_ICHG : Reg := ⟨0x803002, 2, 0x10, allBits 2, .ap, .aon⟩
/-- 12 R573. -/
def R.CHG_VREG : Reg := ⟨0x803004, 2, 0, allBits 2, .ap, .aon⟩
/-- 12 R573. -/
def R.CHG_VLOW : Reg := ⟨0x803006, 2, 0, allBits 2, .whp, .aon⟩
/-- 12 R576. -/
def R.CHG_VUV : Reg := ⟨0x803008, 2, 0, allBits 2, .whp, .aon⟩
/-- 12 R576. -/
def R.CHG_VOV : Reg := ⟨0x80300A, 2, 0, allBits 2, .whp, .aon⟩
/-- 12 R582. -/
def R.CHG_VRECH : Reg := ⟨0x80300C, 2, 0x64, allBits 2, .whp, .aon⟩
/-- 12 R560. -/
def R.CHG_VSYSMIN : Reg := ⟨0x80300E, 2, 0xBB8, allBits 2, .whp, .aon⟩
/-- 12 R583. -/
def R.CHG_TON : Reg := ⟨0x803010, 2, 0x28, allBits 2, .whp, .aon⟩
/-- 12 R583. -/
def R.CHG_TREST : Reg := ⟨0x803012, 2, 0xFA, allBits 2, .whp, .aon⟩
/-- 12 R588. -/
def R.CHG_ITERM : Reg := ⟨0x803014, 1, 2, 3, .whp, .aon⟩
/-- 12 R591 R599. -/
def R.CHG_CTRL : Reg := ⟨0x803015, 1, 0, 0xF, .whp, .aon⟩
/-- 12 R582. -/
def R.CHG_TPRE : Reg := ⟨0x803016, 1, 0x3C, allBits 1, .whp, .aon⟩
/-- 12 R582. -/
def R.CHG_TFAST : Reg := ⟨0x803017, 1, 0xC, allBits 1, .whp, .aon⟩
/-- 12 R597. -/
def R.CHG_JEITA : Reg := ⟨0x803018, 4, 0x3C2D0A00, allBits 4, .whp, .aon⟩
/-- 12 R557. -/
def R.CHG_PRIO : Reg := ⟨0x803020, 1, 0x4E, allBits 1, .whp, .aon⟩
/-- 12 R557. -/
def R.CHG_ASSIST : Reg := ⟨0x803021, 1, 1, 1, .whp, .aon⟩
/-- 12 R562. -/
def R.CHG_ICLMAX (n : Nat) : Reg := ⟨0x803022 + 2 * n, 2, ([0x1F40, 0x3E8, 0xBB8, 0x1F40].getD n 0), allBits 2, .ap, .aon⟩
/-- 12 R562. -/
def R.CHG_ICL_S12 : Reg := ⟨0x80302A, 2, 0xFA0, allBits 2, .whp, .aon⟩
/-- 12 R562. -/
def R.CHG_ICL_S24 : Reg := ⟨0x80302C, 2, 0x9C4, allBits 2, .whp, .aon⟩
/-- 12 R570. -/
def R.CHG_VFRAC : Reg := ⟨0x803030, 1, 0x50, allBits 1, .whp, .aon⟩
/-- 12 R568. -/
def R.CHG_VOCT : Reg := ⟨0x803031, 1, 0x14, allBits 1, .whp, .aon⟩
/-- 12 R568. -/
def R.CHG_VOCPER : Reg := ⟨0x803032, 2, 0x12C, allBits 2, .whp, .aon⟩
/-- 12 R570. -/
def R.CHG_VINREG_WAVE : Reg := ⟨0x803034, 2, 0x2710, allBits 2, .whp, .aon⟩
/-- 12 R570. -/
def R.CHG_VINREG_PORT : Reg := ⟨0x803036, 2, 0x11F8, allBits 2, .whp, .aon⟩
/-- 12 R604. -/
def R.CHG_REV : Reg := ⟨0x803038, 1, 1, 3, .ap, .aon⟩
/-- 12 R568. -/
def R.CHG_VOCNOW : Reg := ⟨0x803039, 1, 0, 1, .wo, .aon⟩
/-- 12 R607. -/
def R.CHG_REV_SOC : Reg := ⟨0x80303A, 2, 0xBB8, allBits 2, .whp, .aon⟩
/-- 12 R607. -/
def R.CHG_REV_VMIN : Reg := ⟨0x80303C, 2, 0, allBits 2, .whp, .aon⟩
/-- 12 R600. -/
def R.CHG_SHIP : Reg := ⟨0x803040, 1, 0, 1, .ap, .aon⟩
/-- 12 R582. -/
def R.CHG_STATE : Reg := ⟨0x803041, 1, 0, allBits 1, .ro, .aon⟩
/-- 12. -/
def R.CHG_STAT : Reg := ⟨0x803042, 2, 0x3F, allBits 2, .ro, .aon⟩
/-- 12 R587. -/
def R.CHG_IPULSE : Reg := ⟨0x803044, 2, 0, allBits 2, .ro, .aon⟩
/-- 12 R587. -/
def R.CHG_IEND : Reg := ⟨0x803046, 2, 0, allBits 2, .ro, .aon⟩
/-- 12 R563. -/
def R.CHG_DET : Reg := ⟨0x803048, 1, 0, allBits 1, .ro, .aon⟩
/-- 12 R562. -/
def R.CHG_ICL_EFF (n : Nat) : Reg := ⟨0x80304A + 2 * n, 2, 0, allBits 2, .ro, .aon⟩
/-- 12 R568. -/
def R.CHG_VOC : Reg := ⟨0x803052, 2, 0, allBits 2, .ro, .aon⟩
/-- 12 R620. -/
def R.CHG_EVT : Reg := ⟨0x803054, 2, 0, 0x3FF, .w1c, .aon⟩
/-- 12 R566. -/
def R.CHG_STRBUD : Reg := ⟨0x803056, 2, 0, allBits 2, .ro, .aon⟩
/-- 12. -/
def R.CHG_PULSECNT : Reg := ⟨0x803058, 4, 0, allBits 4, .ro, .aon⟩
/-- 13 R639. -/
def R.GAU_CTRL : Reg := ⟨0x804000, 1, 2, 3, .whp, .aon⟩
/-- 13 R627. -/
def R.GAU_RSNS : Reg := ⟨0x804002, 2, 0x1388, allBits 2, .whp, .aon⟩
/-- 13 R629. -/
def R.GAU_QFULL : Reg := ⟨0x804004, 4, 0x2710, allBits 4, .whp, .aon⟩
/-- 13 R628 R649. -/
def R.GAU_QACC : Reg := ⟨0x804008, 5, 0, allBits 5, .whp, .aon⟩
/-- 13 R629. -/
def R.GAU_SOC : Reg := ⟨0x80400E, 2, 0, allBits 2, .ro, .aon⟩
/-- 13 R627. -/
def R.GAU_I : Reg := ⟨0x804010, 4, 0, allBits 4, .ro, .aon⟩
/-- 13 R632. -/
def R.GAU_RELAX : Reg := ⟨0x804014, 2, 0xC8, allBits 2, .whp, .aon⟩
/-- 13 R639. -/
def R.GAU_TOL : Reg := ⟨0x804016, 2, 0x1F4, allBits 2, .whp, .aon⟩
/-- 13 R639. -/
def R.GAU_GUARD : Reg := ⟨0x804018, 2, 0xC8, allBits 2, .whp, .aon⟩
/-- 13 R638. -/
def R.GAU_MINSLOPE : Reg := ⟨0x80401A, 1, 0x14, allBits 1, .whp, .aon⟩
/-- 13 R646. -/
def R.GAU_ESSCLASS : Reg := ⟨0x80401B, 1, 0, 7, .whp, .aon⟩
/-- 13 R634. -/
def R.GAU_SLOPEMAX : Reg := ⟨0x80401C, 2, 0x1388, allBits 2, .whp, .aon⟩
/-- 13 R645. -/
def R.GAU_FWAIT : Reg := ⟨0x80401E, 1, 0x3C, allBits 1, .whp, .aon⟩
/-- 13 R648. -/
def R.GAU_FRETRY : Reg := ⟨0x80401F, 1, 0x3C, allBits 1, .whp, .aon⟩
/-- 13 R635. -/
def R.GAU_OCVADDR : Reg := ⟨0x804020, 3, 0x3FFF00, allBits 3, .whp, .aon⟩
/-- 13. -/
def R.GAU_ROCV : Reg := ⟨0x804024, 2, 0, allBits 2, .ro, .aon⟩
/-- 13. -/
def R.GAU_RSOC : Reg := ⟨0x804026, 2, 0, allBits 2, .ro, .aon⟩
/-- 13. -/
def R.GAU_RSLOPE : Reg := ⟨0x804028, 2, 0, allBits 2, .ro, .aon⟩
/-- 13. -/
def R.GAU_RSTEP : Reg := ⟨0x80402A, 2, 0, allBits 2, .ro, .aon⟩
/-- 13. -/
def R.GAU_RTIME : Reg := ⟨0x80402C, 4, 0, allBits 4, .ro, .aon⟩
/-- 13 R649. -/
def R.GAU_STAT : Reg := ⟨0x804030, 2, 1, allBits 2, .ro, .aon⟩
/-- 13 R655. -/
def R.GAU_EVT : Reg := ⟨0x804032, 2, 0, 0xFF, .w1c, .aon⟩
/-- 13 R647. -/
def R.GAU_ESSMASK : Reg := ⟨0x804034, 2, 0x1F, 0x1FFF, .whp, .aon⟩
/-- 13 R623. -/
def R.GAU_NTCB : Reg := ⟨0x804036, 2, 0xD6B, allBits 2, .whp, .aon⟩
/-- 13 R624. -/
def R.GAU_SEQGO : Reg := ⟨0x804100, 1, 0, 0x1F, .wo, .afe⟩
/-- 13 R625. -/
def R.GAU_SEQOVF : Reg := ⟨0x804102, 2, 0, allBits 2, .w1c, .afe⟩
/-- 13 R624. -/
def R.GAU_SEQ_HDR (n : Nat) : Reg := ⟨0x804200 + 0x10 * n, 4, 0, 0xFF0F01FF, .rw, .afe⟩
/-- 13 R622. -/
def R.GAU_SEQ_CH (n : Nat) : Reg := ⟨0x804204 + 0x10 * n, 8, 0, allBits 8, .rw, .afe⟩
/-- 13 R622. -/
def R.GAU_RES (n : Nat) : Reg := ⟨0x804400 + 2 * n, 2, 0, allBits 2, .ro, .afe⟩
/-- 11 R506. -/
def R.CAP_LIMIT : Reg := ⟨0x805000, 2, 0, allBits 2, .ap, .aon⟩
/-- 11 R507. -/
def R.CAP_WIN : Reg := ⟨0x805002, 2, 0x64, allBits 2, .whp, .aon⟩
/-- 11 R506. -/
def R.CAP_RSENSE : Reg := ⟨0x805004, 2, 0x78, allBits 2, .whp, .aon⟩
/-- 11 R508. -/
def R.CAP_PERFMIN : Reg := ⟨0x805006, 1, 3, 7, .whp, .aon⟩
/-- 11 R508. -/
def R.CAP_HOLDN : Reg := ⟨0x805007, 1, 2, allBits 1, .whp, .aon⟩
/-- 11 R508. -/
def R.CAP_THRN : Reg := ⟨0x805008, 1, 8, allBits 1, .whp, .aon⟩
/-- 11 R508. -/
def R.CAP_CUTN : Reg := ⟨0x805009, 1, 0x10, allBits 1, .whp, .aon⟩
/-- 11 R508. -/
def R.CAP_RELAXN : Reg := ⟨0x80500A, 1, 0x10, allBits 1, .whp, .aon⟩
/-- 11 R507. -/
def R.CAP_PAVG : Reg := ⟨0x80500C, 2, 0, allBits 2, .ro, .aon⟩
/-- 11. -/
def R.CAP_STAT : Reg := ⟨0x80500E, 1, 0, allBits 1, .ro, .aon⟩
/-- 11. -/
def R.CAP_EVT : Reg := ⟨0x80500F, 1, 0, 0x3F, .w1c, .aon⟩
/-- 11 R519. -/
def R.CAP_DROOP (n : Nat) : Reg := ⟨0x805010 + 4 * n, 1, 0, 3, .ap, .aon⟩
/-- 11 R520. -/
def R.CAP_MARGIN (n : Nat) : Reg := ⟨0x805011 + 4 * n, 1, 5, allBits 1, .ap, .aon⟩
/-- 11 R529. -/
def R.CAP_SHAPE (n : Nat) : Reg := ⟨0x805012 + 4 * n, 1, 0, 0xF, .whp, .aon⟩
/-- 11 R522. -/
def R.MP_CTRL : Reg := ⟨0x805020, 1, 8, 0xF, .ap, .aon⟩
/-- 11. -/
def R.MP_FLOOR : Reg := ⟨0x805021, 1, 0, allBits 1, .whp, .aon⟩
/-- 11 R531. -/
def R.MP_ACKTO : Reg := ⟨0x805022, 1, 0xA, allBits 1, .whp, .aon⟩
/-- 11 R536. -/
def R.MP_SHAPEMAX : Reg := ⟨0x805023, 1, 5, allBits 1, .whp, .aon⟩
/-- 11 R522. -/
def R.MP_LEVEL (n : Nat) : Reg := ⟨0x805024 + 1 * n, 1, 0, allBits 1, .ro, .aon⟩
/-- 11 R525. -/
def R.MP_FILLCNT (n : Nat) : Reg := ⟨0x805028 + 4 * n, 4, 0, allBits 4, .w1c, .aon⟩
/-- 11 R522. -/
def R.MP_PROF (n : Nat) : Reg := ⟨0x805040 + 8 * n, 6, 0x101FF, allBits 6, .whp, .aon⟩
/-- 11 R543. -/
def R.GOV_GRANT : Reg := ⟨0x805100, 1, 7, 7, .wl, .aon⟩
/-- 11 R545. -/
def R.GOV_DEFCNT (n : Nat) : Reg := ⟨0x805102 + 2 * n, 2, 0, allBits 2, .w1c, .aon⟩
/-- 11. -/
def R.GOV_EBAT : Reg := ⟨0x805112, 2, 0, allBits 2, .whp, .aon⟩
/-- 11 R540. -/
def R.GOV_RESERVE : Reg := ⟨0x805114, 2, 0x7D0, allBits 2, .whp, .aon⟩
/-- 11 R540. -/
def R.GOV_HORIZON : Reg := ⟨0x805116, 1, 0x18, allBits 1, .whp, .aon⟩
/-- 11 R543. -/
def R.GOV_RISE : Reg := ⟨0x805117, 1, 0x3C, allBits 1, .whp, .aon⟩
/-- 11 R542. -/
def R.GOV_CLASSPWR (n : Nat) : Reg := ⟨0x805118 + 2 * n, 2, 0, allBits 2, .whp, .aon⟩
/-- 03 R99. -/
def R.WHn_CTRL (n : Nat) : Reg := ⟨0x806000 + 0x40 * n, 2, ([9, 8, 0x40D, 0xF].getD n 0), ([0x1F, 0x1F, 0xFF1F, 0x1F].getD n 0), .rws, .wrd⟩
/-- 03 R95. -/
def R.WHn_FREQ_NOM (n : Nat) : Reg := ⟨0x806010 + 0x40 * n, 6, ([0x225C1, 0, 0x55E63C, 0x15798F].getD n 0), allBits 6, .rws, .wrd⟩
/-- 03. -/
def R.WHn_FREQ (n : Nat) : Reg := ⟨0x806018 + 0x40 * n, 6, ([0x225C1, 0, 0x55E63C, 0x15798F].getD n 0), allBits 6, .ro, .wrd⟩
/-- 03. -/
def R.WHn_STATE (n : Nat) : Reg := ⟨0x806002 + 0x40 * n, 1, 0, allBits 1, .ro, .wrd⟩
/-- 03 R112. -/
def R.WHn_STATE_CHG (n : Nat) : Reg := ⟨0x806003 + 0x40 * n, 1, 0, 1, .w1c, .wrd⟩
/-- 03. -/
def R.WHn_PHASE (n : Nat) : Reg := ⟨0x806008 + 0x40 * n, 8, 0, allBits 8, .ro, .wrd⟩
/-- 03. -/
def R.WHn_PERR (n : Nat) : Reg := ⟨0x806020 + 0x40 * n, 4, 0, allBits 4, .ro, .wrd⟩
/-- 03 R105. -/
def R.WHn_GAIN (n : Nat) : Reg := ⟨0x806024 + 0x40 * n, 1, 0x62, allBits 1, .rws, .wrd⟩
/-- 03 R104. -/
def R.WHn_MINPER (n : Nat) : Reg := ⟨0x806025 + 0x40 * n, 1, 0xC0, allBits 1, .rws, .wrd⟩
/-- 03 R110. -/
def R.WHn_LOSS (n : Nat) : Reg := ⟨0x806026 + 0x40 * n, 1, 4, allBits 1, .rws, .wrd⟩
/-- 03 R110. -/
def R.WHn_NTHR (n : Nat) : Reg := ⟨0x806027 + 0x40 * n, 1, 4, allBits 1, .rws, .wrd⟩
/-- 03 R110. -/
def R.WHn_HOLD (n : Nat) : Reg := ⟨0x806028 + 0x40 * n, 2, 0x100, allBits 2, .rws, .wrd⟩
/-- 03 R110. -/
def R.WHn_LOCKTOL (n : Nat) : Reg := ⟨0x80602A + 0x40 * n, 1, 0x10, allBits 1, .rws, .wrd⟩
/-- 03 R108. -/
def R.WHn_STEPTHR (n : Nat) : Reg := ⟨0x80602B + 0x40 * n, 1, 6, allBits 1, .rws, .wrd⟩
/-- 03 R104. -/
def R.WHn_REJCNT (n : Nat) : Reg := ⟨0x80602C + 0x40 * n, 2, 0, allBits 2, .w1c, .wrd⟩
/-- 03. -/
def R.WHn_REFANG (n : Nat) : Reg := ⟨0x806030 + 0x40 * n, 4, 0, allBits 4, .rws, .wrd⟩
/-- 03 R96. -/
def R.W1_DIV : Reg := ⟨0x806074, 3, 0xAEAA, allBits 3, .rws, .wrd⟩
/-- 03 R96. -/
def R.W1_EPOCH : Reg := ⟨0x806078, 4, 0, allBits 4, .rws, .wrd⟩
/-- 03. -/
def R.TICKCNT : Reg := ⟨0x806100, 8, 0, allBits 8, .ro, .wrd⟩
/-- 03 R121. -/
def R.DOORBELL_OVF : Reg := ⟨0x806108, 2, 0, allBits 2, .w1c, .wrd⟩
/-- 03 R116. -/
def R.SLOT_B0 (n : Nat) : Reg := ⟨0x820000 + 0x10 * n, 1, 0, 0x1F, .slot0, .wrd⟩
/-- 03 R116. -/
def R.SLOT_B1 (n : Nat) : Reg := ⟨0x820001 + 0x10 * n, 1, 0, 0x3F, .slot, .wrd⟩
/-- 03 R116. -/
def R.SLOT_B2 (n : Nat) : Reg := ⟨0x820002 + 0x10 * n, 1, 0, 7, .slot, .wrd⟩
/-- 03 R116. -/
def R.SLOT_B4 (n : Nat) : Reg := ⟨0x820004 + 0x10 * n, 11, 0, allBits 11, .slot, .wrd⟩
/-- 03 R116. -/
def R.SLOT_SKIPCNT (n : Nat) : Reg := ⟨0x82000F + 0x10 * n, 1, 0, allBits 1, .slot15, .wrd⟩
/-- 14. -/
def R.WEI_STAT : Reg := ⟨0x807000, 1, 0, allBits 1, .ro, .wei⟩
/-- 14 R667. -/
def R.WEI_RTO : Reg := ⟨0x807002, 2, 0x1F4, allBits 2, .hp, .wei⟩
/-- 14. -/
def R.WEI_QSEL : Reg := ⟨0x807004, 2, 0, 0x3FFF, .rw, .wei⟩
/-- 14. -/
def R.WEI_QREC : Reg := ⟨0x807008, 8, 0, allBits 8, .ro, .wei⟩
/-- 14 R679 R673. -/
def R.WEI_QCMD : Reg := ⟨0x807010, 1, 0, 3, .wop, .wei⟩
/-- 14. -/
def R.WEI_GSEL : Reg := ⟨0x807014, 2, 0, 0x3FF, .rw, .wei⟩
/-- 14. -/
def R.WEI_GREC : Reg := ⟨0x807018, 4, 0, allBits 4, .ro, .wei⟩
/-- 14 R668. -/
def R.WEI_CNT (n : Nat) : Reg := ⟨0x807020 + 2 * n, 2, 0, allBits 2, .w1c, .wei⟩
/-- 14 R695. -/
def R.WEI_EVT : Reg := ⟨0x807030, 1, 0, 0x3F, .w1c, .wei⟩
/-- 14 R687. -/
def R.WEI_REJFIFO : Reg := ⟨0x807034, 4, 0, allBits 4, .ro, .wei⟩
/-- 14 R680. -/
def R.RND_CTRL (n : Nat) : Reg := ⟨0x807800 + 0x40 * n, 1, 0, 0x1F, .rndCtrl, .wei⟩
/-- 14 R680. -/
def R.RND_OWNER (n : Nat) : Reg := ⟨0x807801 + 0x40 * n, 1, 0, 0xF, .rnd, .wei⟩
/-- 14 R680. -/
def R.RND_NPART (n : Nat) : Reg := ⟨0x807802 + 0x40 * n, 1, 0, 0x1F, .rnd, .wei⟩
/-- 14 R680. -/
def R.RND_DB (n : Nat) : Reg := ⟨0x807803 + 0x40 * n, 1, 0, allBits 1, .rnd, .wei⟩
/-- 14 R680. -/
def R.RND_QIN (n : Nat) : Reg := ⟨0x807804 + 0x40 * n, 2, 0, 0x3FFF, .rnd, .wei⟩
/-- 14 R680. -/
def R.RND_QOUT (n : Nat) : Reg := ⟨0x807806 + 0x40 * n, 2, 0, 0x3FFF, .rnd, .wei⟩
/-- 14 R680. -/
def R.RND_INWIN (n : Nat) : Reg := ⟨0x807808 + 0x40 * n, 2, 0, allBits 2, .rnd, .wei⟩
/-- 14 R680. -/
def R.RND_DEADLINE (n : Nat) : Reg := ⟨0x80780A + 0x40 * n, 2, 0, allBits 2, .rnd, .wei⟩
/-- 14 R680. -/
def R.RND_RNUM (n : Nat) : Reg := ⟨0x80780C + 0x40 * n, 2, 0, allBits 2, .rnd, .wei⟩
/-- 14 R680. -/
def R.RND_STATE (n : Nat) : Reg := ⟨0x80780E + 0x40 * n, 1, 0, allBits 1, .ro, .wei⟩
/-- 14 R680. -/
def R.RND_SAFELEN (n : Nat) : Reg := ⟨0x80780F + 0x40 * n, 1, 0, allBits 1, .rnd, .wei⟩
/-- 14 R680. -/
def R.RND_SAFE (n : Nat) : Reg := ⟨0x807810 + 0x40 * n, 3, 0, 0x1FFFF, .rnd, .wei⟩
/-- 14 R680. -/
def R.RND_PRESENT (n : Nat) : Reg := ⟨0x807814 + 0x40 * n, 2, 0, allBits 2, .ro, .wei⟩
/-- 14 R680. -/
def R.RND_MISSING (n : Nat) : Reg := ⟨0x807816 + 0x40 * n, 2, 0, allBits 2, .ro, .wei⟩
/-- 14 R680. -/
def R.RND_NOTAPPLIED (n : Nat) : Reg := ⟨0x807818 + 0x40 * n, 2, 0, allBits 2, .ro, .wei⟩
/-- 14 R680. -/
def R.RND_NARND (n : Nat) : Reg := ⟨0x80781A + 0x40 * n, 2, 0, allBits 2, .ro, .wei⟩
/-- 14 R680. -/
def R.RND_LASTTAG (n : Nat) : Reg := ⟨0x80781C + 0x40 * n, 32, 0, allBits 32, .ro, .wei⟩
/-- 14 R658. -/
def R.WEI_DESC (n : Nat) : Reg := ⟨0x840000 + 0x10 * n, 12, 0, allBits 12, .desc, .wei⟩
/-- 14 R660. -/
def R.WEI_DESC_SEQ (n : Nat) : Reg := ⟨0x84000C + 0x10 * n, 4, 0, allBits 4, .ro, .wei⟩
/-- 15. -/
def R.TLN_ROLE : Reg := ⟨0x808000, 1, 0, 3, .hp, .lnk⟩
/-- 15. -/
def R.TLN_PMODE : Reg := ⟨0x808001, 1, 0, 0x3F, .hp, .lnk⟩
/-- 15. -/
def R.TLN_NODEID : Reg := ⟨0x808002, 2, 0, allBits 2, .ro, .lnk⟩
/-- 15. -/
def R.TLN_REQID : Reg := ⟨0x808004, 2, 0, 0x1FFF, .hp, .lnk⟩
/-- 15. -/
def R.TLN_STATE : Reg := ⟨0x808006, 1, 0, allBits 1, .ro, .lnk⟩
/-- 15. -/
def R.TLN_CMD : Reg := ⟨0x808007, 1, 0, 3, .wo, .lnk⟩
/-- 15. -/
def R.SL_MISS : Reg := ⟨0x808008, 1, 4, allBits 1, .hp, .lnk⟩
/-- 15. -/
def R.SL_TIMEOUT : Reg := ⟨0x808009, 1, 2, allBits 1, .hp, .lnk⟩
/-- 15. -/
def R.TLN_CONTOFF : Reg := ⟨0x80800A, 2, 0x64, allBits 2, .hp, .lnk⟩
/-- 15. -/
def R.TLN_JIT : Reg := ⟨0x80800C, 1, 0x32, allBits 1, .hp, .lnk⟩
/-- 15. -/
def R.TLN_JTO : Reg := ⟨0x80800D, 1, 0xA, allBits 1, .hp, .lnk⟩
/-- 15 R721. -/
def R.TLN_CABLE (n : Nat) : Reg := ⟨0x80800E + 2 * n, 2, 0, allBits 2, .hp, .lnk⟩
/-- 15. -/
def R.TLN_AUTH : Reg := ⟨0x808014, 1, 0, 3, .hp, .lnk⟩
/-- 15. -/
def R.TLN_AUTHREQ : Reg := ⟨0x808016, 2, 0xFFFD, allBits 2, .hp, .lnk⟩
/-- 15. -/
def R.TLN_SFCNT : Reg := ⟨0x808018, 4, 0, allBits 4, .ro, .lnk⟩
/-- 15. -/
def R.TLN_CNT (n : Nat) : Reg := ⟨0x808020 + 2 * n, 2, 0, allBits 2, .w1c, .lnk⟩
/-- 15. -/
def R.TLN_EVT : Reg := ⟨0x808040, 2, 0, 0x7F, .w1c, .lnk⟩
/-- 15. -/
def R.TLN_JOINFIFO : Reg := ⟨0x808044, 16, 0, allBits 16, .ro, .lnk⟩
/-- 15. -/
def R.TLN_JREPLY : Reg := ⟨0x808058, 5, 0, allBits 5, .wo, .lnk⟩
/-- 15. -/
def R.TLN_KEY : Reg := ⟨0x808070, 16, 0, allBits 16, .wop, .lnk⟩
/-- 15 R725. -/
def R.TLN_SLOT (n : Nat) : Reg := ⟨0x808200 + 2 * n, 2, 0x64, 0xFFF, .hp, .lnk⟩
/-- 15 R731. -/
def R.TLN_PMAP (n : Nat) : Reg := ⟨0x808400 + 1 * n, 1, 0, allBits 1, .pmap, .lnk⟩
/-- 16 R768. -/
def R.AUT_WIN : Reg := ⟨0x809000, 2, 0x64, allBits 2, .whl, .aon⟩
/-- 16 R763. -/
def R.AUT_HORIZON : Reg := ⟨0x809002, 1, 4, allBits 1, .whl, .aon⟩
/-- 16 R767. -/
def R.AUT_EPOCH : Reg := ⟨0x809004, 2, 0, allBits 2, .ro, .aon⟩
/-- 16 R762. -/
def R.AUT_ORIGINS : Reg := ⟨0x809006, 2, 0, allBits 2, .ro, .aon⟩
/-- 16 R756. -/
def R.AUT_BTN : Reg := ⟨0x809008, 4, 0, allBits 4, .whl, .aon⟩
/-- 16 R796. -/
def R.AUT_EVT : Reg := ⟨0x809010, 1, 0, 7, .w1c, .aon⟩
/-- 16 R770. -/
def R.AUT_RANK (n : Nat) : Reg := ⟨0x809100 + 1 * n, 1, 0xE4, allBits 1, .wl, .aon⟩
/-- 16 R772. -/
def R.AUT_LOCK (n : Nat) : Reg := ⟨0x809200 + 4 * n, 4, 0, allBits 4, .ro, .aon⟩
/-- 16 R785. -/
def R.LED_CTRL : Reg := ⟨0x80A000, 1, 0, 1, .whl, .aon⟩
/-- 16. -/
def R.LED_STAT : Reg := ⟨0x80A002, 2, 0, allBits 2, .ro, .aon⟩
/-- 16 R789. -/
def R.LED_NEXTSEQ : Reg := ⟨0x80A004, 5, 0, allBits 5, .ro, .aon⟩
/-- 16. -/
def R.LED_STAGED : Reg := ⟨0x80A00A, 1, 0, allBits 1, .ro, .aon⟩
/-- 16 R779. -/
def R.LED_REFCNT : Reg := ⟨0x80A00C, 2, 0, allBits 2, .ro, .aon⟩
/-- 16 R57. -/
def R.LED_UNRECCNT : Reg := ⟨0x80A00E, 2, 0, allBits 2, .ro, .aon⟩
/-- 16. -/
def R.LED_SEG : Reg := ⟨0x80A010, 1, 0, allBits 1, .ro, .aon⟩
/-- 16 R796. -/
def R.LED_EVT : Reg := ⟨0x80A014, 1, 0, 0x1F, .w1c, .aon⟩
/-- 16 R784. -/
def R.LED_CHAINBASE : Reg := ⟨0x80A020, 16, 0, allBits 16, .ro, .aon⟩
/-- 16 R784. -/
def R.LED_SEAL (n : Nat) : Reg := ⟨0x80A800 + 0x20 * n, 32, 0, allBits 32, .ro, .nv⟩
/-- 17 R825. -/
def R.NVM_CMD : Reg := ⟨0x80B000, 1, 0, allBits 1, .nvm, .wrd⟩
/-- 17. -/
def R.NVM_STAT : Reg := ⟨0x80B001, 1, 0, allBits 1, .ro, .wrd⟩
/-- 17. -/
def R.NVM_RESULT : Reg := ⟨0x80B002, 1, 0, allBits 1, .ro, .wrd⟩
/-- 17 R823. -/
def R.NVM_OWN : Reg := ⟨0x80B004, 2, 0, allBits 2, .nvmOwn, .wrd⟩
/-- 17. -/
def R.NVM_ADDR : Reg := ⟨0x80B008, 3, 0, allBits 3, .nvm, .wrd⟩
/-- 17 R833. -/
def R.NVM_SUSCNT : Reg := ⟨0x80B00C, 1, 0, allBits 1, .ro, .wrd⟩
/-- 17 R819. -/
def R.NVM_CORRCNT : Reg := ⟨0x80B00E, 2, 0, allBits 2, .w1c, .wrd⟩
/-- 17. -/
def R.NVM_DATA : Reg := ⟨0x80B010, 32, 0, allBits 32, .nvm, .wrd⟩
/-- 17 R844. -/
def R.NVM_ABORT : Reg := ⟨0x80B030, 4, 0, 0x80000000, .w1c, .aon⟩
/-- 17 R838. -/
def R.NVM_WPLIM : Reg := ⟨0x80B034, 2, 0, 0x3FF, .nvm, .wrd⟩
/-- 17 R853. -/
def R.NVM_EVT : Reg := ⟨0x80B036, 1, 0, 0x1F, .w1c, .aon⟩
/-- 17 R839. -/
def R.NVM_NWM : Reg := ⟨0x80B038, 7, 0, allBits 7, .ro, .nv⟩
/-- 17 R836. -/
def R.NVM_ECNT (n : Nat) : Reg := ⟨0x80B400 + 4 * n, 4, 0, allBits 4, .ro, .nv⟩
/-- 17 R804. -/
def R.OTP_ALARM : Reg := ⟨0x80B100, 1, 0, allBits 1, .ro, .wrd⟩
/-- 17 R814. -/
def R.OTP_ARB : Reg := ⟨0x80B101, 1, 0, allBits 1, .ro, .aon⟩
/-- 17 R802. -/
def R.OTP_SECT : Reg := ⟨0x80B102, 2, 0, allBits 2, .ro, .wrd⟩
/-- 17 R801. -/
def R.OTP_CORRCNT : Reg := ⟨0x80B104, 1, 0, allBits 1, .ro, .wrd⟩
/-- 17 R801. -/
def R.OTP_ROWERR : Reg := ⟨0x80B108, 8, 0, allBits 8, .ro, .wrd⟩
/-- 18. -/
def R.ENT_STATE : Reg := ⟨0x80C000, 1, 0, allBits 1, .ro, .wrd⟩
/-- 18 R887. -/
def R.ENT_EVT : Reg := ⟨0x80C001, 1, 0, 0xF, .w1c, .wrd⟩
/-- 18 R863. -/
def R.ENT_FAILCAUSE : Reg := ⟨0x80C002, 1, 0, allBits 1, .ro, .wrd⟩
/-- 18 R867. -/
def R.ENT_RNGTMO : Reg := ⟨0x80C004, 1, 0xA, allBits 1, .whp, .wrd⟩
/-- 18. -/
def R.ENT_FAILCNT : Reg := ⟨0x80C006, 2, 0, allBits 2, .w1c, .wrd⟩
/-- 18. -/
def R.ENT_RAW : Reg := ⟨0x80C008, 4, 0, allBits 4, .ro, .wrd⟩
/-- 18. -/
def R.ENT_RESEEDS : Reg := ⟨0x80C00C, 4, 0, allBits 4, .ro, .wrd⟩
/-- 18 R876. -/
def R.PEB_RULE (m n : Nat) : Reg := ⟨0x80D000 + 0x200 * m + 0x10 * n, 12, 0, 0xFFFFFFFF3FFF1FFF7FFF, .pebRule, .wrd⟩
/-- 18 R882. -/
def R.PEB_COUNT (m n : Nat) : Reg := ⟨0x80D00C + 0x200 * m + 0x10 * n, 4, 0, allBits 4, .w1c, .wrd⟩
/-- 18. -/
def R.PEB_STAT (n : Nat) : Reg := ⟨0x80D100 + 0x200 * n, 1, 0, allBits 1, .ro, .wrd⟩
/-- 18 R880. -/
def R.PEB_OVF (n : Nat) : Reg := ⟨0x80D102 + 0x200 * n, 2, 0, allBits 2, .w1c, .wrd⟩
/-- 18 R872. -/
def R.PEB_UNLOCK : Reg := ⟨0x80DC00, 12, 0, allBits 12, .wohp, .wrd⟩
/-- 18 R870. -/
def R.PEB_EN : Reg := ⟨0x80DC10, 1, 0, 0x1F, .ap, .nv⟩
/-- 18. -/
def R.PEB_GSTAT : Reg := ⟨0x80DC11, 1, 0, allBits 1, .ro, .wrd⟩
/-- 18 R875. -/
def R.PEB_MAXT : Reg := ⟨0x80DC12, 1, 0x3C, allBits 1, .whp, .wrd⟩
/-- 18 R873. -/
def R.PEB_UNLEXP : Reg := ⟨0x80DC14, 4, 0, allBits 4, .ro, .wrd⟩
/-- 19 R900. -/
def R.HIF_CTRL : Reg := ⟨0x80E000, 1, 0, 7, .rw, .aon⟩
/-- 19 R901. -/
def R.HIF_I2CADDR : Reg := ⟨0x80E001, 1, 0x5C, 0x7F, .rw, .aon⟩
/-- 19 R905. -/
def R.HIF_IRQ : Reg := ⟨0x80E002, 2, 0, allBits 2, .ro, .aon⟩
/-- 19 R906. -/
def R.HIF_IRQEN : Reg := ⟨0x80E004, 2, 0, allBits 2, .rw, .aon⟩
/-- 19. -/
def R.HIF_LAST : Reg := ⟨0x80E008, 1, 0, allBits 1, .ro, .aon⟩
/-- 19 R908. -/
def R.HIF_MBOUT : Reg := ⟨0x80E010, 5, 0, allBits 5, .ro, .aon⟩
/-- 19 R909. -/
def R.HIF_MBIN : Reg := ⟨0x80E018, 6, 0, allBits 6, .hostWo, .aon⟩
/-- 19 R910. -/
def R.HIF_ORDREP : Reg := ⟨0x80E020, 6, 0, allBits 6, .ro, .aon⟩
/-- 19 R910. -/
def R.HIF_ORDOVF : Reg := ⟨0x80E026, 1, 0, allBits 1, .w1c, .aon⟩
/-- 19 R907. -/
def R.HIF_DBR (n : Nat) : Reg := ⟨0x80E040 + 2 * n, 2, 0, 0xFF1F, .rw, .aon⟩
/-- 19 R921. -/
def R.SIO_EVT : Reg := ⟨0x80F000, 2, 0, 0x1FF, .w1c, .cpu⟩
/-- 19 R911. -/
def R.SIO_SDICMD : Reg := ⟨0x80F010, 16, 0, 0x3FFFFFFFFFFFFFFFFFFFFFFFFFFFFFF, .rw, .cpu⟩
/-- 19 R914. -/
def R.SIO_SDILINE : Reg := ⟨0x80F020, 84, 0, allBits 84, .ro, .cpu⟩
/-- 19 R915. -/
def R.SIO_SDIRAW : Reg := ⟨0x80F080, 4, 0, 0x5FF, .rw, .cpu⟩
/-- 19 R917. -/
def R.SIO_U (n : Nat) : Reg := ⟨0x80F100 + 0x40 * n, 64, 0, allBits 64, .rw, .cpu⟩
/-- 19 R919. -/
def R.SIO_IC (n : Nat) : Reg := ⟨0x80F200 + 0x40 * n, 64, 0, allBits 64, .rw, .cpu⟩
/-- 19 R920. -/
def R.SIO_SPC0 : Reg := ⟨0x80F280, 80, 0, allBits 80, .rw, .cpu⟩
/-- 19 R922. -/
def R.SIO_GP (n : Nat) : Reg := ⟨0x80F300 + 4 * n, 4, 0, 0xFF1FFB, .rw, .cpu⟩
/-- 19 R924. -/
def R.SIO_EVTOE : Reg := ⟨0x80F340, 1, 0, allBits 1, .rw, .cpu⟩
/-- 19 R923. -/
def R.SIO_EVTSET : Reg := ⟨0x80F341, 1, 0, allBits 1, .wo, .cpu⟩
/-- 19 R923. -/
def R.SIO_EVTCLR : Reg := ⟨0x80F342, 1, 0, allBits 1, .wo, .cpu⟩
/-- 19 R923. -/
def R.SIO_EVTOUT : Reg := ⟨0x80F343, 1, 0, allBits 1, .ro, .cpu⟩
/-- 08. -/
def R.WDN_STATUS : Reg := ⟨0x810000, 1, 0, allBits 1, .ro, .wrd⟩
/-- 08. -/
def R.WDN_EVENT : Reg := ⟨0x810001, 1, 0, 0x7F, .w1c, .wrd⟩
/-- 08. -/
def R.WDN_MMCNT : Reg := ⟨0x810002, 2, 0, allBits 2, .ro, .wrd⟩
/-- 08 R368. -/
def R.WDN_LASTCOMMIT : Reg := ⟨0x810004, 2, 0, allBits 2, .ro, .aon⟩
/-- 08 R373. -/
def R.WDN_EXCNT : Reg := ⟨0x810006, 2, 0, allBits 2, .ro, .wrd⟩
/-- 08 R392. -/
def R.WDN_VERDICT : Reg := ⟨0x810008, 2, 0, allBits 2, .wn, .wrd⟩
/-- 08 R393. -/
def R.WDN_VTO : Reg := ⟨0x81000A, 1, 0xA, allBits 1, .wn, .wrd⟩
/-- 08 R384. -/
def R.WDN_LOSTTO : Reg := ⟨0x81000C, 1, 0xA, allBits 1, .wn, .aon⟩
/-- 08 R389. -/
def R.WDN_ORD (n : Nat) : Reg := ⟨0x810100 + 0x10 * n, 9, 0, allBits 9, .ro, .wrd⟩
/-- 07 R333. -/
def R.CORE_EXCADDR (m n : Nat) : Reg := ⟨0x811000 + 0x40 * m + 8 * n, 4, 0, allBits 4, .ro, .cpu⟩
/-- 07 R338. -/
def R.CORE_EXCMORE (m n : Nat) : Reg := ⟨0x811004 + 0x40 * m + 8 * n, 2, 0, 0xFFF, .rw, .cpu⟩
/-- 07 R342. -/
def R.CORE_DFAULT : Reg := ⟨0x811080, 2, 0, allBits 2, .w1c, .cpu⟩

/-- The registers of the block at 0x800000. -/
def rows800 : List RegRow :=
  [⟨0x800000, 4, 1, fun _ => R.SYS_ID⟩,
   ⟨0x800010, 2, 1, fun _ => R.SYS_SUPPLY⟩,
   ⟨0x800012, 2, 1, fun _ => R.SYS_SUPPLY_CHG⟩,
   ⟨0x800020, 1, 1, fun _ => R.SYS_PSTATE⟩,
   ⟨0x800021, 1, 1, fun _ => R.SYS_WAKE⟩,
   ⟨0x800022, 1, 1, fun _ => R.SYS_WAKECAUSE⟩,
   ⟨0x800024, 4, 1, fun _ => R.SYS_WAKETIME⟩,
   ⟨0x800030, 1, 1, fun _ => R.SYS_RSTREC_KIND⟩,
   ⟨0x800031, 1, 1, fun _ => R.SYS_RSTREC_FLAGS⟩,
   ⟨0x800032, 2, 1, fun _ => R.SYS_RSTREC_BOOTCNT⟩,
   ⟨0x800034, 4, 1, fun _ => R.SYS_RSTREC_TIME⟩,
   ⟨0x800038, 4, 1, fun _ => R.SYS_BOOT⟩,
   ⟨0x80003C, 1, 1, fun _ => R.SYS_BOOTCTL⟩,
   ⟨0x800040, 4, 1, fun _ => R.SYS_TIME⟩]

/-- The registers of the block at 0x801000. -/
def rows801 : List RegRow :=
  [⟨0x801000, 0x10, 13, R.SEQ_NEED⟩,
   ⟨0x801002, 0x10, 13, R.SEQ_DELAY⟩,
   ⟨0x801004, 0x10, 13, R.SEQ_PGTO⟩,
   ⟨0x801006, 0x10, 13, R.SEQ_OFFDLY⟩,
   ⟨0x801008, 0x10, 13, R.SEQ_BLANK⟩,
   ⟨0x801009, 0x10, 13, R.SEQ_STATE⟩,
   ⟨0x80100A, 0x10, 13, R.SEQ_PGTIME⟩,
   ⟨0x801100, 2, 1, fun _ => R.SEQ_EN⟩,
   ⟨0x801102, 2, 1, fun _ => R.SEQ_ON⟩,
   ⟨0x801104, 1, 1, fun _ => R.SEQ_STATUS⟩,
   ⟨0x801106, 2, 1, fun _ => R.SEQ_PARERR⟩,
   ⟨0x801108, 1, 1, fun _ => R.SEQ_POLICY⟩,
   ⟨0x801109, 1, 1, fun _ => R.SEQ_FNHOLD⟩,
   ⟨0x80110A, 1, 1, fun _ => R.SEQ_STABLE⟩,
   ⟨0x80110B, 1, 1, fun _ => R.SEQ_LONGWAIT⟩,
   ⟨0x80110C, 1, 1, fun _ => R.SEQ_RCOUNT⟩,
   ⟨0x801110, 16, 1, fun _ => R.SEQ_FREC⟩]

/-- The registers of the block at 0x802000. -/
def rows802 : List RegRow :=
  [⟨0x802000, 0x20, 8, R.CHn_SET⟩,
   ⟨0x802002, 0x20, 8, R.CHn_ILIM⟩,
   ⟨0x802005, 0x20, 8, R.CHn_FSW⟩,
   ⟨0x802006, 0x20, 8, R.CHn_SPREAD⟩,
   ⟨0x80200A, 0x20, 8, R.CHn_MODE⟩,
   ⟨0x8020CB, 1, 1, fun _ => R.CH6_PATH⟩,
   ⟨0x802003, 0x20, 8, R.CHn_SS⟩,
   ⟨0x802004, 0x20, 8, R.CHn_SLEW⟩,
   ⟨0x802007, 0x20, 8, R.CHn_PG⟩,
   ⟨0x802008, 0x20, 8, R.CHn_OVP⟩,
   ⟨0x802009, 0x20, 8, R.CHn_ILTO⟩,
   ⟨0x80200C, 0x20, 8, R.CHn_STAT⟩,
   ⟨0x80200D, 0x20, 8, R.CHn_TRIP⟩,
   ⟨0x80200E, 0x20, 8, R.CHn_LIMCNT⟩,
   ⟨0x802010, 0x20, 8, R.CHn_VEFF⟩]

/-- The registers of the block at 0x803000. -/
def rows803 : List RegRow :=
  [⟨0x803000, 1, 1, fun _ => R.CHG_MODE⟩,
   ⟨0x803001, 1, 1, fun _ => R.CHG_CHEM⟩,
   ⟨0x803002, 2, 1, fun _ => R.CHG_ICHG⟩,
   ⟨0x803004, 2, 1, fun _ => R.CHG_VREG⟩,
   ⟨0x803006, 2, 1, fun _ => R.CHG_VLOW⟩,
   ⟨0x803008, 2, 1, fun _ => R.CHG_VUV⟩,
   ⟨0x80300A, 2, 1, fun _ => R.CHG_VOV⟩,
   ⟨0x80300C, 2, 1, fun _ => R.CHG_VRECH⟩,
   ⟨0x80300E, 2, 1, fun _ => R.CHG_VSYSMIN⟩,
   ⟨0x803010, 2, 1, fun _ => R.CHG_TON⟩,
   ⟨0x803012, 2, 1, fun _ => R.CHG_TREST⟩,
   ⟨0x803014, 1, 1, fun _ => R.CHG_ITERM⟩,
   ⟨0x803015, 1, 1, fun _ => R.CHG_CTRL⟩,
   ⟨0x803016, 1, 1, fun _ => R.CHG_TPRE⟩,
   ⟨0x803017, 1, 1, fun _ => R.CHG_TFAST⟩,
   ⟨0x803018, 4, 1, fun _ => R.CHG_JEITA⟩,
   ⟨0x803020, 1, 1, fun _ => R.CHG_PRIO⟩,
   ⟨0x803021, 1, 1, fun _ => R.CHG_ASSIST⟩,
   ⟨0x803022, 2, 4, R.CHG_ICLMAX⟩,
   ⟨0x80302A, 2, 1, fun _ => R.CHG_ICL_S12⟩,
   ⟨0x80302C, 2, 1, fun _ => R.CHG_ICL_S24⟩,
   ⟨0x803030, 1, 1, fun _ => R.CHG_VFRAC⟩,
   ⟨0x803031, 1, 1, fun _ => R.CHG_VOCT⟩,
   ⟨0x803032, 2, 1, fun _ => R.CHG_VOCPER⟩,
   ⟨0x803034, 2, 1, fun _ => R.CHG_VINREG_WAVE⟩,
   ⟨0x803036, 2, 1, fun _ => R.CHG_VINREG_PORT⟩,
   ⟨0x803038, 1, 1, fun _ => R.CHG_REV⟩,
   ⟨0x803039, 1, 1, fun _ => R.CHG_VOCNOW⟩,
   ⟨0x80303A, 2, 1, fun _ => R.CHG_REV_SOC⟩,
   ⟨0x80303C, 2, 1, fun _ => R.CHG_REV_VMIN⟩,
   ⟨0x803040, 1, 1, fun _ => R.CHG_SHIP⟩,
   ⟨0x803041, 1, 1, fun _ => R.CHG_STATE⟩,
   ⟨0x803042, 2, 1, fun _ => R.CHG_STAT⟩,
   ⟨0x803044, 2, 1, fun _ => R.CHG_IPULSE⟩,
   ⟨0x803046, 2, 1, fun _ => R.CHG_IEND⟩,
   ⟨0x803048, 1, 1, fun _ => R.CHG_DET⟩,
   ⟨0x80304A, 2, 4, R.CHG_ICL_EFF⟩,
   ⟨0x803052, 2, 1, fun _ => R.CHG_VOC⟩,
   ⟨0x803054, 2, 1, fun _ => R.CHG_EVT⟩,
   ⟨0x803056, 2, 1, fun _ => R.CHG_STRBUD⟩] ++
  [⟨0x803058, 4, 1, fun _ => R.CHG_PULSECNT⟩]

/-- The registers of the block at 0x804000. -/
def rows804 : List RegRow :=
  [⟨0x804000, 1, 1, fun _ => R.GAU_CTRL⟩,
   ⟨0x804002, 2, 1, fun _ => R.GAU_RSNS⟩,
   ⟨0x804004, 4, 1, fun _ => R.GAU_QFULL⟩,
   ⟨0x804008, 5, 1, fun _ => R.GAU_QACC⟩,
   ⟨0x80400E, 2, 1, fun _ => R.GAU_SOC⟩,
   ⟨0x804010, 4, 1, fun _ => R.GAU_I⟩,
   ⟨0x804014, 2, 1, fun _ => R.GAU_RELAX⟩,
   ⟨0x804016, 2, 1, fun _ => R.GAU_TOL⟩,
   ⟨0x804018, 2, 1, fun _ => R.GAU_GUARD⟩,
   ⟨0x80401A, 1, 1, fun _ => R.GAU_MINSLOPE⟩,
   ⟨0x80401B, 1, 1, fun _ => R.GAU_ESSCLASS⟩,
   ⟨0x80401C, 2, 1, fun _ => R.GAU_SLOPEMAX⟩,
   ⟨0x80401E, 1, 1, fun _ => R.GAU_FWAIT⟩,
   ⟨0x80401F, 1, 1, fun _ => R.GAU_FRETRY⟩,
   ⟨0x804020, 3, 1, fun _ => R.GAU_OCVADDR⟩,
   ⟨0x804024, 2, 1, fun _ => R.GAU_ROCV⟩,
   ⟨0x804026, 2, 1, fun _ => R.GAU_RSOC⟩,
   ⟨0x804028, 2, 1, fun _ => R.GAU_RSLOPE⟩,
   ⟨0x80402A, 2, 1, fun _ => R.GAU_RSTEP⟩,
   ⟨0x80402C, 4, 1, fun _ => R.GAU_RTIME⟩,
   ⟨0x804030, 2, 1, fun _ => R.GAU_STAT⟩,
   ⟨0x804032, 2, 1, fun _ => R.GAU_EVT⟩,
   ⟨0x804034, 2, 1, fun _ => R.GAU_ESSMASK⟩,
   ⟨0x804036, 2, 1, fun _ => R.GAU_NTCB⟩,
   ⟨0x804100, 1, 1, fun _ => R.GAU_SEQGO⟩,
   ⟨0x804102, 2, 1, fun _ => R.GAU_SEQOVF⟩,
   ⟨0x804200, 0x10, 32, R.GAU_SEQ_HDR⟩,
   ⟨0x804204, 0x10, 32, R.GAU_SEQ_CH⟩,
   ⟨0x804400, 2, 33, R.GAU_RES⟩]

/-- The registers of the block at 0x805000. -/
def rows805 : List RegRow :=
  [⟨0x805000, 2, 1, fun _ => R.CAP_LIMIT⟩,
   ⟨0x805002, 2, 1, fun _ => R.CAP_WIN⟩,
   ⟨0x805004, 2, 1, fun _ => R.CAP_RSENSE⟩,
   ⟨0x805006, 1, 1, fun _ => R.CAP_PERFMIN⟩,
   ⟨0x805007, 1, 1, fun _ => R.CAP_HOLDN⟩,
   ⟨0x805008, 1, 1, fun _ => R.CAP_THRN⟩,
   ⟨0x805009, 1, 1, fun _ => R.CAP_CUTN⟩,
   ⟨0x80500A, 1, 1, fun _ => R.CAP_RELAXN⟩,
   ⟨0x80500C, 2, 1, fun _ => R.CAP_PAVG⟩,
   ⟨0x80500E, 1, 1, fun _ => R.CAP_STAT⟩,
   ⟨0x80500F, 1, 1, fun _ => R.CAP_EVT⟩,
   ⟨0x805010, 4, 3, R.CAP_DROOP⟩,
   ⟨0x805011, 4, 3, R.CAP_MARGIN⟩,
   ⟨0x805012, 4, 3, R.CAP_SHAPE⟩,
   ⟨0x805020, 1, 1, fun _ => R.MP_CTRL⟩,
   ⟨0x805021, 1, 1, fun _ => R.MP_FLOOR⟩,
   ⟨0x805022, 1, 1, fun _ => R.MP_ACKTO⟩,
   ⟨0x805023, 1, 1, fun _ => R.MP_SHAPEMAX⟩,
   ⟨0x805024, 1, 2, R.MP_LEVEL⟩,
   ⟨0x805028, 4, 2, R.MP_FILLCNT⟩,
   ⟨0x805040, 8, 16, R.MP_PROF⟩,
   ⟨0x805100, 1, 1, fun _ => R.GOV_GRANT⟩,
   ⟨0x805102, 2, 8, R.GOV_DEFCNT⟩,
   ⟨0x805112, 2, 1, fun _ => R.GOV_EBAT⟩,
   ⟨0x805114, 2, 1, fun _ => R.GOV_RESERVE⟩,
   ⟨0x805116, 1, 1, fun _ => R.GOV_HORIZON⟩,
   ⟨0x805117, 1, 1, fun _ => R.GOV_RISE⟩,
   ⟨0x805118, 2, 8, R.GOV_CLASSPWR⟩]

/-- The registers of the block at 0x806000. -/
def rows806 : List RegRow :=
  [⟨0x806000, 0x40, 4, R.WHn_CTRL⟩,
   ⟨0x806010, 0x40, 4, R.WHn_FREQ_NOM⟩,
   ⟨0x806018, 0x40, 4, R.WHn_FREQ⟩,
   ⟨0x806002, 0x40, 4, R.WHn_STATE⟩,
   ⟨0x806003, 0x40, 4, R.WHn_STATE_CHG⟩,
   ⟨0x806008, 0x40, 4, R.WHn_PHASE⟩,
   ⟨0x806020, 0x40, 4, R.WHn_PERR⟩,
   ⟨0x806024, 0x40, 4, R.WHn_GAIN⟩,
   ⟨0x806025, 0x40, 4, R.WHn_MINPER⟩,
   ⟨0x806026, 0x40, 4, R.WHn_LOSS⟩,
   ⟨0x806027, 0x40, 4, R.WHn_NTHR⟩,
   ⟨0x806028, 0x40, 4, R.WHn_HOLD⟩,
   ⟨0x80602A, 0x40, 4, R.WHn_LOCKTOL⟩,
   ⟨0x80602B, 0x40, 4, R.WHn_STEPTHR⟩,
   ⟨0x80602C, 0x40, 4, R.WHn_REJCNT⟩,
   ⟨0x806030, 0x40, 4, R.WHn_REFANG⟩,
   ⟨0x806074, 3, 1, fun _ => R.W1_DIV⟩,
   ⟨0x806078, 4, 1, fun _ => R.W1_EPOCH⟩,
   ⟨0x806100, 8, 1, fun _ => R.TICKCNT⟩,
   ⟨0x806108, 2, 1, fun _ => R.DOORBELL_OVF⟩]

/-- The registers of the block at 0x807000. -/
def rows807 : List RegRow :=
  [⟨0x807000, 1, 1, fun _ => R.WEI_STAT⟩,
   ⟨0x807002, 2, 1, fun _ => R.WEI_RTO⟩,
   ⟨0x807004, 2, 1, fun _ => R.WEI_QSEL⟩,
   ⟨0x807008, 8, 1, fun _ => R.WEI_QREC⟩,
   ⟨0x807010, 1, 1, fun _ => R.WEI_QCMD⟩,
   ⟨0x807014, 2, 1, fun _ => R.WEI_GSEL⟩,
   ⟨0x807018, 4, 1, fun _ => R.WEI_GREC⟩,
   ⟨0x807020, 2, 8, R.WEI_CNT⟩,
   ⟨0x807030, 1, 1, fun _ => R.WEI_EVT⟩,
   ⟨0x807034, 4, 1, fun _ => R.WEI_REJFIFO⟩,
   ⟨0x807800, 0x40, 32, R.RND_CTRL⟩,
   ⟨0x807801, 0x40, 32, R.RND_OWNER⟩,
   ⟨0x807802, 0x40, 32, R.RND_NPART⟩,
   ⟨0x807803, 0x40, 32, R.RND_DB⟩,
   ⟨0x807804, 0x40, 32, R.RND_QIN⟩,
   ⟨0x807806, 0x40, 32, R.RND_QOUT⟩,
   ⟨0x807808, 0x40, 32, R.RND_INWIN⟩,
   ⟨0x80780A, 0x40, 32, R.RND_DEADLINE⟩,
   ⟨0x80780C, 0x40, 32, R.RND_RNUM⟩,
   ⟨0x80780E, 0x40, 32, R.RND_STATE⟩,
   ⟨0x80780F, 0x40, 32, R.RND_SAFELEN⟩,
   ⟨0x807810, 0x40, 32, R.RND_SAFE⟩,
   ⟨0x807814, 0x40, 32, R.RND_PRESENT⟩,
   ⟨0x807816, 0x40, 32, R.RND_MISSING⟩,
   ⟨0x807818, 0x40, 32, R.RND_NOTAPPLIED⟩,
   ⟨0x80781A, 0x40, 32, R.RND_NARND⟩,
   ⟨0x80781C, 0x40, 32, R.RND_LASTTAG⟩]

/-- The registers of the block at 0x808000. -/
def rows808 : List RegRow :=
  [⟨0x808000, 1, 1, fun _ => R.TLN_ROLE⟩,
   ⟨0x808001, 1, 1, fun _ => R.TLN_PMODE⟩,
   ⟨0x808002, 2, 1, fun _ => R.TLN_NODEID⟩,
   ⟨0x808004, 2, 1, fun _ => R.TLN_REQID⟩,
   ⟨0x808006, 1, 1, fun _ => R.TLN_STATE⟩,
   ⟨0x808007, 1, 1, fun _ => R.TLN_CMD⟩,
   ⟨0x808008, 1, 1, fun _ => R.SL_MISS⟩,
   ⟨0x808009, 1, 1, fun _ => R.SL_TIMEOUT⟩,
   ⟨0x80800A, 2, 1, fun _ => R.TLN_CONTOFF⟩,
   ⟨0x80800C, 1, 1, fun _ => R.TLN_JIT⟩,
   ⟨0x80800D, 1, 1, fun _ => R.TLN_JTO⟩,
   ⟨0x80800E, 2, 3, R.TLN_CABLE⟩,
   ⟨0x808014, 1, 1, fun _ => R.TLN_AUTH⟩,
   ⟨0x808016, 2, 1, fun _ => R.TLN_AUTHREQ⟩,
   ⟨0x808018, 4, 1, fun _ => R.TLN_SFCNT⟩,
   ⟨0x808020, 2, 10, R.TLN_CNT⟩,
   ⟨0x808040, 2, 1, fun _ => R.TLN_EVT⟩,
   ⟨0x808044, 16, 1, fun _ => R.TLN_JOINFIFO⟩,
   ⟨0x808058, 5, 1, fun _ => R.TLN_JREPLY⟩,
   ⟨0x808070, 16, 1, fun _ => R.TLN_KEY⟩,
   ⟨0x808200, 2, 256, R.TLN_SLOT⟩,
   ⟨0x808400, 1, 1024, R.TLN_PMAP⟩]

/-- The registers of the block at 0x809000. -/
def rows809 : List RegRow :=
  [⟨0x809000, 2, 1, fun _ => R.AUT_WIN⟩,
   ⟨0x809002, 1, 1, fun _ => R.AUT_HORIZON⟩,
   ⟨0x809004, 2, 1, fun _ => R.AUT_EPOCH⟩,
   ⟨0x809006, 2, 1, fun _ => R.AUT_ORIGINS⟩,
   ⟨0x809008, 4, 1, fun _ => R.AUT_BTN⟩,
   ⟨0x809010, 1, 1, fun _ => R.AUT_EVT⟩,
   ⟨0x809100, 1, 128, R.AUT_RANK⟩,
   ⟨0x809200, 4, 128, R.AUT_LOCK⟩]

/-- The registers of the block at 0x80A000. -/
def rows80A : List RegRow :=
  [⟨0x80A000, 1, 1, fun _ => R.LED_CTRL⟩,
   ⟨0x80A002, 2, 1, fun _ => R.LED_STAT⟩,
   ⟨0x80A004, 5, 1, fun _ => R.LED_NEXTSEQ⟩,
   ⟨0x80A00A, 1, 1, fun _ => R.LED_STAGED⟩,
   ⟨0x80A00C, 2, 1, fun _ => R.LED_REFCNT⟩,
   ⟨0x80A00E, 2, 1, fun _ => R.LED_UNRECCNT⟩,
   ⟨0x80A010, 1, 1, fun _ => R.LED_SEG⟩,
   ⟨0x80A014, 1, 1, fun _ => R.LED_EVT⟩,
   ⟨0x80A020, 16, 1, fun _ => R.LED_CHAINBASE⟩,
   ⟨0x80A800, 0x20, 64, R.LED_SEAL⟩]

/-- The registers of the block at 0x80B000. -/
def rows80B : List RegRow :=
  [⟨0x80B000, 1, 1, fun _ => R.NVM_CMD⟩,
   ⟨0x80B001, 1, 1, fun _ => R.NVM_STAT⟩,
   ⟨0x80B002, 1, 1, fun _ => R.NVM_RESULT⟩,
   ⟨0x80B004, 2, 1, fun _ => R.NVM_OWN⟩,
   ⟨0x80B008, 3, 1, fun _ => R.NVM_ADDR⟩,
   ⟨0x80B00C, 1, 1, fun _ => R.NVM_SUSCNT⟩,
   ⟨0x80B00E, 2, 1, fun _ => R.NVM_CORRCNT⟩,
   ⟨0x80B010, 32, 1, fun _ => R.NVM_DATA⟩,
   ⟨0x80B030, 4, 1, fun _ => R.NVM_ABORT⟩,
   ⟨0x80B034, 2, 1, fun _ => R.NVM_WPLIM⟩,
   ⟨0x80B036, 1, 1, fun _ => R.NVM_EVT⟩,
   ⟨0x80B038, 7, 1, fun _ => R.NVM_NWM⟩,
   ⟨0x80B400, 4, 512, R.NVM_ECNT⟩,
   ⟨0x80B100, 1, 1, fun _ => R.OTP_ALARM⟩,
   ⟨0x80B101, 1, 1, fun _ => R.OTP_ARB⟩,
   ⟨0x80B102, 2, 1, fun _ => R.OTP_SECT⟩,
   ⟨0x80B104, 1, 1, fun _ => R.OTP_CORRCNT⟩,
   ⟨0x80B108, 8, 1, fun _ => R.OTP_ROWERR⟩]

/-- The registers of the block at 0x80C000. -/
def rows80C : List RegRow :=
  [⟨0x80C000, 1, 1, fun _ => R.ENT_STATE⟩,
   ⟨0x80C001, 1, 1, fun _ => R.ENT_EVT⟩,
   ⟨0x80C002, 1, 1, fun _ => R.ENT_FAILCAUSE⟩,
   ⟨0x80C004, 1, 1, fun _ => R.ENT_RNGTMO⟩,
   ⟨0x80C006, 2, 1, fun _ => R.ENT_FAILCNT⟩,
   ⟨0x80C008, 4, 1, fun _ => R.ENT_RAW⟩,
   ⟨0x80C00C, 4, 1, fun _ => R.ENT_RESEEDS⟩]

/-- The registers of the block at 0x80D000. -/
def rows80D : List RegRow :=
  [⟨0x80D000, 0x10, 16, R.PEB_RULE 0⟩,
   ⟨0x80D200, 0x10, 16, R.PEB_RULE 1⟩,
   ⟨0x80D400, 0x10, 16, R.PEB_RULE 2⟩,
   ⟨0x80D600, 0x10, 16, R.PEB_RULE 3⟩,
   ⟨0x80D800, 0x10, 16, R.PEB_RULE 4⟩,
   ⟨0x80D00C, 0x10, 16, R.PEB_COUNT 0⟩,
   ⟨0x80D20C, 0x10, 16, R.PEB_COUNT 1⟩,
   ⟨0x80D40C, 0x10, 16, R.PEB_COUNT 2⟩,
   ⟨0x80D60C, 0x10, 16, R.PEB_COUNT 3⟩,
   ⟨0x80D80C, 0x10, 16, R.PEB_COUNT 4⟩,
   ⟨0x80D100, 0x200, 5, R.PEB_STAT⟩,
   ⟨0x80D102, 0x200, 5, R.PEB_OVF⟩,
   ⟨0x80DC00, 12, 1, fun _ => R.PEB_UNLOCK⟩,
   ⟨0x80DC10, 1, 1, fun _ => R.PEB_EN⟩,
   ⟨0x80DC11, 1, 1, fun _ => R.PEB_GSTAT⟩,
   ⟨0x80DC12, 1, 1, fun _ => R.PEB_MAXT⟩,
   ⟨0x80DC14, 4, 1, fun _ => R.PEB_UNLEXP⟩]

/-- The registers of the block at 0x80E000. -/
def rows80E : List RegRow :=
  [⟨0x80E000, 1, 1, fun _ => R.HIF_CTRL⟩,
   ⟨0x80E001, 1, 1, fun _ => R.HIF_I2CADDR⟩,
   ⟨0x80E002, 2, 1, fun _ => R.HIF_IRQ⟩,
   ⟨0x80E004, 2, 1, fun _ => R.HIF_IRQEN⟩,
   ⟨0x80E008, 1, 1, fun _ => R.HIF_LAST⟩,
   ⟨0x80E010, 5, 1, fun _ => R.HIF_MBOUT⟩,
   ⟨0x80E018, 6, 1, fun _ => R.HIF_MBIN⟩,
   ⟨0x80E020, 6, 1, fun _ => R.HIF_ORDREP⟩,
   ⟨0x80E026, 1, 1, fun _ => R.HIF_ORDOVF⟩,
   ⟨0x80E040, 2, 16, R.HIF_DBR⟩]

/-- The registers of the block at 0x80F000. -/
def rows80F : List RegRow :=
  [⟨0x80F000, 2, 1, fun _ => R.SIO_EVT⟩,
   ⟨0x80F010, 16, 1, fun _ => R.SIO_SDICMD⟩,
   ⟨0x80F020, 84, 1, fun _ => R.SIO_SDILINE⟩,
   ⟨0x80F080, 4, 1, fun _ => R.SIO_SDIRAW⟩,
   ⟨0x80F100, 0x40, 2, R.SIO_U⟩,
   ⟨0x80F200, 0x40, 2, R.SIO_IC⟩,
   ⟨0x80F280, 80, 1, fun _ => R.SIO_SPC0⟩,
   ⟨0x80F300, 4, 16, R.SIO_GP⟩,
   ⟨0x80F340, 1, 1, fun _ => R.SIO_EVTOE⟩,
   ⟨0x80F341, 1, 1, fun _ => R.SIO_EVTSET⟩,
   ⟨0x80F342, 1, 1, fun _ => R.SIO_EVTCLR⟩,
   ⟨0x80F343, 1, 1, fun _ => R.SIO_EVTOUT⟩]

/-- The registers of the block at 0x810000. -/
def rows810 : List RegRow :=
  [⟨0x810000, 1, 1, fun _ => R.WDN_STATUS⟩,
   ⟨0x810001, 1, 1, fun _ => R.WDN_EVENT⟩,
   ⟨0x810002, 2, 1, fun _ => R.WDN_MMCNT⟩,
   ⟨0x810004, 2, 1, fun _ => R.WDN_LASTCOMMIT⟩,
   ⟨0x810006, 2, 1, fun _ => R.WDN_EXCNT⟩,
   ⟨0x810008, 2, 1, fun _ => R.WDN_VERDICT⟩,
   ⟨0x81000A, 1, 1, fun _ => R.WDN_VTO⟩,
   ⟨0x81000C, 1, 1, fun _ => R.WDN_LOSTTO⟩,
   ⟨0x810100, 0x10, 14, R.WDN_ORD⟩]

/-- The registers of the block at 0x811000. -/
def rows811 : List RegRow :=
  [⟨0x811000, 8, 8, R.CORE_EXCADDR 0⟩,
   ⟨0x811040, 8, 8, R.CORE_EXCADDR 1⟩,
   ⟨0x811004, 8, 8, R.CORE_EXCMORE 0⟩,
   ⟨0x811044, 8, 8, R.CORE_EXCMORE 1⟩,
   ⟨0x811080, 2, 1, fun _ => R.CORE_DFAULT⟩]

/-- The registers of the block at 0x820000. -/
def rows820 : List RegRow :=
  [⟨0x820000, 0x10, 256, R.SLOT_B0⟩,
   ⟨0x820001, 0x10, 256, R.SLOT_B1⟩,
   ⟨0x820002, 0x10, 256, R.SLOT_B2⟩,
   ⟨0x820004, 0x10, 256, R.SLOT_B4⟩,
   ⟨0x82000F, 0x10, 256, R.SLOT_SKIPCNT⟩]

/-- The registers of the block at 0x840000. -/
def rows840 : List RegRow :=
  [⟨0x840000, 0x10, 16384, R.WEI_DESC⟩,
   ⟨0x84000C, 0x10, 16384, R.WEI_DESC_SEQ⟩]

/-- The register rows of a 4 KiB block, by its address divided by 0x1000 (07 R303). -/
def blockRows (b : Nat) : List RegRow :=
  if 0x840 ≤ b ∧ b < 0x880 then rows840 else
  match b with
  | 0x800 => rows800
  | 0x801 => rows801
  | 0x802 => rows802
  | 0x803 => rows803
  | 0x804 => rows804
  | 0x805 => rows805
  | 0x806 => rows806
  | 0x807 => rows807
  | 0x808 => rows808
  | 0x809 => rows809
  | 0x80A => rows80A
  | 0x80B => rows80B
  | 0x80C => rows80C
  | 0x80D => rows80D
  | 0x80E => rows80E
  | 0x80F => rows80F
  | 0x810 => rows810
  | 0x811 => rows811
  | 0x820 => rows820
  | _ => []

/-- The register of a row that covers address `a`. -/
def RegRow.at? (r : RegRow) (a : Nat) : Option Reg :=
  if a < r.base then none
  else
    let n := (a - r.base) / r.stride
    if n < r.count then
      let g := r.reg n
      if a < g.addr + g.width then some g else none
    else none

/-- The register that holds the byte at address `a`, when one does; a reserved offset has none (00 R24). -/
def regAt (a : Nat) : Option Reg := (blockRows (a / 0x1000)).findSome? (fun r => r.at? a)

end Sys2Proof.Machine
end

