-- ==== Sys2Proof/Machine/State.lean ====
section
/-!
DEFINITION. The state of the FQ7608 as plain data: the registers of the data map, the memories, and every piece of state
the spec names that no register shows; then the queue of waiting commands. The state after reset stands at the end.
-/
namespace Sys2Proof.Machine

/-- Why the machine stops with a fault. No command of this block does: every exception, refusal and status the spec names is
an effect on the state. -/
inductive Fault where
  deriving DecidableEq, Repr

/-- Why a command has no outcome. -/
inductive Refusal where
  /-- The command of that mnemonic has no meaning in this model yet. Raised by exec's arms alone. Safe: the machine stops. -/
  | notModelled (mnemonic : String)
  deriving DecidableEq, Repr

/-! ### Cores and threads (04, 05, 07, 08) -/

/-- A mailbox message: type and four payload bytes, byte 0 least significant (05 R257). -/
structure Msg where
  kind : Byte
  payload : Word
  deriving DecidableEq, Repr

/-- A long operation in progress: what the trigger captured (04 R174, 05 R208, R213). -/
structure LongOp where
  code : Nat
  a : Word
  b : Word
  /-- FPMODE in force at the trigger. -/
  fpmode : Nat := 0
  strict : Bool := false
  priv : Bool := false
  /-- The core's region windows in force at the trigger: 32 bytes. -/
  windows : List Nat := []
  pc : Index := 0
  slot : Nat := 0
  tag : Byte := 0
  /-- The bytes an enq read from its buffer at the trigger (07 R325). -/
  data : List Byte := []
  u5 : Byte := 0
  /-- A later bundle of the thread has issued (07 R321). -/
  later : Bool := false
  deriving DecidableEq, Repr

/-- One thread's port state of one function unit (04, function-unit port template). -/
structure UnitSt where
  op : Byte := 0
  a : Word := 0
  b : Word := 0
  q : Word := 0
  fl : Byte := 0
  u5 : Byte := 0
  u6 : Byte := 0
  /-- What source port u6 shows: the type of a received message, the round tag of a dequeued one. -/
  src6 : Byte := 0
  /-- Long operations triggered, modulo 16, and the TAG of the latest (05 R213). -/
  count : BitVec 4 := 0
  tag : Byte := 0
  /-- The long operation not yet retired. -/
  busy : Option LongOp := none
  err : Bool := false
  /-- The core cycle from which the latest short result is readable (04 R162). -/
  readyAt : Nat := 0
  deriving DecidableEq, Repr

/-- HALTED, ACTIVE or WAITING (04, threads and issue). -/
inductive Run where
  | halted | active | waiting
  deriving DecidableEq, Repr

/-- An exception raised and not yet entered (07 R338): cause, faulting unit, tag, bundle and slot, whether it came from a
long operation, the faulting address of a data-port access, the resume index. -/
structure Exc where
  cause : Byte
  fu : Byte := 0
  tag : Byte := 0
  pc : Index := 0
  slot : Nat := 0
  imprecise : Bool := false
  addr : Option Nat := none
  resume : Index := 0
  deriving DecidableEq, Repr

/-- What a thread that does not issue waits for beside its readiness. -/
inductive Hold where
  | none
  /-- CTL sync with a pending core-wide shadow (04 R172). -/
  | sync
  /-- CTL fence, or PRECISE: the long operations outstanding (05 R242, 07 R320). -/
  | fence
  /-- CTL halt waiting for its long operations (05 R246). -/
  | halt
  deriving DecidableEq, Repr

/-- A thread (04, 05, 07). -/
structure ThreadSt where
  run : Run := .halted
  pc : Index := 0
  cells : FMap Byte := []
  guards : BitVec 4 := 0
  priv : Bool := false
  fpmode : Byte := 0
  fpflags : Byte := 0
  waitmask : Byte := 0
  precise : Byte := 0
  lsuMode : Byte := 0
  handler : Index := 0
  excPc : Index := 0
  excSlot : Nat := 0
  imprecise : Bool := false
  prevPriv : Bool := false
  excCause : Byte := 0
  excFu : Byte := 0
  excTag : Byte := 0
  /-- Pending values of sync-required sockets, by socket (04 R170). -/
  shadow : FMap (Option Byte) := []
  /-- Pending values of RWS registers, by byte address (00 R18 to R20). -/
  regShadow : FMap (Option Byte) := []
  units : FMap UnitSt := []
  /-- The return stack, top first: index and PRIV (05 R243, 07 R339). -/
  stack : List (Index × Bool) := []
  doorbells : List Byte := []
  inbox : List Msg := []
  crcAcc : Word := 0
  /-- The TMR deadline in ticks of TICKCNT, and its expiry not yet consumed (05 R247, R248). -/
  deadline : Option Nat := none
  expired : Bool := false
  /-- TICKCNT[63:32] as the last rdtick latched it. -/
  tickHi : Word := 0
  /-- The core cycle before which the thread does not issue: Y, yield, an exception's entry cycle. -/
  notBefore : Nat := 0
  hold : Hold := .none
  /-- The bundle of the CTL halt or wait that the thread is in (07 R340). -/
  holdPc : Index := 0
  exc : Option Exc := none
  /-- A QUE operation has completed since the last wake (WAITMASK[2]). -/
  queDone : Bool := false
  deriving DecidableEq, Repr

/-- A main core (0, 1) or the Warden (2). -/
structure CoreSt where
  /-- CYCCNT, and the count that readiness is judged by. -/
  cyc : Nat := 0
  /-- The eight bytes that the last read of CYCCNT's byte 0 latched. -/
  cycLatch : Nat := 0
  /-- The thread last issued; the next is examined first (04 R159). -/
  last : Nat := 7
  /-- Committed core-scope CSR sockets 0xD0 to 0xF5, by socket. -/
  csr : FMap Nat := []
  /-- The core is held in reset (04 R167). -/
  held : Bool := true
  /-- The cycles from which fdiv or fsqrt is accepted again: FPH, FPS (05 R214). -/
  fphFree : Nat := 0
  fpsFree : Nat := 0
  /-- Thermal pause share, sixteenths, and the pause cycles left of the present unit (04 R178). -/
  pause : Nat := 0
  boost : Bool := false
  deriving DecidableEq, Repr

/-! ### Memories (07 R300 to R303, 08 R394, R395) -/

/-- The memories. An unlisted byte reads 0, of flash and of the Ledger bank 0xFF (DESIGN CHOICE, log entry 7). -/
structure MemSt where
  dmem : Mem := []
  imem : FMap Bundle := []
  wdmem : Mem := []
  wimem : FMap Bundle := []
  flash : Mem := []
  ledger : Mem := []
  weir : Mem := []
  deriving DecidableEq, Repr

/-! ### Orders (16) -/

/-- Where the outcome of an order goes. -/
inductive ReplyTo where
  | none
  | hostFifo (low : Byte)
  | thread (t : Nat)
  | node (port : Nat) (node : Nat)
  deriving DecidableEq, Repr

/-- An order or request in the route (16 R760). -/
structure OrderRec where
  origin : Nat := 0
  seq : Nat := 0
  ap : Nat := 0
  value : Nat := 0
  options : Nat := 0
  /-- Wheel state of an event-slot request, with bit 3 set for a request (08, WDN_ORD). -/
  wstate : Nat := 0
  reply : ReplyTo := .none
  deriving DecidableEq, Repr

/-! ### The Warden (08) -/

/-- The Warden beside its registers (08). -/
structure WdnSt where
  /-- Thread state of s0 to s3 at the last checkpoint (R364). -/
  saved : FMap ThreadSt := []
  /-- The undo log, newest first: address and old bytes of a store. -/
  undo : List (Nat × List Byte) := []
  /-- Messages the FQ7608 places, and messages of sendw (R387). -/
  inboxHw : List Msg := []
  inboxSw : List Msg := []
  /-- TICKCNT at the latest mismatches, newest first (R380). -/
  mmTimes : List Nat := []
  /-- The bit position of the next exercise (R372). -/
  exBit : Nat := 0
  /-- A vector was suppressed: rollback is in progress (R365). -/
  rollback : Bool := false
  /-- The policy entry of the image that runs (21 R960). -/
  entry : Index := 0
  /-- The orders that timed out, by handle, until the handle is used again (R393). -/
  timedOut : FMap (Option OrderRec) := []
  /-- phold holds the power hardware (05 R261). -/
  phold : Bool := false
  deriving DecidableEq, Repr

/-! ### Authority and Ledger (16) -/

/-- An accepted order held in a duplicate window (16 R762): its outcome and cause once decided. -/
structure HeldOrder where
  seq : Nat
  result : Option (Nat × Nat) := none
  /-- Answers owed to duplicates that came while it was in the route (16 R764). -/
  owed : List ReplyTo := []
  deriving DecidableEq, Repr

/-- The duplicate window of one origin. -/
structure OriginWin where
  high : Option Nat := none
  held : List HeldOrder := []
  /-- Station time of the last order that reached the window. -/
  last : Nat := 0
  deriving DecidableEq, Repr

/-- The authority arbiter (16). -/
structure AutSt where
  /-- Duplicate windows by origin. -/
  windows : FMap OriginWin := []
  /-- Open arbitration windows by actuation point: the orders in order of arrival; none is closed. -/
  arb : FMap (Option (List OrderRec)) := []
  /-- Latest sequence of the button's orders and of each origin's requests (R756, 05 R259). -/
  tickets : FMap Nat := []
  deriving DecidableEq, Repr

/-- A Ledger entry in staging (16 R776, R778). -/
structure LedEntry where
  /-- The Ledger sequence, once the boot ROM has set LED_NEXTSEQ. -/
  seq : Option Nat := none
  /-- Order of staging, for entries without a sequence. -/
  age : Nat := 0
  seconds : Nat := 0
  fraction : Nat := 0
  origin : Nat := 0
  object : Nat := 0
  old : Nat := 0
  new : Nat := 0
  outcome : Nat := 0
  oseq : Nat := 0
  cause : Nat := 0
  final : Bool := true
  /-- Written while the sequence is exhausted: never committed (16 R788). -/
  dead : Bool := false
  /-- The order the entry stands for, while it waits for its verdict. -/
  order : Option OrderRec := none
  /-- Origin and sequence of the undecided order that this duplicate repeats (R764). -/
  dup : Option (Nat × Nat) := none
  deriving DecidableEq, Repr

/-- The Ledger (16). -/
structure LedSt where
  /-- Staging entries by index: 0 to 13 for orders, 14 and 15 reserved. -/
  staging : FMap (Option LedEntry) := []
  /-- Staged so far, for the order of entries without a sequence. -/
  ages : Nat := 0
  /-- LED_NEXTSEQ has been set by the boot ROM since the AON reset (16 R789). -/
  seqSet : Bool := false
  /-- The next position index in the current segment; 128 when it is full. -/
  pos : Nat := 0
  /-- The segment being erased. -/
  erasing : Option Nat := none
  deriving DecidableEq, Repr

/-! ### Weir (14) -/

/-- The kind of a store entry. -/
inductive WeirKind where
  | data | fence
  | gap (reason : Nat) (span : Nat)
  | synthetic
  deriving DecidableEq, Repr

/-- An entry of a queue with its hidden tag (14 R656). -/
structure WeirEntry where
  kind : WeirKind
  seq : Nat := 0
  /-- First cell of the store and length in bytes of the message. -/
  cell : Nat := 0
  len : Nat := 0
  stamp : Option (Nat × Nat) := none
  rtag : Option Nat := none
  expiry : Nat := 0
  /-- Stored before a RESYNC: its sequence is of the numbering before (log entry 35). -/
  old : Bool := false
  deriving DecidableEq, Repr

/-- The AON record of a queue (14 R660). -/
structure QRec where
  sseq : Nat := 0
  rseq : Nat := 0
  pepoch : Nat := 0
  live : Bool := false
  pend : Bool := false
  resync : Bool := true
  deriving DecidableEq, Repr

/-- A group record (14 R673). -/
structure GroupRec where
  node : Nat := 0
  send : Bool := false
  bound : Bool := false
  stamp : Nat := 0
  deriving DecidableEq, Repr

/-- A fence outstanding (14 R672): its queue, partner and sequence, and per queue the next sequence when it was entered. -/
structure FenceRec where
  queue : Nat
  node : Nat
  seq : Nat
  marks : List (Nat × Nat) := []
  deriving DecidableEq, Repr

/-- The Weir engine (14). Records and groups are in AON, the rest in WEI. -/
structure WeirSt where
  qrec : FMap QRec := []
  groups : FMap GroupRec := []
  entries : FMap (List WeirEntry) := []
  rejFifo : List (Nat × Nat) := []
  fences : List FenceRec := []
  /-- Next sequence to transmit, per outbound queue. -/
  txNext : FMap Nat := []
  /-- Queues that owe an ACK. -/
  ackDue : List Nat := []
  /-- TICKCNT at the latest NACK of a queue. -/
  nackAt : FMap (Option Nat) := []
  /-- First fragment held per inbound queue (15 R709): sequence and bytes. -/
  frag : FMap (Option (Nat × List Byte)) := []
  /-- Sending groups whose GSYNC is still due (14 R676). -/
  gsyncDue : List Nat := []
  /-- Spans whose SKIP is due: queue, start, length, reason. -/
  skipDue : List (Nat × Nat × Nat × Nat) := []
  deriving DecidableEq, Repr

/-! ### Tarnline (15) -/

/-- One port's link state (15 R710 to R717). -/
structure PortSt where
  /-- Next HSEQ to send, next expected; frames sent and not yet acknowledged, oldest first. -/
  txSeq : BitVec 4 := 0
  rxSeq : BitVec 4 := 0
  window : List Frame := []
  /-- Frames that wait for the 20 µs of store-and-forward, and the forwarding buffer of 8. -/
  store : List Frame := []
  fwd : List Frame := []
  /-- Frames the port originates, in order of their making: NOTICE, ORDER_REPLY, STATUS, Weir control, joins and leaves. -/
  origin : List Frame := []
  /-- Frames the port has put on its line, newest first, each with whether Pebble damaged it (18 R879). -/
  sent : List (Frame × Bool) := []
  /-- The slot open on the port: its number, 256 for the contention slot; and the class 5 slot that follows it (R750). -/
  slot : Option Nat := none
  slotNext : Option Nat := none
  /-- A HACK is owed (R711). -/
  hackDue : Bool := false
  /-- The link has hop state: the child has sent a JOIN_REQ on it and neither end has declared the other absent (R714). -/
  alive : Bool := false
  /-- The Weir queue served last (R726). -/
  lastServed : Nat := 0
  deriving DecidableEq, Repr

/-- A join-table entry (15 R728): unique ID, port, nonce of the request. -/
structure JoinEnt where
  uid : Nat
  port : Nat
  nonce : Nat
  deriving DecidableEq, Repr

/-- The link layer (15). -/
structure TlnSt where
  ports : FMap PortSt := []
  /-- Outgoing port + 1 by descendant node ID; 0 none. -/
  routes : FMap Nat := []
  joinTable : List JoinEnt := []
  /-- TLN_JOINFIFO: entries of 16 bytes, oldest first. -/
  joinFifo : List (List Byte) := []
  /-- The unique ID of the JOIN_REQ last popped at the head and not yet answered. -/
  asked : Option Nat := none
  /-- Role and port modes in force; the registers may differ until the boundary (15 R746). -/
  role : Nat := 0
  pmode : Nat := 0
  /-- Set to HEAD and not yet beaconing (15 R699). -/
  listening : Bool := false
  /-- The outstanding JOIN_REQ's nonce, attempts made, attempts stopped. -/
  nonceJ : Option Nat := none
  attempts : Nat := 0
  stopped : Bool := false
  /-- N_h in force, and the session key derived from it. -/
  nonceH : Option Nat := none
  session : List Nat := []
  /-- The head's superframe count and the PRESENCE segment next flooded (15 R731). -/
  sfcount : Nat := 0
  presSeg : Nat := 0
  /-- The persistent counter of counter nonces, in AON (15 R743). -/
  nonceCtr : Nat := 0
  /-- Something has been sent on UP since the last contention slot (15 R733). -/
  spoke : Bool := false
  /-- The order outstanding on an order queue: its sequence (15 R735). -/
  orderOut : FMap (Option Nat) := []
  deriving DecidableEq, Repr

/-! ### Sequencer and restart engine (09) -/

/-- One domain beside its registers (09 R409, R410): its state code, its filtered PG, and whether it has passed BLANK, and
so reached ON, since its enable. Its timer's expiry is a command. -/
structure DomSt where
  state : Nat := 0
  pg : Bool := false
  passed : Bool := false
  deriving DecidableEq, Repr

/-- The restart engine's step (09 R440). -/
inductive Engine where
  | idle | waitHigh | backoff | latched
  deriving DecidableEq, Repr

/-- Sequencer and restart engine. -/
structure SeqSt where
  doms : FMap DomSt := []
  engine : Engine := .idle
  /-- WAIT_HIGH ends in a start without BACKOFF (R414, R444, R942, R974). -/
  direct : Bool := false
  /-- The reset kind of the next start of WRD (21 R952). -/
  kind : Nat := 1
  /-- FAULT_N: driven by this part, and held low by another. -/
  fnDrive : Bool := false
  fnLow : Bool := false
  /-- Parity-protected registers found bad and not yet rewritten: 2 × domain, + 1 for SEQ_DELAY (R448). -/
  parBad : List Nat := []
  /-- No domain starts or stops: a parity error was found with every domain OFF or ON (R448). -/
  frozen : Bool := false
  /-- The junction stands above the shutdown threshold (22 R989). -/
  hot : Bool := false
  deriving DecidableEq, Repr

/-! ### Channels, capping, supplies, charger, gauge (02, 10 to 13) -/

/-- A channel beside its registers (10). -/
structure ChnSt where
  /-- A slew, or the 100 µs after it: forced PWM; for a downward one the target from before it, in mV (R466, R467). -/
  slewing : Bool := false
  slewFrom : Option Nat := none
  /-- CH3: the limit stands at 3.0 A (R480). CH2: phase 2 is stopped (R483). -/
  fallen : Bool := false
  shed : Bool := false
  /-- CH6: the direction latched at its enable (R491, R494). -/
  dir : Nat := 0
  deriving DecidableEq, Repr

/-- Millpond's record of a main core (11 R522, R523, R527): a ramp in progress, the periods of hold left, the profile last
started, the profile of a ramp whose delay still runs, and the counts of the present period. -/
structure MpCore where
  rampUp : Bool := false
  hold : Nat := 0
  prof : Nat := 0
  due : Option Nat := none
  real : Nat := 0
  filler : Nat := 0
  /-- The core cycle in which the period began. -/
  start : Nat := 0
  deriving DecidableEq, Repr

/-- Cap engine and Millpond beside their registers (11). -/
structure CapSt where
  hold : Nat := 0
  overs : Nat := 0
  relax : Nat := 0
  cores : FMap MpCore := []
  /-- A CH2 ramp whose delay still runs: its profile (R528). -/
  fillDue : Option Nat := none
  /-- The hold of a CH2 ramp runs. -/
  fillHold : Bool := false
  /-- FILL was asserted and FILL_ACK has not followed; FILL_ACK is stuck (R531, R532). -/
  ackWait : Bool := false
  stuck : Bool := false
  /-- CH5 is limited at a shaped limit below CH5_ILIM (R535). -/
  shaping : Bool := false
  deriving DecidableEq, Repr

/-- Supplies and live insertion (02). -/
structure SupSt where
  /-- AON has left power-on reset (R76). -/
  up : Bool := false
  /-- Inputs that have been absent since the entry to SHIP (12 R602). -/
  armed : List Nat := []
  /-- Banks whose input edges are still ignored (R73). -/
  blanking : List Nat := []
  deriving DecidableEq, Repr

/-- The charger and power path beside their registers (12). -/
structure ChgSt where
  /-- The phase before WAIT was DONE (R582). -/
  prevDone : Bool := false
  /-- The present pulse counts (R589). -/
  counting : Bool := true
  /-- The phase began under gating, and a gate that ends it is due (R591 to R593). -/
  gated : Bool := false
  gateDue : Bool := false
  /-- The phase that a forced rest interrupts (R596). -/
  forced : Option Nat := none
  /-- NTC0 is open or short. -/
  ntcBad : Bool := false
  /-- Battery FET open after VBAT_UV, after VBAT_OV (R576 to R578). -/
  fetUv : Bool := false
  fetOv : Bool := false
  rp : RpAdvert := .none
  bc12 : Bc12 := .nothing
  detDone : Bool := false
  vocBusy : Bool := false
  /-- DOCK_SNS exceeds 4.0 V (R618). -/
  dock : Bool := false
  deriving DecidableEq, Repr

/-- The gauge and measurement beside their registers (13). -/
structure GauSt where
  /-- What GAU_QACC leaves over, in units of 1 nA·ms: from 0 to 3.6 × 10^9, one µAh (R628). -/
  remainder : Int := 0
  /-- The since-trip count (R642), in nA·ms. -/
  sinceTrip : Int := 0
  /-- The running ADC sequence and those pending, oldest first (R625). -/
  running : Option Nat := none
  queue : List Nat := []
  /-- The rest in progress: current before it in mA, VBAT just before and 1 ms after it began, in mV (R632). -/
  iBefore : Int := 0
  vBefore : Nat := 0
  vAfter : Nat := 0
  /-- A forced rest is in progress (R645). -/
  forced : Bool := false
  deriving DecidableEq, Repr

/-! ### Wheels and slots (03) -/

/-- One wheel beside its registers. -/
structure Wheel where
  frac : Nat := 0
  turn : Nat := 0
  /-- Frequency word in force, the integrator's word, the word of the last seed; none is FREQ_NOM. -/
  freq : Option Nat := none
  base : Option Nat := none
  seedWord : Option Nat := none
  /-- State code: 0 FREE, 1 ACQUIRE, 2 LOCKED, 3 HOLDOVER, 4 NOISY. -/
  state : Nat := 0
  /-- Tick of the last accepted edge; edges accepted in ACQUIRE; edges in tolerance in a row; outliers in a row. -/
  lastEdge : Option Nat := none
  acqEdges : Nat := 0
  inTol : Nat := 0
  outliers : Nat := 0
  /-- Frequency words at the latest accepted edges since FREE, newest first (03 R1016). -/
  words : List Nat := []
  /-- Ticks of rejected edges, newest first (03 R110). -/
  rejects : List Nat := []
  /-- The phase still to cover until the high-water mark of a backward step is passed (03 R126). -/
  back : Nat := 0
  /-- A step of the phase due at the next tick (03 R108, R1018), in 2^−48 turn. -/
  step : Option Int := none
  deriving DecidableEq, Repr

/-- One slot beside its entry (03 R115, R10). -/
structure SlotAux where
  /-- Turn boundaries still to come before the next qualifying turn; 0 while the present turn qualifies. -/
  count : Nat := 0
  /-- Arming origin (00 R10). -/
  origin : Nat := 0
  /-- Staged bytes 1 to 14, by byte; and byte 0 written with its writer's origin, to commit at the next tick. -/
  staged : FMap (Option Byte) := []
  commit : Option (Byte × Nat) := none
  disarm : Bool := false
  skipWrite : Option Byte := none
  deriving DecidableEq, Repr

/-- Phase wheels and event slots. -/
structure PhwSt where
  tick : Nat := 0
  wheels : FMap Wheel := []
  slots : FMap SlotAux := []
  /-- Slots that matched in the last tick, with the wheel state, whether as a catch-up. -/
  launched : List (Nat × Nat × Bool) := []
  /-- EVT output register and the ticks left of each pin's pulse. -/
  pulses : FMap Nat := []
  /-- A written SYS_TIME, and its writer's origin (01 R62). -/
  sysTime : Option Nat := none
  /-- CK_LF sub-second count, 0 to 32,767. -/
  lfSub : Nat := 0
  deriving DecidableEq, Repr

/-! ### NVM, OTP, entropy, Pebble (17, 18) -/

/-- An NVM command in progress. -/
structure NvmCmd where
  code : Nat
  addr : Nat
  data : List Byte := []
  /-- Staging entry of a logged command. -/
  entry : Option Nat := none
  deriving DecidableEq, Repr

/-- NVM and OTP (17). -/
structure NvmSt where
  cmd : Option NvmCmd := none
  /-- The antifuse rows: 128 data bits each. -/
  otp : FMap Nat := []
  /-- The rows as sensed, in WRD (17 R800, R806). -/
  shadow : FMap Nat := []
  /-- What the array senses as: rows with a double-bit error, rows with a corrected one (R801). No command changes it. -/
  badRows : List Nat := []
  corrRows : List Nat := []
  /-- Flash granules (address / 16) with a double-bit error, and with a corrected one (R819). An erase clears them. -/
  flashBad : List Nat := []
  flashCorr : List Nat := []
  /-- Granules programmed with 0xFF in every byte since their erase (R820). -/
  filled : List Nat := []
  /-- The receiver epoch in the persistent record, if it holds a valid one; both information sectors are worn
  (R839, R842). -/
  epochRec : Option Nat := none
  infoWorn : Bool := false
  deriving DecidableEq, Repr

/-- Entropy source and DRBG (18). -/
structure EntSt where
  /-- Key and V of the CTR_DRBG, 16 bytes each, once instantiated. -/
  key : List Nat := []
  v : List Nat := []
  /-- The output buffer, oldest byte first (R860). -/
  buffer : List Byte := []
  /-- The fallback LFSRs: cores 0 and 1, ports 2 to 4, Pebble instances 5 to 9 (R868). -/
  lfsr : FMap Nat := []
  deriving DecidableEq, Repr

/-- What passes through a Pebble instance: a link frame, damaged or whole, or a host transaction's bytes from the command
byte on. -/
inductive PebItem where
  | link (f : Frame) (bad : Bool)
  | host (bytes : List Byte)
  deriving DecidableEq, Repr

/-- A frame that Pebble holds back: reorder holds it until `left` further frames have passed, delay (0) until its time. -/
structure PebHeld where
  inst : Nat
  rx : Bool
  item : PebItem
  left : Nat
  deriving DecidableEq, Repr

/-- Pebble fault injection (18). -/
structure PebSt where
  /-- An accepted unlock is in force (R871). -/
  unlocked : Bool := false
  held : List PebHeld := []
  /-- TICKCNT at the latest refused unlock (R873). -/
  refusedAt : Option Nat := none
  /-- Frames matched by an every-nth rule, by 16 × instance + rule (R879). -/
  ctr : FMap Nat := []
  deriving DecidableEq, Repr

/-! ### Host and ports (19), modes (20), JTAG -/

/-- The host target (19). -/
structure HifSt where
  outbox : List Msg := []
  replies : List (List Byte) := []
  lastCmd : Byte := 0
  /-- The read waiting for its data: port, address, length. -/
  pendingRead : Option (HostPort × Nat × Nat) := none
  /-- What the last transaction returned to the host, first byte first; on SPI before it the status byte that MISO carried
  during the command byte (R897). -/
  response : List Byte := []
  misoStatus : Byte := 0
  /-- Transactions aborted by a stuck HSPI_CS_N (02 R86). -/
  aborts : Nat := 0
  /-- SEQ_FREC.COUNT has changed since SEQ_FREC was read (19 R905). -/
  frecNew : Bool := false
  deriving DecidableEq, Repr

/-- An SDI-12 command in progress (19 R912, R913). -/
structure SdiCmd where
  /-- The command firmware gave, and the text now on the bus: it, or one of the data commands that follow it. -/
  text : List Byte
  now : List Byte
  /-- Attempts made of the text now on the bus, and retries of the present data line. -/
  attempts : Nat := 1
  retries : Nat := 0
  /-- 0 waiting for the reply, 1 waiting for the service request or ttt, 2 collecting data. -/
  phase : Nat := 0
  /-- Values promised and collected, and the number of the present data command. -/
  expect : Nat := 0
  got : Nat := 0
  index : Nat := 0
  deriving DecidableEq, Repr

/-- A sentence of the NMEA assist (19 R918): status, TICKCNT[31:0] of its start character, text. -/
structure NmeaRec where
  status : Byte
  tick : Word
  text : List Byte
  deriving DecidableEq, Repr

/-- Sensor ports (19). -/
structure SioSt where
  sdi : Option SdiCmd := none
  /-- Address and TICKCNT of the end of the latest response (R912). -/
  sdiLast : Option (Byte × Nat) := none
  /-- What has been sent on SDI-12, newest first: whether a break came before it, and the characters. -/
  sdiSent : List (Bool × List Byte) := []
  /-- The line FIFO of 4, each entry as SIO_SDILINE shows it. -/
  lines : List (List Byte) := []
  /-- Receive and transmit FIFOs of 64 bytes, and breaks reported, by UART. -/
  uartRx : FMap (List Byte) := []
  uartTx : FMap (List Byte) := []
  uartBreaks : FMap Nat := []
  nmea : List NmeaRec := []
  nmeaDropped : Nat := 0
  /-- A transfer runs; its result and the bytes received, once it has ended; by controller. -/
  icBusy : FMap Bool := []
  icResult : FMap (Option IcResult) := []
  icData : FMap (List Byte) := []
  spcBusy : Bool := false
  spcData : Option (List Byte) := none
  /-- Levels of GP0 to GP15, a bit each. -/
  gpioIn : Nat := 0
  /-- Pins within their rate limit; those of them with a coalesced doorbell; edges coalesced, by pin (02 R86). -/
  gpioLimited : List Nat := []
  gpioHeld : List Nat := []
  gpioCoalesced : FMap Nat := []
  deriving DecidableEq, Repr

/-- JTAG (19 R925 to R927). -/
structure JtagSt where
  /-- The bypass register, and the identification code as last captured. -/
  bypass : Bool := false
  idcode : Nat := 0
  /-- What the boundary cells captured of the pins, what has been shifted into them, and what EXTEST drives from them. -/
  captured : Nat := 0
  boundary : Nat := 0
  driven : Option Nat := none
  deriving DecidableEq, Repr

/-- Power state and boot (20, 21). -/
structure ModeSt where
  /-- 0 RUN, 1 DOZE, 2 entering HIBERNATE, 3 HIBERNATE, 4 waiting to enter SHIP or stopping its domains, 5 SHIP. -/
  power : Nat := 0
  /-- SHIP entry waits for SHIP_WAKE_N (12 R600 step 2). -/
  deferred : Bool := false
  /-- A wake that became pending during HIBERNATE entry: its cause code (20 R949). -/
  wakePend : Option Nat := none
  /-- SHIP_WAKE_N is low after a press (02 R86). -/
  shipLow : Bool := false
  /-- LOAD_MAIN waits for CPU to reach ON, in this thread (21 R967). -/
  loadMain : Option Nat := none
  /-- DOZE has ended and the comparator exercise that precedes the Warden's next bundle is still to come (20 R939). -/
  exDue : Bool := false
  /-- CK_LF runs from the crystal (22 R1010). -/
  crystal : Bool := false
  deriving DecidableEq, Repr

/-- Everything of the FQ7608 but the queue of commands. -/
structure Chip where
  /-- Registers of the data map by the address of their byte 0; an unlisted one holds its reset value. -/
  regs : FMap Nat := []
  /-- The readers' latches (00 R1012): 2^24 × kind of reader + address. -/
  latch : FMap Byte := []
  mem : MemSt := {}
  cores : FMap CoreSt := []
  threads : FMap ThreadSt := []
  wdn : WdnSt := {}
  aut : AutSt := {}
  led : LedSt := {}
  weir : WeirSt := {}
  tln : TlnSt := {}
  seq : SeqSt := {}
  chn : FMap ChnSt := []
  cap : CapSt := {}
  sup : SupSt := {}
  chg : ChgSt := {}
  gau : GauSt := {}
  phw : PhwSt := {}
  nvm : NvmSt := {}
  ent : EntSt := {}
  peb : PebSt := {}
  hif : HifSt := {}
  sio : SioSt := {}
  jtag : JtagSt := {}
  mode : ModeSt := {}
  /-- The model's own: how many free values the run has taken. -/
  free : Nat := 0
  deriving DecidableEq, Repr

/-- The machine: the commands that wait, first in first out, and the chip. -/
structure State where
  pending : List Instr
  chip : Chip
  deriving DecidableEq, Repr

/-- The outcome of a command. -/
abbrev Out := Host.Outcome State Fault Refusal

/-- The machine with its power-on reset of AON in progress: every register at its reset value, nothing started. -/
def State.reset : State := ⟨[], {}⟩

end Sys2Proof.Machine
end

