-- ==== Sys2Proof/Machine/Ops.lean ====
section
/-!
DEFINITION. The named operations every family uses: reading and changing a register, a thread, a memory; event bits with
their doorbells; domain power; Ledger staging; the Warden inbox.
-/
namespace Sys2Proof.Machine

/-! ### Registers -/

/-- The value a register holds. -/
def Chip.rd (c : Chip) (r : Reg) : Nat := FMap.get r.reset c.regs r.addr

/-- A register set to `v`, cut to its width. -/
def Chip.wr (c : Chip) (r : Reg) (v : Nat) : Chip :=
  { c with regs := FMap.set r.reset c.regs r.addr (v % 256 ^ r.width) }

/-- Bit `i` of a register. -/
def Chip.rbit (c : Chip) (r : Reg) (i : Nat) : Bool := bit (c.rd r) i

/-- A field of a register. -/
def Chip.rfld (c : Chip) (r : Reg) (lo w : Nat) : Nat := fld (c.rd r) lo w

/-- Bit `i` of a register set or cleared. -/
def Chip.wbit (c : Chip) (r : Reg) (i : Nat) (b : Bool) : Chip := c.wr r (putBit (c.rd r) i b)

/-- A field of a register replaced. -/
def Chip.wfld (c : Chip) (r : Reg) (lo w x : Nat) : Chip := c.wr r (putFld (c.rd r) lo w x)

/-- A counter register raised by one, saturating. -/
def Chip.inc (c : Chip) (r : Reg) : Chip := c.wr r (satInc (8 * r.width) (c.rd r))

/-- The registers of a list set, first to last. -/
def Chip.wrs (c : Chip) (l : List (Reg × Nat)) : Chip := l.foldl (fun c p => c.wr p.1 p.2) c

/-- Every register that a domain holds back at its reset value (00 R18). -/
def Chip.resetRegs (c : Chip) (d : Dom) : Chip :=
  { c with regs := c.regs.filter (fun e => match regAt e.1 with | some r => !decide (r.dom = d) | none => true)
           latch := c.latch.filter (fun e => match regAt (e.1 % 2 ^ 24) with | some r => !decide (r.dom = d) | none => true) }

/-! ### Domains (01 R40) -/

/-- Domain indices. -/
def dWRD : Nat := 0
def dCPU : Nat := 1
def dWEI : Nat := 2
def dLNK : Nat := 3
def dAFE : Nat := 4

/-- The sequencer's record of a domain. -/
def Chip.dom (c : Chip) (x : Nat) : DomSt := FMap.get {} c.seq.doms x

/-- The record changed; SEQ_STATE and SEQ_ON show it. -/
def Chip.setDom (c : Chip) (x : Nat) (d : DomSt) : Chip :=
  let c := { c with seq := { c.seq with doms := FMap.set {} c.seq.doms x d } }
  let c := c.wr (R.SEQ_STATE x) d.state
  c.wbit R.SEQ_ON x (decide (4 ≤ d.state))

/-- A domain is enabled in RAMP, BLANK, ON, STOP_WAIT and OFF_DELAY (09 R405). -/
def Chip.domOn (c : Chip) (x : Nat) : Bool := decide (2 ≤ (c.dom x).state)

/-- WRD is enabled. -/
def Chip.wrdOn (c : Chip) : Bool := c.domOn dWRD

/-- The domain that owns a register is on (07 R306). -/
def Chip.regOn (c : Chip) (r : Reg) : Bool :=
  match r.dom with
  | .aon => true
  | .nv => c.wrdOn
  | .wrd => c.wrdOn
  | .cpu => c.domOn dCPU
  | .wei => c.domOn dWEI
  | .lnk => c.domOn dLNK
  | .afe => c.domOn dAFE

/-! ### Threads, units, cores -/

/-- A thread's state. -/
def Chip.thr (c : Chip) (t : Nat) : ThreadSt := FMap.get {} c.threads t

/-- A thread's state replaced. -/
def Chip.setThr (c : Chip) (t : Nat) (x : ThreadSt) : Chip := { c with threads := FMap.set {} c.threads t x }

/-- A thread's state changed. -/
def Chip.updThr (c : Chip) (t : Nat) (f : ThreadSt → ThreadSt) : Chip := c.setThr t (f (c.thr t))

/-- A thread's port state of a unit; units are numbered (base − 0x40) / 8 (05 R213). -/
def ThreadSt.unit (x : ThreadSt) (u : Nat) : UnitSt := FMap.get {} x.units u

/-- A thread's port state of a unit replaced. -/
def ThreadSt.setUnit (x : ThreadSt) (u : Nat) (s : UnitSt) : ThreadSt := { x with units := FMap.set {} x.units u s }

/-- The port state of unit `u` of thread `t`. -/
def Chip.unit (c : Chip) (t u : Nat) : UnitSt := (c.thr t).unit u

/-- The port state of unit `u` of thread `t` replaced. -/
def Chip.setUnit (c : Chip) (t u : Nat) (s : UnitSt) : Chip := c.setThr t ((c.thr t).setUnit u s)

/-- The core of a thread: 0, 1, or 2 for the Warden. -/
def coreOf (t : Nat) : Nat := t / 8

/-- A core's state. -/
def Chip.core (c : Chip) (k : Nat) : CoreSt := FMap.get {} c.cores k

/-- A core's state changed. -/
def Chip.updCore (c : Chip) (k : Nat) (f : CoreSt → CoreSt) : Chip :=
  { c with cores := FMap.set {} c.cores k (f (c.core k)) }

/-- The threads of a core. -/
def threadsOf (k : Nat) : List Nat := if k = 2 then [16, 17, 18, 19] else [8 * k, 8 * k + 1, 8 * k + 2, 8 * k + 3, 8 * k + 4, 8 * k + 5, 8 * k + 6, 8 * k + 7]

/-- The thread runs on the Warden. -/
def isWarden (t : Nat) : Bool := decide (16 ≤ t)

/-- Origin code of a main-core thread (01 R755); the Warden's is 0x0001. -/
def originOf (t : Nat) : Nat := if isWarden t then 1 else 0x10 + t

/-- Whether the thread is privileged; the Warden's threads always are (04 R190). -/
def Chip.isPriv (c : Chip) (t : Nat) : Bool := isWarden t || (c.thr t).priv

/-- A thread that starts (04 R168): everything of its own at the reset value, at bundle `pc`; its inbox stays. -/
def ThreadSt.start (x : ThreadSt) (pc : Index) (priv : Bool) : ThreadSt :=
  { run := .active, pc := pc, priv := priv, inbox := x.inbox }

/-- The reset value of a core-scope CSR socket (04, CSR sockets). -/
def csrReset (s : Nat) : Nat := if s = 0xF1 then 4 else if s = 0xF2 then 125 else if s = 0xF3 then 110 else if s = 0xF4 then 125 else 0

/-- The committed value of a core-scope CSR socket. -/
def CoreSt.csrv (k : CoreSt) (s : Nat) : Nat := FMap.get (csrReset s) k.csr s

/-- A core-scope CSR socket set. -/
def CoreSt.setCsr (k : CoreSt) (s v : Nat) : CoreSt := { k with csr := FMap.set (csrReset s) k.csr s v }

/-! ### Event bits and doorbells (19 R905 to R907, 03 R121) -/

/-- A byte placed in a thread's doorbell queue of 8; a full queue loses it and sets DOORBELL_OVF (03 R121). The second
part says that it was lost. While CPU is off there is no queue. -/
def Chip.doorbell (c : Chip) (t : Nat) (b : Byte) : Chip × Bool :=
  let x := c.thr t
  if !c.domOn dCPU then (c, false)
  else if x.doorbells.length < 8 then (c.setThr t { x with doorbells := x.doorbells ++ [b] }, false)
  else (c.wbit R.DOORBELL_OVF t true, true)

/-- The route's byte of event source k placed in its thread's queue, when the route is enabled (19 R907). -/
def Chip.route (c : Chip) (k : Nat) : Chip :=
  let r := c.rd (R.HIF_DBR k)
  if bit r 0 then (c.doorbell (fld r 1 1 * 8 + fld r 2 3) (BitVec.ofNat 8 (fld r 8 8))).1 else c

/-- Event bits set in a register of source k; a bit gained raises the doorbell (19 R907). -/
def Chip.event (c : Chip) (k : Nat) (r : Reg) (bits : Nat) : Chip :=
  let old := c.rd r
  if old ||| bits = old then c else (c.wr r (old ||| bits)).route k

/-- The pending bit of event source k (19 R905). -/
def Chip.irqSource (c : Chip) (k : Nat) : Bool :=
  let nz (r : Reg) : Bool := !(c.rd r == 0)
  match k with
  | 0 => nz R.SYS_SUPPLY_CHG
  | 1 => [0, 1, 2, 3].any (fun n => nz (R.WHn_STATE_CHG n))
  | 2 => nz R.CORE_DFAULT
  | 3 => nz R.WDN_EVENT
  | 4 => nz R.SEQ_PARERR || c.hif.frecNew
  | 5 => [0, 1, 2, 3, 4, 5, 6, 7].any (fun n => nz (R.CHn_TRIP n))
  | 6 => nz R.CHG_EVT
  | 7 => nz R.GAU_EVT
  | 8 => nz R.WEI_EVT
  | 9 => nz R.TLN_EVT
  | 10 => nz R.AUT_EVT || nz R.LED_EVT
  | 11 => nz R.NVM_EVT || nz R.OTP_ALARM
  | 12 => nz R.ENT_EVT
  | 13 => !c.hif.outbox.isEmpty
  | 14 => !c.hif.replies.isEmpty
  | 15 => nz R.SIO_EVT
  | _ => false

/-- HIF_IRQ (19 R905). -/
def Chip.irq (c : Chip) : Nat :=
  (List.range 16).foldl (fun a k => a + b2n (c.irqSource k) * 2 ^ k) 0

/-- IRQ_N is asserted (19 R906). -/
def Chip.irqN (c : Chip) : Bool := !(c.irq &&& c.rd R.HIF_IRQEN == 0)

/-! ### Inboxes -/

/-- A message in a thread's inbox; a full one takes none. A main-core inbox has 8 entries; the Warden's holds 32 messages
beside those the FQ7608 places (05 R258). -/
def Chip.toInbox (c : Chip) (t : Nat) (m : Msg) : Option Chip :=
  if isWarden t then
    (if c.wdn.inboxSw.length < 32 then some { c with wdn := { c.wdn with inboxSw := c.wdn.inboxSw ++ [m] } } else none)
  else if !c.domOn dCPU then none
  else
    let x := c.thr t
    if x.inbox.length < 8 then some (c.setThr t { x with inbox := x.inbox ++ [m] }) else none

/-- Payload byte `i` of a message. -/
def Msg.byte (m : Msg) (i : Nat) : Nat := fld m.payload.toNat (8 * i) 8

/-- A hardware message with the payload bytes given. -/
def hwMsg (kind b0 b1 b2 b3 : Nat) : Msg :=
  ⟨BitVec.ofNat 8 kind, BitVec.ofNat 32 (b0 % 256 + 256 * (b1 % 256) + 65536 * (b2 % 256) + 16777216 * (b3 % 256))⟩

/-- An unread message that a new hardware message replaces (08 R388). -/
def Msg.replacedBy (old new : Msg) : Bool :=
  match new.kind.toNat with
  | 0x81 => (old.kind.toNat == 0x80 || old.kind.toNat == 0x81) && old.byte 3 == new.byte 3
  | 0x83 => (new.byte 0 == 1 || new.byte 0 == 2) && old.kind.toNat == 0x83 && (old.byte 0 == 1 || old.byte 0 == 2)
  | 0x84 => old.kind.toNat == 0x84
  | _ => false

/-- A new message that is not added because an unread one is like it (08 R388). -/
def Msg.repeats (new old : Msg) : Bool :=
  (new.kind.toNat == 0x82 || new.kind.toNat == 0x85 || (new.kind.toNat == 0x83 && (new.byte 0 == 3 || new.byte 0 == 4)))
    && old.kind == new.kind && old.byte 0 == new.byte 0

/-- A message the FQ7608 places in the hardware part of the Warden inbox (08 R387, R388). -/
def Chip.toWarden (c : Chip) (m : Msg) : Chip :=
  let q := c.wdn.inboxHw
  if q.any (fun o => m.repeats o) then c
  else if q.any (fun o => o.replacedBy m) then
    { c with wdn := { c.wdn with inboxHw := q.filter (fun o => !o.replacedBy m) ++ [m] } }
  else if q.length < 24 then { c with wdn := { c.wdn with inboxHw := q ++ [m] } }
  else c

/-! ### Ledger staging (16 R776 to R779, 01 R55 to R57) -/

/-- The staging entry at an index. -/
def Chip.entry (c : Chip) (i : Nat) : Option LedEntry := FMap.get none c.led.staging i

/-- The staging entry at an index replaced. -/
def Chip.setEntry (c : Chip) (i : Nat) (e : Option LedEntry) : Chip :=
  { c with led := { c.led with staging := FMap.set none c.led.staging i e } }

/-- The lowest free index among those given. -/
def Chip.freeEntry (c : Chip) (l : List Nat) : Option Nat := l.find? (fun i => (c.entry i).isNone)

/-- The indices of order entries. -/
def orderEntries : List Nat := [0, 1, 2, 3, 4, 5, 6, 7, 8, 9, 10, 11, 12, 13]

/-- Staging entries in use. -/
def Chip.staged (c : Chip) : Nat := ((orderEntries ++ [14, 15]).filter (fun i => (c.entry i).isSome)).length

/-- The next Ledger sequence would be 2^40 − 1 (16 R788). -/
def Chip.exhausted (c : Chip) : Bool := c.led.seqSet && c.rd R.LED_NEXTSEQ == 2 ^ 40 - 1

/-- W3 fraction [47:16] at staging; until W3 has loaded at WRD power-up, the CK_LF sub-second count × 2^17 (16 R776). -/
def Chip.ledFraction (c : Chip) : Nat :=
  if 4 ≤ (c.dom dWRD).state then (FMap.get ({} : Wheel) c.phw.wheels 3).frac / 2 ^ 16 else c.phw.lfSub * 2 ^ 17

/-- An entry as it enters staging at index `i`: time, and the next Ledger sequence when the boot ROM has set it
(16 R778, R788). -/
def Chip.putEntry (c : Chip) (i : Nat) (e : LedEntry) : Chip :=
  let dead := c.exhausted
  let e := { e with seconds := c.rd R.SYS_TIME, fraction := c.ledFraction, age := c.led.ages, dead := dead
                    seq := if c.led.seqSet && !dead then some (c.rd R.LED_NEXTSEQ) else none }
  let c := { c with led := { c.led with ages := c.led.ages + 1 } }
  let c := if c.led.seqSet && !dead then c.wr R.LED_NEXTSEQ (c.rd R.LED_NEXTSEQ + 1) else c
  c.setEntry i (some e)

/-- A hardware action staged: a reserved entry while one is free, else a free order entry, else counted as unrecorded
(01 R55, R57). -/
def Chip.stageHw (c : Chip) (object old new cause : Nat) : Chip :=
  let e : LedEntry := { object := object, old := old, new := new, outcome := 5, cause := cause }
  match c.freeEntry [14, 15] with
  | some i => c.putEntry i e
  | none =>
    match c.freeEntry orderEntries with
    | some i => c.putEntry i e
    | none => c.inc R.LED_UNRECCNT

/-- As stageHw, with an origin of its own. -/
def Chip.stageHwAs (c : Chip) (origin object old new cause : Nat) : Chip :=
  let e : LedEntry := { origin := origin, object := object, old := old, new := new, outcome := 5, cause := cause }
  match c.freeEntry [14, 15] with
  | some i => c.putEntry i e
  | none =>
    match c.freeEntry orderEntries with
    | some i => c.putEntry i e
    | none => c.inc R.LED_UNRECCNT

/-- A final order entry staged, or LED_REFCNT raised when none is free (16 R779). While the sequence is exhausted nothing is
written and nothing counted (16 R788). -/
def Chip.stageLoser (c : Chip) (e : LedEntry) : Chip :=
  if c.exhausted then c.event 10 R.LED_EVT 4
  else
    match c.freeEntry orderEntries with
    | some i => c.putEntry i e
    | none => c.inc R.LED_REFCNT

/-- An entry of a logged register write or command staged, or none when none is free (16 R1014): LED_REFCNT counts the
refusal, but not while the sequence is exhausted. -/
def Chip.stageWrite (c : Chip) (e : LedEntry) : Chip × Bool :=
  if c.exhausted then (c.event 10 R.LED_EVT 4, false)
  else
    match c.freeEntry orderEntries with
    | some i => (c.putEntry i e, true)
    | none => (c.inc R.LED_REFCNT, false)

/-- The object of a register write (16 R777): block position and word offset. -/
def regObject (addr : Nat) : Nat := 0x8000 + 0x400 * (addr / 0x1000 - 0x800) + addr % 0x1000 / 4

/-- Cause codes of 16 R775, in bits [15:8]. -/
def cause (code detail : Nat) : Nat := code * 256 + detail % 256

/-! ### Memories -/

/-- What an unlisted byte of flash, and of the Ledger bank, holds: erased (log entry 7). -/
def erased : Byte := 0xFF

/-- A free byte: its number is counted (log entry 9). -/
def Chip.takeFree (c : Chip) : Byte × Chip := (Config.freeByte c.free, { c with free := c.free + 1 })

/-- A free number. -/
def Chip.takeFreeNat (c : Chip) : Nat × Chip := (Config.freeNat c.free, { c with free := c.free + 1 })

/-- Wheel `n`; a wheel never listed is as after WRD power-on reset. -/
def Chip.wheel (c : Chip) (n : Nat) : Wheel := FMap.get {} c.phw.wheels n

/-- Wheel `n` replaced. -/
def Chip.setWheel (c : Chip) (n : Nat) (w : Wheel) : Chip := { c with phw := { c.phw with wheels := FMap.set {} c.phw.wheels n w } }

/-- The Warden's state code: 0 CHECKED, 1 UNCHECKED, 2 LOST (08). -/
def Chip.wdnState (c : Chip) : Nat := c.rfld R.WDN_STATUS 0 2

/-- Policy is running (21). -/
def Chip.policyOn (c : Chip) : Bool := c.wrdOn && c.rbit R.WDN_STATUS 2

/-- The 16 bytes of a sensed OTP row, least significant first (17 R803). -/
def Chip.otpBytes (c : Chip) (r : Nat) : List Nat := natBytes (leBytes 16 (FMap.get 0 c.nvm.shadow r))

/-- The boot policy section is FAILED. -/
def Chip.policyFailed (c : Chip) : Bool := c.rfld R.OTP_SECT 4 2 == 2
/-- JTAG is locked (R798, R805). -/
def Chip.jtagLocked (c : Chip) : Bool := c.policyFailed || bit (FMap.get 0 c.nvm.shadow 16) 2
/-- The field-debug fuse is blown (R798, R805). -/
def Chip.fieldDebugBlown (c : Chip) : Bool := c.policyFailed || bit (FMap.get 0 c.nvm.shadow 16) 3
/-- Pebble is unlocked by the fuse (18 R871). -/
def Chip.fuseUnlock (c : Chip) : Bool := !c.fieldDebugBlown

/-- Pebble is unlocked, by the fuse or by an accepted unlock (18 R871). -/
def Chip.pebUnlocked (c : Chip) : Bool := c.fuseUnlock || c.peb.unlocked

/-- The frequency word of a register, cut at 2^40 (03 R95). -/
def capWord (f : Nat) : Nat := if f < 2 ^ 40 then f else 2 ^ 40

/-- A wheel's phase as turn × 2^48 + fraction; W1 follows from W3 and station time (03 R94, R96). -/
def Chip.phase (c : Chip) (n : Nat) : Nat :=
  if n = 1 then
    let d := max 1 (c.rd R.W1_DIV)
    let se := (c.rd R.SYS_TIME + 2 ^ 32 - c.rd R.W1_EPOCH) % 2 ^ 32
    se / d % 2 ^ 16 * 2 ^ 48 + (se % d * 2 ^ 48 + (c.wheel 3).frac) / d
  else (c.wheel n).turn * 2 ^ 48 + (c.wheel n).frac

/-- A wheel's turn count. -/
def Chip.wheelTurn (c : Chip) (n : Nat) : Nat := c.phase n / 2 ^ 48

/-- The state code of a wheel; W1's is W3's (03 R97). -/
def Chip.wheelState (c : Chip) (n : Nat) : Nat := (c.wheel (if n = 1 then 3 else n)).state

/-- The energy grant in force: GOV_GRANT, and while FHOLD is set the lower of it and GAU_ESSCLASS (11, 13 R646). -/
def Chip.grant (c : Chip) : Nat :=
  if c.rbit R.GAU_STAT 4 then min (c.rfld R.GOV_GRANT 0 3) (c.rfld R.GAU_ESSCLASS 0 3) else c.rfld R.GOV_GRANT 0 3

/-- The kind of reader a latch belongs to (00 R1012): the main-core threads, the Warden threads, the host. -/
def readerKind (r : Reader) : Nat :=
  match r with
  | .main _ => 0
  | .warden _ => 1
  | .spi | .i2c => 2

/-- A reader's latch of a register: its bytes from byte 0 on (00 R1012). -/
def Chip.setLatch (c : Chip) (k : Nat) (r : Reg) (v : Nat) : Chip :=
  { c with latch := Mem.writeN 0 c.latch (k * 2 ^ 24 + r.addr) (leBytes r.width v) }

/-- Station time, seconds (01 R61). -/
def Chip.now (c : Chip) : Nat := c.rd R.SYS_TIME

/-- The low 8 bits of the receiver epoch (16 R763). -/
def Chip.epoch8 (c : Chip) : Nat := c.rd R.AUT_EPOCH % 256

/-! ### What holds at all times -/

/-- Bank b's supply is good (02 R72): 0 A, 1 B, 2 C. -/
def Chip.bankGood (c : Chip) (b : Nat) : Bool := c.rbit R.SYS_SUPPLY (8 + b)

/-- The domain index of channel `n` (01 R40). -/
def dCH (n : Nat) : Nat := 5 + n

/-- Every channel domain is OFF (19 R927). -/
def Chip.channelsOff (c : Chip) : Bool := (List.range 8).all (fun n => (c.dom (dCH n)).state == 0)

/-- ENT state codes. -/
def entSTARTUP : Nat := 1
def entRUN : Nat := 2
def entFAILED : Nat := 3
def entDEAD : Nat := 4

/-- The state of the source. -/
def Chip.entState (c : Chip) : Nat := c.rfld R.ENT_STATE 0 3

/-- An instance is active (18 R870). -/
def Chip.pebActive (c : Chip) (i : Nat) : Bool :=
  c.rbit R.PEB_EN i && c.pebUnlocked && c.policyOn && decide (c.mode.power < 4)

/-- Held frames of inactive instances are discarded (18 R880, R886). -/
def Chip.pebSettle (c : Chip) : Chip :=
  { c with peb := { c.peb with held := c.peb.held.filter (fun h => c.pebActive h.inst) } }

/-- The rules that follow levels and so hold after every command: EXTEST drives nothing unless every channel domain is OFF
(19 R927), an inactive Pebble instance holds nothing (18 R880), no host read is in progress while bank A is not good (02 R88),
the DRBG's output buffer is empty outside RUN (18 R861). -/
def Chip.settle (c : Chip) : Chip :=
  { c with jtag := { c.jtag with driven := if c.channelsOff then c.jtag.driven else none }
           peb := { c.peb with held := c.peb.held.filter (fun h => c.pebActive h.inst) }
           hif := { c.hif with pendingRead := if c.bankGood 0 then c.hif.pendingRead else none }
           ent := { c.ent with buffer := if c.entState = entRUN then c.ent.buffer else [] } }

/-- The effect `f` on the chip, the queue untouched; every meaning is one of these. -/
def State.lift (s : State) (f : Chip → Chip) : Out := .next { s with chip := (f s.chip).settle }

end Sys2Proof.Machine
end

