-- ==== Sys2Proof/Machine/Operands.lean ====
section
/-!
DEFINITION. The operand forms of the function units: the port template of 04 (op, a, b, t, ta, q, fl, st, u5 to u7), the
trigger of a short and of a long operation, and what an exception of either records.
-/
namespace Sys2Proof.Machine

/-- Unit numbers (05 R213). -/
def uALU0 : Nat := 0
def uALU1 : Nat := 1
def uSHF : Nat := 2
def uCMP : Nat := 3
def uMUL : Nat := 4
def uFPH : Nat := 5
def uFPS : Nat := 6
def uLSU : Nat := 7
def uCTL : Nat := 8
def uQUE : Nat := 9
def uPHS : Nat := 10
def uCRC : Nat := 11
def uRNG : Nat := 12
def uMBX : Nat := 13
def uBIT : Nat := 14
def uTMR : Nat := 15

/-- The socket base of a unit. -/
def unitBase (u : Nat) : Byte := BitVec.ofNat 8 (0x40 + 8 * u)

/-- The units a Warden thread lacks: ALU1, FPH, FPS, QUE, RNG, BIT (04, table after R146). -/
def unitPresent (t u : Nat) : Bool :=
  !isWarden t || !(u == uALU1 || u == uFPH || u == uFPS || u == uQUE || u == uRNG || u == uBIT)

/-- A byte shifted into an operand register at its least significant end (04 R148). -/
def shiftIn (r : Word) (b : Byte) : Word := BitVec.ofNat 32 (r.toNat * 256 + b.toNat)

/-- An operand of `n` bits: the low end of the register (04 R150). -/
def operand (r : Word) (n : Nat) : Nat := r.toNat % 2 ^ n

/-- An exception a trigger or a retirement found: its cause and the faulting address. -/
structure Trap where
  cause : Nat
  addr : Option Nat := none
  deriving DecidableEq, Repr

/-- What an operation answers: the chip after it, and the exception it raises. -/
abbrev OpRes := Chip × Option Trap

/-- Illegal-operation (04 R152). -/
def illegalOp (c : Chip) : OpRes := (c, some ⟨3, none⟩)

/-- An exception made pending in a thread. While one is pending already, this is a further fault: it is counted in
CORE_EXCMORE with its TAG (07 R338). -/
def Chip.raise (c : Chip) (t : Nat) (e : Exc) : Chip :=
  let x := c.thr t
  match x.exc with
  | none => c.setThr t { x with exc := some e }
  | some _ =>
    if isWarden t then c
    else
      let r := R.CORE_EXCMORE (t / 8) (t % 8)
      let n := c.rfld r 8 4
      c.wr r (e.tag.toNat + 256 * (if n < 15 then n + 1 else 15))

/-- A precise exception at the thread's bundle: decode, or the trigger of a short operation (07 R336, R340). -/
def Chip.raiseNow (c : Chip) (t u slot : Nat) (e : Trap) : Chip :=
  let pc := (c.thr t).pc
  c.raise t { cause := BitVec.ofNat 8 e.cause, fu := unitBase u, pc := pc, slot := slot, addr := e.addr, resume := pc }

/-- The port state after a short operation: q and fl change together (05 R209), readable in the cycle `ready`, and not before an
earlier operation of the unit (04 R163). -/
def UnitSt.done (s : UnitSt) (q fl : Nat) (err : Bool) (ready : Nat) : UnitSt :=
  { s with q := BitVec.ofNat 32 q, fl := BitVec.ofNat 8 fl, err := err, readyAt := max s.readyAt ready }

/-- A short operation completed with latency `lat` (04 R162). -/
def Chip.finish (c : Chip) (t u q fl : Nat) (err : Bool) (lat : Nat) : Chip :=
  c.setUnit t u ((c.unit t u).done q fl err ((c.core (coreOf t)).cyc + lat))

/-- A long operation started (05 R208, R213): op, A, B and the modes in force are captured, the TAG counts. -/
def Chip.startLong (c : Chip) (t u code : Nat) (slot : Nat) (data : List Byte) : Chip :=
  let x := c.thr t
  let s := x.unit u
  let n := s.count + 1
  let tag := BitVec.ofNat 8 (16 * u + n.toNat)
  let k := c.core (coreOf t)
  let op : LongOp := { code := code, a := s.a, b := s.b, fpmode := x.fpmode.toNat
                       strict := isWarden t || x.lsuMode.getLsbD 0
                       priv := c.isPriv t, windows := (List.range 32).map (fun i => k.csrv (0xD0 + i))
                       pc := x.pc, slot := slot, tag := tag, data := data, u5 := s.u5 }
  let c := c.setUnit t u { s with count := n, tag := tag, busy := some op }
  if x.precise.getLsbD 0 then c.updThr t (fun x => { x with hold := .fence }) else c

/-- The port state with its op register selecting operation `code`. -/
def UnitSt.select (s : UnitSt) (code : Nat) : UnitSt := { s with op := BitVec.ofNat 8 code }

/-- The op register of unit `u` of thread `t` selects operation `code`. -/
def Chip.selectOp (c : Chip) (t u code : Nat) : Chip := c.setUnit t u ((c.unit t u).select code)

/-- What an operation that raised an exception at its trigger leaves in memory: the first part of a split DMEM store that
landed (07 R314). -/
def Chip.keepLanded (c d : Chip) : Chip := { c with mem := d.mem, wdn := { c.wdn with undo := d.wdn.undo } }

/-- The trigger of operation `code` on unit `u` as a command of its own: op selects it, and `f` does it. A unit the Warden
lacks is a reserved socket (04 R147); a unit whose long operation has not retired takes no trigger (04 R199). An exception
leaves A, B, q and fl as they were (07 R336). -/
def Chip.row (c : Chip) (t u code : Nat) (f : Chip → OpRes) : Chip :=
  if !unitPresent t u then c.raiseNow t u 0 ⟨2, none⟩
  else if (c.unit t u).busy.isSome then c
  else
    match f (c.selectOp t u code) with
    | (d, none) => d
    | (d, some e) => ((c.selectOp t u code).keepLanded d).raiseNow t u 0 e

/-- Every long operation of the thread has retired. -/
def ThreadSt.quiet (x : ThreadSt) : Bool := x.units.all (fun e => e.2.busy.isNone)

/-- The thread's long operations but the one of unit `u` have retired. -/
def ThreadSt.quietBut (x : ThreadSt) (u : Nat) : Bool := x.units.all (fun e => e.1 == u || e.2.busy.isNone)

/-- The origin code of a writer (16 R754). -/
def wOrigin (w : Writer) : Nat :=
  match w with
  | .main t => 0x10 + t.val
  | .warden _ => 1
  | .spi => 3
  | .i2c => 4

/-- The writer is a privileged thread or the Warden. -/
def Chip.privWriter (c : Chip) (w : Writer) : Bool :=
  match w with
  | .main t => c.isPriv t.val
  | .warden _ => true
  | _ => false

/-- The writer is the host. -/
def wHost (w : Writer) : Bool := w == .spi || w == .i2c

/-- The writer is the Warden. -/
def wWarden (w : Writer) : Bool := match w with | .warden _ => true | _ => false

/-- A write refused: bus-error with cause 0x08 for a thread or the Warden (00 R21, 07), the status for the host (19 R894). -/
def Chip.refuseWrite (c : Chip) (w : Writer) (addr status : Nat) : Chip :=
  match w with
  | .main t => c.raiseNow t.val uLSU 0 ⟨8, some addr⟩
  | .warden s => c.raiseNow (16 + s.val) uLSU 0 ⟨8, some addr⟩
  | _ => c.wr R.HIF_LAST status

/-- A write to a block whose domain is off: ignored without an exception; the host gets DOMAIN_OFF (07 R306, 19 R894). -/
def Chip.offWrite (c : Chip) (w : Writer) : Chip := if wHost w then c.wr R.HIF_LAST 5 else c

/-- Host status codes (19 R894). -/
def stREFUSED : Nat := 2
def stLEDGER : Nat := 0xA

/-- A register write logged with cause REG_WRITE (16 R777, R1014): the whole aligned word, before and after. The write is
made by `f` only when an order entry is free. -/
def Chip.loggedWrite (c : Chip) (w : Writer) (addr old new : Nat) (f : Chip → Chip) : Chip :=
  match c.stageWrite { origin := wOrigin w, object := regObject addr, old := old, new := new, cause := cause 0x48 0 } with
  | (c, true) => f c
  | (c, false) => c.refuseWrite w addr stLEDGER

end Sys2Proof.Machine
end

