-- ==== Sys2Proof/Machine/Auth.lean ====
section
/-!
DEFINITION. The order route up to the Warden (16, 01): the actuation points, the duplicate and stale check, arbitration
windows, ranks and locks, the answers to an order's origin, and the commands of this family.
-/
namespace Sys2Proof.Machine

/-! ### Actuation points (R757, R758) -/

/-- The field of an actuation point: register, lowest bit, width; none for an undefined one. -/
def apField (ap : Nat) : Option (Reg × Nat × Nat) :=
  if 1 ≤ ap ∧ ap ≤ 12 then some (R.SEQ_EN, ap, 1)
  else if ap = 21 ∨ ap = 23 then none
  else if 16 ≤ ap ∧ ap ≤ 22 then some (R.CHn_SET (ap - 16), 0, 16)
  else if 24 ≤ ap ∧ ap ≤ 31 then some (R.CHn_ILIM (ap - 24), 0, 8)
  else if ap = 32 then some (R.CHn_MODE 6, 2, 2)
  else if ap = 33 then some (R.CHG_MODE, 0, 2)
  else if ap = 34 then some (R.CHG_ICHG, 0, 16)
  else if ap = 35 then some (R.CHG_VREG, 0, 16)
  else if 36 ≤ ap ∧ ap ≤ 39 then some (R.CHG_ICLMAX (ap - 36), 0, 16)
  else if ap = 40 then some (R.CHG_REV, 0, 2)
  else if ap = 41 then some (R.CHG_SHIP, 0, 1)
  else if ap = 42 then some (R.CAP_LIMIT, 0, 16)
  else if 43 ≤ ap ∧ ap ≤ 45 then some (R.CAP_DROOP (ap - 43), 0, 2)
  else if 46 ≤ ap ∧ ap ≤ 48 then some (R.CAP_MARGIN (ap - 46), 0, 8)
  else if ap = 49 then some (R.MP_CTRL, 0, 4)
  else if 50 ≤ ap ∧ ap ≤ 54 then some (R.PEB_EN, ap - 50, 1)
  else none

/-- The class of a defined actuation point is limit; else on-off. -/
def apLimit (ap : Nat) : Bool :=
  (decide (16 ≤ ap) && decide (ap ≤ 31)) || (decide (34 ≤ ap) && decide (ap ≤ 40)) || ap == 42
    || (decide (46 ≤ ap) && decide (ap ≤ 48))

/-- The off value of an on-off point: 1 of the ship entry, 0 of every other. -/
def apOff (ap : Nat) : Nat := if ap = 41 then 1 else 0

/-- The rank of a value in safety, 0 the safest (R757): off before the rest, lower before higher; 0 of the CH2 cap lies
above every other value (log entry 12). -/
def apSafety (ap v : Nat) : Nat :=
  if apLimit ap then (if ap = 42 ∧ v = 0 then 0x10000 else v)
  else if v = apOff ap then 0 else v + 1

/-- The present value of an actuation point; 0 for an undefined one. -/
def Chip.apValue (c : Chip) (ap : Nat) : Nat :=
  match apField ap with
  | some (r, lo, w) => c.rfld r lo w
  | none => 0

/-- A value that lies within the field of its point (R758). -/
def apFits (ap v : Nat) : Bool :=
  match apField ap with
  | some (_, _, w) => decide (v < 2 ^ w)
  | none => false

/-- The class of an origin (R754): 0 local, 1 string, 2 host, 3 button; none for the rest. -/
def originClass (o : Nat) : Option Nat :=
  if o = 2 then some 3
  else if o = 3 ∨ o = 4 then some 2
  else if 0x2001 ≤ o ∧ o ≤ 0x3FFE then some 1
  else if 0x10 ≤ o ∧ o ≤ 0x1F then some 0
  else none

/-- The rank of a class for a point (R770). -/
def Chip.rankOf (c : Chip) (ap cls : Nat) : Nat := c.rfld (R.AUT_RANK ap) (2 * cls) 2

/-! ### Answers -/

/-- The outcome of an order sent to where its origin waits for it: the host's FIFO (19 R910), the thread's inbox (05 R259),
the node over the link (15 R737). -/
def Chip.reply (c : Chip) (r : ReplyTo) (seq outcome cw : Nat) : Chip :=
  let b (n : Nat) : Byte := BitVec.ofNat 8 n
  match r with
  | .none => c
  | .hostFifo low =>
    if c.hif.replies.length < 8 then
      let fresh := c.hif.replies.isEmpty
      let c := { c with hif := { c.hif with replies := c.hif.replies ++ [[low, b seq, b (seq / 256), b outcome, b cw, b (cw / 256)]] } }
      if fresh then c.route 14 else c
    else c.inc R.HIF_ORDOVF
  | .thread t => (c.toInbox t (hwMsg 1 seq (seq / 256) outcome 0)).getD c
  | .node p n =>
    let f : Frame := { dst := BitVec.ofNat 13 n, src := BitVec.ofNat 13 (c.rd R.TLN_NODEID), kind := 4, hop := 0
                       queue := 0x3FFF, seq := BitVec.ofNat 16 seq, flags := 0, epoch := BitVec.ofNat 8 c.epoch8, hseq := 0
                       payload := [b outcome, b (cw / 256), b cw], tag := none }
    let q := FMap.get ({} : PortSt) c.tln.ports p
    { c with tln := { c.tln with ports := FMap.set {} c.tln.ports p { q with origin := q.origin ++ [f] } } }

/-- The duplicate window of an origin. -/
def Chip.originWin (c : Chip) (o : Nat) : OriginWin := FMap.get {} c.aut.windows o

/-- A duplicate window replaced. -/
def Chip.setOriginWin (c : Chip) (o : Nat) (w : OriginWin) : Chip :=
  { c with aut := { c.aut with windows := FMap.set {} c.aut.windows o w } }

/-- The staged duplicates of an order take its outcome as their detail and become final (R764, R775). -/
def settleDups (origin seq outcome : Nat) (m : FMap (Option LedEntry)) : FMap (Option LedEntry) :=
  m.map (fun e => match e.2 with
    | some x => if x.dup = some (origin, seq) then (e.1, some { x with cause := cause 0x31 outcome, final := true, dup := none }) else e
    | none => e)

/-- An order's decision: its origin is answered, its window remembers the outcome, and the duplicates that came meanwhile
are answered alike (R764). -/
def Chip.decided (c : Chip) (o : OrderRec) (outcome cw : Nat) : Chip :=
  let c := c.reply o.reply o.seq outcome cw
  let w := c.originWin o.origin
  let owed := (w.held.filter (fun h => h.seq == o.seq)).flatMap (fun h => h.owed)
  let held := w.held.map (fun h => if h.seq = o.seq then { h with result := some (outcome, cw), owed := [] } else h)
  let c := c.setOriginWin o.origin { w with held := held }
  let c := { c with led := { c.led with staging := settleDups o.origin o.seq outcome c.led.staging } }
  owed.foldl (fun c r => c.reply r o.seq outcome cw) c

/-- The Ledger entry of an order (R776). -/
def Chip.orderEntry (c : Chip) (o : OrderRec) (outcome cw : Nat) : LedEntry :=
  { origin := o.origin, object := o.ap, old := c.apValue o.ap, new := o.value, outcome := outcome, oseq := o.seq, cause := cw }

/-- An order refused or lost before the Warden: logged and answered (01 R35, R779). -/
def Chip.refuse (c : Chip) (o : OrderRec) (outcome cw : Nat) : Chip :=
  (c.stageLoser (c.orderEntry o outcome cw)).decided o outcome cw

/-! ### Stage 1 (R762 to R765) -/

/-- The window the new order of an origin uses: its own, a free one, or the string window idle longest (R765). -/
def Chip.windowFor (c : Chip) (o : Nat) : Option Chip :=
  let horizon := max 1 (c.rd R.AUT_HORIZON)
  if originClass o ≠ some 1 ∨ c.aut.windows.any (fun e => e.1 == o) then some c
  else
    let strs := c.aut.windows.filter (fun e => originClass e.1 == some 1)
    if strs.length < 237 then some c
    else
      let old := strs.foldl (fun b e => if e.2.last < b.2.last then e else b) (strs.headD (0, {}))
      if horizon < (c.now + 2 ^ 32 - old.2.last) % 2 ^ 32 then
        some { c with aut := { c.aut with windows := FMap.erase c.aut.windows old.1 } }
      else none

/-- What stage 1 makes of an order. -/
inductive Stage1 where
  | refused (outcome cw : Nat)
  | duplicate (held : HeldOrder)
  | fresh (late : Bool)
  deriving DecidableEq, Repr

/-- Stage 1 on an order whose epoch and issue time are given (R763). -/
def Chip.stage1 (c : Chip) (o : OrderRec) (epoch issue : Nat) : Stage1 :=
  let w := c.originWin o.origin
  let age := (c.now + 2 ^ 32 - issue) % 2 ^ 32
  let cls := originClass o.origin
  if epoch % 256 ≠ c.epoch8 then .refused 3 (cause 0x30 1)
  else if (cls = some 1 ∨ cls = some 2) ∧ min age (2 ^ 32 - age) > max 1 (c.rd R.AUT_HORIZON) then .refused 3 (cause 0x30 3)
  else
    match w.held.find? (fun h => h.seq == o.seq) with
    | some h => .duplicate h
    | none =>
      match w.high with
      | none => .fresh false
      | some h =>
        let d := (o.seq + 2 ^ 16 - h) % 2 ^ 16
        if 1 ≤ d ∧ d ≤ 32767 then .fresh false
        else if 65473 ≤ d then .fresh true
        else .refused 3 (cause 0x30 2)

/-- A fresh order held in its window; H takes its sequence unless it is late. -/
def Chip.hold (c : Chip) (o : OrderRec) (late : Bool) : Chip :=
  let w := c.originWin o.origin
  c.setOriginWin o.origin { w with high := if late then w.high else some o.seq, held := ({ seq := o.seq } :: w.held).take 64 }

/-- A duplicate: logged with outcome 2, answered with the original outcome, at once or at the original's decision (R764). -/
def Chip.duplicate (c : Chip) (o : OrderRec) (h : HeldOrder) : Chip :=
  match h.result with
  | some (outcome, cw) => (c.stageLoser (c.orderEntry o 2 (cause 0x31 outcome))).reply o.reply o.seq outcome cw
  | none =>
    let c := c.stageLoser { c.orderEntry o 2 (cause 0x31 0) with final := false, dup := some (o.origin, o.seq) }
    let w := c.originWin o.origin
    c.setOriginWin o.origin { w with held := w.held.map (fun x => if x.seq = o.seq then { x with owed := x.owed ++ [o.reply] } else x) }

/-! ### Stage 2: admission to a window (R759, R768; 18 R874) -/

/-- A Pebble enable other than a clear, while Pebble is locked (18 R874). -/
def Chip.pebbleLocked (c : Chip) (o : OrderRec) : Bool :=
  decide (50 ≤ o.ap) && decide (o.ap ≤ 54) && o.value != 0 && !c.pebUnlocked

/-- An order that passed stage 1 joins the window of its point, or opens it. -/
def Chip.stage2 (c : Chip) (o : OrderRec) : Chip :=
  if originClass o.origin = none then c.refuse o 3 (cause 0x39 0)
  else if apField o.ap = none then c.refuse o 3 (cause 0x37 0)
  else if !apFits o.ap o.value then c.refuse o 3 (cause 0x38 0)
  else if c.pebbleLocked o then c.refuse o 3 (cause 0x59 0)
  else
    let q := (FMap.get none c.aut.arb o.ap).getD []
    { c with aut := { c.aut with arb := FMap.set none c.aut.arb o.ap (some (q ++ [o])) } }

/-- An order enters the route (01, the order route; R763). -/
def Chip.submit (c : Chip) (o : OrderRec) (epoch issue : Nat) : Chip :=
  if originClass o.origin = none then c.stage2 o
  else
    match c.stage1 o epoch issue with
    | .refused outcome cw =>
      if cw = cause 0x30 2 then
        let w := c.originWin o.origin
        (c.setOriginWin o.origin { w with last := c.now }).refuse o outcome cw
      else c.refuse o outcome cw
    | .duplicate h =>
      let w := c.originWin o.origin
      (c.setOriginWin o.origin { w with last := c.now }).duplicate o h
    | .fresh late =>
      match c.windowFor o.origin with
      | none => (c.event 10 R.AUT_EVT 1).refuse o 3 (cause 0x3A 0)
      | some c =>
        let c := c.hold o late
        let w := c.originWin o.origin
        (c.setOriginWin o.origin { w with last := c.now }).stage2 o

/-- A request of the model's own threads and slots: the next ticket, the present epoch and station time (R761). The second
part is the ticket. -/
def Chip.request (c : Chip) (origin ap value options wstate : Nat) (reply : Nat → ReplyTo) : Chip × Nat :=
  let n := (FMap.get 0 c.aut.tickets origin + 1) % 2 ^ 16
  let c := { c with aut := { c.aut with tickets := FMap.set 0 c.aut.tickets origin n } }
  (c.submit { origin := origin, seq := n, ap := ap, value := value, options := options, wstate := wstate, reply := reply n }
    c.epoch8 c.now, n)

/-- A press raises the button's order, while AUT_BTN.EN is set and WRD is powered (R756). -/
def Chip.buttonOrder (c : Chip) : Chip :=
  let b := c.rd R.AUT_BTN
  if bit b 7 && c.wrdOn then (c.request 2 (fld b 0 7) (fld b 8 16) (fld b 24 8) 0 (fun _ => .none)).1 else c

/-! ### Window close (R769 to R771) -/

/-- The arbiter's choice: the orders removed with their answers, in order of removal, and the winner. -/
def Chip.arbitrate (c : Chip) (ap : Nat) (l : List OrderRec) : List (OrderRec × Nat × Nat) × Option OrderRec :=
  let rank (o : OrderRec) : Nat := c.rankOf ap ((originClass o.origin).getD 0)
  let lock := c.rd (R.AUT_LOCK ap)
  let later (i : Nat) (o : OrderRec) : Bool := (l.drop (i + 1)).any (fun x => x.origin == o.origin)
  let idx := l.zipIdx
  let l1 := (idx.filter (fun e => !later e.2 e.1)).map (fun e => e.1)
  let o1 := (idx.filter (fun e => later e.2 e.1)).map (fun e => (e.1, 6, cause 0x33 0))
  let below (o : OrderRec) : Bool := bit lock 0 && decide (rank o < fld lock 3 2)
  let o2 := (l1.filter below).map (fun o => (o, 1, cause 0x32 (fld lock 3 2)))
  let l2 := l1.filter (fun o => !below o)
  let top := l2.foldl (fun m o => max m (rank o)) 0
  let o3 := (l2.filter (fun o => rank o != top)).map (fun o => (o, 6, cause 0x34 0))
  let l3 := l2.filter (fun o => rank o == top)
  let safe := l3.foldl (fun m o => min m (apSafety ap o.value)) 0x20000
  let o4 := (l3.filter (fun o => apSafety ap o.value != safe)).map (fun o => (o, 6, cause 0x35 0))
  let l4 := l3.filter (fun o => apSafety ap o.value == safe)
  let low := l4.foldl (fun m o => min m o.origin) 0x10000
  let o5 := (l4.filter (fun o => o.origin != low)).map (fun o => (o, 6, cause 0x36 0))
  (o1 ++ o2 ++ o3 ++ o4 ++ o5, l4.find? (fun o => o.origin == low))

/-- Ledger segments that are not retired (R784, R787). -/
def Chip.ledUsable (c : Chip) : Nat := ((List.range 64).filter (fun s => !c.rbit (R.LED_SEAL s) 201)).length

/-- The next usable segment after `s`, wrapping from 63 to 0; none when every segment is retired (R782). -/
def Chip.ledNext (c : Chip) (s : Nat) : Option Nat :=
  ((List.range 64).map (fun k => (s + 1 + k) % 64)).find? (fun k => !c.rbit (R.LED_SEAL k) 201)

/-- A segment holds entries. -/
def Chip.ledHolds (c : Chip) (s : Nat) : Bool := c.mem.ledger.any (fun e => (e.1 - 0x400000) / 0x1000 == s)

/-- With RETAIN set, every usable segment is full (R786). -/
def Chip.ledFull (c : Chip) : Bool :=
  c.rbit R.LED_CTRL 0 && c.led.pos == 128 &&
    (match c.ledNext (c.rd R.LED_SEG) with | some s => c.ledHolds s | none => true)

/-- Why no change can be recorded in the bank: LEDGER_WORN or LEDGER_FULL (R786, R787). -/
def Chip.ledRefuses (c : Chip) : Option Nat :=
  if c.ledUsable = 0 then some (cause 0x42 0) else if c.ledFull then some (cause 0x40 0) else none

/-- The winner of a window (R771; 01 R36, R38, R56; R786 to R788; 08 R382, R385). -/
def Chip.winner (c : Chip) (o : OrderRec) : Chip :=
  if c.exhausted then (c.event 10 R.LED_EVT 4).decided o 7 (cause 0x41 0)
  else
    match c.ledRefuses with
    | some cw => (c.event 10 R.LED_EVT (if cw = cause 0x40 0 then 2 else 1)).refuse o 7 cw
    | none =>
      match c.freeEntry orderEntries with
      | none => (c.inc R.LED_REFCNT).decided o 7 (cause 0x43 0)
      | some i =>
        if c.wdnState = 2 && c.wrdOn then c.refuse o 3 (cause 0x13 0)
        else if !c.policyOn then c.refuse o 3 (cause 0x10 0)
        else
          let c := c.putEntry i { c.orderEntry o 0 0 with final := false, order := some o }
          let c := { c with wdn := { c.wdn with timedOut := FMap.set none c.wdn.timedOut i none } }
          let ord := o.origin + 2 ^ 16 * o.seq + 2 ^ 32 * o.ap + 2 ^ 40 * o.value + 2 ^ 56 * fld o.options 5 3 + 2 ^ 64 * o.wstate
          (c.wr (R.WDN_ORD i) ord).toWarden (hwMsg 0x80 o.value (o.value / 256) o.ap i)

/-- ARBITRATION_WINDOW_CLOSE (R769). -/
def Chip.closeWindow (c : Chip) (ap : Nat) : Chip :=
  match FMap.get none c.aut.arb ap with
  | none => c
  | some l =>
    let c := { c with aut := { c.aut with arb := FMap.set none c.aut.arb ap none } }
    let r := c.arbitrate ap l
    let c := r.1.foldl (fun c e => c.refuse e.1 e.2.1 e.2.2) c
    match r.2 with
    | some o => c.winner o
    | none => c

/-! ### The Warden's answers to handled orders (08 R390 to R393) -/

/-- A handled order's entry completed and its origin answered; WDN_ORD keeps it no longer (08 R389). -/
def Chip.complete (c : Chip) (i : Nat) (outcome cw new : Nat) : Chip :=
  match c.entry i with
  | some e =>
    match e.order with
    | some o =>
      let c := c.setEntry i (some { e with outcome := outcome, cause := cw, new := new, final := true, order := none })
      (c.wr (R.WDN_ORD i) 0).decided o outcome cw
    | none => c
  | none => c

/-- The handled order of a handle. -/
def Chip.handled (c : Chip) (i : Nat) : Option OrderRec := (c.entry i).bind (fun e => e.order)

/-- A verdict or approval for a handle whose order timed out is logged as refused (08 R393, log entry 26). -/
def Chip.lateVerdict (c : Chip) (i : Nat) : Chip :=
  match FMap.get none c.wdn.timedOut i with
  | some o => c.stageLoser { origin := 1, object := o.ap, old := c.apValue o.ap, new := o.value, outcome := 3, cause := cause 0x14 0 }
  | none => c.stageLoser { origin := 1, object := 0x40FF, outcome := 3, cause := cause 0x14 0 }

/-- A veto or a deferral written to WDN_VERDICT (08 R392). -/
def Chip.verdict (c : Chip) (v : Nat) : Chip :=
  let i := fld v 0 4
  let k := fld v 4 2
  if k = 1 ∨ k = 2 then
    match c.handled i with
    | some o => c.complete i (if k = 1 then 3 else 4) (cause (if k = 1 then 0x16 else 0x17) (fld v 8 8)) o.value
    | none => c.lateVerdict i
  else c

/-- No verdict within WDN_VTO (08 R393). -/
def Chip.verdictTimeout (c : Chip) (i : Nat) : Chip :=
  match c.handled i with
  | some o =>
    let c := c.complete i 3 (cause 0x14 0) o.value
    let c := { c with wdn := { c.wdn with timedOut := FMap.set none c.wdn.timedOut i (some o) } }
    (c.event 3 R.WDN_EVENT 0x40).toWarden (hwMsg 0x81 0 0 0 i)
  | none => c

/-- Every handled order answered with WARDEN_ABSENT, when WRD loses power (01 R53). -/
def Chip.answerHandled (c : Chip) : Chip :=
  orderEntries.foldl (fun c i => match c.handled i with
    | some o => c.complete i 3 (cause 0x10 0) o.value
    | none => c) c

/-! ### Locks (R772, R773) -/

/-- An applied order's lock: it ends the lock of an equal or lower rank and sets its own when it carries one. -/
def Chip.setLock (c : Chip) (o : OrderRec) : Chip :=
  let cls := (originClass o.origin).getD 0
  let rank := c.rankOf o.ap cls
  let old := c.rd (R.AUT_LOCK o.ap)
  if bit old 0 && decide (rank < fld old 3 2) then c
  else
    let n := fld o.options 0 4
    if n = 0 then c.wr (R.AUT_LOCK o.ap) 0
    else (c.wr (R.AUT_LOCK o.ap) (1 + 2 * cls + 8 * rank + 256 * 2 ^ (n - 1))).event 10 R.AUT_EVT 2

/-- A lock reaches its end. -/
def Chip.lockExpire (c : Chip) (ap : Nat) : Chip :=
  if c.rbit (R.AUT_LOCK ap) 0 then (c.wr (R.AUT_LOCK ap) 0).event 10 R.AUT_EVT 4 else c

/-- Every lock's remaining seconds count down to 1; its end is LOCK_EXPIRE. -/
def Chip.lockSecond (c : Chip) : Chip :=
  (List.range 55).foldl (fun c ap =>
    let v := c.rd (R.AUT_LOCK ap)
    if bit v 0 && decide (1 < v / 256) then c.wr (R.AUT_LOCK ap) (v - 256) else c) c

/-! ### Commands -/

/-- ARBITRATION_WINDOW_CLOSE. -/
def execArbitrationWindowClose (ap : BitVec 7) (s : State) : Out := s.lift (fun c => c.closeWindow ap.toNat)
/-- LOCK_EXPIRE. -/
def execLockExpire (ap : BitVec 7) (s : State) : Out := s.lift (fun c => c.lockExpire ap.toNat)
/-- WDN_VERDICT_WRITE. -/
def execWdnVerdictWrite (v : BitVec 16) (s : State) : Out := s.lift (fun c => if c.wrdOn then c.verdict v.toNat else c)
/-- VERDICT_TIMEOUT. -/
def execVerdictTimeout (h : Fin 14) (s : State) : Out := s.lift (fun c => c.verdictTimeout h.val)
/-- THREAD_AP_WRITE: a thread's write to an actuation point becomes a request of its origin (01 R34, R761). -/
def execThreadApWrite (t : Thread) (ap : BitVec 7) (v : BitVec 16) (s : State) : Out :=
  s.lift (fun c => if isWarden t.val then c else (c.request (originOf t.val) ap.toNat v.toNat 0 0 (fun _ => .thread t.val)).1)

end Sys2Proof.Machine
end

