-- ==== Sys2Proof/Machine/Crc.lean ====
section
/-!
DEFINITION. CRC-8, CRC-16 and CRC-32C with the parameters of 05 R239. They serve the CRC unit, the Ledger entries (16 R776),
the host frames (19 R900) and the SDI-12 lines (19 R913).
-/
namespace Sys2Proof.Machine

/-- Width in bits of polynomial P. -/
def crcWidth (p : Nat) : Nat := if p = 0 then 8 else if p = 1 then 16 else 32
/-- Initial value of polynomial P. -/
def crcInit (p : Nat) : Nat := if p = 0 then 0 else if p = 1 then 0xFFFF else 0xFFFFFFFF
/-- Final XOR value of polynomial P. -/
def crcFinal (p : Nat) : Nat := if p = 2 then 0xFFFFFFFF else 0

/-- `n` bits shifted out of an accumulator of `w` bits, most significant first, against `poly`. -/
def crcUp (w poly : Nat) : Nat → Nat → Nat
  | 0, x => x
  | n + 1, x =>
    crcUp w poly n (if bit x (w - 1) then (x * 2 % 2 ^ w) ^^^ poly else x * 2 % 2 ^ w)

/-- `n` bits shifted out of a reflected accumulator, least significant first. -/
def crcDown (poly : Nat) : Nat → Nat → Nat
  | 0, x => x
  | n + 1, x => crcDown poly n (if x % 2 = 1 then (x / 2) ^^^ poly else x / 2)

/-- One byte folded into the accumulator of polynomial P (05 R238, R239). CRC-32C keeps its accumulator reflected. -/
def crcByte (p acc : Nat) (b : Byte) : Nat :=
  let a := acc % 2 ^ crcWidth p
  match p with
  | 0 => crcUp 8 0x07 8 (a ^^^ b.toNat)
  | 1 => crcUp 16 0x1021 8 (a ^^^ (b.toNat * 256))
  | _ => crcDown 0x82F63B78 8 (a ^^^ b.toNat)

/-- The bytes folded in, first byte first. -/
def crcBytes (p acc : Nat) (bs : List Byte) : Nat := bs.foldl (crcByte p) acc

/-- The finished value: the accumulator XOR the final value, in the width of P (05 R239). -/
def crcDone (p acc : Nat) : Nat := (acc ^^^ crcFinal p) % 2 ^ crcWidth p

/-- The CRC of a byte string. -/
def crcOf (p : Nat) (bs : List Byte) : Nat := crcDone p (crcBytes p (crcInit p) bs)

end Sys2Proof.Machine
end

