-- ==== Sys2Proof/Machine/Ledger.lean ====
section
/-!
DEFINITION. The Ledger bank (16 R776 to R790): entries, commit, segments and their erase, chained seals, and what the boot ROM
and a WRD power-up do with it.
-/
namespace Sys2Proof.Machine

/-- The address of segment `s`. -/
def ledBase (s : Nat) : Nat := 0x400000 + 0x1000 * s

/-- Bytes 0 to 29 of an entry with sequence `seq` (R776). -/
def LedEntry.body (e : LedEntry) (seq : Nat) : List Byte :=
  leBytes 5 seq ++ leBytes 4 e.seconds ++ leBytes 4 e.fraction ++ leBytes 2 e.origin ++ leBytes 2 e.object ++
  leBytes 4 e.old ++ leBytes 4 e.new ++ leBytes 1 e.outcome ++ leBytes 2 e.oseq ++ leBytes 2 e.cause

/-- The 32 bytes of an entry. -/
def LedEntry.bytes (e : LedEntry) (seq : Nat) : List Byte :=
  let b := e.body seq
  b ++ leBytes 2 (crcOf 1 b)

/-! ### Seals (R783, R784, R790) -/

/-- Fields of a seal record. -/
def Chip.sealTag (c : Chip) (s : Nat) : List Nat := natBytes (leBytes 16 (c.rd (R.LED_SEAL s)))
def Chip.sealFirst (c : Chip) (s : Nat) : Nat := c.rfld (R.LED_SEAL s) 128 40
def Chip.sealErases (c : Chip) (s : Nat) : Nat := c.rfld (R.LED_SEAL s) 176 24
def Chip.isSealed (c : Chip) (s : Nat) : Bool := c.rbit (R.LED_SEAL s) 200

/-- A seal record with its CRC-16 over bytes 0 to 29. -/
def sealRecord (tag : List Nat) (first index erases flags : Nat) : Nat :=
  let b := toBytes (tag.take 16) ++ leBytes 5 first ++ leBytes 1 index ++ leBytes 3 erases ++ leBytes 1 flags ++ leBytes 4 0
  leNat (b ++ leBytes 2 (crcOf 1 b))

/-- The sealed segments, the newest first. -/
def Chip.sealsNewest (c : Chip) : List Nat :=
  ((List.range 64).filter (fun s => c.isSealed s)).foldl
    (fun l s => l.filter (fun x => decide (c.sealFirst s < c.sealFirst x)) ++ [s] ++ l.filter (fun x => decide (c.sealFirst x ≤ c.sealFirst s))) []

/-- The tag before the chain's `k`-th newest seal: the next older one, else LED_CHAINBASE, which is zero for a first seal. -/
def Chip.tagBefore (c : Chip) (k : Nat) : List Nat :=
  match c.sealsNewest[k]? with
  | some s => c.sealTag s
  | none => natBytes (leBytes 16 (c.rd R.LED_CHAINBASE))

/-- The chained tag over a segment as it stands, under the Ledger key of OTP row 11 (R783). -/
def Chip.segmentTag (c : Chip) (s first : Nat) (prev : List Nat) : List Nat :=
  cmac (c.otpBytes 11) (prev ++ natBytes (Mem.readN erased c.mem.ledger (ledBase s) 4096) ++ natBytes (leBytes 5 first) ++ [s % 256])

/-- The first sequence in a segment: the lowest one of its entries whose CRC verifies. -/
def Chip.entryAt (c : Chip) (addr : Nat) : Option Nat :=
  let b := Mem.readN erased c.mem.ledger addr 32
  if decide (leNat (b.drop 30) = crcOf 1 (b.take 30)) && (b.take 5).any (fun x => decide (x ≠ 0xFF)) then some (leNat (b.take 5)) else none

/-- The lowest sequence of a segment. -/
def Chip.firstSeq (c : Chip) (s : Nat) : Nat :=
  let l := (List.range 128).filterMap (fun k => c.entryAt (ledBase s + 32 * k))
  l.foldl min (l.headD 0)

/-- The segment sealed (R783). -/
def Chip.sealSegment (c : Chip) (s : Nat) : Chip :=
  let first := c.firstSeq s
  let tag := c.segmentTag s first (c.tagBefore 0)
  (c.wr (R.LED_SEAL s) (sealRecord tag first s (c.sealErases s) 1)).event 10 R.LED_EVT 0x10

/-- The newest seal checked against its predecessor's tag; a failure is logged and the Ledger keeps running (R790). -/
def Chip.sealCheck (c : Chip) : Chip :=
  match c.sealsNewest with
  | [] => c
  | s :: _ =>
    if c.segmentTag s (c.sealFirst s) (c.tagBefore 1) = c.sealTag s then c
    else (c.event 10 R.LED_EVT 8).stageHw 0x40FF 0 0 (cause 0x44 0)

/-! ### Erase (R785, R787) -/

/-- The erase of the segment after the current one begins, when it holds entries: its tag becomes the base of the chain and
its erase count rises. -/
def Chip.startLedErase (c : Chip) : Chip :=
  match c.ledNext (c.rd R.LED_SEG) with
  | none => c
  | some s =>
    if c.led.erasing.isNone && c.ledHolds s && !c.rbit R.LED_CTRL 0 then
      let c := if c.isSealed s then c.wr R.LED_CHAINBASE (leNat (toBytes (c.sealTag s))) else c
      let c := c.wr (R.LED_SEAL s) (sealRecord (c.sealTag s) (c.sealFirst s) s (c.sealErases s + 1) (b2n (c.isSealed s)))
      { c with led := { c.led with erasing := some s } }
    else c

/-- The erases at which a segment is retired (R787). -/
def ledWorn : Nat := 100000

/-- A segment without bytes; its record is no seal and keeps its erase count. -/
def Chip.ledBlank (c : Chip) (s : Nat) (retire : Bool) : Chip :=
  let c := { c with mem := { c.mem with ledger := c.mem.ledger.filter (fun e => !((e.1 - 0x400000) / 0x1000 == s)) } }
  c.wr (R.LED_SEAL s) (sealRecord (List.replicate 16 0) 0 s (c.sealErases s) (if retire then 2 else 0))

/-- What follows a retirement: LED_EVT.WORN and its entry when fewer than 8 usable segments remain, and the erase of the next
segment when the current one waits for it. -/
def Chip.ledRetired (c : Chip) : Chip :=
  let c := if c.ledUsable = 7 then (c.event 10 R.LED_EVT 1).stageHw 0x40FF 0 0 (cause 0x42 0) else c
  if 96 < c.led.pos then c.startLedErase else c

/-- The end of a segment's erase: its bytes read 0xFF; at 100,000 erases it is retired (R787). -/
def Chip.ledEraseDone (c : Chip) : Chip :=
  match c.led.erasing with
  | none => c
  | some s =>
    let retire := Nat.ble ledWorn (c.sealErases s)
    let c := { c with led := { c.led with erasing := none } }
    let c := c.ledBlank s retire
    if retire then c.ledRetired else c

/-! ### Commit (R780 to R786) -/

/-- The chip with its next free position in the bank, or none while commits stall: no usable segment, or the next one still
holds entries. -/
def Chip.ledRoom (c : Chip) : Option Chip :=
  if c.led.pos < 128 then some c
  else
    match c.ledNext (c.rd R.LED_SEG) with
    | none => none
    | some s => if c.ledHolds s then none else some { (c.wr R.LED_SEG s) with led := { c.led with pos := 0 } }

/-- One entry of 32 bytes programmed at the next position; the 128th seals the segment and index 96 starts the next erase. -/
def Chip.ledPut (c : Chip) (b : List Byte) : Chip :=
  let s := c.rd R.LED_SEG
  let k := c.led.pos
  let c := { c with mem := { c.mem with ledger := Mem.writeN erased c.mem.ledger (ledBase s + 32 * k) b }
                    led := { c.led with pos := k + 1 } }
  let c := if k = 96 then c.startLedErase else c
  if k = 127 then
    let c := c.sealSegment s
    if c.ledFull then c.event 10 R.LED_EVT 2 else c
  else c

/-- The staged entry that commits next: the lowest sequence among those that will commit (R778). -/
def Chip.nextCommit (c : Chip) : Option (Nat × LedEntry × Nat) :=
  (orderEntries ++ [14, 15]).foldl (fun b i =>
    match c.entry i with
    | some e =>
      match e.seq, b with
      | some n, some (_, _, m) => if n < m then some (i, e, n) else b
      | some n, none => some (i, e, n)
      | none, _ => b
    | none => b) none

/-- The counts of refused and unrecorded changes written as one entry, and cleared (R781, log entry 27). -/
def Chip.ledSummary (c : Chip) : Chip :=
  let u := c.rd R.LED_UNRECCNT
  let r := c.rd R.LED_REFCNT
  if (u = 0 ∧ r = 0) ∨ c.exhausted then c
  else
    match c.ledRoom with
    | none => c
    | some c =>
      let n := c.rd R.LED_NEXTSEQ
      let e : LedEntry := { seconds := c.now, fraction := c.ledFraction, object := 0x40FF, old := u, new := r, outcome := 5, cause := cause 0x43 0 }
      ((c.wr R.LED_NEXTSEQ (n + 1)).ledPut (e.bytes n)).wrs [(R.LED_UNRECCNT, 0), (R.LED_REFCNT, 0)]

/-- LEDGER_COMMIT: the next entry, once final, is programmed and its staging entry freed (R780). -/
def Chip.ledCommit (c : Chip) : Chip :=
  if !c.wrdOn then c
  else
    match c.nextCommit with
    | some (i, e, n) =>
      if !e.final then c
      else
        match c.ledRoom with
        | none => c.startLedErase
        | some c => ((c.ledPut (e.bytes n)).setEntry i none).ledSummary
    | none => c

/-! ### WRD power-up (R789, R790) -/

/-- The positions of the bank that hold anything, by index from its start. -/
def Chip.ledPositions (c : Chip) : List Nat := (c.mem.ledger.map (fun e => (e.1 - 0x400000) / 32)).eraseDups

/-- The highest entry of the bank whose CRC verifies: its position and sequence. -/
def Chip.ledHighest (c : Chip) : Option (Nat × Nat) :=
  c.ledPositions.foldl (fun b k =>
    match c.entryAt (0x400000 + 32 * k), b with
    | some n, some (_, m) => if m < n then some (k, n) else b
    | some n, none => some (k, n)
    | none, _ => b) none

/-- Sequences given to the entries staged without one, in the order of their staging (R789). -/
def Chip.numberStaged (c : Chip) : Nat → Chip
  | 0 => c
  | n + 1 =>
    let pick := (orderEntries ++ [14, 15]).foldl (fun (b : Option (Nat × LedEntry)) i =>
      match c.entry i, b with
      | some e, some (_, x) => if e.seq.isNone && !e.dead && decide (e.age < x.age) then some (i, e) else b
      | some e, none => if e.seq.isNone && !e.dead then some (i, e) else none
      | none, _ => b) none
    match pick with
    | none => c
    | some (i, e) =>
      let q := c.rd R.LED_NEXTSEQ
      let c := if q = 2 ^ 40 - 1 then c.setEntry i (some { e with dead := true })
        else (c.wr R.LED_NEXTSEQ (q + 1)).setEntry i (some { e with seq := some q })
      c.numberStaged n

/-- The boot ROM sets LED_NEXTSEQ and the current segment once after an AON power-on reset (R789, log entry 28). -/
def Chip.ledInit (c : Chip) : Chip :=
  if c.led.seqSet then c
  else
    let h := c.ledHighest
    let seg := match h with | some (k, _) => k / 128 | none => (c.ledNext 63).getD 0
    let next := match h with | some (_, n) => n + 1 | none => 0
    let used := (c.ledPositions.filter (fun k => k / 128 == seg)).foldl (fun m k => max m (k % 128 + 1)) 0
    let c := (c.wr R.LED_NEXTSEQ next).wr R.LED_SEG seg
    let c := { c with led := { c.led with seqSet := true, pos := used } }
    c.numberStaged 16

/-- LED_STAT as it reads (16, LED block). -/
def Chip.ledStat (c : Chip) : Nat :=
  c.ledUsable % 128 + 128 * b2n (decide (c.ledUsable < 8)) + 256 * b2n c.ledFull + 512 * b2n c.exhausted

/-! ### Commands -/

/-- LEDGER_COMMIT. -/
def execLedgerCommit (s : State) : Out := s.lift (fun c => c.ledCommit)
/-- LEDGER_ERASE_DONE. -/
def execLedgerEraseDone (s : State) : Out := s.lift (fun c => if c.wrdOn then c.ledEraseDone else c)

end Sys2Proof.Machine
end

