-- ==== Sys2Proof/Machine/Nvm.lean ====
section
/-!
DEFINITION. OTP, flash and their counters (17): sensing, the NVM commands with their refusals and results, erase suspension,
ownership, and what a WRD power-off cuts off.
-/
namespace Sys2Proof.Machine

/-! ### Sensing (R797 to R805, R813 to R815) -/

/-- The rows of OTP section `k`: trim, keys, boot policy, counters, customer. -/
def otpRows (k : Nat) : List Nat :=
  if k = 0 then [0, 1, 2, 3, 4, 5, 6] else if k = 1 then [8, 9, 10, 11, 12, 13, 14] else if k = 2 then [16, 17, 18, 19, 20, 21, 22]
  else if k = 3 then [24, 25] else (List.range 37).map (fun i => 26 + i)

/-- The CRC row of a section; counters have none. -/
def otpCrcRow (k : Nat) : Nat := if k = 0 then 7 else if k = 1 then 15 else if k = 2 then 23 else 63

/-- The section of a row. -/
def otpSection (r : Nat) : Nat := if r < 8 then 0 else if r < 16 then 1 else if r < 24 then 2 else if r < 26 then 3 else 4

/-- The CRC of a section over its data rows as sensed (R803). -/
def Chip.otpCrc (c : Chip) (k : Nat) : Nat := crcOf 2 (toBytes ((otpRows k).flatMap (fun r => c.otpBytes r)))

/-- The state code of a section other than counters (R802): 0 OPEN, 1 SEALED, 2 FAILED. -/
def Chip.otpState (c : Chip) (k : Nat) : Nat :=
  let crow := FMap.get 0 c.nvm.shadow (otpCrcRow k)
  if (otpRows k).any (fun r => c.nvm.badRows.contains r) || c.nvm.badRows.contains (otpCrcRow k) then 2
  else if crow = 0 then 0
  else if fld crow 32 8 = 0xA5 ∧ fld crow 0 32 = c.otpCrc k then 1
  else 2

/-- The 256-bit anti-rollback field as sensed (R813). -/
def Chip.arbField (c : Chip) : Nat := FMap.get 0 c.nvm.shadow 24 + 2 ^ 128 * FMap.get 0 c.nvm.shadow 25

/-- How many of the three bits of a step are set. -/
def arbBits (f k : Nat) : Nat := b2n (bit f (3 * k)) + b2n (bit f (3 * k + 1)) + b2n (bit f (3 * k + 2))

/-- The counter: one more than the highest step with at least two bits set (R814). -/
def arbValue (f : Nat) : Nat := (List.range 64).foldl (fun m k => if 2 ≤ arbBits f k then k + 1 else m) 0

/-- A set step above a clear one, or a step with exactly one bit (R815). -/
def arbBad (f : Nat) : Bool :=
  (List.range 64).any (fun k => arbBits f k == 1 || (decide (arbBits f k < 2) && decide (k < arbValue f)))

/-- Section states, alarm and counter taken from the shadow (R802, R804, R814). -/
def Chip.otpEvaluate (c : Chip) : Chip :=
  let st (k : Nat) : Nat := if k = 3 then (if arbBad c.arbField then 2 else 0) else c.otpState k
  let sect := st 0 + 4 * st 1 + 16 * st 2 + 64 * st 3 + 256 * st 4
  let alarm := [0, 1, 2, 3, 4].foldl (fun a k => a + b2n (st k == 2) * 2 ^ k) 0
  ((c.wr R.OTP_SECT sect).wr R.OTP_ARB (arbValue c.arbField)).event 11 R.OTP_ALARM alarm

/-- OTP_SENSE: every row into the shadow at WRD power-up (R800, R801). -/
def Chip.otpSense (c : Chip) : Chip :=
  let rows := c.nvm.badRows.filter (fun r => decide (r < 64))
  let c := { c with nvm := { c.nvm with shadow := c.nvm.otp } }
  let c := c.wr R.OTP_ROWERR (rows.eraseDups.foldl (fun a r => a + 2 ^ r) 0)
  let corr := (c.nvm.corrRows.filter (fun r => decide (r < 24) || (decide (26 ≤ r) && decide (r < 64)))).eraseDups.length
  (c.wr R.OTP_CORRCNT (min corr 255)).otpEvaluate

/-- The boot policy: 0 STANDARD, 1 CUSTOMER_FALLBACK, 2 CUSTOMER_ONLY (R798). -/
def Chip.bootPolicy (c : Chip) : Nat := min 2 (fld (FMap.get 0 c.nvm.shadow 16) 0 2)

/-! ### Flash (R818 to R822) -/

/-- A byte of main flash. -/
def Chip.flashByte (c : Chip) (a : Nat) : Byte := FMap.get erased c.mem.flash a

/-- A granule reads erased. -/
def Chip.granuleErased (c : Chip) (g : Nat) : Bool :=
  (Mem.readN erased c.mem.flash (16 * g) 16).all (fun b => b == erased) && !c.nvm.filled.contains g

/-- Granule `g` programmed. -/
def Chip.programGranule (c : Chip) (g : Nat) (d : List Byte) : Chip :=
  { c with mem := { c.mem with flash := Mem.writeN erased c.mem.flash (16 * g) d }
           nvm := { c.nvm with filled := if d.all (fun b => b == erased) then g :: c.nvm.filled else c.nvm.filled } }

/-- Sector `s` erased. -/
def Chip.eraseSector (c : Chip) (s : Nat) : Chip :=
  let inS (a : Nat) : Bool := a / 0x1000 == 0x200 + s
  { c with mem := { c.mem with flash := c.mem.flash.filter (fun e => !inS e.1) }
           nvm := { c.nvm with filled := c.nvm.filled.filter (fun g => !inS (16 * g))
                               flashBad := c.nvm.flashBad.filter (fun g => !inS (16 * g))
                               flashCorr := c.nvm.flashCorr.filter (fun g => !inS (16 * g)) } }

/-- `n` bytes of flash from `a` on left undefined: each a free value (R844). -/
def Chip.freeFlash (c : Chip) (a : Nat) : Nat → Chip
  | 0 => c
  | n + 1 =>
    let r := c.takeFree
    Chip.freeFlash { r.2 with mem := { r.2.mem with flash := FMap.set erased r.2.mem.flash a r.1 } } (a + 1) n

/-- An OTP row left undefined. -/
def Chip.freeRow (c : Chip) (r : Nat) : Nat → Nat → Chip
  | 0, v => { c with nvm := { c.nvm with otp := FMap.set 0 c.nvm.otp r v, shadow := FMap.set 0 c.nvm.shadow r v } }
  | n + 1, v => let f := c.takeFree; f.2.freeRow r n (v * 256 + f.1.toNat)

/-- The free content of what a command was writing: granules, a sector, an OTP row, or at most one bit of the counter's step
(R844, R846, R847). -/
def Chip.freeTarget (c : Chip) (m : NvmCmd) : Chip :=
  match m.code with
  | 0x01 => c.freeFlash (m.addr / 16 * 16) 16
  | 0x02 => c.freeFlash (m.addr / 32 * 32) 32
  | 0x10 => c.freeFlash (m.addr / 0x1000 * 0x1000) 4096
  | 0x20 => c.freeRow (m.addr % 64) 16 0
  | 0x21 => c.freeRow (otpCrcRow (m.addr % 8)) 16 0
  | _ =>
    let f := c.takeFree
    let v := c.rd R.OTP_ARB
    let b := 3 * v + f.1.toNat % 4
    if f.1.toNat % 4 = 3 then f.2
    else
      let put (m : FMap Nat) : FMap Nat := FMap.upd 0 m (24 + b / 128) (fun x => x ||| 2 ^ (b % 128))
      { f.2 with nvm := { f.2.nvm with otp := put f.2.nvm.otp, shadow := put f.2.nvm.shadow } }

/-! ### Commands (R823 to R838, R808 to R817) -/

/-- NVM_RESULT codes. -/
def nvBUSY : Nat := 1
def nvNOT_ERASED : Nat := 2
def nvPROTECTED : Nat := 3
def nvWORN : Nat := 4
def nvSUSPENDED : Nat := 5
def nvVERIFY : Nat := 6
def nvSEALED : Nat := 7
def nvNOT_BLANK : Nat := 8
def nvFULL : Nat := 9
def nvLOW : Nat := 0xA
def nvBAD : Nat := 0xB
def nvTEMP : Nat := 0xC
def nvLEDGER : Nat := 0xD
def nvABORTED : Nat := 0xE

/-- The erase count of a sector, and its WORN flag. -/
def Chip.ecnt (c : Chip) (s : Nat) : Nat := c.rfld (R.NVM_ECNT s) 0 24
def Chip.worn (c : Chip) (s : Nat) : Bool := c.rbit (R.NVM_ECNT s) 24

/-- An address of main flash. -/
def inFlash (a : Nat) : Bool := decide (0x200000 ≤ a) && decide (a < 0x400000)

/-- Why a command is refused, if it is: the code of NVM_RESULT. -/
def Chip.nvmRefusal (c : Chip) (code mv : Nat) (die : Int) : Option Nat :=
  let a := c.rd R.NVM_ADDR
  let s := a / 0x1000 - 0x200
  let flash := decide (code < 0x20)
  let prog := decide (code < 0x10)
  let row := a % 64
  let k := if code = 0x20 then otpSection row else a % 8
  let st := c.rfld R.OTP_SECT (2 * k) 2
  if c.nvm.cmd.isSome then (if prog && c.rbit R.NVM_STAT 2 then some nvSUSPENDED else some nvBUSY)
  else if flash && !inFlash a then some nvBAD
  else if code = 0x22 ∧ 64 ≤ c.rd R.OTP_ARB then some nvFULL
  else if code = 0x20 ∧ (k = 0 ∨ k = 3 ∨ row = otpCrcRow k) then some nvBAD
  else if code = 0x21 ∧ (k = 0 ∨ k = 3 ∨ 5 ≤ k) then some nvBAD
  else if flash && decide (mv < 2800) then some nvLOW
  else if !flash && decide (mv < 3000) then some nvLOW
  else if !flash && (decide (die < 0) || decide (85 < die)) then some nvTEMP
  else if flash && decide (s < c.rd R.NVM_WPLIM) then some nvPROTECTED
  else if code = 0x10 ∧ c.worn s then some nvWORN
  else if code = 0x01 ∧ !c.granuleErased (a / 16) then some nvNOT_ERASED
  else if code = 0x02 ∧ (!c.granuleErased (a / 32 * 2) || !c.granuleErased (a / 32 * 2 + 1)) then some nvNOT_ERASED
  else if code = 0x21 ∧ (otpRows k).any (fun r => c.nvm.badRows.contains r) then some nvVERIFY
  else if (code = 0x20 ∧ st ≠ 0) ∨ (code = 0x21 ∧ st ≠ 0) then some nvSEALED
  else if code = 0x20 ∧ FMap.get 0 c.nvm.shadow row ≠ 0 ∧ FMap.get 0 c.nvm.shadow row ≠ c.rd R.NVM_DATA % 2 ^ 128 then some nvNOT_BLANK
  else none

/-- The Ledger entry of a command (R826). -/
def Chip.nvmEntry (c : Chip) (w : Writer) (code outcome result : Nat) (final : Bool) : LedEntry :=
  let a := c.rd R.NVM_ADDR
  { origin := wOrigin w, object := 0xAC00, old := if code = 0x10 && inFlash a then c.ecnt (a / 0x1000 - 0x200) else 0
    new := code * 2 ^ 24 + a, outcome := outcome, cause := cause 0x48 result, final := final }

/-- The command begins: BUSY, and for an ERASE the count that is recorded first (R830). -/
def Chip.nvmBegin (c : Chip) (code : Nat) (entry : Option Nat) : Chip :=
  let a := c.rd R.NVM_ADDR
  let s := a / 0x1000 - 0x200
  let c := if code = 0x10 then (c.wfld (R.NVM_ECNT s) 0 24 (c.ecnt s + 1)).wr R.NVM_SUSCNT 0 else c
  let c := c.wr R.NVM_STAT (1 + (if code = 0x10 then 2 else 8))
  { c with nvm := { c.nvm with cmd := some { code := code, addr := a, data := leBytes 32 (c.rd R.NVM_DATA), entry := entry } } }

/-- A command written to NVM_CMD (R823, R825 to R827). PROGRAM1 and PROGRAM2 are not logged. -/
def Chip.nvmCommand (c : Chip) (w : Writer) (code mv : Nat) (die : Int) : Chip :=
  if !c.wrdOn then c.offWrite w
  else if c.rd R.NVM_OWN ≠ wOrigin w then c.refuseWrite w R.NVM_CMD.addr stREFUSED
  else
    let r := c.nvmRefusal code mv die
    if code < 0x10 then
      match r with
      | some x => c.wr R.NVM_RESULT x
      | none => c.nvmBegin code none
    else if c.exhausted then (c.event 10 R.LED_EVT 4).wr R.NVM_RESULT nvLEDGER
    else
      match c.freeEntry orderEntries with
      | none => (c.inc R.LED_REFCNT).wr R.NVM_RESULT nvLEDGER
      | some i =>
        match r with
        | some x =>
          let c := if x = nvFULL then c.event 11 R.NVM_EVT 1 else c
          (c.putEntry i (c.nvmEntry w code 3 x true)).wr R.NVM_RESULT x
        | none => (c.putEntry i (c.nvmEntry w code 0 0 false)).nvmBegin code (some i)

/-- The effect of a command that ran to its end, and its read-back (R808, R811, R816, R836). -/
def Chip.nvmEffect (c : Chip) (m : NvmCmd) : Chip :=
  match m.code with
  | 0x01 => c.programGranule (m.addr / 16) (m.data.take 16)
  | 0x02 => (c.programGranule (m.addr / 32 * 2) (m.data.take 16)).programGranule (m.addr / 32 * 2 + 1) (m.data.drop 16)
  | 0x10 => c.eraseSector (m.addr / 0x1000 - 0x200)
  | 0x20 =>
    let v := leNat (m.data.take 16)
    { c with nvm := { c.nvm with otp := FMap.set 0 c.nvm.otp (m.addr % 64) v, shadow := FMap.set 0 c.nvm.shadow (m.addr % 64) v } }
  | 0x21 =>
    let k := m.addr % 8
    let v := c.otpCrc k + 0xA5 * 2 ^ 32
    ({ c with nvm := { c.nvm with otp := FMap.set 0 c.nvm.otp (otpCrcRow k) v
                                  shadow := FMap.set 0 c.nvm.shadow (otpCrcRow k) v } }).wfld R.OTP_SECT (2 * k) 2 1
  | _ =>
    let v := c.rd R.OTP_ARB
    let f := c.arbField ||| (7 * 2 ^ (3 * v))
    let put (x : FMap Nat) : FMap Nat := FMap.set 0 (FMap.set 0 x 24 (f % 2 ^ 128)) 25 (f / 2 ^ 128)
    ({ c with nvm := { c.nvm with otp := put c.nvm.otp, shadow := put c.nvm.shadow } }).wr R.OTP_ARB (arbValue f)

/-- The count of an erased sector reaches 20,000 (R836). -/
def Chip.wearCheck (c : Chip) (m : NvmCmd) : Chip :=
  let s := m.addr / 0x1000 - 0x200
  if m.code = 0x10 ∧ 20000 ≤ c.ecnt s then (c.wbit (R.NVM_ECNT s) 24 true).event 11 R.NVM_EVT 8 else c

/-- The entry of a logged command made final (R826). -/
def Chip.nvmFinal (c : Chip) (m : NvmCmd) (result : Nat) : Chip :=
  match m.entry with
  | none => c
  | some i =>
    match c.entry i with
    | none => c
    | some e => c.setEntry i (some { e with outcome := if result = 0 then 0 else 3, cause := cause 0x48 result, final := true })

/-- NVM_COMMAND_DONE: the command ends; its read-back agrees or differs (R825, R808). -/
def Chip.nvmDone (c : Chip) (verified : Bool) : Chip :=
  match c.nvm.cmd with
  | none => c
  | some m =>
    let c := { c with nvm := { c.nvm with cmd := none } }
    let c := if verified then c.nvmEffect m else c.freeTarget m
    let result := if verified then 0 else nvVERIFY
    (((c.wearCheck m).nvmFinal m result).wr R.NVM_STAT 0).wr R.NVM_RESULT result

/-- A command cut off by WRD power-off (R844, R851): NVM_ABORT records it and its target's content is free. -/
def Chip.nvmAbort (c : Chip) : Chip :=
  match c.nvm.cmd with
  | none => c
  | some m =>
    let kind := if m.code < 0x10 then 1 else if m.code = 0x10 then 2 else 3
    let c := { c with nvm := { c.nvm with cmd := none } }
    let c := (c.freeTarget m).nvmFinal m nvABORTED
    (c.wr R.NVM_ABORT (m.addr + kind * 2 ^ 24 + 2 ^ 31)).event 11 R.NVM_EVT 0x10

/-- A write to NVM_OWN (R823, R824): it takes a free interface for the writer; a 0 of the owner releases it. -/
def Chip.nvmOwnWrite (c : Chip) (w : Writer) (v : Nat) : Chip :=
  let own := c.rd R.NVM_OWN
  if own = 0 then c.wr R.NVM_OWN (wOrigin w)
  else if own = wOrigin w ∧ v = 0 then c.wr R.NVM_OWN 0
  else c

/-- The owning thread halts (R824). -/
def Chip.nvmReleaseThread (c : Chip) (t : Nat) : Chip :=
  if !isWarden t && c.rd R.NVM_OWN == originOf t && c.nvm.cmd.isNone then c.wr R.NVM_OWN 0 else c

/-- Who may write NVM_ADDR, NVM_DATA and NVM_WPLIM: the owner, when it is the host, the Warden or a privileged thread. -/
def Chip.nvmMayWrite (c : Chip) (w : Writer) : Bool :=
  (wHost w || c.privWriter w) && c.rd R.NVM_OWN == wOrigin w

/-- A write to NVM_WPLIM: it may only rise (R838). -/
def Chip.nvmWplim (c : Chip) (w : Writer) (v : Nat) : Chip :=
  if !c.nvmMayWrite w then c.refuseWrite w R.NVM_WPLIM.addr stREFUSED
  else if c.rd R.NVM_WPLIM < v % 1024 then c.wr R.NVM_WPLIM (v % 1024)
  else c

/-- NVM_OWN_WRITE. -/
def execNvmOwnWrite (w : Writer) (v : BitVec 16) (s : State) : Out := s.lift (fun c => if c.wrdOn then c.nvmOwnWrite w v.toNat else c.offWrite w)
/-- NVM_OWNER_TIMEOUT: no NVM write of the owner for 1 s, and no command in progress (R824). -/
def execNvmOwnerTimeout (s : State) : Out := s.lift (fun c => if c.nvm.cmd.isNone then c.wr R.NVM_OWN 0 else c)
/-- PROGRAM1. -/
def execProgram1 (w : Writer) (sourceMv : Nat) (s : State) : Out := s.lift (fun c => c.nvmCommand w 0x01 sourceMv 25)
/-- PROGRAM2. -/
def execProgram2 (w : Writer) (sourceMv : Nat) (s : State) : Out := s.lift (fun c => c.nvmCommand w 0x02 sourceMv 25)
/-- ERASE. -/
def execErase (w : Writer) (sourceMv : Nat) (s : State) : Out := s.lift (fun c => c.nvmCommand w 0x10 sourceMv 25)
/-- OTP_PROGRAM. -/
def execOtpProgram (w : Writer) (sourceMv : Nat) (dieC : Int) (s : State) : Out := s.lift (fun c => c.nvmCommand w 0x20 sourceMv dieC)
/-- OTP_SEAL. -/
def execOtpSeal (w : Writer) (sourceMv : Nat) (dieC : Int) (s : State) : Out := s.lift (fun c => c.nvmCommand w 0x21 sourceMv dieC)
/-- ARB_INC. -/
def execArbInc (w : Writer) (sourceMv : Nat) (dieC : Int) (s : State) : Out := s.lift (fun c => c.nvmCommand w 0x22 sourceMv dieC)
/-- NVM_COMMAND_DONE. -/
def execNvmCommandDone (verified : Bool) (s : State) : Out := s.lift (fun c => c.nvmDone verified)
/-- ERASE_SUSPEND (R832, R833). -/
def execEraseSuspend (s : State) : Out :=
  s.lift (fun c => if c.rfld R.NVM_STAT 0 3 = 3 ∧ c.rd R.NVM_SUSCNT < 255 then (c.wbit R.NVM_STAT 2 true).inc R.NVM_SUSCNT else c)
/-- ERASE_RESUME (R832). -/
def execEraseResume (s : State) : Out := s.lift (fun c => c.wbit R.NVM_STAT 2 false)
/-- NVM_WPLIM_WRITE. -/
def execNvmWplimWrite (w : Writer) (v : BitVec 16) (s : State) : Out := s.lift (fun c => if c.wrdOn then c.nvmWplim w v.toNat else c.offWrite w)

end Sys2Proof.Machine
end

