-- ==== Sys2Proof/Machine/Image.lean ====
section
/-!
DEFINITION. Image slots (21 R955 to R959): the layout of a slot, its check, and the choice of the boot slot.
-/
namespace Sys2Proof.Machine

/-- Slot 0 is A, slot 1 is B (R955). -/
def slotBase (k : Nat) : Nat := 0x200000 + 0x100000 * k

/-- `n` bytes of slot `k` from offset `o` on. -/
def Chip.slotBytes (c : Chip) (k o n : Nat) : List Byte := Mem.readN erased c.mem.flash (slotBase k + o) n

/-- A header field, least significant byte first. -/
def Chip.hdr (c : Chip) (k o n : Nat) : Nat := leNat (c.slotBytes k o n)

/-- Header fields. -/
def Chip.imgVersion (c : Chip) (k : Nat) : Nat := c.hdr k 4 1
def Chip.imgWsect (c : Chip) (k : Nat) : Bool := bit (c.hdr k 5 1) 0
def Chip.imgMainLen (c : Chip) (k : Nat) : Nat := c.hdr k 8 4
def Chip.imgEntry (c : Chip) (k core : Nat) : Nat := c.hdr k (12 + 2 * core) 2
def Chip.imgWLen (c : Chip) (k : Nat) : Nat := c.hdr k 16 4
def Chip.imgWEntry (c : Chip) (k : Nat) : Nat := c.hdr k 20 2

/-- Magic, reserved bytes, lengths and entries (R955, R956). -/
def Chip.headerGood (c : Chip) (k : Nat) : Bool :=
  let m := c.imgMainLen k
  let w := c.imgWLen k
  c.slotBytes k 0 4 == [0x46, 0x51, 0x49, 0x4D] && decide (c.hdr k 5 1 < 2) && c.hdr k 6 2 == 0 && c.hdr k 22 42 == 0 &&
    m % 8 == 0 && decide (8 ≤ m) && decide (m ≤ 262144) &&
    decide (c.imgEntry k 0 < 0x8000) && (decide (c.imgEntry k 1 < 0x8000) || c.imgEntry k 1 == 0xFFFF) &&
    w % 8 == 0 && decide (w ≤ 32768) && (c.imgWsect k || w == 0) && decide (c.imgWEntry k < 0x1000)

/-- The keys section is OPEN with rows 8 and 9 blank (R957). -/
def Chip.devKey (c : Chip) : Bool :=
  c.rfld R.OTP_SECT 2 2 == 0 && FMap.get 0 c.nvm.shadow 8 == 0 && FMap.get 0 c.nvm.shadow 9 == 0

/-- The public key's hash equals OTP rows 8 and 9, or any key is accepted. -/
def Chip.keyGood (c : Chip) (k : Nat) : Bool :=
  c.devKey || sha256 (natBytes (c.slotBytes k 64 64)) == c.otpBytes 8 ++ c.otpBytes 9

/-- The bytes that the signature covers. -/
def Chip.imgSigned (c : Chip) (k : Nat) : Nat := 128 + c.imgWLen k + c.imgMainLen k

/-- The signature verifies over the slot up to the end of the main section, every granule of which can be read. -/
def Chip.signatureGood (c : Chip) (k : Nat) : Bool :=
  let n := c.imgSigned k
  let be (o : Nat) : Nat := beNat (c.slotBytes k o 32)
  !c.nvm.flashBad.any (fun g => decide (slotBase k ≤ 16 * g) && decide (16 * g < slotBase k + n + 64)) &&
    ecdsaOk (be 64) (be 96) (ofBe (sha256 (natBytes (c.slotBytes k 0 n)))) (be n) (be (n + 32))

/-- The check of a slot (R956): 0 valid, else why not: 1 header, 2 rollback, 3 key, 4 signature (R980). -/
def Chip.slotCheck (c : Chip) (k : Nat) : Nat :=
  if !c.headerGood k then 1
  else if c.imgVersion k < c.rd R.OTP_ARB then 2
  else if !c.keyGood k then 3
  else if !c.signatureGood k then 4
  else 0

/-- The slot checked first: the higher version, A on a tie (R958). -/
def Chip.firstSlot (c : Chip) : Nat := if c.imgVersion 0 < c.imgVersion 1 then 1 else 0

/-- Bytes as bundles of an instruction memory, from index `i` on. -/
def bundlesOf : Nat → List Byte → Nat → FMap Bundle
  | 0, _, _ => []
  | n + 1, l, i => FMap.set 0 (bundlesOf n (l.drop 8) (i + 1)) i (BitVec.ofNat 64 (leNat (l.take 8)))

/-- The main section of slot `k` as an instruction memory. -/
def Chip.mainImem (c : Chip) (k : Nat) : FMap Bundle :=
  bundlesOf (c.imgMainLen k / 8) (c.slotBytes k (128 + c.imgWLen k) (c.imgMainLen k)) 0

/-- The Warden section of slot `k` as an instruction memory. -/
def Chip.wardenImem (c : Chip) (k : Nat) : FMap Bundle :=
  bundlesOf (c.imgWLen k / 8) (c.slotBytes k 128 (c.imgWLen k)) 0

end Sys2Proof.Machine
end

