-- ==== Sys2Proof/Machine/Ent.lean ====
section
/-!
DEFINITION. The entropy source, its health states and the DRBG (18 R854 to R868), and the fallback LFSRs.
-/
namespace Sys2Proof.Machine

/-- Automatic restarts made. -/
def Chip.entRestarts (c : Chip) : Nat := c.rfld R.ENT_STATE 3 2
/-- The state set; outside RUN the output buffer is empty (R861). -/
def Chip.setEnt (c : Chip) (st : Nat) : Chip :=
  let c := c.wfld R.ENT_STATE 0 3 st
  if st = entRUN then c else { c with ent := { c.ent with buffer := [] } }

/-- Generate requests until the buffer of 32 bytes is full: one block of 16 bytes each (R860). -/
def Chip.drbgFill (c : Chip) : Nat → Chip
  | 0 => c
  | n + 1 =>
    if c.ent.buffer.length ≤ 16 then
      let r := drbgGenerate c.ent.key c.ent.v 1
      Chip.drbgFill { c with ent := { c.ent with buffer := c.ent.buffer ++ toBytes r.1, key := r.2.1, v := r.2.2 } } n
    else c

/-- `n` bytes of the DRBG, at most 16, which no other consumer receives; none outside RUN (R861, 05 R255). -/
def Chip.drbgTake (c : Chip) (n : Nat) : Option (List Byte × Chip) :=
  if c.entState = entRUN then
    let c := c.drbgFill 2
    let b := c.ent.buffer.take n
    some (b, Chip.drbgFill { c with ent := { c.ent with buffer := c.ent.buffer.drop n } } 2)
  else none

/-! ### Fallback LFSRs (R868) -/

/-- One step of a 32-bit Galois LFSR with tap mask 0x80200003. -/
def lfsrStep (x : Nat) : Nat := if x % 2 = 1 then (x / 2) ^^^ 0x80200003 else x / 2

/-- A seed that is zero becomes 1. -/
def lfsrSeed (x : Nat) : Nat := if x % 2 ^ 32 = 0 then 1 else x % 2 ^ 32

/-- A draw of LFSR `i`. -/
def Chip.lfsrDraw (c : Chip) (i : Nat) : Nat × Chip :=
  let x := lfsrStep (FMap.get 1 c.ent.lfsr i)
  (x, { c with ent := { c.ent with lfsr := FMap.set 1 c.ent.lfsr i x } })

/-- Every LFSR seeded at WRD power-up: unique ID, TICKCNT and its own index. -/
def Chip.lfsrInit (c : Chip) : Chip :=
  let uid := FMap.get 0 c.nvm.shadow 0 % 2 ^ 32
  let m := (List.range 10).foldl (fun m i => FMap.set 1 m i (lfsrSeed (uid ^^^ (c.phw.tick % 2 ^ 32) ^^^ i))) ([] : FMap Nat)
  { c with ent := { c.ent with lfsr := m } }

/-- Every LFSR reseeded from the DRBG, four bytes each. -/
def Chip.lfsrReseed (c : Chip) : Chip :=
  (List.range 10).foldl (fun c i =>
    match c.drbgTake 4 with
    | some (b, c) => { c with ent := { c.ent with lfsr := FMap.set 1 c.ent.lfsr i (lfsrSeed (leNat b)) } }
    | none => c) c

/-- A random number below 2^16 for timing: from the DRBG in RUN, else from LFSR `i` (R867). -/
def Chip.timingDraw (c : Chip) (i : Nat) : Nat × Chip :=
  match c.drbgTake 2 with
  | some (b, c) => (leNat b, c)
  | none => let r := c.lfsrDraw i; (r.1 % 2 ^ 16, r.2)

/-! ### Health states (R862 to R866) -/

/-- A failure of a health test: FAILED, or DEAD after three restarts. In STARTUP every failure is the startup test's. -/
def Chip.healthFail (c : Chip) (k : HealthFail) : Chip :=
  let st := c.entState
  if !c.wrdOn || st == 0 || st == entDEAD then c
  else
    let kind := if st = entSTARTUP then 3 else match k with | .rct => 1 | .apt => 2 | .startup => 3
    let c := ((c.wr R.ENT_FAILCAUSE kind).inc R.ENT_FAILCNT).event 12 R.ENT_EVT 1
    let c := c.stageHw 0x40FF 0 0 (cause 0x50 kind)
    if c.entRestarts = 3 then ((c.setEnt entDEAD).event 12 R.ENT_EVT 4).stageHw 0x40FF 0 0 (cause 0x52 0)
    else c.setEnt entFAILED

/-- The holdoff ends: an automatic restart (R863). -/
def Chip.entHoldoff (c : Chip) : Chip :=
  if c.entState = entFAILED then
    let n := c.entRestarts + 1
    (((c.wfld R.ENT_STATE 3 2 n).setEnt entSTARTUP).event 12 R.ENT_EVT 2).stageHw 0x40FF 0 0 (cause 0x51 n)
  else c

/-- The startup test passed and the DRBG is instantiated: RUN (R857, R858, R862). -/
def Chip.entPass (c : Chip) (entropy nonce : Nat) : Chip :=
  if c.entState = entSTARTUP then
    let r := drbgInit (natBytes (leBytes 64 entropy)) (natBytes (leBytes 32 nonce)) ((c.otpBytes 0).take 8)
    let c := { c with ent := { c.ent with key := r.1, v := r.2 } }
    let c := ((c.setEnt entRUN).wr R.ENT_RAW (if c.fuseUnlock then nonce % 2 ^ 32 else 0)).drbgFill 2
    if c.entRestarts = 0 then c else (c.event 12 R.ENT_EVT 8).stageHw 0x40FF 0 0 (cause 0x53 0)
  else c

/-- A reseed with fresh raw bits (R859). -/
def Chip.entReseed (c : Chip) (entropy : Nat) : Chip :=
  if c.entState = entRUN then
    let r := drbgReseed c.ent.key c.ent.v (natBytes (leBytes 64 entropy))
    let c := { c with ent := { c.ent with key := r.1, v := r.2 } }
    (c.wr R.ENT_RESEEDS (c.rd R.ENT_RESEEDS + 1)).wr R.ENT_RAW (if c.fuseUnlock then entropy % 2 ^ 32 else 0)
  else c

/-- HEALTH_TEST_FAILURE. -/
def execHealthTestFailure (k : HealthFail) (s : State) : Out := s.lift (fun c => c.healthFail k)
/-- ENT_HOLDOFF_END. -/
def execEntHoldoffEnd (s : State) : Out := s.lift (fun c => c.entHoldoff)
/-- ENT_STARTUP_PASS. -/
def execEntStartupPass (entropy : BitVec 512) (nonce : BitVec 256) (s : State) : Out := s.lift (fun c => c.entPass entropy.toNat nonce.toNat)
/-- DRBG_RESEED. -/
def execDrbgReseed (entropy : BitVec 512) (s : State) : Out := s.lift (fun c => c.entReseed entropy.toNat)
/-- ENT_RESTARTS_CLEAR: 24 h of RUN without a failure (R865). -/
def execEntRestartsClear (s : State) : Out := s.lift (fun c => if c.entState = entRUN then c.wfld R.ENT_STATE 3 2 0 else c)
/-- LFSR_RESEED. -/
def execLfsrReseed (s : State) : Out := s.lift (fun c => if c.entState = entRUN then c.lfsrReseed else c)

end Sys2Proof.Machine
end

