-- ==== Sys2Proof/Machine/Cap.lean ====
section
/-!
DEFINITION. The CH2 power cap, Millpond with its FILL handshake and CH5 shaping, and the write of the Budget governor's
grant (11).
-/
namespace Sys2Proof.Machine

/-- The bit of SEQ_ON: the domain is ON, STOP_WAIT or OFF_DELAY. CH2 is ON in this sense for the cap engine (log entry 41). -/
def Chip.domUp (c : Chip) (x : Nat) : Bool := decide (4 ≤ (c.dom x).state)

/-! ### The cap engine (R506 to R518) -/

/-- The levels that an evaluation works on (R508). -/
structure CapLevels where
  perf : Nat
  throttle : Bool
  cut : Bool
  hold : Nat
  overs : Nat
  relax : Nat
  deriving DecidableEq, Repr

/-- The thresholds that an evaluation reads. -/
structure CapRules where
  limit : Nat
  perfMin : Nat
  holdN : Nat
  thrN : Nat
  cutN : Nat
  relaxN : Nat
  deriving DecidableEq, Repr

/-- An evaluation that finds the mean above the limit. -/
def CapLevels.escalate (k : CapRules) (v : CapLevels) : CapLevels :=
  if 0 < v.hold then { v with relax := 0, hold := v.hold - 1 }
  else if k.perfMin < v.perf then { v with relax := 0, perf := v.perf - 1, hold := k.holdN }
  else if !v.throttle then { v with relax := 0, overs := v.overs + 1, throttle := decide (k.thrN ≤ v.overs + 1) }
  else if k.cutN = 0 ∨ v.cut then { v with relax := 0 }
  else { v with relax := 0, overs := v.overs + 1, cut := decide (k.thrN + k.cutN ≤ v.overs + 1) }

/-- An evaluation that finds the mean at or below the limit. -/
def CapLevels.ease (k : CapRules) (pavg : Nat) (v : CapLevels) : CapLevels :=
  if 15 * k.limit < 16 * pavg then { v with overs := 0, relax := 0 }
  else if v.relax + 1 < k.relaxN then { v with overs := 0, relax := v.relax + 1 }
  else if v.throttle then { v with overs := 0, relax := 0, throttle := false }
  else { v with overs := 0, relax := 0, perf := if v.perf < 7 then v.perf + 1 else v.perf }

/-- One evaluation (R508); with no limit the levels return (R514). A cut that is pending keeps throttle and the lowest PERF
until CH2 is OFF (R513). -/
def CapLevels.evaluate (k : CapRules) (pavg : Nat) (v : CapLevels) : CapLevels :=
  let w :=
    if k.limit = 0 then { v with perf := 7, throttle := false, hold := 0, overs := 0, relax := 0 }
    else if k.limit < pavg then v.escalate k
    else v.ease k pavg
  if v.cut then { w with perf := k.perfMin, throttle := true } else w

/-- The thresholds in force. -/
def Chip.capRules (c : Chip) : CapRules :=
  ⟨c.rd R.CAP_LIMIT, c.rd R.CAP_PERFMIN, c.rd R.CAP_HOLDN, c.rd R.CAP_THRN, c.rd R.CAP_CUTN, c.rd R.CAP_RELAXN⟩

/-- The levels in force. -/
def Chip.capLevels (c : Chip) : CapLevels :=
  ⟨c.rfld R.CAP_STAT 0 3, c.rbit R.CAP_STAT 3, c.rbit R.CAP_STAT 4, c.cap.hold, c.cap.overs, c.cap.relax⟩

/-- The levels put in force. -/
def Chip.setCapLevels (c : Chip) (v : CapLevels) : Chip :=
  let c := ((c.wfld R.CAP_STAT 0 3 v.perf).wbit R.CAP_STAT 3 v.throttle).wbit R.CAP_STAT 4 v.cut
  { c with cap := { c.cap with hold := v.hold, overs := v.overs, relax := v.relax } }

/-- The object of the cap engine's entries: the domain of CH2 (log entry 41). -/
def capObject : Nat := 0x4000 + dCH 2

/-- What a change of levels records: each step, throttle change and cut stages an entry and sets its event (R510, R511). -/
def Chip.capRecord (c : Chip) (v w : CapLevels) : Chip :=
  let c := if v.perf = w.perf then c else (c.wbit R.CAP_EVT 0 true).stageHw capObject v.perf w.perf (cause 0x20 w.perf)
  let c := if v.throttle = w.throttle then c
    else (c.wbit R.CAP_EVT 1 true).stageHw capObject (b2n v.throttle) (b2n w.throttle) (cause 0x21 w.perf)
  if v.cut = w.cut then c
  else
    let p := c.rd R.CAP_PAVG
    ((c.wbit R.CAP_EVT 2 true).stageHw capObject 0 1 (cause 0x22 w.perf)).toWarden (hwMsg 0x82 p (p / 256) 0 0)

/-! ### FILL and the wheel's alignment (R528, R531, R532, R537, R538, R549) -/

/-- The cores are unaligned (R537). -/
def Chip.unaligned (c : Chip) : Bool :=
  let st := c.wheelState (c.rfld R.MP_CTRL 2 2)
  c.rbit R.MP_CTRL 1 && !(st == 2 || st == 3)

/-- FILL is to be asserted. -/
def Chip.fillWanted (c : Chip) : Bool :=
  c.domUp (dCH 2) && !c.rbit R.CAP_STAT 3 && (c.cap.fillHold || (c.unaligned && c.rd (R.CAP_DROOP 0) == 2))

/-- Millpond's record of a core. -/
def Chip.mp (c : Chip) (k : Nat) : MpCore := FMap.get {} c.cap.cores k

/-- The record changed. -/
def Chip.setMp (c : Chip) (k : Nat) (m : MpCore) : Chip := { c with cap := { c.cap with cores := FMap.set {} c.cap.cores k m } }

/-- UNALIGNED brought to what holds now; with its end the held ramps end (R538). -/
def Chip.alignSettle (c : Chip) : Chip :=
  let un := c.unaligned
  let c := if c.rbit R.CAP_STAT 7 && !un then
      (c.setMp 0 { c.mp 0 with rampUp := false, hold := 0 }).setMp 1 { c.mp 1 with rampUp := false, hold := 0 }
    else c
  c.wbit R.CAP_STAT 7 un

/-- FILL and UNALIGNED brought to what holds now. A new assertion waits for FILL_ACK, and counts as unacknowledged at once
while FILL_ACK is stuck. -/
def Chip.fillSettle (c : Chip) : Chip :=
  let c := c.alignSettle
  if c.fillWanted = c.rbit R.CAP_STAT 5 then c
  else if c.rbit R.CAP_STAT 5 then c.wbit R.CAP_STAT 5 false
  else
    let c := c.wbit R.CAP_STAT 5 true
    if c.cap.stuck then c.wbit R.CAP_EVT 3 true
    else { c with cap := { c.cap with ackWait := !c.rbit R.CAP_STAT 6 } }

/-- One evaluation of the cap engine; CH2 is up (R516). -/
def Chip.capEvaluate (c : Chip) (pavg : Nat) : Chip :=
  if c.domUp (dCH 2) then
    let c := if c.rd R.CAP_LIMIT = 0 then c else c.wr R.CAP_PAVG pavg
    let v := c.capLevels
    let w := v.evaluate c.capRules pavg
    ((c.setCapLevels w).capRecord v w).fillSettle
  else c

/-- CH2 reaches ON: the engine starts (R517). -/
def Chip.capStart (c : Chip) : Chip :=
  ((c.wr R.CAP_PAVG 0).setCapLevels { c.capLevels with perf := 7, throttle := false, hold := 0, overs := 0, relax := 0 }).fillSettle

/-- CH2 is no longer ON: PERF 0, THROTTLE_N and FILL deasserted, the mean 0, and no cut pending (R513, R516). -/
def Chip.capStop (c : Chip) : Chip :=
  let c := (c.wr R.CAP_PAVG 0).setCapLevels ⟨0, false, false, 0, 0, 0⟩
  { c with cap := { c.cap with fillDue := none, fillHold := false, ackWait := false } }.fillSettle

/-- CAP_DROOP_k has changed (R556). Shaping ends at the next period. -/
def Chip.droopChanged (c : Chip) (k : Nat) : Chip :=
  if k = 0 ∧ c.rd (R.CAP_DROOP 0) ≠ 2 then { c with cap := { c.cap with fillHold := false, fillDue := none } }.fillSettle
  else c.fillSettle

/-! ### Core level and ramps (R522 to R530, R535 to R538) -/

/-- A profile's byte: TOP, UP, DN, DITHER. -/
def Chip.profByte (c : Chip) (p i : Nat) : Nat := c.rfld (R.MP_PROF p) (8 * i) 8

/-- HOLD of a profile, in units of 100 µs. -/
def Chip.profHold (c : Chip) (p : Nat) : Nat := c.rfld (R.MP_PROF p) 32 16

/-- Main core `k` executes: CPU is on and the core is not held in reset. -/
def Chip.coreOn (c : Chip) (k : Nat) : Bool := if k = 2 then c.policyOn else c.domOn dCPU && !(c.core k).held

/-- The core's share of cycles of the period that issued a real bundle, in 1/256, at most 255. -/
def Chip.realShare (c : Chip) (k : Nat) : Nat :=
  let m := c.mp k
  min 255 (m.real * 256 / max 1 ((c.core k).cyc - m.start))

/-- The level after a period, the ramp flag and the hold (R522). -/
def levelStep (un rampUp : Bool) (hold lvl top up dn floor hold0 : Nat) : Nat × Bool × Nat :=
  let up := max 1 up
  if un then (min top (lvl + up), true, 0)
  else if rampUp then
    let l := min top (lvl + up)
    if l = top then (l, false, 10 * hold0) else (l, true, hold)
  else if 0 < hold then (lvl, false, hold - 1)
  else (max floor (lvl - max 1 dn), false, 0)

/-- A period boundary of one core. While unaligned the ramp is held with profile 0 (R537). -/
def Chip.mpPeriod (c : Chip) (k : Nat) : Chip :=
  let m := c.mp k
  let un := c.unaligned
  let p := if un then 0 else m.prof
  let r := levelStep un m.rampUp m.hold (c.rd (R.MP_LEVEL k)) (c.profByte p 0) (c.profByte p 1) (c.profByte p 2) (c.rd R.MP_FLOOR) (c.profHold p)
  let c := if c.domOn dCPU then c.wr (R.MP_LEVEL k) (max r.1 (c.realShare k)) else c
  c.setMp k { m with rampUp := r.2.1, hold := r.2.2, prof := p, real := 0, filler := 0, start := (c.core k).cyc }

/-- MILLPOND_PERIOD: both cores while CORE_EN is set, and the end of CH5 shaping when its strategy has left MILLPOND
(R556). -/
def Chip.mpPeriods (c : Chip) : Chip :=
  let c := if c.rbit R.MP_CTRL 0 then (c.mpPeriod 0).mpPeriod 1 else c
  let c := if c.rd (R.CAP_DROOP 2) = 2 then c else { c with cap := { c.cap with shaping := false } }
  c.fillSettle

/-- A ramp asked for on one target with profile `p`: on a core or CH2 it waits for its drawn delay; on CH3 and CH5 the
profile comes into force for shaping (R526 to R529). The delay's length is time, which the command that ends it stands for;
its draw is made (R551). A CH2 ramp under throttle is only counted (R549). -/
def Chip.rampAsk (c : Chip) (target p : Nat) : Chip :=
  match target with
  | 0 => let c := (c.timingDraw 0).2; c.setMp 0 { c.mp 0 with due := some p }
  | 1 => let c := (c.timingDraw 1).2; c.setMp 1 { c.mp 1 with due := some p }
  | 2 =>
    if !c.domUp (dCH 2) then c
    else if c.rbit R.CAP_STAT 3 then c.wbit R.CAP_EVT 5 true
    else let c := (c.timingDraw 0).2; { c with cap := { c.cap with fillDue := some p } }
  | 3 => c.wr (R.CAP_SHAPE 1) p
  | _ => c.wr (R.CAP_SHAPE 2) p

/-- A slot of class 7: ARG [1:0] is the target, [7:4] the profile (R526). -/
def Chip.rampSlot (c : Chip) (arg : Nat) : Chip :=
  let p := fld arg 4 4
  match fld arg 0 2 with
  | 0 => c.rampAsk 2 p
  | 1 => c.rampAsk 3 p
  | 2 => c.rampAsk 4 p
  | _ => (c.rampAsk 0 p).rampAsk 1 p

/-- The delay of a ramp ends (R527, R528, R530). -/
def Chip.rampBegin (c : Chip) (target : Nat) : Chip :=
  if target = 2 then
    match c.cap.fillDue with
    | some p =>
      let c := { c with cap := { c.cap with fillDue := none } }
      if c.rbit R.CAP_STAT 3 then c.wbit R.CAP_EVT 5 true
      else if c.profHold p = 0 then c
      else { c with cap := { c.cap with fillHold := true } }.fillSettle
    | none => c
  else
    match (c.mp target).due with
    | some p => c.setMp target { c.mp target with due := none, rampUp := true, hold := 0, prof := p }
    | none => c

/-- CPU powers off: no filler, L 0, no ramp (R555). -/
def Chip.mpCpuOff (c : Chip) : Chip :=
  let c := (c.wr (R.MP_LEVEL 0) 0).wr (R.MP_LEVEL 1) 0
  { c with cap := { c.cap with cores := [] } }

/-- A filler bundle is due in an idle cycle of core `k`: the bundles so far are below L/256 of the cycles elapsed, outside a
thermal pause (R523, R550). -/
def Chip.fillerDue (c : Chip) (k : Nat) : Bool :=
  let m := c.mp k
  c.rbit R.MP_CTRL 0 && c.coreOn k &&
    decide ((m.real + m.filler) * 256 < c.rd (R.MP_LEVEL k) * ((c.core k).cyc - m.start))

/-! ### The grant (R543, R552, R553) -/

/-- A write of GOV_GRANT by the Warden. A raise in UNCHECKED leaves it and is logged with outcome 3; every other write is
logged and takes effect. The word logged holds GOV_DEFCNT[0] above the grant (16 R777). -/
def Chip.govWrite (c : Chip) (w : Writer) (v : Nat) : Chip :=
  let g := c.rfld R.GOV_GRANT 0 3
  let hi := c.rd (R.GOV_DEFCNT 0) * 65536
  let n := v % 8
  if !c.wrdOn || c.wdnState == 2 then c
  else if c.wdnState = 1 ∧ g < n then
    match c.stageWrite { origin := wOrigin w, object := regObject 0x805100, old := hi + g, new := hi + n, outcome := 3, cause := cause 0x12 0 } with
    | (c, true) => c
    | (c, false) => c.refuseWrite w 0x805100 stLEDGER
  else c.loggedWrite w 0x805100 (hi + g) (hi + n) (fun c => c.wr R.GOV_GRANT n)

/-- CAP_EVALUATE. -/
def execCapEvaluate (pavg : BitVec 16) (s : State) : Out := s.lift (fun c => c.capEvaluate pavg.toNat)
/-- MILLPOND_RAMP_BEGIN. -/
def execMillpondRampBegin (target : Fin 3) (s : State) : Out := s.lift (fun c => c.rampBegin target.val)
/-- FILL_HOLD_END (R528). -/
def execFillHoldEnd (s : State) : Out := s.lift (fun c => { c with cap := { c.cap with fillHold := false } }.fillSettle)
/-- FILL_NOACK (R531): MP_ACKTO has passed since an assertion that FILL_ACK has not followed. -/
def execFillNoack (s : State) : Out :=
  s.lift (fun c => if c.cap.ackWait then { c.wbit R.CAP_EVT 3 true with cap := { c.cap with ackWait := false } } else c)
/-- FILL_ACK_STUCK (R532): FILL_ACK has been asserted for 1 ms while FILL is deasserted. -/
def execFillAckStuck (s : State) : Out :=
  s.lift (fun c => if c.rbit R.CAP_STAT 6 && !c.rbit R.CAP_STAT 5 then { c.wbit R.CAP_EVT 4 true with cap := { c.cap with stuck := true } } else c)
/-- FILL_ACK_EDGE (R531, R532): the acknowledgement, or the end of a stuck FILL_ACK. Bank A must be good (02 R72). -/
def execFillAckEdge (asserted : Bool) (s : State) : Out :=
  s.lift (fun c =>
    if asserted && !c.rbit R.SYS_SUPPLY 8 then c
    else
      let c := c.wbit R.CAP_STAT 6 asserted
      if asserted then (if c.cap.stuck then c else { c with cap := { c.cap with ackWait := false } })
      else { c with cap := { c.cap with stuck := false } })
/-- CH5_SHAPE_RELEASE (R536). -/
def execCh5ShapeRelease (s : State) : Out := s.lift (fun c => { c with cap := { c.cap with shaping := false } })
/-- GOV_GRANT_WRITE (R543): the policy thread s0 writes. -/
def execGovGrantWrite (v : BitVec 8) (s : State) : Out := s.lift (fun c => c.govWrite (.warden 0) v.toNat)

end Sys2Proof.Machine
end

