-- ==== Sys2Proof/Machine/Chn.lean ====
section
/-!
DEFINITION. The regulator channels CH0 to CH7 (10): target and slew, soft-start, limits, and the status each shows. Their
trips, which shut the station off, are in Trips.
-/
namespace Sys2Proof.Machine

/-- Channel `n` beside its registers. -/
def Chip.ch (c : Chip) (n : Nat) : ChnSt := FMap.get {} c.chn n

/-- The record changed. -/
def Chip.setCh (c : Chip) (n : Nat) (x : ChnSt) : Chip := { c with chn := FMap.set {} c.chn n x }

/-- Minimum, step and last code of a setpoint, in mV; CH5 and CH7 have none (R460). -/
def chRange (n : Nat) : Option (Nat × Nat × Nat) :=
  match n with
  | 0 => some (1800, 50, 30)
  | 1 => some (900, 10, 270)
  | 2 => some (600, 5, 120)
  | 3 => some (3000, 20, 125)
  | 4 => some (5000, 100, 100)
  | 6 => some (5000, 20, 750)
  | _ => none

/-- The domain of channel `n` is enabled. -/
def Chip.chOn (c : Chip) (n : Nat) : Bool := c.domOn (dCH n)

/-- CH6_PATH in force: 0 none, 1 PORT, 2 DOCK (R490). -/
def Chip.ch6Path (c : Chip) : Nat := let p := c.rd R.CH6_PATH; if p = 3 then 0 else p

/-- The mode that an enable of CH6 latches: 0 idle, 1 PORT source, 2 DOCK source (R491). -/
def Chip.ch6Mode (c : Chip) : Nat :=
  let d := c.rfld (R.CHn_MODE 6) 2 2
  if d = 0 ∨ d = 3 then 0 else if c.ch6Path ≠ 0 ∧ c.ch6Path ≠ d then 0 else d

/-- CH6 sources PORT (R493, R604, R609). -/
def Chip.portSource (c : Chip) : Bool := c.chOn 6 && (c.ch 6).dir == 1

/-- The MARGIN percentage in force on a channel: CH2 and CH3 under strategy 1, clamped to 3 to 10 (R519, R520). -/
def Chip.chMargin (c : Chip) (n : Nat) : Nat :=
  match n with
  | 2 => if c.rd (R.CAP_DROOP 0) = 1 then min 10 (max 3 (c.rd (R.CAP_MARGIN 0))) else 0
  | 3 => if c.rd (R.CAP_DROOP 1) = 1 then min 10 (max 3 (c.rd (R.CAP_MARGIN 1))) else 0
  | _ => 0

/-- The target in mV (R461, R463, R493): the code's voltage raised by the margin and clamped. -/
def Chip.chTarget (c : Chip) (n : Nat) : Nat :=
  match chRange n with
  | none => 0
  | some (lo, step, last) =>
    let v := if n = 6 ∧ (if c.chOn 6 then (c.ch 6).dir else c.ch6Mode) = 1 then 5000 else lo + step * min (c.rd (R.CHn_SET n)) last
    min (v * (100 + c.chMargin n) / 100) (if n = 2 then 1320 else lo + step * last)

/-- First and last valid code of a limit (R479). -/
def limRange (n : Nat) : Nat × Nat :=
  match n with
  | 0 => (0, 14) | 1 => (0, 25) | 2 => (10, 80) | 3 => (0, 35) | 4 => (0, 10) | 5 => (5, 50) | 6 => (0, 50) | _ => (0, 6)

/-- The limit code in force: clamped, and on CH3 at most 3.0 A after its fall-back (R479, R480). -/
def Chip.chLimit (c : Chip) (n : Nat) : Nat :=
  let k := min (limRange n).2 (max (limRange n).1 (c.rd (R.CHn_ILIM n)))
  if n = 3 ∧ (c.ch 3).fallen then min k 25 else k

/-- The over-voltage percentage (R478). -/
def ovpPercent (code : Nat) : Nat := match code % 4 with | 0 => 10 | 1 => 12 | 2 => 15 | _ => 20

/-- The over-voltage threshold outside soft-start, in hundredths of a millivolt: above the target, and during a downward slew
above the target from before it (R466, R478). -/
def Chip.ovpLevel (c : Chip) (n : Nat) : Nat :=
  let t := c.chTarget n
  (match (c.ch n).slewFrom with | some o => max o t | none => t) * (100 + ovpPercent (c.rd (R.CHn_OVP n)))

/-- A CHn_STAT bit. -/
def Chip.chStat (c : Chip) (n i : Nat) : Bool := c.rbit (R.CHn_STAT n) i

/-- CHn_VEFF brought to the target in force; 0 while the channel is off (R463). -/
def Chip.showVeff (c : Chip) (n : Nat) : Chip := c.wr (R.CHn_VEFF n) (if c.chOn n then c.chTarget n else 0)

/-- `f` changes what the target of channel `n` depends on; once soft-start has ended the reference slews (R464 to R467). -/
def Chip.retarget (c : Chip) (n : Nat) (f : Chip → Chip) : Chip :=
  let old := c.chTarget n
  let c := f c
  let new := c.chTarget n
  let c := if c.chOn n && c.chStat n 0 && old != new then
      let from' := if new < old then some (match (c.ch n).slewFrom with | some o => max o old | none => old) else (c.ch n).slewFrom
      c.setCh n { c.ch n with slewing := true, slewFrom := from' }
    else c
  c.showVeff n

/-- Channel `n` is enabled: its ramp begins, and CH6 takes its direction (R471, R472, R494). -/
def Chip.chEnable (c : Chip) (n : Nat) : Chip :=
  let c := c.setCh n { c.ch n with slewing := false, slewFrom := none, shed := false, dir := if n = 6 then c.ch6Mode else 0 }
  let c := c.wr (R.CHn_STAT n) (if n = 5 then c.rd (R.CHn_STAT 5) &&& 0x10 else 0)
  c.showVeff n

/-- Channel `n` is disabled: only REVERSE of CH5 and DIR_PEND remain in its status (R488, R494, R498). -/
def Chip.chDisable (c : Chip) (n : Nat) : Chip :=
  let c := c.setCh n { c.ch n with slewing := false, slewFrom := none, shed := false, dir := 0 }
  let c := c.wr (R.CHn_STAT n) (c.rd (R.CHn_STAT n) &&& (if n = 5 then 0x10 else if n = 6 then 0x20 else 0))
  c.showVeff n

/-- CH6_DIR applied: while CH6 is not OFF it waits for the next enable (R494). -/
def Chip.setDir (c : Chip) (v : Nat) : Chip :=
  let old := c.rfld (R.CHn_MODE 6) 2 2
  let c := c.wfld (R.CHn_MODE 6) 2 2 v
  let c := if (c.dom (dCH 6)).state ≠ 0 ∧ v % 4 ≠ old then c.wbit (R.CHn_STAT 6) 5 true else c
  c.showVeff 6

/-- The channel has an internal PG (R417). -/
def intPg (n : Nat) : Bool := n == 0 || n == 1 || n == 3 || n == 4 || n == 7

/-- SOFT_START_END (R471, R472): the ramp, or the gate ramp of CH5, has ended. -/
def execSoftStartEnd (n : Fin 8) (s : State) : Out :=
  s.lift (fun c => if c.chOn n.val then c.wbit (R.CHn_STAT n.val) 0 true else c)
/-- CHANNEL_PG_CHANGE (R473): internal PG asserts once the ramp has ended, and deasserts. -/
def execChannelPgChange (n : Fin 8) (good : Bool) (s : State) : Out :=
  s.lift (fun c => if c.chOn n.val && intPg n.val && (!good || c.chStat n.val 0) then c.wbit (R.CHn_STAT n.val) 1 good else c)
/-- SLEW_END (R466, R467). -/
def execSlewEnd (n : Fin 8) (s : State) : Out :=
  s.lift (fun c => c.setCh n.val { c.ch n.val with slewing := false, slewFrom := none })
/-- CURRENT_LIMIT_ENTER (R476): the channel limits, and the entry is counted. On CH5 under MILLPOND the limit is the shaped
one (11 R535). -/
def execCurrentLimitEnter (n : Fin 8) (s : State) : Out :=
  s.lift (fun c =>
    if c.chOn n.val && !c.chStat n.val 2 then
      let c := (c.wbit (R.CHn_STAT n.val) 2 true).inc (R.CHn_LIMCNT n.val)
      if n.val = 5 ∧ c.rd (R.CAP_DROOP 2) = 2 then { c with cap := { c.cap with shaping := true } } else c
    else c)
/-- CURRENT_LIMIT_EXIT (R476). -/
def execCurrentLimitExit (n : Fin 8) (s : State) : Out :=
  s.lift (fun c =>
    let c := c.wbit (R.CHn_STAT n.val) 2 false
    if n.val = 5 then { c with cap := { c.cap with shaping := false } } else c)
/-- CH3_LIMIT_FALLBACK (R480). -/
def execCh3LimitFallback (s : State) : Out :=
  s.lift (fun c => if c.chOn 3 then c.setCh 3 { c.ch 3 with fallen := true } else c)
/-- CH3_LIMIT_RESTORE (R480). -/
def execCh3LimitRestore (s : State) : Out := s.lift (fun c => c.setCh 3 { c.ch 3 with fallen := false })
/-- CH2_PHASE_SHED (R483). -/
def execCh2PhaseShed (s : State) : Out :=
  s.lift (fun c => if c.chOn 2 && c.rbit (R.CHn_MODE 2) 1 then c.setCh 2 { c.ch 2 with shed := true } else c)
/-- CH2_PHASE_RESUME (R483). -/
def execCh2PhaseResume (s : State) : Out := s.lift (fun c => c.setCh 2 { c.ch 2 with shed := false })
/-- CH6_REVERSE_FLOW (R495). -/
def execCh6ReverseFlow (on : Bool) (s : State) : Out :=
  s.lift (fun c => if c.chOn 6 && (c.ch 6).dir != 0 then c.wbit (R.CHn_STAT 6) 4 on else c)
/-- CH4_BYPASS (R501). -/
def execCh4Bypass (on : Bool) (s : State) : Out := s.lift (fun c => if c.chOn 4 then c.wbit (R.CHn_STAT 4) 3 on else c)
/-- CH0_DROPOUT (R500). -/
def execCh0Dropout (on : Bool) (s : State) : Out := s.lift (fun c => if c.chOn 0 then c.wbit (R.CHn_STAT 0) 3 on else c)

end Sys2Proof.Machine
end

