-- ==== Sys2Proof/Machine/Chg.lean ====
section
/-!
DEFINITION. The power path and the pulsed charger (12): selection and detection of inputs, the charge phase machine,
temperature zones, the open-circuit sample and the reverse reserve. Battery trips are in Trips, SHIP in Modes.
-/
namespace Sys2Proof.Machine

/-- Charge phases (R581). -/
def phOFF : Nat := 0
def phWAIT : Nat := 1
def phPRE : Nat := 2
def phPULSE : Nat := 3
def phREST : Nat := 4
def phDONE : Nat := 5
def phHOLD : Nat := 6
def phFAULT : Nat := 7
def phCV : Nat := 8

/-- The phase of the charger. -/
def Chip.chgPhase (c : Chip) : Nat := c.rfld R.CHG_STATE 0 4
/-- The termination count. -/
def Chip.chgCount (c : Chip) : Nat := c.rfld R.CHG_STATE 4 2
/-- The chemistry: 0 none, 1 LFP, 2 NMC, 3 CUSTOM. -/
def Chip.chem (c : Chip) : Nat := c.rfld R.CHG_CHEM 0 2
/-- The cell count. -/
def Chip.cells (c : Chip) : Nat := c.rfld R.CHG_CHEM 2 2 + 1
/-- The mode: 0 OFF, 1 PULSED, 2 MAINTAIN; code 3 acts as 0 (R581). -/
def Chip.chgMode (c : Chip) : Nat := let m := c.rd R.CHG_MODE; if m = 3 then 0 else m
/-- ICHG in mA (R574). -/
def Chip.ichg (c : Chip) : Nat := 100 + 25 * min (c.rd R.CHG_ICHG) 316

/-- VREG in force, mV per cell: clamped to the range of the chemistry (R573, R574). -/
def Chip.vreg (c : Chip) : Nat :=
  let v := c.rd R.CHG_VREG
  match c.chem with
  | 0 => 0
  | 1 => min 3650 (max 3400 v)
  | 2 => min 4350 (max 4000 v)
  | _ => min 4400 (max 3000 v)

/-- The recharge and CV level of the pack, mV. -/
def Chip.rechargeLevel (c : Chip) : Nat := (c.vreg - c.rd R.CHG_VRECH) * c.cells

/-- The battery is present. -/
def Chip.vbatPres (c : Chip) : Bool := c.rbit R.SYS_SUPPLY 4

/-- Input `i` (0 SOLAR, 1 WAVE, 2 PORT, 3 STRING) is present and an input; PORT is none while CH6 sources it (R609). -/
def Chip.inputLive (c : Chip) (i : Nat) : Bool := c.rbit R.SYS_SUPPLY i && !(i == 2 && c.portSource)

/-- Some input is present. -/
def Chip.anyInput (c : Chip) : Bool := [0, 1, 2, 3].any c.inputLive

/-- The part is in SHIP or powering down into it, so that every gate is open (R600). -/
def Chip.inShip (c : Chip) : Bool := c.mode.power == 5

/-! ### Selection, detection and limits (R557 to R567) -/

/-- The inputs by rank; a repeated code acts as the reset value. -/
def Chip.inputRanks (c : Chip) : List Nat :=
  let l := [c.rfld R.CHG_PRIO 0 2, c.rfld R.CHG_PRIO 2 2, c.rfld R.CHG_PRIO 4 2, c.rfld R.CHG_PRIO 6 2]
  if l.Nodup then l else [2, 3, 0, 1]

/-- Primary and assist as CHG_STAT codes them: 0 to 3 an input, 7 none. -/
def Chip.primary (c : Chip) : Nat := c.rfld R.CHG_STAT 0 3
/-- The assist. -/
def Chip.assist (c : Chip) : Nat := c.rfld R.CHG_STAT 3 3

/-- Primary and assist among the present inputs (R557, R559). PORT displaces a present primary only once it is detected. -/
def Chip.select (c : Chip) : Chip :=
  let live := if c.inShip then [] else c.inputRanks.filter c.inputLive
  let hold := live.contains c.primary
  let cand := live.filter (fun i => !(i == 2) || c.chg.detDone || !hold || c.primary == 2)
  let p := cand.getD 0 7
  let a := if c.rbit R.CHG_ASSIST 0 then cand.getD 1 7 else 7
  let c := if p = c.primary then c
    else
      let c := if c.chgPhase = phPULSE then { c with chg := { c.chg with counting := false } } else c
      c.event 6 R.CHG_EVT 0x20
  (c.wfld R.CHG_STAT 0 3 p).wfld R.CHG_STAT 3 3 a

/-- The limit that detection gives PORT, mA (R562, R563). -/
def portLimit (rp : RpAdvert) (bc : Bc12) (done : Bool) : Nat :=
  if !done then 100
  else
    match rp, bc with
    | .rp30, _ => 3000
    | .rp15, _ => 1500
    | .default, .cdp => 1500
    | .default, .dcp => 1500
    | .default, _ => 500
    | .none, .sdp => 500
    | .none, .cdp => 1500
    | .none, .dcp => 1500
    | .none, .nothing => 100

/-- CHG_DET [2:0]: what PORT is. -/
def portCode (rp : RpAdvert) (bc : Bc12) (done : Bool) : Nat :=
  if !done then 0
  else
    match rp, bc with
    | .rp30, _ => 7
    | .rp15, _ => 6
    | .default, _ => 5
    | .none, .sdp => 2
    | .none, .cdp => 3
    | .none, .dcp => 4
    | .none, .nothing => 1

/-- The detected limit of an input (R562, R566). -/
def Chip.detLimit (c : Chip) (i : Nat) : Nat :=
  match i with
  | 0 => match c.rfld R.CHG_DET 3 2 with | 1 => c.rd R.CHG_ICL_S12 | 2 => c.rd R.CHG_ICL_S24 | _ => 500
  | 1 => if c.rbit R.CHG_DET 5 then c.rd (R.CHG_ICLMAX 1) else 100
  | 2 => portLimit c.chg.rp c.chg.bc12 c.chg.detDone
  | _ => if c.rd R.CHG_STRBUD = 0 then 250 else c.rd R.CHG_STRBUD

/-- The detection results and effective limits shown; an absent input has the limit 0. -/
def Chip.showInputs (c : Chip) : Chip :=
  let c := if c.inputLive 2 then c else { c with chg := { c.chg with rp := .none, bc12 := .nothing, detDone := false } }
  let c := c.wfld R.CHG_DET 0 3 (portCode c.chg.rp c.chg.bc12 c.chg.detDone)
  let c := c.wbit R.CHG_DET 6 (c.rd R.CHG_STRBUD != 0)
  let c := if c.anyInput then c else c.wbit R.CHG_STAT 8 false
  let c := c.wbit R.CHG_STAT 14 (c.chg.dock && !c.domUp (dCH 6))
  let c := c.wbit R.CHG_STAT 13 (c.rbit R.CHG_CTRL 3)
  [0, 1, 2, 3].foldl (fun c i => c.wr (R.CHG_ICL_EFF i) (if c.inputLive i then min (c.detLimit i) (c.rd (R.CHG_ICLMAX i)) else 0)) c

/-! ### The phase machine (R581 to R599) -/

/-- The zone in force: Normal while NTC0 is ignored (R599). -/
def Chip.zone (c : Chip) : Nat := if c.rbit R.CHG_CTRL 3 then 2 else c.rfld R.CHG_STAT 10 3

/-- The zone stops charging (R582, R597). -/
def Chip.badZone (c : Chip) : Bool := !c.rbit R.CHG_CTRL 3 && (c.chg.ntcBad || c.zone == 0 || c.zone == 4)

/-- The charger may run: a mode, a chemistry, and WRD on (R582). -/
def Chip.chgRun (c : Chip) : Bool := c.chgMode != 0 && c.chem != 0 && c.wrdOn && !c.inShip

/-- Gates are followed now (R591). -/
def Chip.gating (c : Chip) : Bool :=
  let st := c.wheelState (c.rfld R.CHG_CTRL 1 2)
  c.rbit R.CHG_CTRL 0 && c.wrdOn && (st == 2 || st == 3)

/-- The termination count set. -/
def Chip.setCount (c : Chip) (n : Nat) : Chip := c.wfld R.CHG_STATE 4 2 n

/-- A phase entered, with what each entry does (R582, R584, R590, R592). -/
def Chip.enterPhase (c : Chip) (ph : Nat) : Chip :=
  let old := c.chgPhase
  let c := c.wfld R.CHG_STATE 0 4 ph
  let c := { c with chg := { c.chg with gated := c.gating && (ph == phPULSE || ph == phREST), gateDue := false, forced := none
                                        prevDone := if ph = phWAIT then old == phDONE else c.chg.prevDone } }
  let c := if ph = phWAIT ∨ ph = phHOLD ∨ ph = phPRE then c.setCount 0 else c
  let c := if ph = phDONE then c.event 6 R.CHG_EVT 1 else c
  let c := if ph = phREST then c.wbit R.CHG_STAT 9 false else c
  if ph = phPULSE then { c.wr R.CHG_PULSECNT (c.rd R.CHG_PULSECNT + 1) with chg := { c.chg with counting := true } } else c

/-- A pulse with IPULSE = ICHG (R582). -/
def Chip.firstPulse (c : Chip) : Chip := (c.wr R.CHG_IPULSE c.ichg).enterPhase phPULSE

/-- PULSE or CV, as the mode says. -/
def Chip.startCharge (c : Chip) : Chip := if c.chgMode = 1 then c.firstPulse else c.enterPhase phCV

/-- The phase that a row of R582 without an event of its own leads to. -/
def Chip.phaseRow (c : Chip) : Option Nat :=
  let p := c.chgPhase
  let active := p == phPRE || p == phPULSE || p == phREST || p == phCV || p == phDONE
  if p ≠ phOFF ∧ !c.chgRun then some phOFF
  else if p = phOFF ∧ c.chgRun then some phWAIT
  else if active && !(c.vbatPres && c.anyInput) then some phWAIT
  else if (p == phPRE || p == phPULSE || p == phREST || p == phCV || p == phWAIT) && c.badZone then some phHOLD
  else if p = phFAULT ∧ !c.anyInput then some phOFF
  else none

/-- The phase machine followed until no row applies: at most OFF, WAIT and HOLD in turn. -/
def Chip.phaseSettle (c : Chip) : Nat → Chip
  | 0 => c
  | n + 1 => match c.phaseRow with | some p => (c.enterPhase p).phaseSettle n | none => c

/-- Selection, detection and phase brought to what holds now. -/
def Chip.chgSettle (c : Chip) : Chip := (c.select.showInputs).phaseSettle 4

/-- The budget of a join reply (R566). -/
def Chip.setStrbud (c : Chip) (v : Nat) : Chip := (c.wr R.CHG_STRBUD v).chgSettle

/-- A CHG_MODE written by its order: FAULT ends; a change between PULSED and MAINTAIN in an active phase goes through WAIT
(R582, R584). -/
def Chip.setChgMode (c : Chip) (v : Nat) : Chip :=
  let old := c.chgMode
  let c := c.wr R.CHG_MODE v
  let p := c.chgPhase
  if p = phFAULT then (c.enterPhase phOFF).chgSettle
  else if old ≠ c.chgMode ∧ c.chgMode ≠ 0 ∧ p ≠ phOFF ∧ p ≠ phHOLD ∧ p ≠ phWAIT then (c.enterPhase phWAIT).chgSettle
  else c.chgSettle

/-- The per-cell defaults that a write of CHG_CHEM loads (R573): VREG, VLOW, VUV, VOV, REV_VMIN; CUSTOM keeps them. -/
def chemDefaults (chem : Nat) : Option (Nat × Nat × Nat × Nat × Nat) :=
  match chem with
  | 0 => some (0, 0, 0, 0, 0)
  | 1 => some (3500, 2500, 2200, 3750, 3100)
  | 2 => some (4200, 3000, 2700, 4400, 3500)
  | _ => none

/-- CHG_CHEM has been written (R573, R590). -/
def Chip.chemWritten (c : Chip) : Chip :=
  let old := c.rd R.CHG_VREG
  let c :=
    match chemDefaults c.chem with
    | some (a, b, d, e, f) => c.wrs [(R.CHG_VREG, a), (R.CHG_VLOW, b), (R.CHG_VUV, d), (R.CHG_VOV, e), (R.CHG_REV_VMIN, f)]
    | none => c
  (if c.rd R.CHG_VREG = old then c else c.setCount 0).chgSettle

/-- The end current is below ITERM (R588). -/
def Chip.belowIterm (c : Chip) (i : Nat) : Bool := decide (i * 2 ^ (c.rd R.CHG_ITERM + 2) < c.ichg)

/-- A pulse ends with battery current `i`; `limited` says that an input limit, VINREG or the die's limit reduced it
(R587 to R589). -/
def Chip.endPulse (c : Chip) (i : Nat) (limited : Bool) : Chip :=
  let c := c.wr R.CHG_IEND i
  if limited || !c.chg.counting then c.enterPhase phREST
  else
    let c := c.wr R.CHG_IPULSE (max 100 (i / 25 * 25))
    let c := c.setCount (if c.belowIterm i then min 3 (c.chgCount + 1) else 0)
    if c.chgCount = 3 then c.enterPhase phDONE else c.enterPhase phREST

/-- A class 4 gate (R591, R594): a rest gate while in PULSE, a pulse gate while in REST. -/
def Chip.chgGate (c : Chip) (rest : Bool) : Chip :=
  if c.gating && c.chg.forced.isNone && (if rest then c.chgPhase == phPULSE else c.chgPhase == phREST) then { c with chg := { c.chg with gateDue := true } } else c

/-- The phase may end now by its own timer, or by a gate that is due (R591 to R593). -/
def Chip.phaseMayEnd (c : Chip) : Bool := c.chg.forced.isNone && (!(c.chg.gated && c.gating) || c.chg.gateDue)

/-! ### Temperature zones (R597 to R599) -/

/-- The thresholds T1 to T4 in tenths of a degree; an out-of-order set acts as the reset set. -/
def Chip.jeita (c : Chip) : List Int :=
  let t (i : Nat) : Int := 10 * toSigned 8 (c.rfld R.CHG_JEITA (8 * i) 8)
  if t 0 < t 1 ∧ t 1 < t 2 ∧ t 2 < t 3 then [t 0, t 1, t 2, t 3] else [0, 100, 450, 600]

/-- The zone of a temperature. -/
def rawZone (l : List Int) (t : Int) : Nat :=
  if t < l.getD 0 0 then 0 else if t < l.getD 1 0 then 1 else if t ≤ l.getD 2 0 then 2 else if t ≤ l.getD 3 0 then 3 else 4

/-- The distance of a zone from Normal. -/
def zoneDist (z : Nat) : Nat := if z < 2 then 2 - z else z - 2

/-- The zone with 2 °C of hysteresis on the way back to Normal. -/
def nextZone (l : List Int) (z : Nat) (t : Int) : Nat :=
  let r := rawZone l t
  if zoneDist z ≤ zoneDist r then r
  else
    let k := rawZone l (if z < 2 then t - 20 else t + 20)
    if zoneDist k < zoneDist z then k else z

/-- A change of zone: it clears the count, and one that reduces makes the pulse non-counting (R590, R598). -/
def Chip.zoneChange (c : Chip) (z : Nat) : Chip :=
  let old := c.zone
  let c := { c with chg := { c.chg with ntcBad := false } }
  if c.rfld R.CHG_STAT 10 3 = z then c.chgSettle
  else
    let c := ((c.wfld R.CHG_STAT 10 3 z).event 6 R.CHG_EVT 0x10).setCount 0
    let c := if c.chgPhase = phPULSE ∧ zoneDist old < zoneDist z ∧ !c.rbit R.CHG_CTRL 3 then { c with chg := { c.chg with counting := false } } else c
    c.chgSettle

/-- NTC0 is open or short (R582). -/
def Chip.ntcFault (c : Chip) : Chip :=
  ({ c with chg := { c.chg with ntcBad := true } }.event 6 R.CHG_EVT 8).chgSettle

/-! ### Open-circuit samples (R568, R569) -/

/-- A sample of SOLAR begins. Without another input the battery carries VSYS, so a rest in progress is loaded (R585); with
the battery FET open too it is skipped. -/
def Chip.vocStart (c : Chip) : Chip :=
  if !c.inputLive 0 || c.chg.vocBusy || c.inShip then c
  else if !([1, 2, 3].any c.inputLive) && (c.chg.fetUv || c.chg.fetOv) then c.event 6 R.CHG_EVT 0x200
  else
    let c := if c.chgPhase = phREST ∧ !([1, 2, 3].any c.inputLive) then c.wbit R.CHG_STAT 9 true else c
    { c with chg := { c.chg with vocBusy := true } }

/-- The SOLAR class of a reading (R562). -/
def solarClass (mv : Nat) : Nat :=
  if 18000 ≤ mv ∧ mv ≤ 25000 then 1 else if 36000 ≤ mv ∧ mv ≤ 45000 then 2 else 3

/-- Rp is presented on CC1 and CC2 (R604). -/
def Chip.rpShown (c : Chip) : Bool := c.ch6Path == 1 && c.rfld (R.CHn_MODE 6) 2 2 == 1

/-- CHARGER_START (R582): from WAIT, with the pack's voltage and whether an input exceeds the VSYS target by 0.5 V (R561). -/
def execChargerStart (vbat : Nat) (usable : Bool) (s : State) : Out :=
  s.lift (fun c =>
    if c.chgPhase ≠ phWAIT then c
    else
      let c := c.wbit R.CHG_STAT 8 (c.anyInput && !usable)
      if !(c.vbatPres && c.anyInput && usable) then c
      else if vbat < c.rd R.CHG_VLOW * c.cells then c.enterPhase phPRE
      else if c.chgMode = 1 ∧ c.chg.prevDone ∧ c.rechargeLevel ≤ vbat then c.enterPhase phDONE
      else c.startCharge)
/-- PRECHARGE_COMPLETE. -/
def execPrechargeComplete (vbat : Nat) (s : State) : Out :=
  s.lift (fun c => if c.chgPhase = phPRE ∧ (c.rd R.CHG_VLOW + 100) * c.cells ≤ vbat then c.startCharge else c)
/-- PRECHARGE_TIMEOUT. -/
def execPrechargeTimeout (s : State) : Out :=
  s.lift (fun c => if c.chgPhase = phPRE then (c.enterPhase phFAULT).event 6 R.CHG_EVT 4 else c)
/-- PULSE_TIME_TIMEOUT. -/
def execPulseTimeTimeout (s : State) : Out :=
  s.lift (fun c => if c.chgPhase = phPULSE then (c.enterPhase phFAULT).event 6 R.CHG_EVT 4 else c)
/-- PULSE_END: T_on has elapsed, or a rest gate is due. -/
def execPulseEnd (iend : BitVec 16) (limited : Bool) (s : State) : Out :=
  s.lift (fun c => if c.chgPhase = phPULSE ∧ c.phaseMayEnd then c.endPulse iend.toNat limited else c)
/-- REST_PHASE_END: T_rest has elapsed, or a pulse gate is due. -/
def execRestPhaseEnd (s : State) : Out :=
  s.lift (fun c => if c.chgPhase = phREST ∧ c.phaseMayEnd then c.enterPhase phPULSE else c)
/-- RECHARGE. -/
def execRecharge (vbat : Nat) (s : State) : Out :=
  s.lift (fun c => if c.chgPhase = phDONE ∧ vbat < c.rechargeLevel then c.firstPulse.event 6 R.CHG_EVT 2 else c)
/-- GATED_PHASE_BACKSTOP (R592): a gated pulse or rest ends without a gate. -/
def execGatedPhaseBackstop (iend : BitVec 16) (limited : Bool) (s : State) : Out :=
  s.lift (fun c =>
    if !(c.chg.gated && c.gating) || c.chg.forced.isSome then c
    else if c.chgPhase = phPULSE then c.endPulse iend.toNat limited
    else if c.chgPhase = phREST then c.enterPhase phPULSE
    else c)
/-- CHARGER_HOLD: NTC0 cold (0), hot (4), and for every other operand open or short. -/
def execChargerHold (z : Fin 5) (s : State) : Out :=
  s.lift (fun c => if z.val = 0 ∨ z.val = 4 then c.zoneChange z.val else c.ntcFault)
/-- CHARGER_HOLD_EXIT. -/
def execChargerHoldExit (z : Fin 5) (s : State) : Out :=
  s.lift (fun c =>
    if c.chgPhase ≠ phHOLD then c
    else
      let c := c.zoneChange z.val
      if c.badZone || c.chgPhase != phHOLD then c else c.enterPhase phWAIT)
/-- ZONE_CHANGE. -/
def execZoneChange (z : Fin 5) (s : State) : Out := s.lift (fun c => c.zoneChange z.val)
/-- BATTERY_REMOVED (R613, 02 R90): VBAT_PRES clears. -/
def execBatteryRemoved (s : State) : Out :=
  s.lift (fun c => if c.vbatPres then ((c.wbit R.SYS_SUPPLY 4 false).event 0 R.SYS_SUPPLY_CHG 0x10).chgSettle else c)
/-- VBAT_PRESENT (02 R93): VBAT rises above 2.25 V. -/
def execVbatPresent (s : State) : Out :=
  s.lift (fun c => if c.vbatPres then c else ((c.wbit R.SYS_SUPPLY 4 true).event 0 R.SYS_SUPPLY_CHG 0x10).chgSettle)
/-- PORT_ATTACH (R563): CC is read and detection starts. -/
def execPortAttach (rp : RpAdvert) (s : State) : Out :=
  s.lift (fun c => if c.inputLive 2 then { c with chg := { c.chg with rp := rp, bc12 := .nothing, detDone := false } }.chgSettle else c)
/-- PORT_DETECTION_DONE (R562, R563). -/
def execPortDetectionDone (bc : Bc12) (s : State) : Out :=
  s.lift (fun c => if c.inputLive 2 then { c with chg := { c.chg with bc12 := bc, detDone := true } }.chgSettle else c)
/-- RP_CHANGE (R565). -/
def execRpChange (rp : RpAdvert) (s : State) : Out :=
  s.lift (fun c => if c.inputLive 2 then { c with chg := { c.chg with rp := rp } }.chgSettle else c)
/-- WAVE_SIGNATURE_FOUND (R567). -/
def execWaveSignatureFound (s : State) : Out := s.lift (fun c => if c.inputLive 1 then (c.wbit R.CHG_DET 5 true).chgSettle else c)
/-- WAVE_SIGNATURE_LOST (R567). -/
def execWaveSignatureLost (s : State) : Out := s.lift (fun c => (c.wbit R.CHG_DET 5 false).chgSettle)
/-- VOC_SAMPLE_START (R568): the period of CHG_VOCPER turns has passed; 0 takes no periodic samples. -/
def execVocSampleStart (s : State) : Out := s.lift (fun c => if c.rd R.CHG_VOCPER = 0 ∨ !c.wrdOn then c else c.vocStart)
/-- VOC_SAMPLE_END (R568). -/
def execVocSampleEnd (mv : BitVec 16) (s : State) : Out :=
  s.lift (fun c =>
    if c.chg.vocBusy then
      ((({ c with chg := { c.chg with vocBusy := false } }.wr R.CHG_VOC mv.toNat).wfld R.CHG_DET 3 2 (solarClass mv.toNat))).chgSettle
    else c)
/-- CHG_VOCNOW_WRITE (R568): any writer that reaches the register. -/
def execChgVocnowWrite (_ : Writer) (s : State) : Out := s.lift (fun c => c.vocStart)
/-- SINK_ATTACH (R605). -/
def execSinkAttach (attached : Bool) (s : State) : Out :=
  s.lift (fun c =>
    if c.rpShown then
      ((c.wbit R.CHG_DET 7 attached).event 6 R.CHG_EVT 0x80).toWarden (hwMsg 0x83 (if attached then 1 else 2) 0 0 0)
    else c)
/-- REVERSE_RESERVE_LOW (R607, R615): none during ship entry. -/
def execReverseReserveLow (bySoc : Bool) (s : State) : Out :=
  s.lift (fun c =>
    if (c.dom (dCH 6)).state = 4 ∧ c.mode.power < 4 ∧ (!bySoc || c.rd R.GAU_SOC < c.rd R.CHG_REV_SOC) then
      (c.event 6 R.CHG_EVT 0x40).toWarden (hwMsg 0x83 (if bySoc then 3 else 4) 0 0 0)
    else c)
/-- DOCK_LIVE_CHANGE (R618). -/
def execDockLiveChange (live : Bool) (s : State) : Out := s.lift (fun c => { c with chg := { c.chg with dock := live } }.showInputs)

end Sys2Proof.Machine
end

