-- ==== Sys2Proof/Machine/Gau.lean ====
section
/-!
DEFINITION. The gauge and measurement (13): ADC sequences, the coulomb counter, rests and their records, reconciliation, and
the forced measurement rest.
-/
namespace Sys2Proof.Machine

/-! ### ADC sequences (R621 to R626) -/

/-- A sequence started by a class 3 slot or by GAU_SEQGO (R624, R625): 4 may wait; one that waits or runs already is
dropped. -/
def Chip.adcStart (c : Chip) (q : Nat) : Chip :=
  match c.gau.running with
  | none => { c with gau := { c.gau with running := some q } }
  | some r =>
    if r = q ∨ c.gau.queue.contains q ∨ 4 ≤ c.gau.queue.length then (c.inc R.GAU_SEQOVF).event 7 R.GAU_EVT 0x40
    else { c with gau := { c.gau with queue := c.gau.queue ++ [q] } }

/-- The entries of a sequence: their channel codes in order, 0 to 8 of them (AFE registers). -/
def Chip.adcEntries (c : Chip) (q : Nat) : List Nat :=
  (List.range (min 8 (c.rfld (R.GAU_SEQ_HDR q) 0 4))).map (fun i => c.rfld (R.GAU_SEQ_CH q) (8 * i) 8)

/-- A result stored; an NTC result of 0x8000 is an open or a shorted input (R623). -/
def Chip.adcStore (c : Chip) (code v : Nat) : Chip :=
  if 33 ≤ code then c
  else
    let c := c.wr (R.GAU_RES code) v
    if 25 ≤ code ∧ code ≤ 28 ∧ v = 0x8000 then c.event 7 R.GAU_EVT 0x80 else c

/-- Results stored in the order of the entries; an entry that names a reserved code is skipped (R622). -/
def Chip.adcResults (c : Chip) : List Nat → List (BitVec 16) → Chip
  | k :: ks, v :: vs => if 33 ≤ k then c.adcResults ks (v :: vs) else (c.adcStore k v.toNat).adcResults ks vs
  | _, _ => c

/-- The running sequence ends: its results stand, its doorbell is sent, the next pending one runs (R624). -/
def Chip.adcDone (c : Chip) (vs : List (BitVec 16)) : Chip :=
  match c.gau.running with
  | none => c
  | some q =>
    let c := c.adcResults (c.adcEntries q) vs
    let h := c.rd (R.GAU_SEQ_HDR q)
    let c := if bit h 8 then (c.doorbell (8 * fld h 16 1 + fld h 17 3) (BitVec.ofNat 8 (fld h 24 8))).1 else c
    { c with gau := { c.gau with running := c.gau.queue.head?, queue := c.gau.queue.tail } }

/-- A write of GAU_SEQGO; the register is AFE's (07 R306). -/
def Chip.seqgo (c : Chip) (w : Writer) (v : Nat) : Chip :=
  if c.domOn dAFE then c.adcStart (v % 32) else c.offWrite w

/-! ### The counter (R627 to R630) -/

/-- GAU_QACC in µAh. -/
def Chip.qacc (c : Chip) : Int := toSigned 40 (c.rd R.GAU_QACC)

/-- GAU_QFULL in mAh; 0 acts as 1. -/
def Chip.qfull (c : Chip) : Nat := max 1 (c.rd R.GAU_QFULL)

/-- A charge clamped to ±(2^39 − 1) µAh (R628). -/
def clampCharge (x : Int) : Int := max (-(2 ^ 39 - 1)) (min (2 ^ 39 - 1) x)

/-- The state of charge of a charge, 0.01 %, rounded down and clamped (R629). -/
def socOf (q : Int) (full : Nat) : Nat := (max 0 (min 10000 (10 * q / (full : Int)))).toNat

/-- GAU_QACC set, GAU_SOC with it, and COUNTER_EMPTY when the charge falls from above 0 (R629, R630). -/
def Chip.setQacc (c : Chip) (q : Int) : Chip :=
  let old := c.qacc
  let q := clampCharge q
  let c := (c.wr R.GAU_QACC (ofSigned 40 q)).wr R.GAU_SOC (socOf q c.qfull)
  if 0 < old ∧ q ≤ 0 then c.event 7 R.GAU_EVT 1 else c

/-- One µAh in units of nA·ms. -/
def uAh : Int := 3600000000

/-- The current of a sample in nA: the sense voltage over GAU_RSNS, clamped to 1 to 10 mΩ (R627). -/
def Chip.senseCurrent (c : Chip) (nanovolts : Int) : Int :=
  nanovolts * 1000000 / ((min 10000 (max 1000 (c.rd R.GAU_RSNS)) : Nat) : Int)

/-- One sample of 1 ms (R627, R628, R642). -/
def Chip.counterSample (c : Chip) (nanovolts : Int) : Chip :=
  if !c.domOn dAFE then c
  else
    let i := c.senseCurrent nanovolts
    let c := c.wr R.GAU_I (ofSigned 32 (i / 100000))
    let t := c.gau.remainder + i
    let trip := if c.rbit R.GAU_STAT 2 then c.gau.sinceTrip + i else c.gau.sinceTrip
    ({ c with gau := { c.gau with remainder := t % uAh, sinceTrip := trip } }).setQacc (c.qacc + t / uAh)

/-! ### The OCV table (R635 to R638) -/

/-- The table's address. -/
def Chip.ocvBase (c : Chip) : Nat := c.rd R.GAU_OCVADDR / 4 * 4

/-- The 32 points: SOC and mV per cell. -/
def Chip.ocvPoints (c : Chip) : List (Nat × Nat) :=
  (List.range 32).map (fun i =>
    let v := leNat (Mem.readN erased c.mem.flash (c.ocvBase + 4 * i) 4)
    (v % 65536, v / 65536))

/-- The points ascend in both fields. -/
def ascending : List (Nat × Nat) → Bool
  | a :: b :: l => decide (a.1 < b.1) && decide (a.2 < b.2) && ascending (b :: l)
  | _ => true

/-- The table is good (R636). -/
def Chip.ocvGood (c : Chip) : Bool :=
  let bytes := Mem.readN erased c.mem.flash c.ocvBase 128
  c.chem != 0 && ascending c.ocvPoints &&
    crcOf 2 bytes == leNat (Mem.readN erased c.mem.flash (c.ocvBase + 128) 4)

/-- The check of the table (R636). -/
def Chip.ocvCheck (c : Chip) : Chip :=
  if c.ocvGood then c.wbit R.GAU_STAT 5 false else (c.wbit R.GAU_STAT 5 true).event 7 R.GAU_EVT 0x10

/-- The segment that holds a pack voltage, in mV per cell × `n` (R637, R638). -/
def ocvSegment (n mv : Nat) : List (Nat × Nat) → Option ((Nat × Nat) × (Nat × Nat))
  | a :: b :: l => if a.2 * n ≤ mv ∧ mv ≤ b.2 * n then some (a, b) else ocvSegment n mv (b :: l)
  | _ => none

/-- The OCV-derived SOC of a pack voltage over `n` cells: linear, and the nearest end outside the table (R637). -/
def ocvSoc (n mv : Nat) (pts : List (Nat × Nat)) : Nat :=
  match ocvSegment n mv pts with
  | some (a, b) => a.1 + (mv - a.2 * n) * (b.1 - a.1) / ((b.2 - a.2) * n)
  | none => if mv < (pts.headD (0, 0)).2 * n then (pts.headD (0, 0)).1 else (pts.getLastD (0, 0)).1

/-- The rest is FLAT: its segment rises less than GAU_MINSLOPE per 1 % (R638). -/
def ocvFlat (n mv slope : Nat) (pts : List (Nat × Nat)) : Bool :=
  match ocvSegment n mv pts with
  | some (a, b) => decide (1000 * (b.2 - a.2) < slope * (b.1 - a.1))
  | none => false

/-! ### Reconciliation (R639 to R643) -/

/-- What a row of R639 does. -/
inductive GauAct where
  | record | anchor | guard
  deriving DecidableEq, Repr

/-- The action of R639 for policy `p` (0 COUNTER_FIRST, 1 VOLTAGE_FIRST, else RECONCILE), and whether it is a DISAGREE row. -/
def gauRow (p : Nat) (bad noAnchor unsettled flat uncounted far : Bool) : GauAct × Bool :=
  if bad then (.record, false)
  else if noAnchor then (if p = 0 ∨ p = 1 then .anchor else .guard, false)
  else if unsettled then (.record, false)
  else if flat then (if p = 1 then .anchor else .record, false)
  else if uncounted then (if p = 0 then .record else if p = 1 then .anchor else .guard, false)
  else if far then (if p = 0 then .record else if p = 1 then .anchor else .guard, true)
  else (if p = 1 then .anchor else .record, false)

/-- A charge saturated to 32 signed bits, as an entry holds it (R640). -/
def charge32 (q : Int) : Nat := ofSigned 32 (max (-(2 ^ 31)) (min (2 ^ 31 - 1) q))

/-- An anchor: GAU_QACC, the flags and the entry (R640). -/
def Chip.anchorTo (c : Chip) (q : Int) (code : Nat) : Chip :=
  let old := c.qacc
  let c := ({ c with gau := { c.gau with remainder := 0 } }).setQacc q
  let c := (c.wbit R.GAU_STAT 0 false).wbit R.GAU_STAT 1 false
  (c.event 7 R.GAU_EVT (if code = 0x29 then 0x20 else 4)).stageHw (regObject 0x804008) (charge32 old) (charge32 q) (cause code 0)

/-- Reconciliation at the end of a valid rest (R639, R641, R643). -/
def Chip.reconcile (c : Chip) : Chip :=
  if c.rbit R.GAU_STAT 2 then
    let c := c.anchorTo (c.gau.sinceTrip / uAh) 0x29
    c.wbit R.GAU_STAT 2 false
  else
    let soc := c.rd R.GAU_RSOC
    let ocvCharge : Int := (soc * c.qfull / 10 : Nat)
    let d : Int := (c.rd R.GAU_SOC : Int) - (soc : Int)
    let far := decide ((c.rd R.GAU_TOL : Int) < d ∨ (c.rd R.GAU_TOL : Int) < -d)
    let r := gauRow (c.rd R.GAU_CTRL) (c.rbit R.GAU_STAT 5) (c.rbit R.GAU_STAT 0) (c.rbit R.GAU_STAT 7) (c.rbit R.GAU_STAT 6)
      (c.rbit R.GAU_STAT 1) far
    let c := if r.2 then c.event 7 R.GAU_EVT 2 else c
    match r.1 with
    | .record =>
      if r.2 then c.stageHw (regObject 0x804008) (charge32 c.qacc) (charge32 ocvCharge) (cause 0x2A 1) else c
    | .anchor => c.anchorTo ocvCharge (if r.2 then 0x2A else 0x28)
    | .guard => c.anchorTo ((soc * c.qfull / 10 - c.rd R.GAU_GUARD * c.qfull / 10 : Nat) : Int) (if r.2 then 0x2A else 0x28)

/-! ### Rests (R631 to R634, R644 to R648) -/

/-- FPEND and FHOLD cleared, with the message of R647. -/
def Chip.holdEnd (c : Chip) : Chip :=
  let had := c.rbit R.GAU_STAT 4
  let c := (c.wbit R.GAU_STAT 3 false).wbit R.GAU_STAT 4 false
  if had then c.toWarden (hwMsg 0x84 2 0 0 0) else c

/-- A signed register of 16 bits: a value outside its format is one the spec does not state (log entry 44). -/
def Chip.signed16 (c : Chip) (x : Int) : Nat × Chip :=
  if -(2 ^ 15) ≤ x ∧ x < 2 ^ 15 then (ofSigned 16 x, c) else let r := c.takeFreeNat; (r.1 % 65536, r.2)

/-- An unsigned register of 16 bits, likewise. -/
def Chip.unsigned16 (c : Chip) (x : Nat) : Nat × Chip :=
  if x < 65536 then (x, c) else let r := c.takeFreeNat; (r.1 % 65536, r.2)

/-- GAU_RSTEP of a rest (R632, R633): kept unless the current before it was at least 100 mA. -/
def Chip.recordStep (c : Chip) : Chip :=
  let i := c.gau.iBefore.natAbs
  if i < 100 then c
  else
    let dv := ((c.gau.vAfter : Int) - (c.gau.vBefore : Int)).natAbs
    let r := c.unsigned16 (10000 * dv / i)
    r.2.wr R.GAU_RSTEP r.1

/-- A valid rest ends: its record, UNSETTLED and FLAT, and reconciliation (R632, R634, R638, R639, R645). -/
def Chip.validRest (c : Chip) (ocv : Nat) (endUv beforeUv : Int) : Chip :=
  let n := c.cells
  let sl := c.signed16 ((endUv - beforeUv) * 20 / (n : Int))
  let c := (sl.2.wr R.GAU_RSLOPE sl.1).recordStep
  let r := c.unsigned16 ocv
  let c := r.2.wrs [(R.GAU_ROCV, r.1), (R.GAU_RSOC, ocvSoc n r.1 c.ocvPoints), (R.GAU_RTIME, c.now)]
  let c := c.wbit R.GAU_STAT 7 (decide ((c.rd R.GAU_SLOPEMAX : Int) < (toSigned 16 sl.1).natAbs))
  let c := c.wbit R.GAU_STAT 6 (ocvFlat n r.1 (c.rd R.GAU_MINSLOPE) c.ocvPoints)
  let c := c.reconcile
  if c.gau.forced then c.wbit R.GAU_STAT 3 false else c.holdEnd

/-- GAU_RELAX, clamped to 50 to 2,000 ms. -/
def Chip.relaxMs (c : Chip) : Nat := min 2000 (max 50 (c.rd R.GAU_RELAX))

/-- The loaded estimate disagrees with the counter by more than GAU_TOL (R644). -/
def Chip.loadedFar (c : Chip) (vbat : Nat) : Bool :=
  if c.rbit R.GAU_STAT 5 then false
  else
    let mv := ((vbat : Int) - toSigned 32 (c.rd R.GAU_I) * (c.rd R.GAU_RSTEP : Int) / 100000).toNat
    let d := (c.rd R.GAU_SOC : Int) - (ocvSoc c.cells mv c.ocvPoints : Int)
    decide ((c.rd R.GAU_TOL : Int) < (d.natAbs : Int))

/-- FPEND and FHOLD set, with the message of R647 (R644, R646). -/
def Chip.forcedPending (c : Chip) (vbat : Nat) : Chip :=
  if c.domOn dAFE && decide (2 ≤ c.rd R.GAU_CTRL) && !c.rbit R.GAU_STAT 3 && !c.gau.forced &&
      (c.rbit R.GAU_EVT 0 || c.loadedFar vbat) then
    ((c.wbit R.GAU_STAT 3 true).wbit R.GAU_STAT 4 true).toWarden (hwMsg 0x84 1 0 0 0)
  else c

/-- The forced rest begins: under 12 R596 from PULSE or CV, else with the battery current held at zero (R645). -/
def Chip.forcedStart (c : Chip) : Chip :=
  if c.rbit R.GAU_STAT 3 && !c.gau.forced && c.domOn dAFE then
    let p := c.chgPhase
    let c := { c with gau := { c.gau with forced := true } }
    if p = phPULSE ∨ p = phCV then
      { ((c.wfld R.CHG_STATE 0 4 phREST).wbit R.CHG_STAT 9 false) with chg := { c.chg with forced := some p } }
    else c
  else c

/-- The forced rest ends; the interrupted phase resumes (12 R596, 13 R648). -/
def Chip.forcedEnd (c : Chip) (valid : Bool) : Chip :=
  if !c.gau.forced then c
  else
    let c := { c with gau := { c.gau with forced := false } }
    let c := match c.chg.forced with
      | some p => { c.wfld R.CHG_STATE 0 4 p with chg := { c.chg with forced := none } }
      | none => c
    (if valid then c else c.event 7 R.GAU_EVT 8).holdEnd

/-- AFE powers up: the table is checked (R636). -/
def Chip.afeOn (c : Chip) : Chip := c.ocvCheck

/-- AFE powers off: counting and sequences stop, the rest in progress ends without a record (R650). -/
def Chip.afeOff (c : Chip) : Chip :=
  let c := (c.wbit R.GAU_STAT 1 true).wbit R.GAU_STAT 8 false
  ({ c with gau := { c.gau with running := none, queue := [] } }).resetRegs .afe

/-- A VBAT_UV trip: UVPEND, and the since-trip count at zero (R642). -/
def Chip.uvPend (c : Chip) : Chip := { c.wbit R.GAU_STAT 2 true with gau := { c.gau with sinceTrip := 0 } }

/-- A logged write of GAU_OCVADDR; the table is checked again (R636). The word logged holds the address (16 R777). -/
def Chip.ocvAddrWrite (c : Chip) (w : Writer) (v : Nat) : Chip :=
  if !(wHost w || c.privWriter w) then c.refuseWrite w R.GAU_OCVADDR.addr stREFUSED
  else c.loggedWrite w 0x804020 (c.rd R.GAU_OCVADDR) v (fun c => (c.wr R.GAU_OCVADDR v).ocvCheck)

/-- A logged write of GAU_QACC (R651). An entry of this register holds the charge saturated to 32 signed bits (R640). -/
def Chip.qaccWrite (c : Chip) (w : Writer) (v : Nat) : Chip :=
  if !(wHost w || c.privWriter w) then c.refuseWrite w R.GAU_QACC.addr stREFUSED
  else c.loggedWrite w 0x804008 (charge32 c.qacc) (charge32 (toSigned 40 v))
    (fun c => ({ c with gau := { c.gau with remainder := 0 } }).setQacc (toSigned 40 v))

/-- GAU_SEQGO_WRITE. -/
def execGauSeqgoWrite (w : Writer) (seq : BitVec 8) (s : State) : Out := s.lift (fun c => c.seqgo w seq.toNat)
/-- ADC_SEQUENCE_DONE. -/
def execAdcSequenceDone (results : List (BitVec 16)) (s : State) : Out := s.lift (fun c => if c.domOn dAFE then c.adcDone results else c)
/-- GAUGE_CONVERSION (R623, R626): VBAT, or NTC0 with its ratio to ADC_REF in thousandths, whose zone the charger follows. -/
def execGaugeConversion (isNtc : Bool) (v : BitVec 16) (ratioPermille : Nat) (s : State) : Out :=
  s.lift (fun c =>
    if !c.domOn dAFE then c
    else if !isNtc then c.adcStore 0 v.toNat
    else if 970 < ratioPermille ∨ ratioPermille < 30 then (c.adcStore 25 0x8000).ntcFault
    else
      let c := c.adcStore 25 v.toNat
      let z := nextZone c.jeita (c.rfld R.CHG_STAT 10 3) (toSigned 16 v.toNat)
      if z = c.rfld R.CHG_STAT 10 3 ∧ !c.chg.ntcBad then c else c.zoneChange z)
/-- COUNTER_SAMPLE. -/
def execCounterSample (nanovolts : Int) (s : State) : Out := s.lift (fun c => c.counterSample nanovolts)
/-- COUNTER_EMPTY (R630). -/
def execCounterEmpty (s : State) : Out := s.lift (fun c => if c.domOn dAFE ∧ c.qacc ≤ 0 then c.event 7 R.GAU_EVT 1 else c)
/-- REST_BEGIN (R631, R632). -/
def execRestBegin (iBefore : Int) (vBefore : Nat) (vAfter1ms : Nat) (s : State) : Out :=
  s.lift (fun c =>
    if c.domOn dAFE && !c.rbit R.GAU_STAT 8 then
      { c.wbit R.GAU_STAT 8 true with gau := { c.gau with iBefore := iBefore, vBefore := vBefore, vAfter := vAfter1ms } }
    else c)
/-- REST_END (R631, R632, R654): valid when it lasted GAU_RELAX and carried no load. -/
def execRestEnd (ms : Nat) (ocv : Nat) (endUv : Int) (beforeUv : Int) (s : State) : Out :=
  s.lift (fun c =>
    if c.domOn dAFE && c.rbit R.GAU_STAT 8 then
      let c := c.wbit R.GAU_STAT 8 false
      if c.relaxMs ≤ ms ∧ !c.rbit R.CHG_STAT 9 then c.validRest ocv endUv beforeUv else c
    else c)
/-- FORCED_REST_PENDING: 60 s without a valid rest, and GAU_FRETRY after one that ended invalid, have passed. -/
def execForcedRestPending (vbat : Nat) (s : State) : Out := s.lift (fun c => c.forcedPending vbat)
/-- FORCED_REST_START. -/
def execForcedRestStart (s : State) : Out := s.lift (fun c => c.forcedStart)
/-- FORCED_REST_END. -/
def execForcedRestEnd (valid : Bool) (s : State) : Out := s.lift (fun c => c.forcedEnd valid)
/-- GAU_OCVADDR_WRITE. -/
def execGauOcvaddrWrite (w : Writer) (v : BitVec 24) (s : State) : Out := s.lift (fun c => c.ocvAddrWrite w v.toNat)
/-- GAU_QACC_WRITE. -/
def execGauQaccWrite (w : Writer) (v : BitVec 40) (s : State) : Out := s.lift (fun c => c.qaccWrite w v.toNat)

end Sys2Proof.Machine
end

