-- ==== Sys2Proof/Machine/Peb.lean ====
section
/-!
DEFINITION. Pebble fault injection (18 R869 to R886): unlock and expiry, the rules and what they do to a frame.
-/
namespace Sys2Proof.Machine

/-- An enable cleared by the FQ7608 itself, logged with cause PEBBLE_EXPIRED (R875). -/
def Chip.pebClear (c : Chip) (i : Nat) : Chip :=
  if c.rbit R.PEB_EN i then ((c.wbit R.PEB_EN i false).stageHw (50 + i) 1 0 (cause 0x5A 0)).pebSettle else c

/-- All five enables cleared (R870). -/
def Chip.pebClearAll (c : Chip) : Chip := [0, 1, 2, 3, 4].foldl Chip.pebClear c

/-- The tag of an unlock with the expiry given (R872). -/
def Chip.pebTag (c : Chip) (expiry : Nat) : List Nat :=
  (cmac (c.otpBytes 10) ([0x50, 0x42] ++ (c.otpBytes 0).take 8 ++ natBytes (leBytes 2 (c.rd R.AUT_EPOCH)) ++ natBytes (leBytes 4 expiry))).take 8

/-- A submission judged: 1 accepted, 2 bad tag, 3 bad expiry, 4 too soon (R873). -/
def Chip.pebJudge (c : Chip) (v : Nat) : Nat :=
  let expiry := fld v 0 32
  let ahead := (expiry + 2 ^ 32 - c.now) % 2 ^ 32
  let soon := match c.peb.refusedAt with | some t => Nat.ble (c.phw.tick + 1) (t + 2000000000) | none => false
  if soon then 4
  else if c.pebTag expiry ≠ natBytes (leBytes 8 (fld v 32 64)) then 2
  else if ahead = 0 ∨ ¬ (Nat.ble ahead 86400 = true) then 3
  else 1

/-- PEB_UNLOCK submitted (R872, R873). -/
def Chip.pebUnlock (c : Chip) (w : Writer) (v : Nat) : Chip :=
  if !c.wrdOn then c.offWrite w
  else if !(wHost w || (c.privWriter w && !wWarden w)) then c.refuseWrite w R.PEB_UNLOCK.addr stREFUSED
  else
    let k := c.pebJudge v
    let e : LedEntry := { origin := wOrigin w, object := regObject R.PEB_UNLOCK.addr, new := fld v 0 32
                          outcome := if k = 1 then 0 else 3, cause := cause 0x58 k }
    match c.stageWrite e with
    | (c, false) => c.refuseWrite w R.PEB_UNLOCK.addr stLEDGER
    | (c, true) =>
      if k = 1 then { (c.wr R.PEB_UNLEXP (fld v 0 32)) with peb := { c.peb with unlocked := true } }
      else { c with peb := { c.peb with refusedAt := some c.phw.tick } }

/-- PEBBLE_EXPIRE: an enable's lifetime, or the unlock, ends (R875). -/
def Chip.pebExpire (c : Chip) (i : Option Nat) : Chip :=
  match i with
  | some i => c.pebClear i
  | none =>
    let c := { c with peb := { c.peb with unlocked := false } }
    if c.pebUnlocked then c else c.pebClearAll

/-! ### Rules (R876 to R882) -/

/-- TYPE, DST and QUEUE that a rule compares: of a frame its own, of a host transaction 0 or 1 and nothing (R877). -/
def PebItem.fields (x : PebItem) : Nat × Option Nat × Option Nat :=
  match x with
  | .link f _ => (f.kind.toNat, some f.dst.toNat, some f.queue.toNat)
  | .host b => (if b.headD 0 = 0x40 then 1 else 0, none, none)

/-- The frame or order names a Pebble enable (R878). -/
def PebItem.sacred (x : PebItem) : Bool :=
  let named (a : Nat) : Bool := decide (50 ≤ a % 128) && decide (a % 128 ≤ 54)
  match x with
  | .link f _ => f.kind == 3 && named (f.payload.headD 0).toNat
  | .host b => b.headD 0 == 0x40 && named ((b.drop 8).headD 0).toNat

/-- Rule `r` of instance `i` matches in the direction given (R876, R877). -/
def Chip.pebMatches (c : Chip) (i r : Nat) (rx : Bool) (x : PebItem) : Bool :=
  let v := c.rd (R.PEB_RULE i r)
  let f := x.fields
  bit v 0 && bit v (if rx then 1 else 2) &&
  (bit v 12 || fld v 8 4 == f.1) &&
  (bit v 13 || f.2.1 == some (fld v 16 13)) &&
  (bit v 14 || f.2.2 == some (fld v 32 14))

/-- Whether a matching rule acts on this frame: every N-th, or with a 16-bit draw below N (R879). -/
def Chip.pebActs (c : Chip) (i r : Nat) : Bool × Chip :=
  let v := c.rd (R.PEB_RULE i r)
  let n := fld v 48 16
  if bit v 3 then
    let d := c.timingDraw (5 + i)
    (decide (d.1 < n), d.2)
  else if n = 0 then (false, c)
  else
    let k := FMap.get 0 c.peb.ctr (16 * i + r) + 1
    (decide (n ≤ k), { c with peb := { c.peb with ctr := FMap.set 0 c.peb.ctr (16 * i + r) (if n ≤ k then 0 else k) } })

/-- Bit `k` of a byte string inverted, the most significant bit of the first byte being bit 0. -/
def flipBit (b : List Byte) (k : Nat) : List Byte :=
  let k := k % (8 * max 1 b.length)
  b.zipIdx.map (fun e => if e.2 = k / 8 then e.1 ^^^ BitVec.ofNat 8 (2 ^ (7 - k % 8)) else e.1)

/-- A frame or transaction damaged in one bit (R879): a link frame then fails its CRC-32C, whichever bit it is. -/
def PebItem.corrupt (x : PebItem) (k : Nat) : PebItem :=
  match x with
  | .link f _ => .link f true
  | .host b => .host (flipBit b k)

/-- What has passed counts for the frames held for reorder in the same direction; those whose count is full pass after it. -/
def Chip.pebPassed (c : Chip) (i : Nat) (rx : Bool) (l : List PebItem) : Chip × List PebItem :=
  let mine (h : PebHeld) : Bool := h.inst == i && h.rx == rx && h.left != 0
  let due (h : PebHeld) : Bool := mine h && decide (h.left ≤ l.length)
  ({ c with peb := { c.peb with held := (c.peb.held.filter (fun h => !due h)).map (fun h =>
      if mine h then { h with left := h.left - l.length } else h) } },
   l ++ (c.peb.held.filter due).map (fun h => h.item))

/-- A frame given to an instance in one direction: the chip after it and what passes now (R876 to R882). -/
def Chip.pebble (c : Chip) (i : Nat) (rx : Bool) (x : PebItem) : Chip × List PebItem :=
  if !c.pebActive i then (c, [x])
  else if x.sacred then c.pebPassed i rx [x]
  else
    match (List.range 16).find? (fun r => c.pebMatches i r rx x) with
    | none => c.pebPassed i rx [x]
    | some r =>
      let a := c.pebActs i r
      if !a.1 then a.2.pebPassed i rx [x]
      else
        let c := a.2
        let v := c.rd (R.PEB_RULE i r)
        let k := fld v 64 16
        let count (c : Chip) : Chip := c.inc (R.PEB_COUNT i r)
        let hold (left : Nat) : Chip × List PebItem :=
          if 8 ≤ (c.peb.held.filter (fun h => h.inst == i)).length then (c.inc (R.PEB_OVF i)).pebPassed i rx [x]
          else (count { c with peb := { c.peb with held := c.peb.held ++ [⟨i, rx, x, left⟩] } }, [])
        match fld v 4 4 with
        | 0 => (count c).pebPassed i rx [x]
        | 1 => (count c, [])
        | 2 => (count c).pebPassed i rx [x.corrupt k]
        | 3 => (count c).pebPassed i rx [x, x]
        | 4 => hold (min 8 (max 1 k))
        | 5 => hold 0
        | _ => c.pebPassed i rx [x]

/-- PEB_UNLOCK_WRITE. -/
def execPebUnlockWrite (w : Writer) (v : BitVec 96) (s : State) : Out := s.lift (fun c => c.pebUnlock w v.toNat)
/-- PEBBLE_EXPIRE. -/
def execPebbleExpire (i : Option (Fin 5)) (s : State) : Out := s.lift (fun c => c.pebExpire (i.map (fun x => x.val)))

end Sys2Proof.Machine
end

