-- ==== Sys2Proof/Machine/Weir.lean ====
section
/-!
DEFINITION. Weir queues and rounds (14): descriptors, the store, the engine's handling of link payloads, gap markers, fences,
groups, and rounds. The QUE operations call it (Que.lean), the link layer takes its frames (Tln.lean).
-/
namespace Sys2Proof.Machine

/-! ### Descriptors and records (R656 to R660) -/

/-- A field of queue `q`'s descriptor. -/
def Chip.qfld (c : Chip) (q lo w : Nat) : Nat := c.rfld (R.WEI_DESC q) lo w
/-- EN, FROZEN. -/
def Chip.qEn (c : Chip) (q : Nat) : Bool := c.rbit (R.WEI_DESC q) 91
def Chip.qFrozen (c : Chip) (q : Nat) : Bool := c.rbit (R.WEI_DESC q) 93
/-- PNODE, PCHAN, GROUP. -/
def Chip.qNode (c : Chip) (q : Nat) : Nat := c.qfld q 45 13
def Chip.qChan (c : Chip) (q : Nat) : Nat := c.qfld q 60 14
def Chip.qGroup (c : Chip) (q : Nat) : Nat := c.qfld q 74 10
/-- PPORT: 0 local, else port + 1. -/
def Chip.qPort (c : Chip) (q : Nat) : Nat := c.qfld q 58 2
/-- The kind of a queue (R657). -/
def Chip.qLocal (c : Chip) (q : Nat) : Bool := c.qPort q == 0
def Chip.qOut (c : Chip) (q : Nat) : Bool := c.qPort q != 0 && c.rbit (R.WEI_DESC q) 92
def Chip.qIn (c : Chip) (q : Nat) : Bool := c.qPort q != 0 && !c.rbit (R.WEI_DESC q) 92
/-- OWNER as a thread number. -/
def Chip.qOwner (c : Chip) (q : Nat) : Nat := c.qfld q 90 1 * 8 + c.qfld q 87 3
/-- First cell and cells of the area. -/
def Chip.qBase (c : Chip) (q : Nat) : Nat := c.qfld q 0 13 * 16
def Chip.qCells (c : Chip) (q : Nat) : Nat := (if c.qfld q 13 8 = 0 then 256 else c.qfld q 13 8) * 16

/-- AON record, entries. -/
def Chip.qrec (c : Chip) (q : Nat) : QRec := FMap.get {} c.weir.qrec q
def Chip.setQrec (c : Chip) (q : Nat) (r : QRec) : Chip := { c with weir := { c.weir with qrec := FMap.set {} c.weir.qrec q r } }
def Chip.entries (c : Chip) (q : Nat) : List WeirEntry := FMap.get [] c.weir.entries q
def Chip.grec (c : Chip) (g : Nat) : GroupRec := FMap.get {} c.weir.groups g
def Chip.setGrec (c : Chip) (g : Nat) (r : GroupRec) : Chip := { c with weir := { c.weir with groups := FMap.set {} c.weir.groups g r } }

/-- Cells of an entry: a message's bytes in 16s, one for a gap marker, none for a fence. -/
def WeirEntry.cells (e : WeirEntry) : Nat :=
  match e.kind with
  | .data | .synthetic => (e.len + 15) / 16
  | .gap _ _ => 1
  | .fence => 0

/-- Cells in use. -/
def cellsUsed (l : List WeirEntry) : Nat := (l.map WeirEntry.cells).sum

/-- The entries of a queue replaced; HEAD and TAIL follow, and GAP_HELD shows a marker at the head. -/
def Chip.setEntries (c : Chip) (q : Nat) (l : List WeirEntry) : Chip :=
  let gone := cellsUsed (c.entries q) - cellsUsed l
  let n := c.qCells q
  let head := if cellsUsed l < cellsUsed (c.entries q) then (c.qfld q 21 12 + gone) % n else c.qfld q 21 12
  let gap := match l with | e :: _ => (match e.kind with | .gap _ _ => true | _ => false) | [] => false
  let c := { c with weir := { c.weir with entries := FMap.set [] c.weir.entries q l } }
  let v := c.rd (R.WEI_DESC q)
  c.wr (R.WEI_DESC q) (putBit (putFld (putFld v 21 12 head) 33 12 ((head + cellsUsed l) % n)) 94 gap)

/-- The sequence an entry stands for at the head of its queue. -/
def WeirEntry.headSeq (e : WeirEntry) : Option Nat :=
  if e.old then none
  else
    match e.kind with
    | .data | .fence | .gap _ _ => some e.seq
    | .synthetic => none

/-- The delivery sequence of a local or inbound queue: of the first entry that carries one, else the next to come (R660). -/
def nextDeliver (l : List WeirEntry) (last : Nat) : Nat := (l.findSome? WeirEntry.headSeq).getD last

/-- The record of a local or inbound queue brought in line with its entries. -/
def Chip.qSync (c : Chip) (q : Nat) : Chip :=
  let r := c.qrec q
  if c.qLocal q then c.setQrec q { r with rseq := nextDeliver (c.entries q) r.sseq }
  else if c.qIn q then c.setQrec q { r with sseq := nextDeliver (c.entries q) r.rseq }
  else c

/-- The cell an entry of `n` cells is given, when `n` + 1 cells are free. -/
def Chip.qRoom (c : Chip) (q n : Nat) : Option Nat :=
  if cellsUsed (c.entries q) + n + 1 ≤ c.qCells q then some (c.qfld q 33 12) else none

/-- The address in the data map of byte `i` of a message at cell offset `o` of queue `q`: the area wraps at its end. -/
def Chip.qAddr (c : Chip) (q o i : Nat) : Nat := 0x600000 + 16 * (c.qBase q + (o + i / 16) % c.qCells q) + i % 16

/-- The bytes of a message put into the store. -/
def Chip.qStore (c : Chip) (q o : Nat) (b : List Byte) : Chip :=
  { c with mem := { c.mem with weir := b.zipIdx.foldl (fun m e => FMap.set 0 m (c.qAddr q o e.2) e.1) c.mem.weir } }

/-- The bytes of an entry. -/
def Chip.qBytes (c : Chip) (q : Nat) (e : WeirEntry) : List Byte :=
  (List.range e.len).map (fun i => FMap.get 0 c.mem.weir (c.qAddr q e.cell i))

/-- Counters of the WEI block. -/
def wcDUP : Nat := 0
def wcAHEAD : Nat := 1
def wcSTALE : Nat := 2
def wcFULLDROP : Nat := 3
def wcEXPIRED : Nat := 4
def wcBADSRC : Nat := 5
def wcGRPERR : Nat := 6
def wcOVERRUN : Nat := 7

/-- A gap marker appended: one cell, no sequence of its own; WEI_EVT.GAP (R674). -/
def Chip.qGap (c : Chip) (q start span reason : Nat) : Chip :=
  let c := c.setEntries q (c.entries q ++ [{ kind := .gap reason span, seq := start, cell := c.qfld q 33 12 }])
  c.event 8 R.WEI_EVT 1

/-- Queue `q`'s entries dropped, with what the engine holds for it. -/
def Chip.qDrop (c : Chip) (q : Nat) : Chip :=
  let c := c.setEntries q []
  { c with weir := { c.weir with fences := c.weir.fences.filter (fun f => f.queue != q), ackDue := c.weir.ackDue.filter (· != q)
                                 frag := FMap.set none c.weir.frag q none
                                 skipDue := c.weir.skipDue.filter (fun s => s.1 != q) } }

/-! ### Rounds: who governs a queue (R691) -/

/-- Partners of descriptor `r`. -/
def Chip.rndParts (c : Chip) (r : Nat) : Nat := min 16 (max 1 (c.rd (R.RND_NPART r)))
/-- Partner `i`'s inbound and outbound queue. -/
def Chip.rndIn (c : Chip) (r i : Nat) : Nat := (c.rd (R.RND_QIN r) + i) % 16384
def Chip.rndOut (c : Chip) (r i : Nat) : Nat := (c.rd (R.RND_QOUT r) + i) % 16384
/-- The descriptor is enabled; its wheel, its owner. -/
def Chip.rndEn (c : Chip) (r : Nat) : Bool := c.rbit (R.RND_CTRL r) 0
def Chip.rndWheel (c : Chip) (r : Nat) : Nat := c.rfld (R.RND_CTRL r) 1 2
def Chip.rndOwner (c : Chip) (r : Nat) : Nat := c.rfld (R.RND_OWNER r) 0 4
/-- A doorbell to the owner: DB + k (R681). -/
def Chip.rndBell (c : Chip) (r k : Nat) : Chip := (c.doorbell (c.rndOwner r) (BitVec.ofNat 8 (c.rd (R.RND_DB r) + k))).1

/-- The enabled descriptor that governs a queue, lowest number first, and the partner it serves: as an input, as an output. -/
def Chip.rndOfIn (c : Chip) (q : Nat) : Option (Nat × Nat) :=
  (List.range 32).findSome? (fun r => if c.rndEn r then
    ((List.range (c.rndParts r)).find? (fun i => c.rndIn r i == q || c.rndOut r i == q)).bind (fun _ =>
      ((List.range (c.rndParts r)).find? (fun i => c.rndIn r i == q)).map (fun i => (r, i))) else none)
def Chip.rndOfOut (c : Chip) (q : Nat) : Option (Nat × Nat) :=
  (List.range 32).findSome? (fun r => if c.rndEn r then
    ((List.range (c.rndParts r)).find? (fun i => c.rndIn r i == q || c.rndOut r i == q)).bind (fun _ =>
      ((List.range (c.rndParts r)).find? (fun i => c.rndOut r i == q)).map (fun i => (r, i))) else none)

/-- LASTTAG of a partner. -/
def Chip.lastTag (c : Chip) (r i : Nat) : Nat := c.rfld (R.RND_LASTTAG r) (16 * i) 16

/-- The newest round-tagged message of partner `i`'s input whose tag lies after LASTTAG. -/
def Chip.rndInput (c : Chip) (r i : Nat) : Option (WeirEntry × Nat) :=
  (c.entries (c.rndIn r i)).foldl (fun b e =>
    match e.kind, e.rtag, b with
    | .data, some t, none => if serialAfter 16 t (c.lastTag r i) then some (e, t) else none
    | .data, some t, some (_, u) => if serialAfter 16 t u then some (e, t) else b
    | _, _, _ => b) none

/-- The slot of partner `i` in the store: its first address. -/
def Chip.rndSlot (c : Chip) (r i : Nat) : Nat := 0x600000 + 16 * ((c.rd (R.RND_SAFE r) + 16 * i) % 131072)

/-- COLLECT judged for one partner: PRESENT, LASTTAG and, under HOLD_LAST, the copy into its slot (R681, R683). -/
def Chip.rndPresent (c : Chip) (r i : Nat) : Chip :=
  if c.rbit (R.RND_PRESENT r) i then
    match c.rndInput r i with
    | some (_, t) => c.wfld (R.RND_LASTTAG r) (16 * i) 16 t
    | none => c
  else
    match c.rndInput r i with
    | none => c
    | some (e, t) =>
      let b := c.qBytes (c.rndIn r i) e
      let c := (c.wbit (R.RND_PRESENT r) i true).wfld (R.RND_LASTTAG r) (16 * i) 16 t
      if c.rfld (R.RND_CTRL r) 3 2 = 1 then { c with mem := { c.mem with weir := Mem.writeN 0 c.mem.weir (c.rndSlot r i) b } } else c

/-- COLLECT judged for a descriptor: with every partner present it becomes COMPUTE (R681). -/
def Chip.rndCheck (c : Chip) (r : Nat) : Chip :=
  if c.rndEn r && c.rd (R.RND_STATE r) == 1 then
    let n := c.rndParts r
    let c := (List.range n).foldl (fun c i => c.rndPresent r i) c
    if c.rd (R.RND_PRESENT r) % 2 ^ n = 2 ^ n - 1 then (c.wr (R.RND_STATE r) 2).rndBell r 0 else c
  else c

/-- A round's start (R680, R681, R690): false is BAD_ROUND. -/
def Chip.rndStart (c : Chip) (r : Nat) : Chip × Bool :=
  if 32 ≤ r ∨ !c.rndEn r ∨ c.rd (R.RND_STATE r) = 1 then (c, false)
  else if (List.range (c.rndParts r)).any (fun i => c.qGroup (c.rndIn r i) != 0 || c.qGroup (c.rndOut r i) != 0) then (c, false)
  else
    let c := c.wrs [(R.RND_RNUM r, c.rd (R.RND_RNUM r) + 1), (R.RND_PRESENT r, 0), (R.RND_MISSING r, 0), (R.RND_STATE r, 1)]
    (c.rndCheck r, true)

/-- A synthetic message for a missing partner (R682): no sequence; zeros, or the bytes of its slot. -/
def Chip.rndSynthetic (c : Chip) (r i : Nat) : Chip :=
  let hold := c.rfld (R.RND_CTRL r) 3 2
  let q := c.rndIn r i
  let len := c.rd (R.RND_SAFELEN r) + 1
  if hold = 0 then c
  else
    match c.qRoom q ((len + 15) / 16) with
    | none => c
    | some o =>
      let b := if hold = 3 then List.replicate len 0 else Mem.readN 0 c.mem.weir (c.rndSlot r i) len
      (c.qStore q o b).setEntries q (c.entries q ++ [{ kind := .synthetic, cell := o, len := len }])

/-- The input window closes in COLLECT (R682). -/
def Chip.rndClose (c : Chip) (r : Nat) : Chip :=
  if c.rndEn r && c.rd (R.RND_STATE r) == 1 then
    let n := c.rndParts r
    let miss := (List.range n).filter (fun i => !c.rbit (R.RND_PRESENT r) i)
    let c := c.wr (R.RND_MISSING r) (miss.foldl (fun a i => a + 2 ^ i) 0)
    let c := miss.foldl (fun c i => c.rndSynthetic r i) c
    (c.wr (R.RND_STATE r) 2).rndBell r 1
  else c

/-- The run at the head of an output that has expired at turn `t`: how many entries (R686). -/
def expiredRun (t : Nat) : List WeirEntry → Nat
  | [] => 0
  | e :: l => if e.kind = .data ∧ e.rtag.isSome ∧ !serialAfter 16 e.expiry t then 1 + expiredRun t l else 0

/-- Expiry of one output at a turn boundary: the run is discarded and its SKIP becomes due (R686). -/
def Chip.rndExpireOut (c : Chip) (r i : Nat) : Chip :=
  let q := c.rndOut r i
  if !c.qEn q || !c.qOut q then c
  else
    let l := c.entries q
    let n := expiredRun (c.wheelTurn (c.rndWheel r)) l
    if n = 0 then c
    else
      let start := (l.headD { kind := .fence }).seq
      let last := (l[n - 1]?).getD { kind := .fence }
      let rec' := c.qrec q
      let next := (start + n) % 2 ^ 16
      let c := (c.setEntries q (l.drop n)).setQrec q { rec' with rseq := next }
      let tx := FMap.get 0 c.weir.txNext q
      let c := { c with weir := { c.weir with skipDue := c.weir.skipDue ++ [(q, start, n, 2)]
                                              txNext := if serialAfter 16 next tx then FMap.set 0 c.weir.txNext q next else c.weir.txNext } }
      (c.wbit (R.RND_NOTAPPLIED r) i true).wr (R.RND_NARND r) (last.rtag.getD 0)

/-- Expiry at a turn boundary of the round's wheel (R686). -/
def Chip.rndExpiry (c : Chip) (r : Nat) : Chip :=
  if !c.rndEn r then c
  else
    let n := c.rndParts r
    let due := (List.range n).any (fun i => c.qEn (c.rndOut r i) && c.qOut (c.rndOut r i) &&
      decide (0 < expiredRun (c.wheelTurn (c.rndWheel r)) (c.entries (c.rndOut r i))))
    if due then (((List.range n).foldl (fun c i => c.rndExpireOut r i) (c.wr (R.RND_NOTAPPLIED r) 0)).rndBell r 2).event 8 R.WEI_EVT 4
    else c

/-! ### Descriptor writes (R658, R659, R674) -/

/-- A gap marker for the span lost with the store, when EN is set with PEND (R674). -/
def Chip.qEnable (c : Chip) (q : Nat) : Chip :=
  let r := c.qrec q
  let c := c.setQrec q { r with live := true, pend := false }
  let c := { c with weir := { c.weir with txNext := FMap.set 0 c.weir.txNext q r.rseq } }
  if r.pend then
    if c.qIn q then c.qGap q r.sseq ((r.rseq + 2 ^ 16 - r.sseq) % 2 ^ 16) 1
    else c.qGap q r.rseq ((r.sseq + 2 ^ 16 - r.rseq) % 2 ^ 16) 1
  else c

/-- Bits [92:0] of a descriptor written: EN's change empties or drops the queue (R659, log entry 34). -/
def Chip.qWrite (c : Chip) (q v : Nat) : Chip :=
  let old := c.qEn q
  let new := bit v 91
  let keep := c.rd (R.WEI_DESC q)
  let lost := (c.qrec q).sseq != (c.qrec q).rseq
  let c := if old && !new then c.qDrop q else c
  let v := v % 2 ^ 93 + fld keep 93 3 * 2 ^ 93
  let c := c.wr (R.WEI_DESC q) (if !old && new then putFld (putFld v 21 12 0) 33 12 0 else v)
  if old && !new then let r := c.qrec q; c.setQrec q { r with live := false, pend := r.pend || lost }
  else if !old && new then c.qEnable q
  else c

/-- A descriptor write by its writer (R658). -/
def Chip.qDescWrite (c : Chip) (w : Writer) (q v : Nat) : Chip :=
  if !c.domOn dWEI then c.offWrite w
  else if !(wHost w || (c.privWriter w && !wWarden w)) || (c.qEn q && !c.qFrozen q) then c.refuseWrite w (R.WEI_DESC q).addr stREFUSED
  else c.qWrite q v

/-! ### Frames out (R666, R667, R672, R676; 15 R709) -/

/-- Numbers sent most significant byte first (15 R708). -/
def be2 (n : Nat) : List Byte := beBytes 2 n

/-- A Weir frame of queue `q` to its partner. -/
def Chip.weirFrame (c : Chip) (q seq : Nat) (payload : List Byte) (frag : Nat) : Frame :=
  { dst := BitVec.ofNat 13 (c.qNode q), src := BitVec.ofNat 13 (c.rd R.TLN_NODEID), kind := 2, hop := 0
    queue := BitVec.ofNat 14 (c.qChan q), seq := BitVec.ofNat 16 seq, flags := BitVec.ofNat 6 (8 * frag)
    epoch := BitVec.ofNat 8 c.epoch8, hseq := 0, payload := payload, tag := none }

/-- A frame the port originates. -/
def Chip.originate (c : Chip) (p : Nat) (f : Frame) : Chip :=
  let x := FMap.get ({} : PortSt) c.tln.ports p
  { c with tln := { c.tln with ports := FMap.set {} c.tln.ports p { x with origin := x.origin ++ [f] } } }

/-- A Weir control payload of queue `q` handed to its port. -/
def Chip.weirControl (c : Chip) (q seq : Nat) (payload : List Byte) : Chip :=
  c.originate (c.qPort q - 1) (c.weirFrame q seq payload 0)

/-- The payload of an entry. -/
def Chip.entryPayload (c : Chip) (q : Nat) (e : WeirEntry) : List Byte :=
  match e.kind with
  | .fence => [1]
  | _ =>
    let g := match e.stamp with | some (g, s) => be2 g ++ be2 s | none => []
    let r := match e.rtag with | some t => be2 t ++ be2 e.expiry | none => []
    [0, BitVec.ofNat 8 (128 * b2n e.stamp.isSome + 64 * b2n e.rtag.isSome)] ++ g ++ r ++ c.qBytes q e

/-- The frames of a payload: one, or two fragments above 255 bytes (15 R709). -/
def Chip.weirFrames (c : Chip) (q seq : Nat) (b : List Byte) : List Frame :=
  if b.length ≤ 255 then [c.weirFrame q seq b 0] else [c.weirFrame q seq (b.take 255) 1, c.weirFrame q seq (b.drop 255) 2]

/-- An entry with this sequence on this queue waits behind a fence (R672). -/
def Chip.qHeld (c : Chip) (q seq : Nat) : Bool :=
  c.weir.fences.any (fun f => f.node == c.qNode q && !(f.queue == q && f.seq == seq) &&
    (match f.marks.find? (fun m => m.1 == q) with
     | some m => !serialAfter 16 m.2 seq
     | none => true))

/-- A fence may be transmitted: every message before it is acknowledged (R672). -/
def Chip.fenceReady (c : Chip) (q seq : Nat) : Bool :=
  match c.weir.fences.find? (fun f => f.queue == q && f.seq == seq) with
  | none => true
  | some f => f.marks.all (fun m => !c.qEn m.1 || !serialAfter 16 m.2 (c.qrec m.1).rseq)

/-- The entry that queue `q` transmits next. -/
def Chip.nextEntry (c : Chip) (q : Nat) : Option WeirEntry :=
  match c.entries q with
  | [] => none
  | h :: l =>
    match h.kind with
    | .gap _ _ => none
    | _ => (h :: l).find? (fun e => (match e.kind with | .data | .fence => true | _ => false) &&
             !serialAfter 16 (FMap.get 0 c.weir.txNext q) e.seq)

/-- What queue `q` puts on the line next: RESYNC before anything else, the GSYNCs due to its partner, SKIPs that are due, then its
entries in sequence order (R667, R676, R679, R686). The caller has judged the partner present. -/
def Chip.weirNext (c : Chip) (q : Nat) : Option (List Frame × Chip) :=
  if !c.qEn q || !c.qOut q || c.qFrozen q then none
  else
    let r := c.qrec q
    let pending := c.entries q != [] || c.weir.skipDue.any (fun s => s.1 == q)
    if !pending then none
    else if r.resync then
      let node := c.qNode q
      let gs := c.weir.groups.map (fun e => if e.2.bound ∧ e.2.node = node then (e.1, { e.2 with stamp := 0 }) else e)
      let c := { c.setQrec q { r with resync := false } with weir := { (c.setQrec q { r with resync := false }).weir with groups := gs } }
      some ([c.weirFrame q 0 [6, BitVec.ofNat 8 c.epoch8] 0], c)
    else
      match c.weir.gsyncDue.find? (fun g => (c.grec g).node == c.qNode q) with
      | some g =>
        some ([c.weirFrame q 0 ([5] ++ be2 g ++ be2 (c.grec g).stamp) 0],
          { c with weir := { c.weir with gsyncDue := c.weir.gsyncDue.filter (· != g) } })
      | none =>
        match c.weir.skipDue.find? (fun s => s.1 == q) with
        | some s =>
          some ([c.weirFrame q s.2.1 ([4] ++ be2 s.2.2.1 ++ [BitVec.ofNat 8 s.2.2.2]) 0],
            { c with weir := { c.weir with skipDue := c.weir.skipDue.erase s } })
        | none =>
          match c.nextEntry q with
          | none => none
          | some e =>
            if c.qHeld q e.seq || (e.kind == .fence && !c.fenceReady q e.seq) then none
            else
              some (c.weirFrames q e.seq (c.entryPayload q e),
                { c with weir := { c.weir with txNext := FMap.set 0 c.weir.txNext q ((e.seq + 1) % 2 ^ 16) } })

/-! ### Frames in (R668 to R679) -/

/-- A queue that owes an ACK (R669 lets ACKs be coalesced). -/
def Chip.ackDue (c : Chip) (q : Nat) : Chip :=
  if c.weir.ackDue.contains q then c else { c with weir := { c.weir with ackDue := c.weir.ackDue ++ [q] } }

/-- The ACK that is due is handed to the port. -/
def Chip.ackSend (c : Chip) (q : Nat) : Chip :=
  if c.weir.ackDue.contains q then
    let c := { c with weir := { c.weir with ackDue := c.weir.ackDue.filter (· != q) } }
    c.weirControl q (c.qrec q).rseq [2]
  else c

/-- A NACK, at most once per WEI_RTO / 4 (R668). -/
def Chip.nack (c : Chip) (q : Nat) : Chip :=
  let gap := max 1 (c.rd R.WEI_RTO) * 50000
  let soon := match FMap.get none c.weir.nackAt q with | some t => Nat.ble (c.phw.tick + 1) (t + gap) | none => false
  if soon then c
  else ({ c with weir := { c.weir with nackAt := FMap.set none c.weir.nackAt q (some c.phw.tick) } }).weirControl q (c.qrec q).rseq [3]

/-- A parsed DATA payload: group and stamp, round tag and expiry, message. -/
structure WeirData where
  stamp : Option (Nat × Nat)
  rtag : Option (Nat × Nat)
  msg : List Byte
  deriving DecidableEq, Repr

/-- A DATA payload read (15 R708). -/
def parseData (b : List Byte) : WeirData :=
  let f := ((b.drop 1).headD 0).toNat
  let b := b.drop 2
  let g := bit f 7
  let s := if g then some (beNat (b.take 2), beNat ((b.drop 2).take 2)) else none
  let b := if g then b.drop 4 else b
  let r := bit f 6
  ⟨s, if r then some (beNat (b.take 2), beNat ((b.drop 2).take 2)) else none, if r then b.drop 4 else b⟩

/-- How an arrival's group stamp stands (R668, R673). -/
inductive StampCase where
  | plain | ahead | expected | unordered
  deriving DecidableEq, Repr

/-- The group of an arrival bound at its first use, and its stamp judged. -/
def Chip.stampCase (c : Chip) (src : Nat) (s : Option (Nat × Nat)) : Chip × StampCase :=
  match s with
  | none => (c, .plain)
  | some (g, st) =>
    if g = 0 then (c, .plain)
    else
      let r := c.grec g
      let c := if r.bound then c else c.setGrec g { node := src, send := false, bound := true, stamp := r.stamp }
      let r := c.grec g
      if r.send || r.node != src then (c, .unordered)
      else if st = r.stamp then (c, .expected)
      else if serialAfter 16 st r.stamp then (c, .ahead)
      else (c, .unordered)

/-- The expected stamp of a group raised. -/
def Chip.stampNext (c : Chip) (s : Option (Nat × Nat)) (k : StampCase) : Chip :=
  match s, k with
  | some (g, st), .expected => let r := c.grec g; c.setGrec g { r with stamp := (st + 1) % 2 ^ 16 }
  | _, .unordered => c.inc (R.WEI_CNT wcGRPERR)
  | _, _ => c

/-- The first rows of R668 that any payload for an inbound queue meets: the sender and its epoch. True means discard. -/
def Chip.weirReject (c : Chip) (q src epoch : Nat) : Option Chip :=
  if !c.qEn q || !c.qIn q || c.qNode q != src then some (c.inc (R.WEI_CNT wcBADSRC))
  else if (c.qrec q).pepoch ≠ epoch then some (c.inc (R.WEI_CNT wcSTALE))
  else none

/-- DATA and FENCE at an inbound queue, by the first row of R668 that applies. -/
def Chip.weirData (c : Chip) (q src epoch seq : Nat) (b : List Byte) : Chip :=
  match c.weirReject q src epoch with
  | some c => c
  | none =>
    let r := c.qrec q
    let fence := b.headD 0 == 1
    let d := parseData b
    let n := if fence then 0 else (d.msg.length + 15) / 16
    if serialAfter 16 r.rseq seq then (c.inc (R.WEI_CNT wcDUP)).ackDue q
    else if serialAfter 16 seq r.rseq then (c.inc (R.WEI_CNT wcAHEAD)).nack q
    else if c.qFrozen q then c.inc (R.WEI_CNT wcFULLDROP)
    else
      match c.qRoom q n with
      | none => c.inc (R.WEI_CNT wcFULLDROP)
      | some o =>
        let k := if fence then (c, StampCase.plain) else c.stampCase src d.stamp
        if k.2 = .ahead then k.1.inc (R.WEI_CNT wcAHEAD)
        else
          let c := k.1.stampNext d.stamp k.2
          let c := if fence then c else (c.qStore q o d.msg).setEntries q (c.entries q ++
            [{ kind := .data, seq := seq, cell := o, len := d.msg.length, rtag := d.rtag.map (fun t => t.1)
               expiry := (d.rtag.map (fun t => t.2)).getD 0 }])
          let c := (c.setQrec q { r with rseq := (seq + 1) % 2 ^ 16 }).qSync q
          let c := c.ackDue q
          match c.rndOfIn q with
          | some (m, _) => c.rndCheck m
          | none => c

/-- Fences whose acknowledgement has come are no longer outstanding (R672). -/
def Chip.fencesDone (c : Chip) : Chip :=
  { c with weir := { c.weir with fences := c.weir.fences.filter (fun f => !serialAfter 16 (c.qrec f.queue).rseq f.seq) } }

/-- An ACK at an outbound queue: RSEQ advances and the acknowledged entries are freed (R667). -/
def Chip.weirAck (c : Chip) (q src n : Nat) : Chip :=
  let r := c.qrec q
  if !c.qEn q || !c.qOut q || c.qNode q != src then c.inc (R.WEI_CNT wcBADSRC)
  else if serialAfter 16 n r.rseq && !serialAfter 16 n r.sseq then
    let keep (e : WeirEntry) : Bool := !(match e.kind with | .data | .fence => serialAfter 16 n e.seq | _ => false)
    let c := (c.setEntries q ((c.entries q).filter keep)).setQrec q { r with rseq := n }
    let tx := FMap.get 0 c.weir.txNext q
    let c := { c with weir := { c.weir with txNext := if serialAfter 16 n tx then FMap.set 0 c.weir.txNext q n else c.weir.txNext } }
    c.fencesDone
  else c

/-- A NACK: retransmission from the sequence it names (R667). -/
def Chip.weirNack (c : Chip) (q src n : Nat) : Chip :=
  let r := c.qrec q
  if !c.qEn q || !c.qOut q || c.qNode q != src then c.inc (R.WEI_CNT wcBADSRC)
  else if !serialAfter 16 r.rseq n && !serialAfter 16 n r.sseq then { c with weir := { c.weir with txNext := FMap.set 0 c.weir.txNext q n } }
  else c

/-- No ACK for WEI_RTO: retransmission from RSEQ (R667). -/
def Chip.weirTimeout (c : Chip) (q : Nat) : Chip :=
  if c.qEn q && c.qOut q && (c.qrec q).rseq != FMap.get 0 c.weir.txNext q then
    { c with weir := { c.weir with txNext := FMap.set 0 c.weir.txNext q (c.qrec q).rseq } }
  else c

/-- SKIP (R677, log entry 36). -/
def Chip.weirSkip (c : Chip) (q src epoch start : Nat) (b : List Byte) : Chip :=
  match c.weirReject q src epoch with
  | some c => c
  | none =>
    let r := c.qrec q
    let span := beNat ((b.drop 1).take 2)
    let fin := (start + span) % 2 ^ 16
    let reason := ((b.drop 3).headD 0).toNat
    if serialAfter 16 start r.rseq then (c.inc (R.WEI_CNT wcAHEAD)).nack q
    else if !serialAfter 16 fin r.rseq then c.ackDue q
    else
      let part := (fin + 2 ^ 16 - r.rseq) % 2 ^ 16
      let c := c.setQrec q { r with rseq := fin }
      let c := if reason = 1 then c.qGap q r.rseq part 2
        else (c.wr (R.WEI_CNT wcEXPIRED) (min 0xFFFF (c.rd (R.WEI_CNT wcEXPIRED) + part))).event 8 R.WEI_EVT 4
      (c.qSync q).ackDue q

/-- GSYNC: the expected stamp of a receiving group moves forward (R676). -/
def Chip.weirGsync (c : Chip) (src : Nat) (b : List Byte) : Chip :=
  let g := beNat ((b.drop 1).take 2) % 1024
  let st := beNat ((b.drop 3).take 2)
  let r := c.grec g
  if g = 0 then c
  else if !r.bound then c.setGrec g { node := src, send := false, bound := true, stamp := st }
  else if r.send || r.node != src then c.inc (R.WEI_CNT wcGRPERR)
  else if serialAfter 16 st r.stamp then c.setGrec g { r with stamp := st }
  else c

/-- One end's part of a RESYNC: sequences to 0, groups of the partner to stamp 0, unacknowledged entries dropped behind a gap
marker with reason 3 (R679). -/
def Chip.qResync (c : Chip) (q epoch : Nat) (send : Bool) : Chip :=
  let r := c.qrec q
  let node := c.qNode q
  let span := (r.sseq + 2 ^ 16 - r.rseq) % 2 ^ 16
  let out := c.qOut q
  let c := if out then c.qDrop q else c.setEntries q ((c.entries q).map (fun e => { e with old := true }))
  let c := c.setQrec q { r with sseq := 0, rseq := 0, pepoch := epoch, resync := send }
  let c := { c with weir := { c.weir with txNext := FMap.set 0 c.weir.txNext q 0
                                          groups := c.weir.groups.map (fun e => if e.2.bound ∧ e.2.node = node then (e.1, { e.2 with stamp := 0 }) else e) } }
  if out && span != 0 && c.qEn q then c.qGap q r.rseq span 3 else c

/-- A RESYNC from the partner. -/
def Chip.weirResync (c : Chip) (q src : Nat) (b : List Byte) : Chip :=
  if c.qNode q != src || c.qLocal q then c.inc (R.WEI_CNT wcBADSRC)
  else (c.qResync q ((b.drop 1).headD 0).toNat false).event 8 R.WEI_EVT 8

/-- REJOIN (R687): queue and tag into the FIFO of 8, and the owner's doorbell. -/
def Chip.weirRejoin (c : Chip) (q : Nat) (b : List Byte) : Chip :=
  if 8 ≤ c.weir.rejFifo.length then c.event 8 R.WEI_EVT 0x20
  else
    let c := ({ c with weir := { c.weir with rejFifo := c.weir.rejFifo ++ [(q, beNat ((b.drop 1).take 2))] } }).event 8 R.WEI_EVT 2
    match c.rndOfIn q with
    | some (r, _) => c.rndBell r 3
    | none => c

/-- The fragments of a payload put together (15 R709). -/
def Chip.weirFragment (c : Chip) (f : Frame) : Chip × Option (List Byte) :=
  let q := f.queue.toNat
  let set (c : Chip) (x : Option (Nat × List Byte)) : Chip := { c with weir := { c.weir with frag := FMap.set none c.weir.frag q x } }
  match fld f.flags.toNat 3 2 with
  | 0 => (c, some f.payload)
  | 1 => (set c (some (f.seq.toNat, f.payload)), none)
  | 2 =>
    match FMap.get none c.weir.frag q with
    | some (s, b) => if s = f.seq.toNat then (set c none, some (b ++ f.payload)) else (c, none)
    | none => (c, none)
  | _ => (c, none)

/-- A Weir frame delivered to this device (R666). While WEI is off, nothing receives it. -/
def Chip.weirDeliver (c : Chip) (f : Frame) : Chip :=
  if !c.domOn dWEI then c
  else
    let r := c.weirFragment f
    match r.2 with
    | none => r.1
    | some b =>
      let c := r.1
      let q := f.queue.toNat
      let src := f.src.toNat
      match (b.headD 0).toNat with
      | 0 | 1 => c.weirData q src f.epoch.toNat f.seq.toNat b
      | 2 => c.weirAck q src f.seq.toNat
      | 3 => c.weirNack q src f.seq.toNat
      | 4 => c.weirSkip q src f.epoch.toNat f.seq.toNat b
      | 5 => c.weirGsync src b
      | 6 => c.weirResync q src b
      | 7 => c.weirRejoin q b
      | _ => c

/-- A frame of one Weir kind delivered as a command of its own. -/
def Chip.weirKind (c : Chip) (f : Frame) (k : List Nat) : Chip :=
  if f.kind = 2 ∧ (k.contains (f.payload.headD 0).toNat ∨ (fld f.flags.toNat 3 2 = 2 ∧ k.contains 0)) then c.weirDeliver f else c

/-! ### Power (R661) -/

/-- WEI loses its power: store, entries and engine state are lost; records and groups stay in AON. -/
def Chip.weiOff (c : Chip) : Chip :=
  let c := { c with mem := { c.mem with weir := [] }
                    weir := { qrec := c.weir.qrec, groups := c.weir.groups } }
  c.resetRegs .wei

/-- WEI power-up: PEND where a span was lost, and a GSYNC due for each bound sending group. -/
def Chip.weiOn (c : Chip) : Chip :=
  let rs := c.weir.qrec.map (fun e => (e.1, if e.2.live && e.2.sseq != e.2.rseq then { e.2 with pend := true } else e.2))
  let gs := (c.weir.groups.filter (fun e => e.2.bound && e.2.send)).map (fun e => e.1)
  { c with weir := { c.weir with qrec := rs, gsyncDue := gs } }

/-- WEI_QCMD.RESYNC of the selected queue, and WEI_QCMD.UNBIND of the selected group, by a privileged writer (WEI block). -/
def Chip.qcmdResync (c : Chip) (w : Writer) : Chip :=
  if !c.domOn dWEI then c.offWrite w
  else if !(wHost w || (c.privWriter w && !wWarden w)) then c.refuseWrite w R.WEI_QCMD.addr stREFUSED
  else let q := c.rd R.WEI_QSEL; c.qResync q (c.qrec q).pepoch true
def Chip.qcmdUnbind (c : Chip) (w : Writer) : Chip :=
  if !c.domOn dWEI then c.offWrite w
  else if !(wHost w || (c.privWriter w && !wWarden w)) then c.refuseWrite w R.WEI_QCMD.addr stREFUSED
  else c.setGrec (c.rd R.WEI_GSEL) {}

/-- WEIR_DESCRIPTOR_WRITE. -/
def execWeirDescriptorWrite (w : Writer) (q : Fin 16384) (v : BitVec 93) (s : State) : Out := s.lift (fun c => c.qDescWrite w q.val v.toNat)
/-- ROUND_WINDOW_CLOSE. -/
def execRoundWindowClose (r : Fin 32) (s : State) : Out := s.lift (fun c => c.rndClose r.val)
/-- ROUND_EXPIRY. -/
def execRoundExpiry (r : Fin 32) (s : State) : Out := s.lift (fun c => c.rndExpiry r.val)
/-- WEI_QCMD_RESYNC. -/
def execWeiQcmdResync (w : Writer) (s : State) : Out := s.lift (fun c => c.qcmdResync w)
/-- WEI_QCMD_UNBIND. -/
def execWeiQcmdUnbind (w : Writer) (s : State) : Out := s.lift (fun c => c.qcmdUnbind w)
/-- WEIR_SKIP_RECEIVE. -/
def execWeirSkipReceive (f : Frame) (s : State) : Out := s.lift (fun c => c.weirKind f [4])
/-- WEIR_RESYNC_RECEIVE. -/
def execWeirResyncReceive (f : Frame) (s : State) : Out := s.lift (fun c => c.weirKind f [6])
/-- WEIR_REJOIN_RECEIVE. -/
def execWeirRejoinReceive (f : Frame) (s : State) : Out := s.lift (fun c => c.weirKind f [7])
/-- WEIR_DATA_RECEIVE. -/
def execWeirDataReceive (f : Frame) (s : State) : Out := s.lift (fun c => c.weirKind f [0, 1])

end Sys2Proof.Machine
end

