-- ==== Sys2Proof/Machine/Wheels.lean ====
section
/-!
DEFINITION. The phase wheels' discipline loop and states (03 R94 to R112, R1015 to R1017): what a reference edge does to the
frequency word, the state and the step that is due. The advance of the phases and the event slots are in Slots.lean.
-/
namespace Sys2Proof.Machine

/-- State codes. -/
def whFREE : Nat := 0
def whACQUIRE : Nat := 1
def whLOCKED : Nat := 2
def whHOLDOVER : Nat := 3
def whNOISY : Nat := 4

/-- SRC as it acts: a code not valid for the wheel acts as 0 (R99). -/
def Chip.src (c : Chip) (n : Nat) : Nat :=
  let s := c.rfld (R.WHn_CTRL n) 0 3
  if n = 0 then (if s = 1 ∨ s = 2 ∨ s = 3 ∨ s = 4 then s else 0)
  else if n = 2 then (if s = 3 ∨ s = 5 ∨ s = 6 then s else 0)
  else if n = 3 then (if s = 7 then s else 0)
  else 0

/-- The nominal frequency word (R95). -/
def Chip.freqNom (c : Chip) (n : Nat) : Nat := capWord (c.rd (R.WHn_FREQ_NOM n))

/-- The frequency word in force. -/
def Chip.word (c : Chip) (n : Nat) : Nat := (c.wheel n).freq.getD (c.freqNom n)

/-- Turns in one edge interval (R1015): HEADDIV of W2 with SRC 6, else 1. -/
def Chip.turnsPerEdge (c : Chip) (n : Nat) : Nat :=
  if n = 2 ∧ c.src n = 6 then max 1 (c.rfld (R.WHn_CTRL 2) 8 8) else 1

/-- `k` edge intervals have passed in `d` ticks, `k` as a fraction num / den. -/
def Chip.intervals (c : Chip) (n d num den : Nat) : Bool :=
  decide (num * c.turnsPerEdge n * 2 ^ 48 ≤ d * c.freqNom n * den)

/-- The state of a wheel changed: WHn_STATE_CHG and the doorbell of wheel events; W1's state is W3's (R97, R112). Millpond's
alignment follows it (11 R537). -/
def Chip.setWheelState (c : Chip) (n st : Nat) : Chip :=
  let w := c.wheel n
  if w.state = st then c
  else
    let c := (c.setWheel n { w with state := st }).event 1 (R.WHn_STATE_CHG n) 1
    (if n = 3 then c.event 1 (R.WHn_STATE_CHG 1) 1 else c).fillSettle

/-- The mean, rounded to the nearest integer, of the frequency words at the latest accepted edges (R1016). -/
def Chip.meanWord (c : Chip) (n : Nat) : Nat :=
  let l := (c.wheel n).words
  if l = [] then c.word n else (2 * l.sum + l.length) / (2 * l.length)

/-- Entry into FREE: the loop's words and counts start anew. -/
def Chip.toFree (c : Chip) (n : Nat) : Chip :=
  let w := c.wheel n
  let c := c.setWheel n { w with freq := none, base := none, seedWord := none, lastEdge := none, acqEdges := 0, inTol := 0, outliers := 0, words := [], rejects := [] }
  c.setWheelState n whFREE

/-- Entry into HOLDOVER or NOISY: the mean word (R1016, R110). -/
def Chip.toMean (c : Chip) (n st : Nat) : Chip :=
  let m := c.meanWord n
  let w := c.wheel n
  (c.setWheel n { w with freq := some m, base := some m }).setWheelState n st

/-- Rounding to the nearest whole unit, a half towards +∞ (R105). -/
def roundHalfUp (num : Int) (den : Int) : Int := (2 * num + den) / (2 * den)

/-- An integer held between two bounds. -/
def clampI (lo hi x : Int) : Int := max lo (min hi x)

/-- One slew (R105, R106): the proportional term for the next nominal period, the integral term for good; their total lies
within FREQ_NOM / 16 of the last seed's word, and the word at most at 2^40. `e` is in 2^−48 turn. -/
def Chip.slew (c : Chip) (n : Nat) (e : Int) : Chip :=
  let w := c.wheel n
  let nom := c.freqNom n
  let g := c.rd (R.WHn_GAIN n)
  let f : Int := c.word n
  let term (k : Nat) : Int := roundHalfUp (e * f) (2 ^ (48 + k))
  let mid : Int := w.seedWord.getD nom
  let lim : Int := (nom / 16 : Nat)
  let base := clampI (mid - lim) (mid + lim) ((w.base.getD nom : Int) + term (fld g 4 4))
  let freq := clampI (mid - lim) (mid + lim) (base + term (fld g 0 4))
  c.setWheel n { w with base := some (capWord base.toNat), freq := some (capWord freq.toNat) }

/-- |e| lies below 2^−x turn. -/
def below (e : Int) (x : Nat) : Bool := decide (e.natAbs * 2 ^ x < 2 ^ 48)

/-- The correction under the ACQUIRE rules: a step at the next tick, or a slew (R105, R108). -/
def Chip.acquireCorrect (c : Chip) (n : Nat) (e : Int) : Chip :=
  if !below e (c.rd (R.WHn_STEPTHR n)) && !c.rbit (R.WHn_CTRL n) 4 then
    let w := c.wheel n
    c.setWheel n { w with step := some e }
  else c.slew n e

/-- The seed of the integrator from the interval between the first two edges (R107). -/
def Chip.seed (c : Chip) (n d : Nat) : Chip :=
  if c.intervals n d 1 2 && !(c.intervals n d 2 1 && decide (2 * c.turnsPerEdge n * 2 ^ 48 < d * c.freqNom n)) && decide (0 < d) then
    let s := capWord ((2 * (2 ^ 48 * c.turnsPerEdge n) + d) / (2 * d))
    let w := c.wheel n
    c.setWheel n { w with base := some s, freq := some s, seedWord := some s }
  else c

/-- One accepted edge in ACQUIRE: seed, correction, and the count towards LOCKED (R107, R110, R1017). -/
def Chip.acquireEdge (c : Chip) (n t : Nat) (e : Int) : Chip :=
  let w := c.wheel n
  let k := w.acqEdges + 1
  let c := if k = 2 then (match w.lastEdge with | some p => c.seed n (t - p) | none => c) else c
  let c := c.acquireCorrect n e
  let w := c.wheel n
  let tol := if below e (c.rd (R.WHn_LOCKTOL n)) then w.inTol + 1 else 0
  let c := c.setWheel n { w with acqEdges := k, inTol := tol }
  if 8 ≤ tol then
    let w := c.wheel n
    (c.setWheel n { w with outliers := 0 }).setWheelState n whLOCKED
  else c

/-- ACQUIRE entered by an accepted edge, which is its first (R1017). -/
def Chip.enterAcquire (c : Chip) (n t : Nat) (e : Int) : Chip :=
  let w := c.wheel n
  let c := (c.setWheel n { w with acqEdges := 0, inTol := 0, outliers := 0 }).setWheelState n whACQUIRE
  c.acquireEdge n t e

/-- An edge that is accepted: what each state does with it (R109, R110). -/
def Chip.acceptEdge (c : Chip) (n t : Nat) (e : Int) : Chip :=
  let w := c.wheel n
  let c := c.wr (R.WHn_PERR n) (ofSigned 32 (e / 2 ^ 16))
  let c := match w.state with
    | 0 => (c.setWheel n { w with words := [] }).enterAcquire n t e
    | 1 => c.acquireEdge n t e
    | 2 =>
      if below e (c.rd (R.WHn_STEPTHR n)) then (c.setWheel n { w with outliers := 0 }).slew n e
      else if w.outliers + 1 < 3 then c.setWheel n { w with outliers := w.outliers + 1 }
      else c.enterAcquire n t e
    | 3 => c.enterAcquire n t e
    | _ => c
  let w := c.wheel n
  c.setWheel n { w with lastEdge := some t, words := (c.word n :: w.words).take 16 }

/-- An edge inside the guard: counted, and NOISY when there are too many (R104, R110). -/
def Chip.rejectEdge (c : Chip) (n t : Nat) : Chip :=
  let c := c.inc (R.WHn_REJCNT n)
  let w := c.wheel n
  let recent := (t :: w.rejects).filter (fun r => !c.intervals n (t - r) 16 1)
  let c := c.setWheel n { w with rejects := recent }
  if (w.state = whACQUIRE ∨ w.state = whLOCKED ∨ w.state = whHOLDOVER) ∧ c.rd (R.WHn_NTHR n) ≤ recent.length then c.toMean n whNOISY else c

/-- The loop of a wheel runs: a reference is selected, LOOP_EN is set, the wheel is not halted (R95, R110). -/
def Chip.loopOn (c : Chip) (n : Nat) : Bool :=
  c.wrdOn && c.src n != 0 && c.rbit (R.WHn_CTRL n) 3 && c.freqNom n != 0

/-- The phase error of an edge at tick `t` that stands for `angle`, in 2^−48 turn, wrapped into [−0.5, +0.5). -/
def Chip.phaseError (c : Chip) (n t angle : Nat) : Int :=
  let back : Int := ((c.phw.tick - t) * c.word n : Nat)
  let d := ((angle * 2 ^ 16 : Nat) - ((c.wheel n).frac : Int) + back) % 2 ^ 48
  if d < 2 ^ 47 then d else d - 2 ^ 48

/-- The guard of R104: the edge at tick `t` is far enough from the previous accepted one. -/
def Chip.guardOk (c : Chip) (n t : Nat) : Bool :=
  match (c.wheel n).lastEdge with
  | some p => c.intervals n (t - p) (c.rd (R.WHn_MINPER n)) 256
  | none => true

/-- A reference edge of wheel `n` with the tick it stands for and its angle; false when the guard rejects it. -/
def Chip.refEdge (c : Chip) (n t angle : Nat) : Chip × Bool :=
  if !c.loopOn n then (c, false)
  else if c.guardOk n t then (c.acceptEdge n t (c.phaseError n t angle), true)
  else (c.rejectEdge n t, false)

/-- The delay of the reference's filter, in ticks (R100). -/
def srcDelay (s : Nat) : Nat := if s = 1 ∨ s = 2 ∨ s = 4 then 200 else if s = 7 then 2 else 0

/-- A reference edge that arrives now at a ball, from the ripple, as a superframe mark or from W3 (R99, R100). -/
def Chip.edgeNow (c : Chip) (n : Nat) : Chip :=
  let s := c.src n
  if s = 0 ∨ s = 3 then c
  else (c.refEdge n (c.phw.tick - srcDelay s) (if n = 2 then 0 else c.rd (R.WHn_REFANG n))).1

/-- A CK_LF second edge at W3 in FREE: phase and word are corrected as in ACQUIRE and nothing else is counted (R102). -/
def Chip.cklfEdge (c : Chip) : Chip :=
  if c.wrdOn && (c.wheel 3).state == whFREE && c.rbit (R.WHn_CTRL 3) 3 && c.freqNom 3 != 0 then
    let e := c.phaseError 3 c.phw.tick 0
    (c.wr (R.WHn_PERR 3) (ofSigned 32 (e / 2 ^ 16))).acquireCorrect 3 e
  else c

/-- A state that the loop's control register forces after a commit: SRC 0, LOOP_EN clear or a halted wheel is FREE (R95, R110). -/
def Chip.wheelForce (c : Chip) (n : Nat) : Chip :=
  if n = 1 then c
  else if c.src n = 0 ∨ !c.rbit (R.WHn_CTRL n) 3 ∨ c.freqNom n = 0 then (if (c.wheel n).state = whFREE then c else c.toFree n) else c

/-- REFERENCE_EDGE. -/
def execReferenceEdge (n : Fin 4) (s : State) : Out := s.lift (fun c => c.edgeNow n.val)
/-- WHEEL_LOSS_TIMEOUT. -/
def execWheelLossTimeout (n : Fin 4) (s : State) : Out :=
  s.lift (fun c => if (c.wheel n.val).state = whACQUIRE ∨ (c.wheel n.val).state = whLOCKED then c.toMean n.val whHOLDOVER else c)
/-- HOLDOVER_EXPIRE. -/
def execHoldoverExpire (n : Fin 4) (s : State) : Out :=
  s.lift (fun c => if (c.wheel n.val).state = whHOLDOVER ∧ c.rd (R.WHn_HOLD n.val) ≠ 0 then c.toFree n.val else c)
/-- NOISY_CLEAR. -/
def execNoisyClear (n : Fin 4) (s : State) : Out :=
  s.lift (fun c =>
    let w := c.wheel n.val
    if w.state = whNOISY then (c.setWheel n.val { w with acqEdges := 0, inTol := 0, outliers := 0, rejects := [] }).setWheelState n.val whACQUIRE else c)
/-- W3_CKLF_EDGE. -/
def execW3CklfEdge (s : State) : Out := s.lift (fun c => c.cklfEdge)
/-- LOOP_PROPORTIONAL_END (R105): the proportional term leaves the word, which is the integrator's again. -/
def execLoopProportionalEnd (n : Fin 4) (s : State) : Out :=
  s.lift (fun c =>
    let w := c.wheel n.val
    if w.state = whACQUIRE ∨ w.state = whLOCKED ∨ (n.val = 3 ∧ w.state = whFREE) then c.setWheel n.val { w with freq := w.base } else c)

end Sys2Proof.Machine
end

