-- ==== Sys2Proof/Machine/Tln.lean ====
section
/-!
DEFINITION. The Tarnline link layer (15): frames and tags, hop acknowledgement, forwarding, slots, beacons, join and leave,
absence, and orders over the string. A frame that a port puts on its line is kept in the port's `sent`; the time a frame takes
on the line is left out (log entry 40).
-/
namespace Sys2Proof.Machine

/-! ### Ports and counters -/

/-- Ports. -/
def pUP : Nat := 0
def pDOWN : Nat := 1
def pBRANCH : Nat := 2
/-- TLN counters (15, register 0x020). -/
def tcCRCERR : Nat := 0
def tcHRETX : Nat := 1
def tcDROPABS : Nat := 2
def tcHOPLIM : Nat := 3
def tcNOROUTE : Nat := 4
def tcMACFAIL : Nat := 5
def tcBADTYPE : Nat := 6
def tcISOLATE : Nat := 7
def tcJABBER : Nat := 8
def tcFWDFULL : Nat := 9
/-- Roles. -/
def roHEAD : Nat := 1
def roRELAY : Nat := 2
def roLEAF : Nat := 3
/-- TLN_STATE codes. -/
def tsLISTEN : Nat := 1
def tsJOINING : Nat := 2
def tsJOINED : Nat := 3

/-- A port's state. -/
def Chip.port (c : Chip) (p : Nat) : PortSt := FMap.get {} c.tln.ports p
/-- A port's state replaced. -/
def Chip.setPort (c : Chip) (p : Nat) (x : PortSt) : Chip := { c with tln := { c.tln with ports := FMap.set {} c.tln.ports p x } }
/-- The node's link state. -/
def Chip.tstate (c : Chip) : Nat := c.rfld R.TLN_STATE 0 2
/-- The head sends beacons. -/
def Chip.headActive (c : Chip) : Bool := c.rbit R.TLN_STATE 2
/-- The node's own ID. -/
def Chip.nodeId (c : Chip) : Nat := c.rd R.TLN_NODEID
/-- A port is SHORT (1) or LONG (2), else off (R703). -/
def Chip.pmodeOf (c : Chip) (p : Nat) : Nat := fld c.tln.pmode (2 * p) 2 % 3
/-- The port serves: LNK on, a role taken, the port not off and not isolated; a leaf uses UP alone (R698, R748). -/
def Chip.portOn (c : Chip) (p : Nat) : Bool :=
  c.domOn dLNK && c.tln.role != 0 && c.pmodeOf p != 0 && !c.rbit R.TLN_STATE (3 + p) && (p == 0 || c.tln.role != roLEAF)

/-- A partner is present (R731): its bit of the presence map, and this node joined. -/
def Chip.present (c : Chip) (node : Nat) : Bool :=
  c.domOn dLNK && c.tstate == tsJOINED && c.rbit (R.TLN_PMAP (node / 8)) (node % 8)

/-! ### Tags (R740 to R744) -/

/-- The header's 96 bits (R706). -/
def frameHeader (f : Frame) : Nat :=
  f.dst.toNat * 2 ^ 83 + f.src.toNat * 2 ^ 70 + f.kind.toNat * 2 ^ 66 + f.hop.toNat * 2 ^ 60 + f.queue.toNat * 2 ^ 46 +
  f.seq.toNat * 2 ^ 30 + f.payload.length % 256 * 2 ^ 22 + f.flags.toNat * 2 ^ 16 + f.epoch.toNat * 2 ^ 8 + f.hseq.toNat * 2 ^ 4

/-- `n` bytes of a list from position `i` on set to zero. -/
def zeroBytes (l : List Byte) (i n : Nat) : List Byte := l.zipIdx.map (fun e => if i ≤ e.2 ∧ e.2 < i + n then 0 else e.1)

/-- The tag's input (R741). -/
def tagInput (f : Frame) : List Nat :=
  let pay := if f.kind = 0 then zeroBytes f.payload 12 4 else if f.kind = 5 then zeroBytes f.payload 12 2 else f.payload
  beOf 12 (frameHeader { f with hop := 0, hseq := 0 }) ++ natBytes pay

/-- The string key K (R742). -/
def Chip.stringKey (c : Chip) : List Nat :=
  if c.rbit R.TLN_AUTH 1 then natBytes (leBytes 16 (c.rd R.TLN_KEY)) else c.otpBytes 10

/-- The session key of a nonce N_h (R742). -/
def Chip.sessionKey (c : Chip) (nh : Nat) : List Nat := cmac c.stringKey ([0x54, 0x4C] ++ beOf 8 nh)

/-- The tag of a frame: under K for a BEACON, under the session key for every other. -/
def Chip.tagOf (c : Chip) (f : Frame) : BitVec 64 :=
  BitVec.ofNat 64 (ofBe ((cmac (if f.kind = 0 then c.stringKey else c.tln.session) (tagInput f)).take 8))

/-- The frame with FLAGS.MAC and its tag, while TLN_AUTH.EN is set; a HACK has none (R740). -/
def Chip.tagged (c : Chip) (f : Frame) : Frame :=
  if c.rbit R.TLN_AUTH 0 && f.kind != 1 then
    let f := { f with flags := f.flags ||| 0x20 }
    { f with tag := some (c.tagOf f) }
  else f

/-- The MAC check of a receiver (R740): true when the frame may be used. -/
def Chip.macOk (c : Chip) (f : Frame) : Bool :=
  !c.rbit R.TLN_AUTH 0 || !c.rbit R.TLN_AUTHREQ f.kind.toNat || f.tag == some (c.tagOf f)

/-- A frame that fails the check is discarded and counted. -/
def Chip.macFail (c : Chip) : Chip := (c.inc (R.TLN_CNT tcMACFAIL)).event 9 R.TLN_EVT 0x40

/-- A nonce of 8 bytes (R743): from the DRBG, else 0xFF and the persistent counter, whose watermark is advanced first; none when
the watermark is at its end (17 R841). -/
def Chip.drawNonce (c : Chip) : Option (Nat × Chip) :=
  match c.drbgTake 8 with
  | some (b, c) => some (beNat b, c)
  | none =>
    let n := c.tln.nonceCtr + 1
    let use (c : Chip) : Option (Nat × Chip) := some (0xFF * 2 ^ 56 + n % 2 ^ 56, { c with tln := { c.tln with nonceCtr := n } })
    if n ≤ c.rd R.NVM_NWM then use c
    else if c.rd R.NVM_NWM + 256 < 2 ^ 56 then use (c.wr R.NVM_NWM (c.rd R.NVM_NWM + 256))
    else none

/-! ### Sending (R710, R717, R723 to R726) -/

/-- A frame put on the line after Pebble's TX side; a damaged one is seen by the neighbour alone. -/
def Chip.toLine (c : Chip) (p : Nat) (f : Frame) : Chip :=
  let r := c.pebble p false (.link f false)
  let out := r.2.filterMap (fun x => match x with | .link f bad => some (f, bad) | .host _ => none)
  let x := r.1.port p
  r.1.setPort p { x with sent := out.reverse ++ x.sent }

/-- A frame sent on a port: numbered with HSEQ and kept until it is acknowledged, where the link has hop state (R710). -/
def Chip.transmit (c : Chip) (p : Nat) (f : Frame) : Chip :=
  let x := c.port p
  let f := { f with hseq := if x.alive then x.txSeq else 0 }
  let c := if x.alive then c.setPort p { x with txSeq := x.txSeq + 1, window := x.window ++ [f] } else c
  let c := if p = pUP then { c with tln := { c.tln with spoke := true } } else c
  c.toLine p f

/-- The hop window has room (R710). -/
def PortSt.room (x : PortSt) : Bool := decide (x.window.length < 8)

/-- The class of an originated frame in a slot's order (R723, R726): smaller is served first; `cont` in a contention slot. -/
def frameRank (cont : Bool) (f : Frame) : Nat :=
  match f.kind.toNat with
  | 10 => 0
  | 5 => if cont then 1 else 6
  | 7 => if cont then 2 else 6
  | 8 => if cont then 3 else 5
  | 4 => 4
  | 6 => 4
  | _ => 7

/-- A frame of the kinds that a contention slot sends first (R723). -/
def contentionKind (f : Frame) : Bool := f.kind == 5 || f.kind == 7 || f.kind == 8 || f.kind == 10

/-- In a contention slot, other originated frames may follow: class 5 matches are suppressed in W2's state (R723). -/
def Chip.contentionAll (c : Chip) : Bool := c.wheelState 2 != whLOCKED && c.wheelState 2 != whHOLDOVER

/-- The enabled outbound queues of a port in round-robin order, starting after the one served last (R726). -/
def Chip.outQueues (c : Chip) (p : Nat) : List Nat :=
  let qs := (c.regs.filterMap (fun e => if 0x840000 ≤ e.1 ∧ e.1 < 0x880000 ∧ e.1 % 16 = 0 then some ((e.1 - 0x840000) / 16) else none)).filter
    (fun q => c.qEn q && c.qOut q && c.qPort q == p + 1)
  let k := (c.port p).lastServed
  qs.filter (fun q => decide (k < q)) ++ qs.filter (fun q => decide (q ≤ k))

/-- An order queue (R735). -/
def Chip.orderQueue (c : Chip) (q : Nat) : Bool := c.qEn q && c.qOut q && c.qChan q == 0x3FFF

/-- The message `b` of 3 bytes put on the enabled inbound queue from the target with PCHAN 0x3FFF (R738). -/
def Chip.orderAnswer (c : Chip) (node : Nat) (b : List Byte) : Chip :=
  let qs := c.regs.filterMap (fun e => if 0x840000 ≤ e.1 ∧ e.1 < 0x880000 ∧ e.1 % 16 = 0 then some ((e.1 - 0x840000) / 16) else none)
  match qs.find? (fun q => c.qEn q && c.qIn q && c.qChan q == 0x3FFF && c.qNode q == node) with
  | none => c
  | some q =>
    match c.qRoom q 1 with
    | none => c
    | some o =>
      let r := c.qrec q
      let c := (c.qStore q o b).setEntries q (c.entries q ++ [{ kind := .data, seq := r.rseq, cell := o, len := b.length }])
      (c.setQrec q { r with rseq := (r.rseq + 1) % 2 ^ 16 }).qSync q

/-- The order at the head of an order queue ended with this answer (R738, R739). -/
def Chip.orderEnd (c : Chip) (q : Nat) (b : List Byte) : Chip :=
  match c.entries q with
  | [] => c
  | e :: l =>
    let node := c.qNode q
    let c := (c.setEntries q l).setQrec q { c.qrec q with rseq := (e.seq + 1) % 2 ^ 16 }
    let c := { c with tln := { c.tln with orderOut := FMap.set none c.tln.orderOut q none } }
    c.orderAnswer node b

/-- The sending device's own answer: NOT_DELIVERED with cause ABSENT (0x60) or TIMEOUT (0x61) (R739). -/
def notDelivered (cw : Nat) : List Byte := [0xFF, BitVec.ofNat 8 cw, 0]

/-- An order queue's orders to an absent target are answered at once (R739). -/
def Chip.orderAbsent (c : Chip) (q : Nat) : Nat → Chip
  | 0 => c
  | n + 1 =>
    if c.orderQueue q && c.entries q != [] && !c.present (c.qNode q) && (FMap.get none c.tln.orderOut q).isNone then
      (c.orderEnd q (notDelivered 0x60)).orderAbsent q n
    else c

/-- The ORDER frame an order queue sends next (R735). -/
def Chip.orderFrame (c : Chip) (q : Nat) : Option Frame :=
  if (FMap.get none c.tln.orderOut q).isSome || !c.present (c.qNode q) || c.qFrozen q then none
  else
    match c.entries q with
    | [] => none
    | e :: _ =>
      match e.kind with
      | .data =>
        some { c.weirFrame q e.seq (c.qBytes q e) 0 with kind := 3, queue := 0x3FFF, epoch := BitVec.ofNat 8 (c.qrec q).pepoch }
      | _ => none

/-- The next frame that a port may originate in its open slot, and the chip with it taken (R723 to R726). -/
def Chip.nextOrigin (c : Chip) (p : Nat) : Option (List Frame × Chip) :=
  let x := c.port p
  match x.slot with
  | none => none
  | some n =>
    let cont := n == 0 || n == 256
    let all := !cont || c.contentionAll
    let cand := x.origin.filter (fun f => all || contentionKind f)
    let best := cand.foldl (fun m f => min m (frameRank cont f)) 9
    let order := if all then (c.outQueues p).filter (fun q => c.orderQueue q && (c.orderFrame q).isSome) else []
    let take (f : Frame) : Option (List Frame × Chip) := some ([f], c.setPort p { x with origin := x.origin.erase f })
    let byRank : Option (List Frame × Chip) := match cand.find? (fun f => frameRank cont f == best) with
      | some f => take f
      | none => none
    if best ≤ 4 ∨ (cont ∧ best ≤ 3) then byRank
    else
      match order with
      | q :: _ =>
        match c.orderFrame q with
        | some f => some ([f], { c with tln := { c.tln with orderOut := FMap.set none c.tln.orderOut q (some f.seq.toNat) } })
        | none => byRank
      | [] =>
        match byRank with
        | some r => some r
        | none =>
          if all then
            (c.outQueues p).findSome? (fun q =>
              if c.qChan q == 0x3FFF || !c.present (c.qNode q) then none
              else (c.weirNext q).map (fun r => (r.1, r.2.setPort p { r.2.port p with lastServed := q })))
          else none

/-- A port originates what it may while its slot is open and its window has room. -/
def Chip.pump (c : Chip) (p : Nat) : Nat → Chip
  | 0 => c
  | n + 1 =>
    if c.portOn p && (c.port p).room && !(p == pUP && c.headActive) then
      match c.nextOrigin p with
      | none => c
      | some (fs, c) => Chip.pump (fs.foldl (fun c f => c.transmit p (c.tagged f)) c) p n
    else c

/-- The frames one opening of a slot can send before the hop window is full. -/
def pumpFuel : Nat := 16

/-- Every port pumped. -/
def Chip.pumpAll (c : Chip) : Chip := [0, 1, 2].foldl (fun c p => c.pump p pumpFuel) c

/-- A slot opens on a port (R724, R725, R750). -/
def Chip.slotOpen (c : Chip) (p n : Nat) : Chip :=
  if !c.portOn p then c
  else
    let x := c.port p
    let x := if x.slot = some 256 ∧ n ≠ 256 then { x with slotNext := some n } else { x with slot := some n }
    (c.setPort p x).pump p pumpFuel

/-- The boot ROM drives the link in OTP_HALT (21 R971). -/
def Chip.haltLink (c : Chip) : Bool := c.rfld R.SYS_BOOT 0 4 == 0xB

/-- A STATUS of code OTP_FAULT with the unique ID, from SRC 0 (21 R971). -/
def Chip.otpStatus (c : Chip) : Frame :=
  { dst := 1, src := 0, kind := 8, hop := 0, queue := 0, seq := 0, flags := 0, epoch := BitVec.ofNat 8 c.epoch8, hseq := 0
    payload := 1 :: beBytes 8 (FMap.get 0 c.nvm.shadow 0 % 2 ^ 64), tag := none }

/-- The contention slot of a port opens; a joined node that has been silent on UP sends STATUS code 0 in it (R723, R733). -/
def Chip.contentionOpen (c : Chip) (p : Nat) : Chip :=
  let quiet := p = pUP ∧ c.tstate = tsJOINED ∧ !c.headActive ∧ !c.tln.spoke
  let f : Frame := { dst := 1, src := BitVec.ofNat 13 c.nodeId, kind := 8, hop := 0, queue := 0, seq := 0, flags := 0
                     epoch := BitVec.ofNat 8 c.epoch8, hseq := 0, payload := [0], tag := none }
  let c := if quiet then c.originate p f else c
  let c := if p = pUP ∧ c.haltLink ∧ c.tln.nonceH.isSome then c.originate p c.otpStatus else c
  let c := if p = pUP then { c with tln := { c.tln with spoke := false } } else c
  c.slotOpen p 256

/-- A slot ends; a class 5 slot that opened during the contention slot starts now (R750). -/
def Chip.slotEnd (c : Chip) (p : Nat) : Chip :=
  let x := c.port p
  (c.setPort p { x with slot := x.slotNext, slotNext := none }).pump p pumpFuel

/-! ### Hop acknowledgement (R711 to R714) -/

/-- The hop state of a link cleared (R714). -/
def Chip.hopClear (c : Chip) (p : Nat) (alive : Bool) : Chip :=
  let x := c.port p
  c.setPort p { x with txSeq := 0, rxSeq := 0, window := [], hackDue := false, alive := alive }

/-- A HACK advances the window to the HSEQ it names (R710). -/
def Chip.hack (c : Chip) (p : Nat) (next : BitVec 4) : Chip :=
  let x := c.port p
  match x.window with
  | [] => c
  | f :: _ =>
    let n := (next - f.hseq).toNat
    if n ≤ x.window.length then (c.setPort p { x with window := x.window.drop n }).pump p pumpFuel else c

/-- The HACK that is owed (R711, R713). -/
def Chip.hackSend (c : Chip) (p : Nat) : Chip :=
  let x := c.port p
  if x.hackDue && c.portOn p then
    let f : Frame := { dst := 0, src := BitVec.ofNat 13 c.nodeId, kind := 1, hop := 0, queue := 0, seq := BitVec.ofNat 16 x.rxSeq.toNat
                       flags := 0, epoch := 0, hseq := 0, payload := [], tag := none }
    (c.setPort p { x with hackDue := false }).toLine p f
  else c

/-- Retransmission from the oldest unacknowledged frame, with HRETX set (R712). -/
def Chip.hopRetransmit (c : Chip) (p : Nat) : Chip :=
  let x := c.port p
  if x.window = [] then c
  else
    let again (f : Frame) : Frame :=
      let g := { f with flags := f.flags ||| 4 }
      if g.tag.isSome then { g with tag := some (c.tagOf g) } else g
    let w := x.window.map again
    let c := (c.setPort p { x with window := w }).inc (R.TLN_CNT tcHRETX)
    w.foldl (fun c f => c.toLine p f) c

/-! ### Forwarding (R700 to R702, R715 to R717) -/

/-- The outgoing port of a frame that this node forwards, by R700 and R701; none when it is discarded with this counter. -/
def Chip.route15 (c : Chip) (p : Nat) (f : Frame) : Option Nat :=
  let r := FMap.get 0 c.tln.routes f.dst.toNat
  if r ≠ 0 ∧ r - 1 ≠ p then some (r - 1)
  else if c.tln.role = roRELAY ∧ p ≠ pUP ∧ r = 0 ∧ !c.headActive then some pUP
  else none

/-- A frame starts on its outgoing port, or waits in the forwarding buffer while the hop window is full (R717). -/
def Chip.forwardStart (c : Chip) (p : Nat) (f : Frame) : Chip :=
  let x := c.port p
  if x.fwd = [] ∧ x.room then c.transmit p f else c.setPort p { x with fwd := x.fwd ++ [f] }

/-- A frame forwarded on port `out`, having arrived on `p`: at once between SHORT ports, after its 20 µs otherwise. HOP rises. -/
def Chip.forward (c : Chip) (p out : Nat) (f : Frame) : Chip :=
  let f := { f with hop := f.hop + 1 }
  let short := c.pmodeOf p == 1 && c.pmodeOf out == 1 && !((List.range 16).any (fun r => fld (c.rd (R.PEB_RULE out r)) 0 1 == 1 && bit (c.rd (R.PEB_RULE out r)) 2))
  if short then c.forwardStart out f
  else
    let x := c.port out
    c.setPort out { x with store := x.store ++ [f] }

/-- A frame finds the buffer of its outgoing port full (R717). -/
def Chip.bufferFull (c : Chip) (out : Nat) : Bool :=
  let x := c.port out
  decide (8 ≤ x.fwd.length + x.store.length)

/-- FRAME_FORWARD_STORE: the 20 µs of a stored frame are over (R716). -/
def Chip.storeStart (c : Chip) (p : Nat) (f : Frame) : Chip :=
  let x := c.port p
  if x.store.contains f then (c.setPort p { x with store := x.store.erase f }).forwardStart p f else c

/-- FORWARD_BUFFER_START: the port is idle and the oldest buffered frame starts (R717). -/
def Chip.bufferStart (c : Chip) (p : Nat) : Chip :=
  let x := c.port p
  match x.fwd with
  | f :: l => if x.room && c.portOn p then (c.setPort p { x with fwd := l }).transmit p f else c
  | [] => c

/-! ### Joining (R727 to R730) -/

/-- A TLN_JOINFIFO entry; a full FIFO of 8 takes none. -/
def Chip.joinPush (c : Chip) (e : List Byte) : Chip :=
  if 8 ≤ c.tln.joinFifo.length then c
  else ({ c with tln := { c.tln with joinFifo := c.tln.joinFifo ++ [e] } }).event 9 R.TLN_EVT 0x20

/-- The 16 bytes of a JOINFIFO entry. -/
def joinEntry (kind port hop epoch : Nat) (mid : List Byte) (req parent : Nat) : List Byte :=
  leBytes 1 kind ++ leBytes 1 port ++ leBytes 1 hop ++ leBytes 1 epoch ++ (mid ++ List.replicate (8 - mid.length) 0) ++ leBytes 2 req ++ leBytes 2 parent

/-- An unjoined node sends a JOIN_REQ (R727, R728). -/
def Chip.joinReqSend (c : Chip) : Chip :=
  if c.tln.nonceH.isSome ∧ !c.haltLink ∧ c.tstate ≠ tsJOINED ∧ !c.tln.stopped ∧ c.tln.role ≠ 0 ∧ c.portOn pUP then
    match c.drawNonce with
    | none => c.event 11 R.NVM_EVT 2
    | some (nj, c) =>
      let first := c.tln.attempts = 0
      let c := if first then c.hopClear pUP true else c
      let c := { c with tln := { c.tln with nonceJ := some nj, attempts := c.tln.attempts + 1 } }
      let c := c.wfld R.TLN_STATE 0 2 tsJOINING
      let jitter := c.timingDraw 2
      let want := jitter.2.takeFreeNat
      let c := want.2
      let pay := beBytes 8 (FMap.get 0 c.nvm.shadow 0 % 2 ^ 64) ++ be2 (c.rd R.TLN_REQID) ++ be2 want.1 ++ be2 0 ++ beBytes 8 nj ++
        [if c.tln.role = roRELAY then 1 else 0]
      let f : Frame := { dst := 1, src := 0, kind := 5, hop := 0, queue := 0, seq := 0, flags := 0, epoch := BitVec.ofNat 8 c.epoch8
                         hseq := 0, payload := pay, tag := none }
      (c.originate pUP f).pump pUP pumpFuel
  else c

/-- A JOIN_REQ at a node (R728, R729): recorded, given its PARENT by the first node, forwarded up or put before the head. The head
is its receiver and checks its tag; a relay does not (R740). -/
def Chip.joinReqIn (c : Chip) (p : Nat) (f : Frame) : Chip :=
  let uid := beNat (f.payload.take 8)
  let nonce := beNat ((f.payload.drop 14).take 8)
  let known := c.tln.joinTable.any (fun e => e.uid == uid)
  if c.headActive && !c.macOk f then c.macFail
  else if !known && decide (8 ≤ c.tln.joinTable.length) then c
  else
    let t := c.tln.joinTable.filter (fun e => e.uid != uid) ++ [⟨uid, p, nonce⟩]
    let c := { c with tln := { c.tln with joinTable := t } }
    let pay := if f.hop = 0 then f.payload.take 12 ++ be2 c.nodeId ++ f.payload.drop 14 else f.payload
    let f' := { f with payload := pay }
    if c.headActive then
      c.joinPush (joinEntry 1 p f.hop.toNat f.epoch.toNat (leBytes 8 uid) (beNat ((pay.drop 8).take 2)) (beNat ((pay.drop 12).take 2)))
    else if f.hop = 63 then c.inc (R.TLN_CNT tcHOPLIM)
    else if c.bufferFull pUP then c.inc (R.TLN_CNT tcFWDFULL)
    else c.forward p pUP f'

/-- REJOIN to each partner of each enabled round descriptor (14 R687). -/
def Chip.rejoinAll (c : Chip) : Chip :=
  (List.range 32).foldl (fun c r =>
    if c.rndEn r then
      (List.range (c.rndParts r)).foldl (fun c i =>
        let q := c.rndOut r i
        if c.qEn q && c.qOut q then c.weirControl q 0 ([7] ++ be2 (c.lastTag r i)) else c) c
    else c) c

/-- A JOIN_REPLY for this node, its tag checked (R730, R740). -/
def Chip.joinedBy (c : Chip) (f : Frame) : Chip :=
  if !c.macOk f then c.macFail
  else if c.tln.nonceJ ≠ some (beNat ((f.payload.drop 12).take 8)) then c
  else
    let c := { c with tln := { c.tln with nonceJ := none } }
    match ((f.payload.drop 20).headD 0).toNat with
    | 0 =>
      let id := beNat ((f.payload.drop 8).take 2) % 2 ^ 13
      let c := (c.wr R.TLN_NODEID id).wfld R.TLN_STATE 0 2 tsJOINED
      let c := { c with tln := { c.tln with attempts := 0 } }
      ((c.setStrbud (beNat ((f.payload.drop 10).take 2))).event 9 R.TLN_EVT 1).rejoinAll
    | 1 => { c with tln := { c.tln with stopped := true } }
    | _ => c

/-- A JOIN_REPLY that passes through: the route is installed and the entry freed (R728). -/
def Chip.joinReplyIn (c : Chip) (p : Nat) (f : Frame) : Chip :=
  let uid := beNat (f.payload.take 8)
  if uid = FMap.get 0 c.nvm.shadow 0 % 2 ^ 64 ∧ c.tstate ≠ tsJOINED then c.joinedBy f
  else
    match c.tln.joinTable.find? (fun e => e.uid == uid) with
    | none => c.inc (R.TLN_CNT tcNOROUTE)
    | some e =>
      let id := beNat ((f.payload.drop 8).take 2) % 2 ^ 13
      let ok := (f.payload.drop 20).headD 0 == 0
      let c := { c with tln := { c.tln with joinTable := c.tln.joinTable.filter (fun x => x.uid != uid)
                                            routes := if ok then FMap.set 0 c.tln.routes id (e.port + 1) else c.tln.routes } }
      if f.hop = 63 then c.inc (R.TLN_CNT tcHOPLIM)
      else if c.bufferFull e.port then c.inc (R.TLN_CNT tcFWDFULL)
      else c.forward p e.port f

/-- TLN_JREPLY: the head's answer to the last popped JOIN_REQ (R729). -/
def Chip.jreply (c : Chip) (v : Nat) : Chip :=
  if !c.headActive then c
  else
    match c.tln.asked with
    | none => c
    | some uid =>
      let c := { c with tln := { c.tln with asked := none } }
      match c.tln.joinTable.find? (fun e => e.uid == uid) with
      | none => c
      | some e =>
        let id := fld v 0 16 % 2 ^ 13
        let result := fld v 32 8
        let c := { c with tln := { c.tln with joinTable := c.tln.joinTable.filter (fun x => x.uid != uid)
                                              routes := if result = 0 then FMap.set 0 c.tln.routes id (e.port + 1) else c.tln.routes } }
        let f : Frame := { dst := 0, src := BitVec.ofNat 13 c.nodeId, kind := 6, hop := 0, queue := 0, seq := 0, flags := 0
                           epoch := BitVec.ofNat 8 c.epoch8, hseq := 0
                           payload := beBytes 8 uid ++ be2 id ++ be2 (fld v 16 16) ++ beBytes 8 e.nonce ++ [BitVec.ofNat 8 result], tag := none }
        (c.originate e.port f).pump e.port pumpFuel

/-- A pop of TLN_JOINFIFO by a reader; an empty FIFO gives 0 (R729, 00 R1012). -/
def Chip.joinPop (c : Chip) (k : Nat) : Chip :=
  match c.tln.joinFifo with
  | [] => c.setLatch k R.TLN_JOINFIFO 0
  | e :: l =>
    let asked := if e.headD 0 = 1 then some (leNat ((e.drop 4).take 8)) else c.tln.asked
    ({ c with tln := { c.tln with joinFifo := l, asked := asked } }).setLatch k R.TLN_JOINFIFO (leNat e)

/-! ### Absence and leave (R732 to R734, R748) -/

/-- The presence map cleared. -/
def Chip.pmapClear (c : Chip) : Chip :=
  { c with regs := c.regs.filter (fun e => !(decide (0x808400 ≤ e.1) && decide (e.1 < 0x808800))) }

/-- The node leaves JOINED (R732). -/
def Chip.unjoin (c : Chip) : Chip :=
  let was := c.tstate = tsJOINED
  let c := (c.wr R.TLN_NODEID 0).wfld R.TLN_STATE 0 2 tsLISTEN
  let c := { c with tln := { c.tln with routes := [], joinTable := [], nonceH := none, nonceJ := none, attempts := 0 } }
  let c := (c.pmapClear).hopClear pUP false
  if was then c.event 9 R.TLN_EVT 2 else c

/-- A LOST notice: upward, or into the head's FIFO (R729, R733). -/
def Chip.lost (c : Chip) (p id : Nat) : Chip :=
  if c.headActive then c.joinPush (joinEntry 2 p 0 c.epoch8 (leBytes 2 id) 0 0)
  else
    c.originate pUP { dst := 1, src := BitVec.ofNat 13 c.nodeId, kind := 10, hop := 0, queue := 0, seq := 0, flags := 0
                      epoch := BitVec.ofNat 8 c.epoch8, hseq := 0, payload := [1] ++ be2 id, tag := none }

/-- A child declared absent: its routes go, the frames queued for it are discarded and counted, and a NOTICE LOST follows for
each node removed (R733). -/
def Chip.childAbsent (c : Chip) (p : Nat) : Chip :=
  let gone := (c.tln.routes.filter (fun e => e.2 == p + 1)).map (fun e => e.1)
  let x := c.port p
  let n := x.fwd.length + x.store.length + x.window.length
  let c := { c with tln := { c.tln with routes := c.tln.routes.filter (fun e => e.2 != p + 1) } }
  let c := c.wr (R.TLN_CNT tcDROPABS) (min 0xFFFF (c.rd (R.TLN_CNT tcDROPABS) + n))
  let c := (c.setPort p { x with fwd := [], store := [] }).hopClear p false
  let c := gone.foldl (fun c id => c.lost p id) c
  c.event 9 R.TLN_EVT 4

/-- LEAVE sent, then LISTEN until TLN_CMD.JOIN (R734). -/
def Chip.leave (c : Chip) : Chip :=
  let f : Frame := { dst := 1, src := BitVec.ofNat 13 c.nodeId, kind := 7, hop := 0, queue := 0, seq := 0, flags := 0
                     epoch := BitVec.ofNat 8 c.epoch8, hseq := 0, payload := [], tag := none }
  let c := if c.tstate = tsJOINED then c.transmit pUP (c.tagged f) else c
  let c := c.unjoin
  { c with tln := { c.tln with stopped := true } }

/-! ### Beacons and presence (R719 to R722, R731, R744) -/

/-- The 128 bytes of presence segment `k`. -/
def Chip.pmapSegment (c : Chip) (k : Nat) : List Byte := (List.range 128).map (fun i => BitVec.ofNat 8 (c.rd (R.TLN_PMAP (128 * k + i))))

/-- A broadcast frame of the head on its child ports; the hop window does not delay a beacon (R720). -/
def Chip.broadcast (c : Chip) (f : Frame) : Chip :=
  [pDOWN, pBRANCH].foldl (fun c p => if c.portOn p && (!(c.port p).alive || (c.port p).room) then c.transmit p f else c) c

/-- The head sends a beacon and a presence segment (R719, R731). -/
def Chip.beaconSend (c : Chip) : Chip :=
  if !c.headActive then c
  else
    let n := (c.tln.sfcount + 1) % 2 ^ 32
    let seg := c.tln.presSeg
    let c := { c with tln := { c.tln with sfcount := n, presSeg := (seg + 1) % 8 } }
    let c := c.wr R.TLN_SFCNT n
    let b (k : Nat) (pay : List Byte) : Frame := { dst := 0x1FFF, src := 1, kind := BitVec.ofNat 4 k, hop := 0, queue := 0, seq := 0, flags := 0
                                                   epoch := BitVec.ofNat 8 c.epoch8, hseq := 0, payload := pay, tag := none }
    let beacon := b 0 (beBytes 4 n ++ beBytes 8 (c.tln.nonceH.getD 0) ++ beBytes 4 0 ++ beBytes 4 c.now)
    let pres := b 9 ([BitVec.ofNat 8 seg] ++ c.pmapSegment seg)
    (c.broadcast (c.tagged beacon)).broadcast (c.tagged pres)

/-- A head that has listened one superframe begins: node 0x0001, a fresh N_h, beacons from the next W2 turn (R699, R743). -/
def Chip.headStart (c : Chip) : Chip :=
  if c.tln.role = roHEAD ∧ c.tln.listening ∧ c.domOn dLNK then
    match c.drawNonce with
    | none => c.event 11 R.NVM_EVT 2
    | some (nh, c) =>
      let c := { c with tln := { c.tln with listening := false, nonceH := some nh, session := c.sessionKey nh } }
      (c.wr R.TLN_NODEID 1).wfld R.TLN_STATE 0 3 (tsJOINED + 4)
  else c

/-- A head that hears a beacon gives way and acts as relay (R699, R752). -/
def Chip.headRefused (c : Chip) : Chip :=
  if c.tln.role = roHEAD then
    let c := { c with tln := { c.tln with role := roRELAY, listening := false } }
    let c := if c.headActive then (c.wbit R.TLN_STATE 2 false).unjoin else c
    c.event 9 R.TLN_EVT 0x10
  else c

/-- The beacon may be accepted (R744): a joined node wants its own N_h and a later count. -/
def Chip.beaconOk (c : Chip) (f : Frame) : Bool :=
  c.macOk f && decide (20 ≤ f.payload.length) &&
  (c.tstate != tsJOINED || c.tln.role == roHEAD ||
    (c.tln.nonceH == some (beNat ((f.payload.drop 4).take 8)) && serialAfter 32 (beNat (f.payload.take 4)) (c.rd R.TLN_SFCNT)))

/-- CORR of the beacon as it leaves on a port: residence of 400 ticks for cut-through, a measured time otherwise (a free value),
and the cable of UP (R721). -/
def Chip.forwardBeacon (c : Chip) (out : Nat) (f : Frame) : Chip :=
  if !c.portOn out || f.hop == 63 || ((c.port out).alive && !(c.port out).room) then c
  else
    let short := c.pmodeOf pUP == 1 && c.pmodeOf out == 1
    let m := c.takeFreeNat
    let res := if short then 400 else m.1
    let c := if short then c else m.2
    let corr := beNat ((f.payload.drop 12).take 4) + res + c.rd (R.TLN_CABLE 0)
    c.transmit out { f with hop := f.hop + 1, payload := f.payload.take 12 ++ beBytes 4 corr ++ f.payload.drop 16 }

/-- A beacon on UP (R720 to R722, R727, R744): accepted, forwarded at once, and its mark given to W2. `stamp` is TICKCNT at the
arrival of the start delimiter less the fixed delay of the receiver. -/
def Chip.beaconIn (c : Chip) (f : Frame) (stamp : Nat) : Chip :=
  if !c.macOk f then c.macFail
  else if !c.beaconOk f then c
  else
    let c := c.headRefused
    let c := if c.tstate = tsJOINED then c
      else
        let nh := beNat ((f.payload.drop 4).take 8)
        { c with tln := { c.tln with nonceH := some nh, session := c.sessionKey nh } }
    let c := c.wr R.TLN_SFCNT (beNat (f.payload.take 4))
    let corr := beNat ((f.payload.drop 12).take 4)
    let c := if c.tln.role = roRELAY then (c.forwardBeacon pDOWN f).forwardBeacon pBRANCH f else c
    if c.src 2 = 5 then (c.refEdge 2 (stamp - corr - c.rd (R.TLN_CABLE 0)) 0).1 else c

/-- A presence segment copied and forwarded (R731, R700). -/
def Chip.presenceIn (c : Chip) (f : Frame) : Chip :=
  let seg := (f.payload.headD 0).toNat % 8
  let c := (List.range 128).foldl (fun c i => c.wr (R.TLN_PMAP (128 * seg + i)) ((f.payload.drop (1 + i)).headD 0).toNat) c
  if c.tln.role = roRELAY then
    [pDOWN, pBRANCH].foldl (fun c p => if !c.portOn p then c else if f.hop = 63 then c.inc (R.TLN_CNT tcHOPLIM)
      else if c.bufferFull p then c.inc (R.TLN_CNT tcFWDFULL) else c.forward pUP p f) c
  else c

/-! ### Delivery (R700, R737, R738) -/

/-- An ORDER for this node (R737). -/
def Chip.orderIn (c : Chip) (p : Nat) (f : Frame) : Chip :=
  let b := f.payload
  let n (i k : Nat) : Nat := beNat ((b.drop i).take k)
  c.submit { origin := 0x2000 + f.src.toNat, seq := f.seq.toNat, ap := n 0 1 % 128, value := n 1 2, options := n 7 1, reply := .node p f.src.toNat }
    f.epoch.toNat (n 3 4)

/-- An ORDER_REPLY for this node: the order is done (R738). -/
def Chip.orderReplyIn (c : Chip) (f : Frame) : Chip :=
  match List.find? (fun e : Nat × Option Nat => e.2 == some f.seq.toNat && c.qNode e.1 == f.src.toNat) c.tln.orderOut with
  | some e => c.orderEnd e.1 f.payload
  | none => c

/-- A STATUS at the head (R729). -/
def Chip.statusIn (c : Chip) (p : Nat) (f : Frame) : Chip :=
  if c.headActive ∧ f.payload.headD 0 = 1 then
    let mid := if f.src = 0 then leBytes 8 (beNat ((f.payload.drop 1).take 8)) else leBytes 8 0
    c.joinPush (joinEntry 3 p f.hop.toNat f.epoch.toNat mid 0 0)
  else c

/-- A NOTICE at the head (R729). -/
def Chip.noticeIn (c : Chip) (p : Nat) (f : Frame) : Chip :=
  if c.headActive ∧ f.payload.headD 0 = 1 then
    c.joinPush (joinEntry 2 p f.hop.toNat f.epoch.toNat (leBytes 2 (beNat ((f.payload.drop 1).take 2))) 0 0)
  else c

/-- A LEAVE of the child on this port: handled as its absence (R734). -/
def Chip.leaveIn (c : Chip) (p : Nat) : Chip := if p = pUP then c else c.childAbsent p

/-- A frame for this node (R700), its tag checked (R740). -/
def Chip.deliver (c : Chip) (p : Nat) (f : Frame) : Chip :=
  if !c.macOk f then c.macFail
  else
    match f.kind.toNat with
    | 2 => (c.weirDeliver f).pumpAll
    | 3 => c.orderIn p f
    | 4 => (c.orderReplyIn f).pumpAll
    | 5 => c.joinReqIn p f
    | 6 => c.joinReplyIn p f
    | 7 => c.leaveIn p
    | 8 => c.statusIn p f
    | 10 => c.noticeIn p f
    | _ => c.inc (R.TLN_CNT tcBADTYPE)

/-- A frame that is not for this node: forwarded or discarded by R700 and R701. The second part is false when its hop is not
acknowledged (R717). -/
def Chip.passOn (c : Chip) (p : Nat) (f : Frame) : Chip × Bool :=
  match c.route15 p f with
  | none => (c.inc (R.TLN_CNT tcNOROUTE), true)
  | some out =>
    if f.hop = 63 then (c.inc (R.TLN_CNT tcHOPLIM), true)
    else if !c.portOn out then (c.inc (R.TLN_CNT tcNOROUTE), true)
    else if c.bufferFull out then (c.inc (R.TLN_CNT tcFWDFULL), false)
    else (c.forward p out f, true)

/-- An accepted frame by the first row of R700 that applies. -/
def Chip.frameTake (c : Chip) (p : Nat) (f : Frame) : Chip × Bool :=
  if 11 ≤ f.kind.toNat then (c.inc (R.TLN_CNT tcBADTYPE), true)
  else if f.kind = 5 then (if p = pUP then (c.inc (R.TLN_CNT tcNOROUTE), true) else (c.joinReqIn p f, true))
  else if f.kind = 7 ∧ f.hop = 0 ∧ p ≠ pUP then (if c.macOk f then c.leaveIn p else c.macFail, true)
  else if f.dst.toNat = c.nodeId ∧ c.nodeId ≠ 0 then (c.deliver p f, true)
  else if f.dst = 0x1FFF then
    if p = pUP ∧ f.src = 1 ∧ f.kind = 9 then ((if c.macOk f then c.presenceIn f else c.macFail), true)
    else if p = pUP ∧ f.src = 1 ∧ f.kind = 0 then (c.beaconIn f c.phw.tick, true)
    else (c.inc (R.TLN_CNT tcBADTYPE), true)
  else if f.dst = 0 ∧ f.kind = 6 then (c.joinReplyIn p f, true)
  else c.passOn p f

/-- A frame with a good CRC after Pebble: hop check, then the rows of R700 (R711, R714). -/
def Chip.frameGood (c : Chip) (p : Nat) (f : Frame) : Chip :=
  if f.kind = 1 then c.hack p (BitVec.ofNat 4 f.seq.toNat)
  else
    let c := if f.kind = 5 ∧ f.hop = 0 ∧ !(c.port p).alive then c.hopClear p true else c
    let x := c.port p
    if !x.alive then (c.frameTake p f).1
    else if f.hseq ≠ x.rxSeq then c.setPort p { x with hackDue := true }
    else
      let r := c.frameTake p f
      if r.2 then
        let y := r.1.port p
        if y.alive then r.1.setPort p { y with rxSeq := x.rxSeq + 1, hackDue := true } else r.1
      else r.1

/-- What Pebble lets through on reception. -/
def Chip.frameItem (c : Chip) (p : Nat) (x : PebItem) : Chip :=
  match x with
  | .link f bad => if bad then c.inc (R.TLN_CNT tcCRCERR) else c.frameGood p f
  | .host _ => c

/-- FRAME_RECEIVE: Pebble, then the CRC, then the link layer (18 R869, R707). -/
def Chip.frameIn (c : Chip) (p : Nat) (f : Frame) (crcOk : Bool) : Chip :=
  if !c.portOn p then c
  else
    let r := c.pebble p true (.link f (!crcOk))
    r.2.foldl (fun c x => c.frameItem p x) r.1

/-! ### Roles, isolation, power (R745 to R748) -/

/-- TLN_ROLE and TLN_PMODE take effect; a joined node leaves first (R746). -/
def Chip.roleApply (c : Chip) : Chip :=
  if !c.domOn dLNK then c
  else
    let role := c.rd R.TLN_ROLE
    let change := role ≠ c.tln.role
    let c := if change ∧ c.tstate = tsJOINED ∧ !c.headActive then c.leave else c
    let c := if change ∧ c.headActive then (c.wbit R.TLN_STATE 2 false).unjoin else c
    let c := { c with tln := { c.tln with role := role, pmode := c.rd R.TLN_PMODE } }
    if change then
      let c := { c with tln := { c.tln with listening := role == roHEAD, stopped := false, attempts := 0 } }
      c.wfld R.TLN_STATE 0 2 (if role = 0 then 0 else tsLISTEN)
    else c

/-- A port isolated; its neighbour is absent (R748). -/
def Chip.isolate (c : Chip) (p : Nat) : Chip :=
  let c := ((c.wbit R.TLN_STATE (3 + p) true).inc (R.TLN_CNT tcISOLATE)).event 9 R.TLN_EVT 8
  if p = pUP then c.unjoin else c.childAbsent p

/-- LNK is ON: in OTP_HALT the boot ROM takes the link as a leaf, UP in SHORT, and checks tags unless the keys section has
FAILED (21 R971). -/
def Chip.lnkUp (c : Chip) : Chip :=
  if c.haltLink then
    (c.wrs [(R.TLN_ROLE, roLEAF), (R.TLN_PMODE, 1), (R.TLN_AUTH, b2n (!(c.rfld R.OTP_SECT 2 2 == 2)))]).roleApply
  else c

/-- OTP_HALT's listening changes between SHORT and LONG until a beacon has been accepted (21 R971). -/
def Chip.listenSwitch (c : Chip) : Chip :=
  if c.haltLink && c.domUp dLNK && c.tln.nonceH.isNone then (c.wr R.TLN_PMODE (if c.rfld R.TLN_PMODE 0 2 = 1 then 2 else 1)).roleApply
  else c

/-- LNK loses its power: every register and table of the link layer (R745); the counter of nonces stays in AON. -/
def Chip.lnkOff (c : Chip) : Chip := ({ c with tln := { nonceCtr := c.tln.nonceCtr } }).resetRegs .lnk

/-! ### Commands -/

/-- The frame is of this type and the port serves; its tag is checked (R740), but of a join's frames, which only the head and the
joining node check. -/
def Chip.ifFrame (c : Chip) (p : Nat) (f : Frame) (k : Nat) (g : Chip → Chip) : Chip :=
  if c.portOn p && f.kind.toNat == k then (if k == 5 || k == 6 || c.macOk f then g c else c.macFail) else c

/-- FRAME_RECEIVE. -/
def execFrameReceive (p : Fin 3) (f : Frame) (crcOk : Bool) (s : State) : Out := s.lift (fun c => c.frameIn p.val f crcOk)
/-- FRAME_FORWARD_STORE. -/
def execFrameForwardStore (p : Fin 3) (f : Frame) (s : State) : Out := s.lift (fun c => c.storeStart p.val f)
/-- FORWARD_BUFFER_START. -/
def execForwardBufferStart (p : Fin 3) (s : State) : Out := s.lift (fun c => c.bufferStart p.val)
/-- HACK_SEND. -/
def execHackSend (p : Fin 3) (s : State) : Out := s.lift (fun c => c.hackSend p.val)
/-- HACK_RECEIVE. -/
def execHackReceive (p : Fin 3) (next : BitVec 4) (s : State) : Out := s.lift (fun c => c.hack p.val next)
/-- HOP_RETRANSMIT. -/
def execHopRetransmit (p : Fin 3) (s : State) : Out := s.lift (fun c => if c.portOn p.val then c.hopRetransmit p.val else c)
/-- JABBER_STOP. -/
def execJabberStop (p : Fin 3) (s : State) : Out := s.lift (fun c => if c.portOn p.val then c.inc (R.TLN_CNT tcJABBER) else c)
/-- BEACON_SEND. -/
def execBeaconSend (s : State) : Out := s.lift (fun c => c.beaconSend)
/-- BEACON_RECEIVE. -/
def execBeaconReceive (p : Fin 3) (f : Frame) (stamp : BitVec 64) (s : State) : Out :=
  s.lift (fun c => if c.portOn p.val && p.val == pUP && f.kind == 0 then c.beaconIn f stamp.toNat else c)
/-- HEAD_LISTEN_END. -/
def execHeadListenEnd (s : State) : Out := s.lift (fun c => c.headStart)
/-- CONTENTION_SLOT_OPEN. -/
def execContentionSlotOpen (p : Fin 3) (s : State) : Out := s.lift (fun c => if c.portOn p.val then c.contentionOpen p.val else c)
/-- TARNLINE_SLOT_END. -/
def execTarnlineSlotEnd (p : Fin 3) (s : State) : Out := s.lift (fun c => c.slotEnd p.val)
/-- JOIN_REQ_SEND. -/
def execJoinReqSend (s : State) : Out := s.lift (fun c => c.joinReqSend)
/-- JOIN_REQ_RECEIVE. -/
def execJoinReqReceive (p : Fin 3) (f : Frame) (s : State) : Out := s.lift (fun c => if p.val = pUP then c else c.ifFrame p.val f 5 (fun c => c.joinReqIn p.val f))
/-- JOIN_REPLY_RECEIVE. -/
def execJoinReplyReceive (p : Fin 3) (f : Frame) (s : State) : Out := s.lift (fun c => c.ifFrame p.val f 6 (fun c => c.joinReplyIn p.val f))
/-- JOIN_TABLE_EXPIRE. -/
def execJoinTableExpire (uid : BitVec 64) (s : State) : Out :=
  s.lift (fun c => { c with tln := { c.tln with joinTable := c.tln.joinTable.filter (fun e => e.uid != uid.toNat) } })
/-- JOIN_ANSWER_TIMEOUT: no reply is sent (R729). -/
def execJoinAnswerTimeout (s : State) : Out := s.lift (fun c => { c with tln := { c.tln with asked := none } })
/-- TLN_JREPLY_WRITE. -/
def execTlnJreplyWrite (w : Writer) (v : BitVec 40) (s : State) : Out := s.lift (fun c => if c.domOn dLNK then c.jreply v.toNat else c.offWrite w)
/-- TLN_JOINFIFO_POP. -/
def execTlnJoinfifoPop (r : Reader) (s : State) : Out := s.lift (fun c => if c.domOn dLNK then c.joinPop (readerKind r) else c)
/-- LEAVE_RECEIVE. -/
def execLeaveReceive (p : Fin 3) (f : Frame) (s : State) : Out := s.lift (fun c => c.ifFrame p.val f 7 (fun c => c.leaveIn p.val))
/-- STATUS_RECEIVE. -/
def execStatusReceive (p : Fin 3) (f : Frame) (s : State) : Out := s.lift (fun c => c.ifFrame p.val f 8 (fun c => c.statusIn p.val f))
/-- PRESENCE_RECEIVE. -/
def execPresenceReceive (p : Fin 3) (f : Frame) (s : State) : Out := s.lift (fun c => if p.val = pUP then c.ifFrame p.val f 9 (fun c => c.presenceIn f) else c)
/-- NOTICE_RECEIVE. -/
def execNoticeReceive (p : Fin 3) (f : Frame) (s : State) : Out := s.lift (fun c => c.ifFrame p.val f 10 (fun c => c.noticeIn p.val f))
/-- BEACON_LOSS. -/
def execBeaconLoss (s : State) : Out := s.lift (fun c => if c.domOn dLNK && c.tstate == tsJOINED && !c.headActive then c.unjoin else c)
/-- CHILD_ABSENT. -/
def execChildAbsent (p : Fin 3) (s : State) : Out := s.lift (fun c => if c.domOn dLNK && p.val != pUP then c.childAbsent p.val else c)
/-- TLN_CMD_JOIN. -/
def execTlnCmdJoin (w : Writer) (s : State) : Out := s.lift (fun c => if c.domOn dLNK then { c with tln := { c.tln with stopped := false } } else c.offWrite w)
/-- TLN_CMD_LEAVE. -/
def execTlnCmdLeave (w : Writer) (s : State) : Out := s.lift (fun c => if c.domOn dLNK then c.leave else c.offWrite w)
/-- ROLE_CHANGE_APPLY. -/
def execRoleChangeApply (s : State) : Out := s.lift (fun c => c.roleApply)
/-- PORT_ISOLATE. -/
def execPortIsolate (p : Fin 3) (s : State) : Out := s.lift (fun c => if c.portOn p.val then c.isolate p.val else c)
/-- PORT_RETRY. -/
def execPortRetry (p : Fin 3) (s : State) : Out := s.lift (fun c => c.wbit R.TLN_STATE (3 + p.val) false)
/-- ORDER_RECEIVE. -/
def execOrderReceive (p : Fin 3) (f : Frame) (s : State) : Out := s.lift (fun c => c.ifFrame p.val f 3 (fun c => c.orderIn p.val f))
/-- ORDER_REPLY_RECEIVE. -/
def execOrderReplyReceive (p : Fin 3) (f : Frame) (s : State) : Out := s.lift (fun c => c.ifFrame p.val f 4 (fun c => (c.orderReplyIn f).pumpAll))
/-- ORDER_TIMEOUT (R739). -/
def execOrderTimeout (q : Fin 16384) (s : State) : Out :=
  s.lift (fun c => if (FMap.get none c.tln.orderOut q.val).isSome then (c.orderEnd q.val (notDelivered 0x61)).pumpAll else c)
/-- WEIR_RETRANSMIT_TIMEOUT. -/
def execWeirRetransmitTimeout (q : Fin 16384) (s : State) : Out :=
  s.lift (fun c => if c.present (c.qNode q.val) then (c.weirTimeout q.val).pumpAll else c)
/-- WEIR_ACK_RECEIVE. -/
def execWeirAckReceive (f : Frame) (s : State) : Out := s.lift (fun c => (c.weirKind f [2]).pumpAll)
/-- WEIR_NACK_RECEIVE. -/
def execWeirNackReceive (f : Frame) (s : State) : Out := s.lift (fun c => (c.weirKind f [3]).pumpAll)
/-- WEIR_GSYNC_RECEIVE. -/
def execWeirGsyncReceive (f : Frame) (s : State) : Out := s.lift (fun c => c.weirKind f [5])
/-- WEIR_ACK_SEND. -/
def execWeirAckSend (q : Fin 16384) (s : State) : Out := s.lift (fun c => (c.ackSend q.val).pumpAll)
/-- WEI_REJFIFO_POP: queue and tag, valid; an empty FIFO gives 0 (14, WEI_REJFIFO). -/
def Chip.rejPop (c : Chip) (k : Nat) : Chip :=
  match c.weir.rejFifo with
  | [] => c.setLatch k R.WEI_REJFIFO 0
  | e :: l => ({ c with weir := { c.weir with rejFifo := l } }).setLatch k R.WEI_REJFIFO (e.1 % 2 ^ 14 + 2 ^ 15 + 2 ^ 16 * e.2)
/-- WEI_REJFIFO_POP. -/
def execWeiRejfifoPop (r : Reader) (s : State) : Out := s.lift (fun c => if c.domOn dWEI then c.rejPop (readerKind r) else c)

end Sys2Proof.Machine
end

