-- ==== Sys2Proof/Machine/Power.lean ====
section
/-!
DEFINITION. What turning a domain on and off does to the rest of the part (01 R41 to R49, 09 R427): the hooks of the
sequencer, of a fault shut-off and of entry to HIBERNATE and SHIP; and the start of WRD.
-/
namespace Sys2Proof.Machine

/-! ### Power off -/

/-- The threads of core `k` and the core lose their state (04 R167). -/
def Chip.coreLost (c : Chip) (k : Nat) : Chip :=
  { c with threads := c.threads.filter (fun e => !(coreOf e.1 == k)), cores := FMap.set {} c.cores k {} }

/-- `n` bytes of the Ledger bank from `a` on left undefined: each a free value. -/
def Chip.freeLedger (c : Chip) (a : Nat) : Nat → Chip
  | 0 => c
  | n + 1 =>
    let r := c.takeFree
    Chip.freeLedger { r.2 with mem := { r.2.mem with ledger := FMap.set erased r.2.mem.ledger a r.1 } } (a + 1) n

/-- A segment erase cut off: its bytes are free, and the erase is still to be made (21 R970). -/
def Chip.ledEraseCut (c : Chip) : Chip :=
  match c.led.erasing with
  | some s => c.freeLedger (ledBase s) 4096
  | none => c

/-- WRD loses its power: the Warden, wheels, slots, NVM engine, entropy source and Pebble; orders with the Warden are
answered (01 R45, R53, 03 R133, 17 R844, 18 R871). -/
def Chip.wrdLost (c : Chip) : Chip :=
  let c := c.answerHandled.nvmAbort.ledEraseCut.coreLost 2
  let sub := (c.wheel 3).frac / 2 ^ 33
  let c := { c with phw := { lfSub := sub, sysTime := c.phw.sysTime }
                    wdn := {}
                    ent := {}
                    peb := {}
                    mem := { c.mem with wdmem := [], wimem := [] }
                    nvm := { c.nvm with shadow := [] }
                    mode := { c.mode with loadMain := none } }
  ((c.resetRegs .wrd).wfld R.SYS_BOOT 0 3 0).chgSettle.fillSettle

/-- SYS_BOOT.STAGE no longer reads MAIN LOADED. -/
def Chip.mainUnloaded (c : Chip) : Chip := if c.rfld R.SYS_BOOT 0 3 == 4 then c.wfld R.SYS_BOOT 0 3 2 else c

/-- CPU loses its power: cores, memories and sensor ports; an NVM interface that a main thread owned is free again. -/
def Chip.cpuLost (c : Chip) : Chip :=
  let c := (List.range 16).foldl Chip.nvmReleaseThread c
  let c := (c.coreLost 0).coreLost 1
  let c := { c with sio := {}, mem := { c.mem with dmem := [], imem := [] }, mode := { c.mode with loadMain := none } }
  (c.mpCpuOff.mainUnloaded).resetRegs .cpu

/-- Domain `x` is disabled. -/
def Chip.domLost (c : Chip) (x : Nat) : Chip :=
  match x with
  | 0 => c.wrdLost
  | 1 => c.cpuLost
  | 2 => c.weiOff
  | 3 => c.lnkOff
  | 4 => c.afeOff
  | n + 5 =>
    let c := c.chDisable n
    if n = 2 then c.capStop else if n = 6 then c.chgSettle else c

/-- Domain `x` to OFF. Its PG counts no more (R422). -/
def Chip.domOff (c : Chip) (x : Nat) : Chip :=
  let on := c.domOn x
  let c := c.setDom x {}
  if on then c.domLost x else c

/-- Every domain of a list to OFF: first each state, then what each loses. -/
def Chip.allOff (c : Chip) (l : List Nat) : Chip :=
  let on := l.filter (fun x => c.domOn x)
  on.foldl Chip.domLost (l.foldl (fun c x => c.setDom x {}) c)

/-! ### Power on -/

/-- WRD is ON: OTP sensed, W3 loaded from CK_LF and the seconds counter, entropy source in STARTUP, Pebble enables cleared;
the boot ROM starts on s0 (03 R113, 17 R800, 18 R862, R870, 21 R952, R960). -/
def Chip.wrdUp (c : Chip) : Chip :=
  let c := c.setWheel 3 { c.wheel 3 with frac := c.phw.lfSub * 2 ^ 33, turn := c.now % 2 ^ 16 }
  let c := (c.otpSense.setEnt entSTARTUP).lfsrInit.pebClearAll
  let c := (c.wfld R.SYS_BOOT 0 3 1).wrs
    [(R.SYS_RSTREC_BOOTCNT, c.rd R.SYS_RSTREC_BOOTCNT + 1), (R.SYS_RSTREC_TIME, c.now)]
  (c.setThr 16 { run := .active, pc := 0x7000 }).updCore 2 (fun k => { k with held := false })

/-- Domain `x` reaches ON. -/
def Chip.domReady (c : Chip) (x : Nat) : Chip :=
  match x with
  | 0 => c.wrdUp
  | 2 => c.weiOn
  | 3 => c.lnkUp
  | 4 => c.afeOn
  | 7 => c.capStart
  | 11 => c.chgSettle
  | _ => c

/-- Domain `x` is enabled: RAMP (R409). -/
def Chip.domEnable (c : Chip) (x : Nat) : Chip :=
  let c := c.setDom x { state := 2 }
  match x with
  | n + 5 => let c := c.chEnable n; if n = 6 then c.chgSettle else c
  | _ => c

end Sys2Proof.Machine
end

