-- ==== Sys2Proof/Machine/Seq.lean ====
section
/-!
DEFINITION. The sequencer, fault shut-off and the restart engine (09 R405 to R459).
-/
namespace Sys2Proof.Machine

/-- The switched domains. -/
def domains : List Nat := [0, 1, 2, 3, 4, 5, 6, 7, 8, 9, 10, 11, 12]

/-! ### Needs (R407, R408, R455) -/

/-- Domain `x` needs domain `y`. -/
def Chip.needsOf (c : Chip) (x y : Nat) : Bool := x != 0 && x != y && (y == 0 || c.rbit (R.SEQ_NEED x) y)

/-- The greatest set within `l` whose members' needs lie in it, after `n` rounds. -/
def Chip.wantedN (c : Chip) : Nat → List Nat → List Nat
  | 0, l => l
  | n + 1, l => c.wantedN n (l.filter (fun x => domains.all (fun y => !c.needsOf x y || l.contains y)))

/-- The wanted domains: intent set, and every need wanted; the members of a cycle together. -/
def Chip.wanted (c : Chip) : List Nat := c.wantedN 13 (domains.filter (fun x => c.rbit R.SEQ_EN x))

/-- What the domains of `l` need, directly or through others, within `n` rounds, with `l`. -/
def Chip.reachN (c : Chip) : Nat → List Nat → List Nat
  | 0, l => l
  | n + 1, l => c.reachN n (domains.filter (fun y => l.contains y || l.any (fun x => c.needsOf x y)))

/-- `x` needs `y`, directly or through others. -/
def Chip.reaches (c : Chip) (x y : Nat) : Bool := (c.reachN 13 (domains.filter (fun z => c.needsOf x z))).contains y

/-- Every need of `x` is ON. -/
def Chip.needsMet (c : Chip) (x : Nat) : Bool := domains.all (fun y => !c.needsOf x y || (c.dom y).state == 4)

/-- Every dependent of `x` is OFF, those in a cycle with it apart. -/
def Chip.dependentsOff (c : Chip) (x : Nat) : Bool :=
  domains.all (fun y => !c.needsOf y x || (c.dom y).state == 0 || c.reaches x y)

/-! ### Evaluation (R405, R409, R410, R448, R450) -/

/-- The Warden is LOST (08 R381). -/
def Chip.wdnLost (c : Chip) : Bool := c.wrdOn && c.wdnState == 2

/-- Starts and stops are held: LOST, or the freeze of a parity error; ship entry prevails over both (12 R601, 20 R944). -/
def Chip.seqHeld (c : Chip) : Bool := (c.seq.frozen || c.wdnLost) && c.mode.power != 4

/-- The state of `x` after one evaluation in which no timer expires. -/
def Chip.seqNext (c : Chip) (w : List Nat) (x : Nat) : Nat :=
  let d := c.dom x
  let on := w.contains x
  let back := if d.passed then 4 else 2
  match d.state with
  | 0 => if on && c.needsMet x then 1 else 0
  | 1 => if on && c.needsMet x then 1 else 0
  | 2 => if !on then 5 else if d.pg then 3 else 2
  | 4 => if on then 4 else 5
  | 5 => if on then back else if c.dependentsOff x then 6 else 5
  | 6 => if on then back else 6
  | s => s

/-- One evaluation of the domains other than WRD, all from the states at its start. -/
def Chip.seqTick (c : Chip) : Chip :=
  let w := c.wanted
  let l := (domains.drop 1).map (fun x => (x, c.seqNext w x))
  l.foldl (fun c' p => if p.2 = (c.dom p.1).state then c' else c'.setDom p.1 { c'.dom p.1 with state := p.2 }) c

/-- Evaluations until nothing changes. -/
def Chip.seqRun (c : Chip) : Nat → Chip
  | 0 => c
  | n + 1 =>
    let d := c.seqTick
    if d.seq.doms = c.seq.doms then c else d.seqRun n

/-- The evaluations that follow a change, up to the next timer. -/
def Chip.seqSettle (c : Chip) : Chip := if c.seqHeld then c else (c.seqRun 40).showInputs

/-- The bits of SEQ_STATUS as it reads. -/
def Chip.seqStatus (c : Chip) : Nat :=
  let e := match c.seq.engine with | .idle => 0 | .waitHigh => 1 | .backoff => 2 | .latched => 3
  b2n c.seq.frozen + 2 * b2n c.wdnLost + 4 * b2n (!(c.seq.fnDrive || c.seq.fnLow)) + 8 * b2n c.seq.fnDrive + 16 * e

/-! ### Fault shut-off (R426 to R431, R440, R441, R451, R453, R459) -/

/-- The restart count n. -/
def Chip.rcount (c : Chip) : Nat := c.rfld R.SEQ_RCOUNT 0 3

/-- SEQ_FREC after a fault: cause, domain, n, MORE, time, count. -/
def Chip.faultRecord (c : Chip) (code dom more : Nat) : Nat :=
  code + 256 * dom + 65536 * c.rcount + 2 ^ 24 * min more 255 + 2 ^ 32 * c.now + 2 ^ 64 * satInc 16 (c.rfld R.SEQ_FREC 64 16)

/-- The restart engine after a shut-off. -/
def Chip.engineAfter (c : Chip) : Chip :=
  if c.rfld R.SEQ_POLICY 0 3 ≤ c.rcount then { c with seq := { c.seq with engine := .latched } }
  else { c with seq := { c.seq with engine := .waitHigh, direct := false, kind := 2 } }

/-- A fault shut-off, with `more` further faults in its tick. While WRD is off a trip latches nothing. The entry is staged
first: its old value is SEQ_EN before the shut-off. -/
def Chip.faultShutoff (c : Chip) (code dom more : Nat) : Chip :=
  if (c.dom dWRD).state = 0 then c
  else
    let c := c.stageHw (0x4000 + dom) (c.rd R.SEQ_EN) 1 (cause code dom)
    let c := (c.wr R.SEQ_FREC (c.faultRecord code dom more)).wr R.SEQ_EN 1
    let c := (if c.hif.frecNew then c else { c with hif := { c.hif with frecNew := true } }.route 4)
    let c := { c with seq := { c.seq with fnDrive := code != 3, frozen := false }
                      mode := { c.mode with power := if c.mode.power = 4 then 4 else 0, wakePend := none } }
    (c.allOff domains).engineAfter

/-- The domain recorded of a cause without one (R430). -/
def noDom : Nat := 0xFF

/-! ### WRD starts (R414, R440, R444, R46) -/

/-- WRD starts: its DELAY, with the reset kind recorded. The battery FET closes; a junction still above the shutdown
threshold trips at once. -/
def Chip.startWrd (c : Chip) (kind : Nat) : Chip :=
  let c := (c.setDom dWRD { state := 1 }).wr R.SYS_RSTREC_KIND kind
  let c := { c with seq := { c.seq with engine := .idle }, chg := { c.chg with fetUv := false }
                    mode := { c.mode with power := 0 } }
  if c.seq.hot then c.faultShutoff 6 noDom 0 else c

/-- WRD starts at once, or after 10 ms of FAULT_N high when it is low (R414). -/
def Chip.startOrWait (c : Chip) (kind : Nat) : Chip :=
  if c.seq.fnLow || c.seq.fnDrive then { c with seq := { c.seq with engine := .waitHigh, direct := true, kind := kind } }
  else c.startWrd kind

/-- LATCHED ends: n clears and WRD starts when WAIT_HIGH is met, without backoff (R444). -/
def Chip.latchEnd (c : Chip) : Chip :=
  { c.wr R.SEQ_RCOUNT 0 with seq := { c.seq with engine := .waitHigh, direct := true, kind := 3 } }

/-! ### Commands -/

/-- SEQ_DELAY_EXPIRE: the timer of DELAY ends; it does not run while starts are held (R450). WRD is started by the engine. -/
def Chip.delayExpire (c : Chip) (x : Nat) : Chip :=
  if (c.dom x).state = 1 ∧ (x = 0 ∨ !c.seqHeld) then (c.domEnable x).seqSettle else c

/-- A filtered PG high. The first one since the enable is timed and starts BLANK (R421, R423). An internal PG rises only
after soft-start (10 R473). -/
def Chip.pgHigh (c : Chip) (x elapsed : Nat) : Chip :=
  let d := c.dom x
  if d.state < 2 ∨ (5 ≤ x ∧ intPg (x - 5) ∧ !c.chStat (x - 5) 0) then c
  else
    let c := if 5 ≤ x ∧ intPg (x - 5) then c.wbit (R.CHn_STAT (x - 5)) 1 true else c
    let c := if d.passed || d.pg || d.state == 3 then c else c.wr (R.SEQ_PGTIME x) elapsed
    c.setDom x { d with pg := true, state := if d.state = 2 then 3 else d.state }

/-- The end of BLANK: PG high on its last tick is ON, else a fault (R421). -/
def Chip.blankExpire (c : Chip) (x : Nat) : Chip :=
  let d := c.dom x
  if d.state ≠ 3 then c
  else if d.pg then ((c.setDom x { d with state := 4, passed := true }).domReady x).seqSettle
  else c.faultShutoff 1 x 0

/-- A filtered PG low: a fault in ON, and in STOP_WAIT and OFF_DELAY of a domain that has been ON (R419). -/
def Chip.pgLow (c : Chip) (x : Nat) : Chip :=
  let d := c.dom x
  let c := if 5 ≤ x ∧ intPg (x - 5) then c.wbit (R.CHn_STAT (x - 5)) 1 false else c
  if d.passed ∧ 4 ≤ d.state then c.faultShutoff 1 x 0
  else if 2 ≤ d.state then c.setDom x { d with pg := false }
  else c

/-- SEQ_OFFDLY has passed (R409); its timer stands still while stops are held (R450). -/
def Chip.offDelayExpire (c : Chip) (x : Nat) : Chip :=
  if (c.dom x).state = 6 ∧ !c.seqHeld then (c.domOff x).seqSettle else c

/-- FAULT_N low for 200 ns while this part does not drive it (R429, R439, R453). -/
def Chip.faultNIn (c : Chip) : Chip :=
  if c.seq.fnDrive then c
  else
    let c := { c with seq := { c.seq with fnLow := true, engine := if c.seq.engine = Engine.backoff then .waitHigh else c.seq.engine } }
    c.faultShutoff 3 noDom 0

/-- FAULT_N has been high for 10 ms; after a thermal shut-off the die has also cooled (R440, 22 R989). -/
def Chip.waitHighDone (c : Chip) : Chip :=
  if c.seq.engine = .waitHigh ∧ !c.seq.fnDrive ∧ !(c.seq.hot && (c.seq.kind == 2 || c.seq.kind == 3) && c.rfld R.SEQ_FREC 0 8 == 6) then
    let c := { c with seq := { c.seq with fnLow := false } }
    if c.seq.direct then c.startWrd c.seq.kind else { c with seq := { c.seq with engine := .backoff } }
  else c

/-- The backoff ends: restart n + 1 (R440). -/
def Chip.backoffEnd (c : Chip) : Chip :=
  if c.seq.engine = .backoff then
    let n := min 7 (c.rcount + 1)
    ((c.wr R.SEQ_RCOUNT n).stageHw 0x4000 0 0 (cause 0x19 n)).startWrd 2
  else c

/-- A parity error found in SEQ_NEED_x or SEQ_DELAY_x (R446 to R449): logged, and a fault when any domain is between OFF
and ON, else a freeze. A register already found bad is not found again. -/
def Chip.parityError (c : Chip) (x : Nat) (inDelay : Bool) : Chip :=
  let k := 2 * x + b2n inDelay
  if c.seq.parBad.contains k then c
  else
    let c := { c with seq := { c.seq with parBad := c.seq.parBad ++ [k] } }
    let c := c.stageHw (0x4000 + x) 0 (2 * b2n inDelay) (cause 9 x)
    let c := c.event 4 R.SEQ_PARERR (2 ^ x)
    if domains.any (fun y => !((c.dom y).state == 0 || (c.dom y).state == 4)) then c.faultShutoff 9 x 0
    else { c with seq := { c.seq with frozen := true } }

/-- The Warden has rewritten a parity-protected register (R448). -/
def Chip.parityRewrite (c : Chip) (x : Nat) (inDelay : Bool) : Chip :=
  let l := c.seq.parBad.filter (fun k => !(k == 2 * x + b2n inDelay))
  let c := { c with seq := { c.seq with parBad := l, frozen := c.seq.frozen && !l.isEmpty } }
  (c.wbit R.SEQ_PARERR x (l.contains (2 * x) || l.contains (2 * x + 1))).seqSettle

/-- SEQ_DELAY_EXPIRE. -/
def execSeqDelayExpire (x : Fin 13) (s : State) : Out := s.lift (fun c => c.delayExpire x.val)
/-- SEQ_PG_HIGH. -/
def execSeqPgHigh (x : Fin 13) (elapsed : BitVec 16) (s : State) : Out := s.lift (fun c => c.pgHigh x.val elapsed.toNat)
/-- SEQ_PG_TIMEOUT (R420). -/
def execSeqPgTimeout (x : Fin 13) (s : State) : Out :=
  s.lift (fun c => if (c.dom x.val).state = 2 then c.faultShutoff 2 x.val 0 else c)
/-- SEQ_OFF_DELAY_EXPIRE. -/
def execSeqOffDelayExpire (x : Fin 13) (s : State) : Out := s.lift (fun c => c.offDelayExpire x.val)
/-- PG_LOSS. -/
def execPgLoss (x : Fin 13) (s : State) : Out := s.lift (fun c => c.pgLow x.val)
/-- FAULT_N_EXTERNAL. -/
def execFaultNExternal (s : State) : Out := s.lift (fun c => c.faultNIn)
/-- FAULT_N_HOLD_END (R428). -/
def execFaultNHoldEnd (s : State) : Out := s.lift (fun c => { c with seq := { c.seq with fnDrive := false } })
/-- RESTART_WAIT_HIGH_DONE. -/
def execRestartWaitHighDone (s : State) : Out := s.lift (fun c => c.waitHighDone)
/-- RESTART_BACKOFF_EXPIRE. -/
def execRestartBackoffExpire (s : State) : Out := s.lift (fun c => c.backoffEnd)
/-- RESTART_STABLE (R442). -/
def execRestartStable (s : State) : Out := s.lift (fun c => if c.domUp dWRD then c.wr R.SEQ_RCOUNT 0 else c)
/-- LATCHED_LONGWAIT_EXPIRE (R444); SEQ_LONGWAIT of 0 never ends it. -/
def execLatchedLongwaitExpire (s : State) : Out :=
  s.lift (fun c => if c.seq.engine = .latched ∧ c.rd R.SEQ_LONGWAIT ≠ 0 then (c.stageHw 0x4000 0 0 (cause 0x19 0)).latchEnd else c)
/-- SEQ_PARITY_ERROR. -/
def execSeqParityError (x : Fin 13) (inDelay : Bool) (s : State) : Out := s.lift (fun c => c.parityError x.val inDelay)

end Sys2Proof.Machine
end

