-- ==== Sys2Proof/Machine/Trips.lean ====
section
/-!
DEFINITION. The trips that shut the station off: channel protection (10 R476 to R478, R487, R488), VSYS under-voltage
(10 R462), the junction (22 R989) and the battery (12 R576 to R580).
-/
namespace Sys2Proof.Machine

/-- Bits of CHn_TRIP. -/
def tOCP : Nat := 1
def tOVP : Nat := 2
def tSHORT : Nat := 4
def tREVERSE : Nat := 8

/-- Channel `n` trips: CHn_TRIP records it and a fault shut-off follows (R433, R498, R505). While it is off nothing trips. -/
def Chip.chTrip (c : Chip) (n bits code : Nat) : Chip :=
  if c.chOn n then (c.event 5 (R.CHn_TRIP n) bits).faultShutoff code (dCH n) 0 else c

/-- The channels with a setpoint (R477, R478). -/
def hasSetpoint (n : Nat) : Bool := (chRange n).isSome

/-- VSYS below 2.7 V stops the integrated channels' and the controllers' switching; each that is judged by PG loses it, all
in one tick: the lowest domain is recorded, MORE counts the rest (10 R462, R451). -/
def Chip.vsysLow (c : Chip) : Chip :=
  let l := [6, 7, 8, 9, 11].filter (fun x => c.domOn x)
  let bad := l.filter (fun x => (c.dom x).passed && decide (4 ≤ (c.dom x).state))
  let c := l.foldl (fun c x => (if intPg (x - 5) then c.wbit (R.CHn_STAT (x - 5)) 1 false else c).setDom x { c.dom x with pg := false }) c
  match bad with
  | [] => c
  | x :: r => c.faultShutoff 1 x r.length

/-- CURRENT_LIMIT_TIMEOUT (R476): CHn_ILTO in limit without a break after soft-start; a shaped limit does not count
(11 R535). -/
def execCurrentLimitTimeout (n : Fin 8) (s : State) : Out :=
  s.lift (fun c => if c.chStat n.val 2 && c.chStat n.val 0 && !(n.val == 5 && c.cap.shaping) then c.chTrip n.val tOCP 4 else c)
/-- SHORT_TRIP (R477). -/
def execShortTrip (n : Fin 8) (s : State) : Out :=
  s.lift (fun c => if c.chStat n.val 2 && c.chStat n.val 0 && hasSetpoint n.val then c.chTrip n.val (tOCP + tSHORT) 4 else c)
/-- OVP_TRIP (R478). -/
def execOvpTrip (n : Fin 8) (s : State) : Out := s.lift (fun c => if hasSetpoint n.val then c.chTrip n.val tOVP 5 else c)
/-- CH5_IMMEDIATE_TRIP (R487). -/
def execCh5ImmediateTrip (s : State) : Out := s.lift (fun c => c.chTrip 5 tOCP 4)
/-- CH5_REVERSE_TRIP (R488): REVERSE follows the level; an enabled CH5 trips. -/
def execCh5ReverseTrip (on : Bool) (s : State) : Out :=
  s.lift (fun c =>
    let c := c.wbit (R.CHn_STAT 5) 4 on
    if on then c.chTrip 5 (tOCP + tREVERSE) 4 else c)
/-- VSYS_UNDERVOLTAGE. -/
def execVsysUndervoltage (s : State) : Out := s.lift (fun c => c.vsysLow)
/-- HW_THERMAL_TRIP (22 R989): the junction above the shutdown threshold, or back below the release threshold. -/
def execHwThermalTrip (above : Bool) (s : State) : Out :=
  s.lift (fun c =>
    let c := { c with seq := { c.seq with hot := above } }
    if above then c.faultShutoff 6 noDom 0 else c)
/-- VBAT_UV_TRIP (R576): the FET opens and UVPEND is set; once, until WRD starts again. -/
def execVbatUvTrip (s : State) : Out :=
  s.lift (fun c => if c.vbatPres && !c.chg.fetUv then ({ c.uvPend with chg := { c.chg with fetUv := true } }).faultShutoff 7 noDom 0 else c)
/-- VBAT_OV_TRIP (R576). -/
def execVbatOvTrip (s : State) : Out :=
  s.lift (fun c => if c.vbatPres && !c.chg.fetOv then ({ c with chg := { c.chg with fetOv := true } }).faultShutoff 8 noDom 0 else c)
/-- VBAT_OV_RECOVER (R577). -/
def execVbatOvRecover (s : State) : Out := s.lift (fun c => { c with chg := { c.chg with fetOv := false } })

end Sys2Proof.Machine
end

