-- ==== Sys2Proof/Machine/Modes.lean ====
section
/-!
DEFINITION. Power states (20): HIBERNATE and its wake; ship mode (12 R600 to R603); the ship and wake button (02 R86).
DOZE, which looks at the threads, is in Doze.lean.
-/
namespace Sys2Proof.Machine

/-- SYS_PSTATE.STATE of each power state of the model. -/
def Chip.pstate (c : Chip) : Nat := match c.mode.power with | 1 => 1 | 3 => 2 | 5 => 3 | _ => 0

/-- The inputs that are absent: armed from the entry on (12 R602, R942). -/
def Chip.armAbsent (c : Chip) : Chip :=
  { c with sup := { c.sup with armed := [0, 1, 2, 3].filter (fun i => !c.rbit R.SYS_SUPPLY i) } }

/-! ### HIBERNATE (R940 to R943, R949) -/

/-- The accepted request: entry begins, with no wake recorded. -/
def Chip.hibBegin (c : Chip) : Chip :=
  { c.wr R.SYS_WAKECAUSE 0 with mode := { c.mode with power := 2, wakePend := none } }

/-- Every domain other than WRD is OFF. -/
def Chip.othersOff (c : Chip) : Bool := (domains.drop 1).all (fun x => (c.dom x).state == 0)

/-- SYS_PSTATE.HIB written by the Warden (R940): accepted only with every other domain OFF and no handle in use, and logged.
The word logged holds SYS_WAKE and SYS_WAKECAUSE above it (16 R777). -/
def Chip.hibRequest (c : Chip) : Chip :=
  if !c.wrdOn || c.wdnLost || c.mode.power != 0 then c
  else if !c.othersOff || orderEntries.any (fun i => (c.handled i).isSome) then c.refuseWrite (.warden 0) R.SYS_PSTATE.addr stREFUSED
  else
    let old := c.rd R.SYS_WAKE * 256 + c.rd R.SYS_WAKECAUSE * 65536
    c.loggedWrite (.warden 0) R.SYS_PSTATE.addr old (old + 4) Chip.hibBegin

/-- A wake by the source of code `k` (R942, R949): in HIBERNATE WRD starts without backoff; during entry it is kept. The
first source is recorded. -/
def Chip.hibWake (c : Chip) (k : Nat) : Chip :=
  let c' := if c.rd R.SYS_WAKECAUSE = 0 then c.wr R.SYS_WAKECAUSE k else c
  if c.mode.power = 3 then { c' with mode := { c'.mode with power := 0 } }.startOrWait 5
  else if c.mode.power = 2 ∧ c.mode.wakePend.isNone then { c' with mode := { c'.mode with wakePend := some k } }
  else c

/-- Every final staged entry that will commit has committed (R941). -/
def Chip.ledSettled (c : Chip) : Bool :=
  (orderEntries ++ [14, 15]).all (fun i => match c.entry i with | some e => !e.final || e.dead | none => true)

/-- WRD powers off into HIBERNATE; a wake that has become pending starts it at once (R941, R949). -/
def Chip.hibEnter (c : Chip) : Chip :=
  if c.mode.power = 2 ∧ c.ledSettled then
    let pend := c.mode.wakePend
    let c := (c.allOff domains).armAbsent
    let c := { c with mode := { c.mode with power := 3, wakePend := none } }
    match pend with
    | some k => c.hibWake k
    | none => c
  else c

/-- SYS_WAKECAUSE codes and the enables of SYS_WAKE. -/
def wakeCode (w : WakeSource) : Nat := match w with | .time => 1 | .button => 2 | .input => 3 | .host => 4 | .order => 5

/-- The wake source's condition holds and it is enabled (R942). -/
def Chip.wakeHolds (c : Chip) (w : WakeSource) : Bool :=
  match w with
  | .time => c.rbit R.SYS_WAKE 0 && c.now == c.rd R.SYS_WAKETIME
  | .input => c.rbit R.SYS_WAKE 1 && c.sup.armed.any (fun i => c.rbit R.SYS_SUPPLY i)
  | .host => c.rbit R.SYS_WAKE 2
  | .order => c.rbit R.SYS_WAKE 3
  | .button => true

/-! ### SHIP (12 R600 to R603, R615, 13 R652) -/

/-- Step 3: SEQ_EN returns to 0x0001 and every domain but WRD stops. -/
def Chip.shipStop (c : Chip) : Chip := (c.wr R.SEQ_EN 1).seqSettle

/-- The ship order has been applied: Pebble's enables clear, a rest asked for is forgotten, and entry waits while SHIP_WAKE_N
is low (steps 1 and 2). -/
def Chip.shipEnter (c : Chip) : Chip :=
  if 4 ≤ c.mode.power then c
  else
    let c := { c with mode := { c.mode with power := 4, deferred := c.mode.shipLow, wakePend := none } }
    let c := (c.pebClearAll.wbit R.GAU_STAT 3 false).wbit R.GAU_STAT 4 false
    if c.mode.shipLow then c.event 6 R.CHG_EVT 0x100 else c.shipStop

/-- SHIP_WAKE_N has been high for 10 ms: a deferred entry goes on. -/
def Chip.shipDeferEnd (c : Chip) : Chip :=
  let go := c.mode.deferred
  let c := { c with mode := { c.mode with shipLow := false, deferred := false } }
  if go && c.mode.power == 4 then c.shipStop else c

/-- Steps 4 to 6: the charger to OFF, WRD off, every gate open, and the inputs that are absent arm. -/
def Chip.shipPowerDown (c : Chip) : Chip :=
  if c.mode.power = 4 ∧ !c.mode.deferred ∧ c.othersOff then
    let c := (c.allOff domains).armAbsent
    { c with mode := { c.mode with power := 5 }, seq := { c.seq with engine := .idle } }.chgSettle
  else c

/-- SHIP ends: n clears and WRD starts with kind SHIP_WAKE (R603). -/
def Chip.shipWake (c : Chip) : Chip :=
  (({ c with mode := { c.mode with power := 0 } }.wr R.SEQ_RCOUNT 0).startOrWait 4).chgSettle

/-! ### The button (02 R86, R444, R603, R756, R942) -/

/-- A press: it ends SHIP, HIBERNATE or LATCHED, or raises the button's order. A ball that has not been high since the last
press gives none. -/
def Chip.press (c : Chip) : Chip :=
  if c.mode.shipLow then c
  else
    let c := { c with mode := { c.mode with shipLow := true } }
    if c.mode.power = 5 then (c.stageHwAs 2 0x4000 0 0 (cause 0x49 2)).shipWake
    else if c.mode.power = 3 ∨ c.mode.power = 2 then c.hibWake 2
    else if c.seq.engine = .latched then (c.stageHwAs 2 0x4000 0 0 (cause 0x49 1)).latchEnd
    else c.buttonOrder

/-! ### Supplies (02 R72 to R79, R87 to R93) -/

/-- An input counts as present (R78): it joins selection, and in SHIP wakes the part when armed (12 R602, R603). -/
def Chip.inputUp (c : Chip) (i : Nat) : Chip :=
  if c.rbit R.SYS_SUPPLY i then c
  else
    let c := ((c.wbit R.SYS_SUPPLY i true).event 0 R.SYS_SUPPLY_CHG (2 ^ i)).chgSettle
    if c.mode.power = 5 ∧ c.sup.armed.contains i then c.shipWake else c

/-- An input counts as absent (R78, R1008): it leaves selection at once and arms as a wake source. -/
def Chip.inputDown (c : Chip) (i : Nat) : Chip :=
  let c := if c.sup.armed.contains i then c else { c with sup := { c.sup with armed := c.sup.armed ++ [i] } }
  if c.rbit R.SYS_SUPPLY i then ((c.wbit R.SYS_SUPPLY i false).event 0 R.SYS_SUPPLY_CHG (2 ^ i)).chgSettle else c

/-- AON enters its power-on reset (R76): what lies in flash, in the Ledger bank, in OTP and in information sectors stays,
and so do the condition of the silicon, the level of the banks and the selected source. -/
def Chip.porBegin (c : Chip) : Chip :=
  let c := c.allOff domains
  let d : Chip :=
    { regs := c.regs.filter (fun e => match regAt e.1 with | some r => decide (r.dom = .nv) && !decide (e.1 = R.PEB_EN.addr) | none => false)
      mem := { flash := c.mem.flash, ledger := c.mem.ledger }
      led := { erasing := c.led.erasing }
      nvm := { otp := c.nvm.otp, badRows := c.nvm.badRows, corrRows := c.nvm.corrRows, flashBad := c.nvm.flashBad
               flashCorr := c.nvm.flashCorr, filled := c.nvm.filled, epochRec := c.nvm.epochRec, infoWorn := c.nvm.infoWorn }
      tln := { nonceCtr := c.rd R.NVM_NWM }
      seq := { hot := c.seq.hot }
      sup := { blanking := c.sup.blanking }
      chg := { dock := c.chg.dock }
      free := c.free }
  d.wr R.SYS_SUPPLY (c.rd R.SYS_SUPPLY / 16 * 16)

/-- AON leaves its power-on reset: WRD starts, or waits for FAULT_N (R76, R82, R414). -/
def Chip.porEnd (c : Chip) (high : Bool) : Chip :=
  if c.sup.up then c
  else { c with sup := { c.sup with up := true }, seq := { c.seq with fnLow := !high } }.startOrWait 1

/-- A bank stops being good: its outputs float and its inputs read 0; on bank A the host's transaction in progress is
aborted and FILL_ACK falls (R72, R87, R88). -/
def Chip.bankDown (c : Chip) (b : Nat) : Chip :=
  if !c.rbit R.SYS_SUPPLY (8 + b) then c
  else
    let c := (c.wbit R.SYS_SUPPLY (8 + b) false).event 0 R.SYS_SUPPLY_CHG (2 ^ (8 + b))
    let c := { c with sup := { c.sup with blanking := c.sup.blanking.filter (fun x => !(x == b)) } }
    if b = 0 then { (c.wbit R.CAP_STAT 6 false) with cap := { c.cap with stuck := false }, hif := { c.hif with pendingRead := none } } else c

/-- A bank becomes good: its input edges are ignored for 100 µs (R72, R73). -/
def Chip.bankUp (c : Chip) (b : Nat) : Chip :=
  if c.rbit R.SYS_SUPPLY (8 + b) then c
  else { (c.wbit R.SYS_SUPPLY (8 + b) true).event 0 R.SYS_SUPPLY_CHG (2 ^ (8 + b)) with sup := { c.sup with blanking := c.sup.blanking ++ [b] } }

/-! ### Commands -/

/-- HIBERNATE_REQUEST. -/
def execHibernateRequest (s : State) : Out := s.lift (fun c => c.hibRequest)
/-- HIBERNATE_ENTER. -/
def execHibernateEnter (s : State) : Out := s.lift (fun c => c.hibEnter)
/-- HIBERNATE_WAKE, with the level of FAULT_N at the wake (R942, R950). -/
def execHibernateWake (src : WakeSource) (faultNHigh : Bool) (s : State) : Out :=
  s.lift (fun c =>
    if (c.mode.power = 3 ∨ c.mode.power = 2) ∧ c.wakeHolds src then
      { c with seq := { c.seq with fnLow := !faultNHigh } }.hibWake (wakeCode src)
    else c)
/-- SHIP_DEFER_END. -/
def execShipDeferEnd (s : State) : Out := s.lift (fun c => c.shipDeferEnd)
/-- SHIP_POWER_DOWN. -/
def execShipPowerDown (s : State) : Out := s.lift (fun c => c.shipPowerDown)
/-- SHIP_WAKE_PRESS. -/
def execShipWakePress (s : State) : Out := s.lift (fun c => c.press)
/-- CKLF_CRYSTAL_SWITCH (22 R1010). -/
def execCklfCrystalSwitch (s : State) : Out := s.lift (fun c => { c with mode := { c.mode with crystal := true } })
/-- CKLF_RC_FALLBACK (22 R1010). -/
def execCklfRcFallback (s : State) : Out := s.lift (fun c => { c with mode := { c.mode with crystal := false } })
/-- INPUT_PRESENT. -/
def execInputPresent (i : Fin 4) (s : State) : Out := s.lift (fun c => c.inputUp i.val)
/-- INPUT_ABSENT. -/
def execInputAbsent (i : Fin 4) (s : State) : Out := s.lift (fun c => c.inputDown i.val)
/-- INPUT_OVERVOLTAGE (22 R1008). -/
def execInputOvervoltage (i : Fin 4) (s : State) : Out := s.lift (fun c => c.inputDown i.val)
/-- AON_SOURCE_SWITCH (R75, R93). -/
def execAonSourceSwitch (src : Fin 5) (s : State) : Out :=
  s.lift (fun c => if c.rfld R.SYS_SUPPLY 5 3 = src.val then c else (c.wfld R.SYS_SUPPLY 5 3 src.val).event 0 R.SYS_SUPPLY_CHG 0x20)
/-- AON_POR_BEGIN. -/
def execAonPorBegin (s : State) : Out := s.lift (fun c => c.porBegin)
/-- AON_POR_END. -/
def execAonPorEnd (faultNHigh : Bool) (s : State) : Out := s.lift (fun c => c.porEnd faultNHigh)
/-- BANK_GOOD. -/
def execBankGood (b : Fin 3) (s : State) : Out := s.lift (fun c => c.bankUp b.val)
/-- BANK_LOST. -/
def execBankLost (b : Fin 3) (s : State) : Out := s.lift (fun c => c.bankDown b.val)
/-- BANK_EDGE_BLANK_END (R73). -/
def execBankEdgeBlankEnd (b : Fin 3) (s : State) : Out :=
  s.lift (fun c => { c with sup := { c.sup with blanking := c.sup.blanking.filter (fun x => !(x == b.val)) } })

end Sys2Proof.Machine
end

