-- ==== Sys2Proof/Machine/Pwr.lean ====
section
/-!
DEFINITION. The Warden's PWR unit (05 R261, R262; 08 R368 to R377, R390, R391): what each actuation point's command does to
the power hardware, the commit number, and the approval of a handled order.
-/
namespace Sys2Proof.Machine

/-- Whether thread `t` has PWR, which stands at base 0x90 of the Warden alone, in place of PHS (05 R260). -/
def uPWR : Nat := 10

/-- A value applied to an actuation point: its register, and what follows from it (R757). The ship entry is no stored value;
order 0 of it does nothing. -/
def Chip.applyAp (c : Chip) (ap v : Nat) : Chip :=
  let put (c : Chip) : Chip := match apField ap with | some (r, lo, w) => c.wfld r lo w v | none => c
  if 1 ≤ ap ∧ ap ≤ 12 then (put c).seqSettle
  else if 16 ≤ ap ∧ ap ≤ 22 then c.retarget (ap - 16) put
  else if ap = 32 then c.setDir v
  else if ap = 33 then c.setChgMode v
  else if ap = 34 ∨ ap = 35 then ((put c).setCount 0).chgSettle
  else if 36 ≤ ap ∧ ap ≤ 40 then (put c).chgSettle
  else if ap = 41 then (if v = 1 then c.shipEnter else c)
  else if 43 ≤ ap ∧ ap ≤ 45 then (c.retarget ([2, 3, 5].getD (ap - 43) 5) put).droopChanged (ap - 43)
  else if 46 ≤ ap ∧ ap ≤ 48 then c.retarget ([2, 3, 5].getD (ap - 46) 5) put
  else if ap = 49 then (put c).fillSettle
  else if 50 ≤ ap ∧ ap ≤ 54 then (put c).pebSettle
  else put c

/-- In UNCHECKED a value is accepted that is the off value of an on-off point, at or below the present value of a limit
point, or equal to the present value (R376). -/
def Chip.uncheckedTakes (c : Chip) (ap v : Nat) : Bool :=
  v == c.apValue ap || (if apLimit ap then decide (apSafety ap v ≤ apSafety ap (c.apValue ap)) else v == apOff ap)

/-- The commit number becomes the last one, and the hold of phold ends (R370, 05 R261). -/
def Chip.commitTo (c : Chip) (num : Nat) : Chip :=
  { c.wr R.WDN_LASTCOMMIT num with wdn := { c.wdn with phold := false } }

/-- The Warden's own command (R391): logged with origin 0x0001. -/
def Chip.ownCommand (c : Chip) (ap v num : Nat) : Chip × Nat :=
  let e : LedEntry := { origin := 1, object := ap, old := c.apValue ap, new := v, oseq := num }
  if !apFits ap v then (c, 4)
  else if c.wdnState = 1 ∧ !c.uncheckedTakes ap v then (c.stageLoser { e with outcome := 3, cause := cause 0x12 0 }, 2)
  else
    match c.stageWrite e with
    | (c, true) => ((c.commitTo num).applyAp ap v, 0)
    | (c, false) => (c, 3)

/-- The approval of the order of handle `i` with value `v` (R390, R376, R403, 16 R772). The order's entry is staged
already. -/
def Chip.approve (c : Chip) (i v num : Nat) : Chip × Nat :=
  match c.handled i with
  | none => (c.lateVerdict i, 4)
  | some o =>
    if !apFits o.ap v then (c, 4)
    else if c.wdnState = 1 ∧ !c.uncheckedTakes o.ap v then (c.complete i 3 (cause 0x12 0) v, 2)
    else (((c.complete i 0 (if v = o.value then 0 else cause 0x15 0) v).commitTo num).setLock o |>.applyAp o.ap v, 0)

/-- What pcmd does for operands A and B, with its status (R262, R369). -/
def Chip.pcmd (c : Chip) (a num : Nat) : Chip × Nat :=
  if c.wdnState = 2 then (c, 5)
  else if !serialAfter 16 num (c.rd R.WDN_LASTCOMMIT) then (c, 1)
  else if bit a 23 then c.approve (fld a 24 4) (fld a 0 16) num
  else c.ownCommand (fld a 16 7) (fld a 0 16) num

/-- pcmd: status in q0, the last committed number in q3:q2, FAIL. -/
def pcmdOp (t : Nat) (c : Chip) : OpRes :=
  let s := c.unit t uPWR
  let r := c.pcmd s.a.toNat (fld s.b.toNat 0 16)
  (r.1.finish t uPWR (r.2 + 65536 * r.1.rd R.WDN_LASTCOMMIT) (b2n (r.2 != 0)) (r.2 != 0) 2, none)

/-- plast. -/
def plastOp (t : Nat) (c : Chip) : OpRes := (c.finish t uPWR (c.rd R.WDN_LASTCOMMIT) 0 false 2, none)

/-- The power-good mask by domain index. -/
def Chip.pgMask (c : Chip) : Nat := domains.foldl (fun a x => a + b2n (c.dom x).pg * 2 ^ x) 0

/-- ppg. -/
def ppgOp (t : Nat) (c : Chip) : OpRes := (c.finish t uPWR c.pgMask 0 false 2, none)

/-- phold: accepted in every state but LOST (R377). -/
def pholdOp (t : Nat) (c : Chip) : OpRes :=
  let c := if c.wdnState = 2 then c else { c with wdn := { c.wdn with phold := true } }
  (c.finish t uPWR 0 0 false 2, none)

/-- A PWR row: a main-core thread has no PWR unit. -/
def Chip.pwrRow (c : Chip) (t : Thread) (code : Nat) (f : Chip → OpRes) : Chip :=
  if isWarden t then c.row t uPWR code f else c

/-- PCMD. -/
def execPcmd (t : Thread) (s : State) : Out := s.lift (fun c => c.pwrRow t 0 (pcmdOp t))
/-- PLAST. -/
def execPlast (t : Thread) (s : State) : Out := s.lift (fun c => c.pwrRow t 1 (plastOp t))
/-- PPG. -/
def execPpg (t : Thread) (s : State) : Out := s.lift (fun c => c.pwrRow t 2 (ppgOp t))
/-- PHOLD. -/
def execPhold (t : Thread) (s : State) : Out := s.lift (fun c => c.pwrRow t 4 (pholdOp t))

end Sys2Proof.Machine
end

