-- ==== Sys2Proof/Machine/Warden.lean ====
section
/-!
DEFINITION. The Warden's checkers (08 R357 to R384): checkpoints and rollback, mismatches, the comparator exercise, and the
states UNCHECKED and LOST.
-/
namespace Sys2Proof.Machine

/-- The Warden's threads s0 to s3. -/
def wardenThreads : List Nat := [16, 17, 18, 19]

/-- A checkpoint (R363, R364): the thread state of s0 to s3 is saved and the undo log is empty. -/
def Chip.checkpoint (c : Chip) : Chip :=
  { c with wdn := { c.wdn with saved := wardenThreads.foldl (fun m t => FMap.set {} m t (c.thr t)) [], undo := [] } }

/-- The checkpoint's cost: one Warden cycle in which neither core issues (R363). -/
def Chip.checkpointCycle (c : Chip) : Chip := c.checkpoint.updCore 2 (fun k => { k with cyc := k.cyc + 1 })

/-- A store to Warden DMEM, with the old bytes entered in the undo log (R364). -/
def Chip.wdmemStore (c : Chip) (a : Nat) (bs : List Byte) : Chip :=
  { c with mem := { c.mem with wdmem := Mem.writeN 0 c.mem.wdmem a bs }
           wdn := { c.wdn with undo := (a, Mem.readN 0 c.mem.wdmem a bs.length) :: c.wdn.undo } }

/-- Thread state and Warden DMEM as at the last checkpoint (R365). -/
def Chip.rollback (c : Chip) : Chip :=
  let m := c.wdn.undo.foldl (fun m e => Mem.writeN 0 m e.1 e.2) c.mem.wdmem
  let c := { c with mem := { c.mem with wdmem := m }, wdn := { c.wdn with undo := [], rollback := false } }
  wardenThreads.foldl (fun c' t => c'.setThr t (FMap.get {} c.wdn.saved t)) c

/-- UNCHECKED is entered from CHECKED (R374). -/
def Chip.enterUnchecked (c : Chip) : Chip :=
  if c.wdnState = 0 then (c.wfld R.WDN_STATUS 0 2 1).event 3 R.WDN_EVENT 0x10 else c

/-- LOST is entered (R381, R383): both cores halt, the entry is staged, and the doorbell of Warden events reaches every
running main-core thread. -/
def Chip.enterLost (c : Chip) : Chip :=
  let c := wardenThreads.foldl (fun (c : Chip) (t : Nat) => c.updThr t (fun x => { x with run := .halted })) c
  let c := { c.wfld R.WDN_STATUS 0 2 2 with wdn := { c.wdn with rollback := false, undo := [] } }
  let c := c.stageHwAs 1 0x4000 0 0 (cause 0x13 0)
  let r := c.rd (R.HIF_DBR 3)
  let c : Chip := if bit r 0 then
      (List.range 16).foldl (fun (c : Chip) (t : Nat) =>
        if (c.thr t).run ≠ .halted ∧ t ≠ fld r 1 1 * 8 + fld r 2 3 then (c.doorbell t (BitVec.ofNat 8 (fld r 8 8))).1 else c) c
    else c
  c.event 3 R.WDN_EVENT 0x20

/-- A suppressed vector (R362, R365, R367, R380): kind 1 mismatch, 2 parity, 3 rail disagreement, which is a failed exercise
as well (R374). Three within 1 s of TICKCNT put the Warden in LOST. -/
def Chip.wdnMismatch (c : Chip) (kind : Nat) : Chip :=
  let now := c.phw.tick
  let old := c.wdn.mmTimes
  let c := ((c.inc R.WDN_MMCNT).stageHwAs 1 0x4000 0 0 (cause 0x11 kind)).event 3 R.WDN_EVENT (if kind = 1 then 1 else if kind = 2 then 2 else 0xC)
  let c := if kind = 3 then c.enterUnchecked else c
  let c := { c with wdn := { c.wdn with mmTimes := (now :: old).take 2, rollback := true } }
  match old[1]? with
  | some t => if now ≤ t + 200000000 then c.enterLost else c
  | none => c

/-- The Warden starts again from its image entry (R378): DMEM and thread state anew. -/
def Chip.wdnRestart (c : Chip) : Chip :=
  let c := wardenThreads.foldl (fun c t => c.setThr t {}) { c with mem := { c.mem with wdmem := [] }, wdn := { c.wdn with rollback := false } }
  (c.setThr 16 { run := .active, pc := c.wdn.entry }).checkpoint

/-- An exercise that failed or did not come (R374, R375). -/
def Chip.exFail (c : Chip) (bits : Nat) : Chip := ({ c with mode := { c.mode with exDue := false } }.event 3 R.WDN_EVENT bits).enterUnchecked

/-- The Warden clock runs and the comparator is at work: WRD is powered, the Warden is not LOST and the part does not doze
(R381, 20 R939). -/
def Chip.exRuns (c : Chip) : Bool := 4 ≤ (c.dom dWRD).state && c.wdnState != 2 && c.mode.power != 1

/-- A comparator exercise whose rails read `r` (R372 to R374, R378): a pass in UNCHECKED restarts a running policy. -/
def Chip.exercise (c : Chip) (r : Nat) : Chip :=
  if !c.exRuns then c
  else
    let c := { c with wdn := { c.wdn with exBit := c.wdn.exBit + 1 } }
    if r = 2 then
      let c : Chip := { c.wr R.WDN_EXCNT (c.rd R.WDN_EXCNT + 1) with mode := { c.mode with exDue := false } }
      if c.wdnState = 1 then (if c.policyOn then c.wdnRestart else c).wfld R.WDN_STATUS 0 2 0 else c
    else c.exFail (if r = 1 then 4 else 0xC)

/-- WARDEN_ROLLBACK_DONE. -/
def execWardenRollbackDone (s : State) : Out := s.lift (fun c => if c.wdn.rollback then c.rollback else c)
/-- WARDEN_CHECKPOINT. -/
def execWardenCheckpoint (s : State) : Out :=
  s.lift (fun c => if c.exRuns && !c.wdn.rollback then c.checkpointCycle else c)
/-- COMPARATOR_EXERCISE. -/
def execComparatorExercise (rails : BitVec 2) (s : State) : Out := s.lift (fun c => c.exercise rails.toNat)
/-- EXERCISE_MISSING. -/
def execExerciseMissing (s : State) : Out := s.lift (fun c => if c.exRuns then c.exFail 4 else c)
/-- WARDEN_LOST_TIMEOUT (R384): a WDN_LOSTTO of 0 never ends it. -/
def execWardenLostTimeout (s : State) : Out :=
  s.lift (fun c => if c.wdnLost && c.rd R.WDN_LOSTTO != 0 then c.faultShutoff 0xA noDom 0 else c)

end Sys2Proof.Machine
end

