-- ==== Sys2Proof/Machine/Boot.lean ====
section
/-!
DEFINITION. The boot ROM's flow, the halted boot states, the host's recovery commands and LOAD_MAIN (21); and the end of a
domain's BLANK, which may let LOAD_MAIN go on.
-/
namespace Sys2Proof.Machine

/-- A boot entry: origin 0, outcome 5, object 0x40FF (R980). -/
def Chip.bootEntry (c : Chip) (code detail : Nat) : Chip := c.stageHw 0x40FF 0 0 (cause code detail)

/-- SYS_BOOT.STAGE. -/
def Chip.stage (c : Chip) : Nat := c.rfld R.SYS_BOOT 0 3

/-- SYS_BOOT.STAGE set. -/
def Chip.setStage (c : Chip) (s : Nat) : Chip := c.wfld R.SYS_BOOT 0 3 s

/-! ### Steps 2 to 5 (R960 to R965) -/

/-- OTP_HALT (R971): SEQ_NEED_LNK becomes 0, in a logged write of the word, and a command of the Warden's own enables LNK. -/
def Chip.otpHalt (c : Chip) : Chip :=
  let c := ((c.bootEntry 0x76 1).wfld R.SYS_BOOT 0 4 0xB).updThr 16 (fun x => { x with run := .halted })
  let hi := 65536 * c.rd (R.SEQ_DELAY dLNK)
  let r := c.stageWrite { origin := 1, object := regObject (R.SEQ_NEED dLNK).addr, old := hi + c.rd (R.SEQ_NEED dLNK), new := hi, cause := cause 0x48 0 }
  let c := if r.2 then (r.1.wr (R.SEQ_NEED dLNK) 0).parityRewrite dLNK false else r.1
  (c.pcmd (65536 * dLNK + 1) ((c.rd R.WDN_LASTCOMMIT + 1) % 2 ^ 16)).1

/-- IMAGE_HALT (R972). -/
def Chip.imageHalt (c : Chip) : Chip :=
  ((c.bootEntry 0x76 2).wfld R.SYS_BOOT 0 4 3).updThr 16 (fun x => { x with run := .halted })

/-- Staged entries committed, as many as staging holds (R960, R970). -/
def Chip.commitAll (c : Chip) : Nat → Chip
  | 0 => c
  | n + 1 => c.ledCommit.commitAll n

/-- Step 4 (R964, R965): the epoch of a cold boot. -/
def Chip.epochStep (c : Chip) : Chip :=
  if c.rbit R.SYS_RSTREC_FLAGS 1 then c
  else
    let e := match c.nvm.epochRec with | some e => (e + 1) % 2 ^ 16 | none => 1
    let c := if c.nvm.epochRec.isNone then c.bootEntry 0x75 1 else c
    let c := if c.nvm.infoWorn then (c.bootEntry 0x75 2).event 11 R.NVM_EVT 4 else { c with nvm := { c.nvm with epochRec := some e } }
    (c.wr R.AUT_EPOCH e).wbit R.SYS_RSTREC_FLAGS 1 true

/-- Slot `k` checked; a failure is logged (R980). The second part says that it is valid. -/
def Chip.trySlot (c : Chip) (k : Nat) : Chip × Bool :=
  let r := c.slotCheck k
  if r = 0 then (c, true) else (c.bootEntry 0x73 (k + 2 * r), false)

/-- The boot slot chosen (R958): SYS_BOOT.SLOT and VERSION, or NOSLOT. A valid slot's Warden section is written to Warden
IMEM as it is hashed (R959). -/
def Chip.chooseSlot (c : Chip) : Chip :=
  let a := c.firstSlot
  let take (c : Chip) (k : Nat) : Chip :=
    let c := ((c.wbit R.SYS_BOOT 8 (k == 1)).wbit R.SYS_BOOT 9 false).wfld R.SYS_BOOT 16 8 (c.imgVersion k)
    if c.imgWsect k then { c with mem := { c.mem with wimem := c.wardenImem k } } else c
  let r := c.trySlot a
  if r.2 then take r.1 a
  else
    let q := r.1.trySlot (1 - a)
    if q.2 then take q.1 (1 - a) else q.1.wbit R.SYS_BOOT 9 true

/-- The boot slot recorded, when there is one. -/
def Chip.bootSlot (c : Chip) : Option Nat := if c.rbit R.SYS_BOOT 9 then none else some (c.rfld R.SYS_BOOT 8 1)

/-! ### Steps 6 and 7 (R400, R960, R962) -/

/-- Policy starts at bundle `pc` (step 7), CHECKED after a passed exercise and UNCHECKED after three that failed. -/
def Chip.startPolicy (c : Chip) (customer ok : Bool) (pc : Index) : Chip :=
  let c := if ok then (c.wr R.WDN_EXCNT (c.rd R.WDN_EXCNT + 1)).wfld R.WDN_STATUS 0 2 0 else (c.wfld R.WDN_STATUS 0 2 0).exFail 4
  let c := (c.wbit R.WDN_STATUS 2 true).wbit R.WDN_STATUS 3 customer
  let c := (c.setStage 2).bootEntry 0x70 (c.rd R.SYS_RSTREC_KIND)
  ({ c with wdn := { c.wdn with entry := pc } }.setThr 16 { run := .active, pc := pc }).checkpoint

/-- What follows the choice of the slot (R962, R957). -/
def Chip.bootPolicyStart (c : Chip) (ok : Bool) : Chip :=
  let p := if c.devKey then 0 else c.bootPolicy
  let custom := match c.bootSlot with | some k => if c.imgWsect k then some (BitVec.ofNat 15 (c.imgWEntry k)) else none | none => none
  match p, custom with
  | 0, _ => c.startPolicy false ok Config.standardEntry
  | _, some pc => c.startPolicy true ok pc
  | 1, none => (c.bootEntry 0x74 (match c.bootSlot with | some k => k | none => 0xFF)).startPolicy false ok Config.standardEntry
  | _, none => c.imageHalt

/-- Steps 3 to 7. -/
def Chip.bootGoOn (c : Chip) (ok : Bool) : Chip :=
  let c := ((c.ledInit.commitAll 16).sealCheck).epochStep
  ((c.wbit R.SYS_BOOT 11 c.devKey).chooseSlot).bootPolicyStart ok

/-- The boot ROM's flow from step 2 (R960, R961). It runs while SYS_BOOT.STAGE reads BOOT ROM and WRD is ON. -/
def Chip.bootRom (c : Chip) (ok : Bool) : Chip :=
  if c.stage != 1 || !c.domUp dWRD then c
  else
    let alarm := c.rd R.OTP_ALARM
    let c := c.wr R.SYS_BOOT 1
    let c := if alarm = 0 then c else c.bootEntry 0x72 alarm
    let c := if bit alarm 0 then (c.wbit R.SYS_BOOT 10 true).bootEntry 0x71 0 else c
    if bit alarm 1 || bit alarm 2 then c.otpHalt else c.bootGoOn ok

/-! ### LOAD_MAIN (R966 to R969, R977) -/

/-- Cell `i` of a thread. -/
def ThreadSt.cell (x : ThreadSt) (i : Nat) : Byte := FMap.get 0 x.cells i

/-- Cell `i` set. -/
def ThreadSt.setCell (x : ThreadSt) (i : Nat) (b : Byte) : ThreadSt := { x with cells := FMap.set 0 x.cells i b }

/-- The service returns a status and the next unused number; a caller that stands at its entry returns from the call. -/
def Chip.loadReturn (c : Chip) (t status next : Nat) : Chip :=
  let c := { c with mode := { c.mode with loadMain := none } }
  c.updThr t (fun x =>
    let x := ((x.setCell 0 (BitVec.ofNat 8 next)).setCell 1 (BitVec.ofNat 8 (next / 256))).setCell 2 (BitVec.ofNat 8 status)
    if x.pc = 0x7010 then
      match x.stack with
      | (p, _) :: r => { x with pc := p, stack := r }
      | [] => x
    else x)

/-- The number in c0 and c1. -/
def Chip.callerNumber (c : Chip) (t : Nat) : Nat := ((c.thr t).cell 0).toNat + 256 * ((c.thr t).cell 1).toNat

/-- The number a command with number `n` leaves for the next. -/
def Chip.nextNumber (c : Chip) (n : Nat) : Nat := if c.rd R.WDN_LASTCOMMIT = n then (n + 1) % 2 ^ 16 else n

/-- The CPU intent cleared with the number `n` (R968), when it is set. -/
def Chip.clearCpu (c : Chip) (n : Nat) : Chip × Nat :=
  if c.rbit R.SEQ_EN dCPU then let r := (c.pcmd (65536 * dCPU) n).1; (r, r.nextNumber n) else (c, n)

/-- Every main-core thread is HALTED (08 R395). -/
def Chip.mainHalted (c : Chip) : Bool := (List.range 16).all (fun t => (c.thr t).run == .halted)

/-- t0 of core `k` starts at the entry the image gives; the core is released (04 R167). -/
def Chip.releaseCore (c : Chip) (k entry : Nat) : Chip :=
  if k = 1 ∧ entry = 0xFFFF then c.updCore 1 (fun x => { x with held := false })
  else (c.updCore k (fun x => { x with held := false })).updThr (8 * k) (fun x => x.start (BitVec.ofNat 15 entry) true)

/-- Steps 3 and 4 with CPU ON: the boot slot is rehashed while its main section is written to IMEM, and the cores are released.
While a main-core thread runs, the service's write to the IMEM window raises bus-error with cause 0x08 (08 R395). -/
def Chip.loadFinish (c : Chip) (t : Nat) : Chip :=
  let n := c.callerNumber t
  let n := c.nextNumber n
  match c.bootSlot with
  | none => c.loadReturn t 1 n
  | some k =>
    if !c.mainHalted then
      { c with mode := { c.mode with loadMain := none } }.raiseNow t uLSU 0 ⟨8, some 0x100000⟩
    else if c.slotCheck k ≠ 0 then
      let r := (c.bootEntry 0x73 (k + 10)).clearCpu n
      r.1.loadReturn t 3 r.2
    else
      let c := { c with mem := { c.mem with imem := c.mainImem k } }
      let c := ((c.releaseCore 0 (c.imgEntry k 0)).releaseCore 1 (c.imgEntry k 1)).setStage 4
      c.loadReturn t 0 n

/-- LOAD_MAIN called in thread `t`. Without a boot slot the slots are checked anew, so that a slot the host has programmed
since can be loaded (recovery paths of 21). -/
def Chip.loadMain (c : Chip) (t : Nat) : Chip :=
  if !isWarden t || !c.policyOn || c.wdnState == 2 || c.mode.loadMain.isSome then c
  else
    let n := c.callerNumber t
    let c := if c.bootSlot.isNone then c.chooseSlot else c
    match c.bootSlot with
    | none => let r := c.clearCpu n; r.1.loadReturn t 1 r.2
    | some _ =>
      let r := c.pcmd (65536 * dCPU + 1) n
      if r.2 = 2 then r.1.loadReturn t 2 n
      else if r.2 = 3 then r.1.loadReturn t 4 n
      else
        let c : Chip := { r.1 with mode := { r.1.mode with loadMain := some t } }
        if (c.dom dCPU).state = 4 then c.loadFinish t else c

/-- What the end of a domain's BLANK lets LOAD_MAIN do. -/
def Chip.loadGoOn (c : Chip) : Chip :=
  match c.mode.loadMain with
  | some t => if (c.dom dCPU).state = 4 then c.loadFinish t else c
  | none => c

/-! ### Recovery (R974) -/

/-- SYS_BOOTCTL.RETRY in a halted boot: WRD alone restarts with kind BOOT_RETRY. -/
def Chip.bootRetry (c : Chip) : Chip :=
  if c.stage = 3 then ((c.bootEntry 0x77 0).domOff dWRD).startOrWait 6 else c

/-- SYS_BOOTCTL.RELOAD: a message of type 0x85 while policy runs. -/
def Chip.bootReload (c : Chip) : Chip := if c.policyOn then c.toWarden (hwMsg 0x85 0 0 0 0) else c

/-! ### Commands -/

/-- SEQ_BLANK_EXPIRE (09 R421). -/
def execSeqBlankExpire (x : Fin 13) (s : State) : Out := s.lift (fun c => (c.blankExpire x.val).loadGoOn)
/-- BOOT_ROM_START: steps 2 to 7, with the result of the comparator exercise of step 6. -/
def execBootRomStart (exerciseOk : Bool) (s : State) : Out := s.lift (fun c => c.bootRom exerciseOk)
/-- LOAD_MAIN. -/
def execLoadMain (t : Thread) (s : State) : Out := s.lift (fun c => c.loadMain t.val)
/-- BOOT_RETRY. -/
def execBootRetry (s : State) : Out := s.lift (fun c => c.bootRetry)
/-- BOOT_RELOAD. -/
def execBootReload (s : State) : Out := s.lift (fun c => c.bootReload)
/-- OTP_HALT_LISTEN_SWITCH. -/
def execOtpHaltListenSwitch (s : State) : Out := s.lift (fun c => c.listenSwitch)

end Sys2Proof.Machine
end

