-- ==== Sys2Proof/Machine/Doze.lean ====
section
/-!
DEFINITION. DOZE (20 R934 to R939, R951) and the Millpond period that can end it; the sources a waiting thread looks at
(04, WAITMASK).
-/
namespace Sys2Proof.Machine

/-- The messages a thread's recv can take: its inbox, or the Warden's (08 R387). -/
def Chip.inboxOf (c : Chip) (t : Nat) : List Msg := if isWarden t then c.wdn.inboxHw ++ c.wdn.inboxSw else (c.thr t).inbox

/-- The WAITMASK sources of a thread that are pending: doorbell, TMR deadline, QUE completion, message, all long operations
retired. -/
def Chip.waitPending (c : Chip) (t : Nat) : Nat :=
  let x := c.thr t
  (b2n (!x.doorbells.isEmpty) + 2 * b2n x.expired + 4 * b2n x.queDone + 8 * b2n (!(c.inboxOf t).isEmpty) + 16 * b2n x.quiet)
    &&& x.waitmask.toNat

/-- A thread is WAITING or HALTED with no long operation and no commit pending (R934). -/
def ThreadSt.dozes (x : ThreadSt) : Bool := x.run != .active && x.quiet && x.hold != .sync

/-- The conditions of DOZE (R934, R935). -/
def Chip.mayDoze (c : Chip) : Bool :=
  c.mode.power == 0 && c.domUp dWRD && !c.rbit R.MP_CTRL 0 && c.threads.all (fun e => e.2.dozes)

/-- PLL A is needed in DOZE (R936). -/
def Chip.pllaNeeded (c : Chip) : Bool :=
  [6, 7, 8, 9, 11, 2].any (fun x => !((c.dom x).state == 0)) || c.chgPhase == phPRE || c.chgPhase == phPULSE || c.chgPhase == phCV

/-- What ends DOZE has come about (R937). -/
def Chip.dozeWake (c : Chip) : Bool :=
  (List.range 16).any (fun t => (c.thr t).run == .waiting && c.waitPending t != 0) ||
    !(c.inboxOf 16).isEmpty || wardenThreads.any (fun t => (c.thr t).run == .waiting && (c.thr t).expired)

/-- DOZE ends; one exercise precedes the Warden's next bundle (R939). -/
def Chip.dozeEnd (c : Chip) : Chip := { c with mode := { c.mode with power := 0, exDue := true } }

/-- SYS_PSTATE as it reads: STATE, and PLLA_OFF. -/
def Chip.pstateReg (c : Chip) : Nat := c.pstate + 8 * b2n (c.mode.power == 1 && !c.pllaNeeded)

/-- DOZE_ENTER. -/
def execDozeEnter (s : State) : Out := s.lift (fun c => if c.mayDoze then { c with mode := { c.mode with power := 1 } } else c)
/-- DOZE_EXIT. -/
def execDozeExit (s : State) : Out := s.lift (fun c => if c.mode.power = 1 ∧ c.dozeWake then c.dozeEnd else c)
/-- MILLPOND_PERIOD (11 R522, R951): with CORE_EN set it ends DOZE. -/
def execMillpondPeriod (s : State) : Out :=
  s.lift (fun c => (if c.mode.power = 1 ∧ c.rbit R.MP_CTRL 0 then c.dozeEnd else c).mpPeriods)

end Sys2Proof.Machine
end

