-- ==== Sys2Proof/Machine/Perm.lean ====
section
/-!
DEFINITION. Region windows and permissions (04 R184 to R189), and the short accesses of the wheels that need nothing else.
-/
namespace Sys2Proof.Machine

/-- Byte `i` of a core's 32 region-window sockets. -/
def winByte (ws : List Nat) (i : Nat) : Nat := ws.getD i 0

/-- Window `w` is enabled and covers address `a` (R184). -/
def winCovers (ws : List Nat) (w a : Nat) : Bool :=
  let size := winByte ws (4 * w + 2)
  let base := 256 * winByte ws (4 * w) + 65536 * winByte ws (4 * w + 1)
  decide (8 ≤ size) && decide (size ≤ 24) && a / 2 ^ size == base / 2 ^ size

/-- Some enabled window covers `a` and has attribute bit `k`: 0 UR, 1 UW, 2 RO_ALL. -/
def winGrants (ws : List Nat) (k a : Nat) : Bool :=
  (List.range 8).any (fun w => winCovers ws w a && bit (winByte ws (4 * w + 3)) k)

/-- An access to byte `a` is permitted (R185, R186): a user thread needs a window that grants it; nobody writes under
RO_ALL. -/
def permitted (ws : List Nat) (priv write : Bool) (a : Nat) : Bool :=
  (priv || winGrants ws (if write then 1 else 0) a) && !(write && winGrants ws 2 a)

/-- The windows in force on the core of thread `t`; the Warden has none (R190). -/
def Chip.windows (c : Chip) (t : Nat) : List Nat :=
  if isWarden t then [] else (List.range 32).map (fun i => (c.core (coreOf t)).csrv (0xD0 + i))

/-- Thread `t` may access byte `a` now. -/
def Chip.mayAccess (c : Chip) (t : Nat) (write : Bool) (a : Nat) : Bool := permitted (c.windows t) (c.isPriv t) write a

end Sys2Proof.Machine
end

