-- ==== Sys2Proof/Machine/Slots.lean ====
section
/-!
DEFINITION. The advance of the phase wheels and the event slots (03 R94 to R98, R114 to R134): spans of phase, matches,
actions, catch-up, commits; the CK_PHASE tick; the second of station time.
-/
namespace Sys2Proof.Machine

/-! ### Slot entries -/

/-- A slot beside its entry. -/
def Chip.slotAux (c : Chip) (s : Nat) : SlotAux := FMap.get {} c.phw.slots s
/-- The record replaced. -/
def Chip.setSlotAux (c : Chip) (s : Nat) (x : SlotAux) : Chip := { c with phw := { c.phw with slots := FMap.set {} c.phw.slots s x } }

/-- Fields of the live entry. -/
def Chip.slotEn (c : Chip) (s : Nat) : Bool := c.rbit (R.SLOT_B0 s) 0
def Chip.slotWheel (c : Chip) (s : Nat) : Nat := c.rfld (R.SLOT_B1 s) 0 2
def Chip.slotClass (c : Chip) (s : Nat) : Nat := let k := c.rfld (R.SLOT_B1 s) 2 4; if k ≤ 8 then k else 0
def Chip.slotEnergy (c : Chip) (s : Nat) : Nat := c.rfld (R.SLOT_B2 s) 0 3
def Chip.slotAngle (c : Chip) (s : Nat) : Nat := c.rfld (R.SLOT_B4 s) 0 32
def Chip.slotDiv (c : Chip) (s : Nat) : Nat := max 1 (c.rfld (R.SLOT_B4 s) 32 16)
def Chip.slotOffset (c : Chip) (s : Nat) : Nat := c.rfld (R.SLOT_B4 s) 48 16
def Chip.slotArg (c : Chip) (s : Nat) : Nat := c.rfld (R.SLOT_B4 s) 64 24

/-- SKIPCNT raised. -/
def Chip.skip (c : Chip) (s : Nat) : Chip := c.inc (R.SLOT_SKIPCNT s)

/-- The armed slots, in ascending number. -/
def Chip.armedSlots (c : Chip) : List Nat :=
  c.regs.filterMap (fun e => if 0x820000 ≤ e.1 ∧ e.1 < 0x821000 ∧ e.1 % 16 = 0 ∧ e.2 % 2 = 1 then some ((e.1 - 0x820000) / 16) else none)

/-! ### Whether a match acts (R118, R123) -/

/-- A class fires in a wheel state under DEGRADE `d`. -/
def slotFires (cls d st : Nat) : Bool :=
  let locked := st == whLOCKED
  let held := locked || st == whHOLDOVER
  match d with
  | 0 => if cls = 4 ∨ cls = 5 ∨ cls = 7 then held else true
  | 1 => true
  | 2 => locked
  | _ => held

/-- The match of a slot on a qualifying turn: it joins the slots whose actions come with the next tick, or is suppressed or
deferred. -/
def Chip.slotMatch (c : Chip) (s : Nat) (caught : Bool) : Chip :=
  let cls := c.slotClass s
  let st := c.wheelState (c.slotWheel s)
  if caught && c.rbit (R.SLOT_B0 s) 2 then c.skip s
  else if !slotFires cls (c.rfld (R.SLOT_B0 s) 3 2) st then c.skip s
  else if (cls = 3 ∨ cls = 4 ∨ cls = 5 ∨ cls = 7 ∨ cls = 8) ∧ c.grant < c.slotEnergy s then (c.skip s).inc (R.GOV_DEFCNT (c.slotEnergy s))
  else { c with phw := { c.phw with launched := c.phw.launched ++ [(s, st, caught)] } }

/-! ### Spans of phase (R114, R115, R124 to R126) -/

/-- The angle of slot `s` lies within the span of length `len` after phase `p`, in a qualifying turn; the answer is the turn of
its last passage, numbered on from the turn of `p`. -/
def Chip.slotCross (c : Chip) (s p len : Nat) : Option Nat :=
  let a := c.slotAngle s * 2 ^ 16
  let e := p + len
  if e < a then none
  else
    let k := (e - a) / 2 ^ 48
    if p / 2 ^ 48 + (c.slotAux s).count ≤ k ∧ p < k * 2 ^ 48 + a then some k else none

/-- What the span does to slot `s`: the match, with the divider reloaded, or the turn boundaries counted. -/
def Chip.slotSpan (c : Chip) (caught : Bool) (p len s : Nat) : Chip :=
  let x := c.slotAux s
  let last := (p + len) / 2 ^ 48
  match c.slotCross s p len with
  | none => c.setSlotAux s { x with count := x.count - (last - p / 2 ^ 48) }
  | some k =>
    let n := if caught then c.slotDiv s else k + c.slotDiv s - last
    (c.setSlotAux s { x with count := n }).slotMatch s caught

/-- The span of wheel `n` beyond its high-water mark, for every armed slot of the wheel. -/
def Chip.slotsSpan (c : Chip) (n : Nat) (caught : Bool) (p len : Nat) : Chip :=
  if len = 0 then c
  else (c.armedSlots.filter (fun s => c.slotWheel s == n)).foldl (fun c s => c.slotSpan caught p len s) c

/-- The phase of wheel `n` goes forward by `d` from `p`: the part below the high-water mark is passed in silence. -/
def Chip.passSlots (c : Chip) (n : Nat) (caught : Bool) (p d : Nat) : Chip :=
  let w := c.wheel n
  let hid := min d w.back
  (c.setWheel n { w with back := w.back - hid }).slotsSpan n caught (p + hid) (d - hid)

/-! ### Station time (R98, 01 R62, 16 R772) -/

/-- One increment of the seconds counter, or the written value in its place; a second of every lock passes. The second part
says that a written value was taken. -/
def Chip.secondUp (c : Chip) : Chip × Bool :=
  match c.phw.sysTime with
  | some v => (({ c with phw := { c.phw with sysTime := none } }.wr R.SYS_TIME v).lockSecond, true)
  | none => ((c.wr R.SYS_TIME (c.rd R.SYS_TIME + 1)).lockSecond, false)

/-- `k` increments. -/
def Chip.secondsUp (c : Chip) : Nat → Chip × Bool
  | 0 => (c, false)
  | k + 1 =>
    let r := c.secondUp
    let q := r.1.secondsUp k
    (q.1, r.2 || q.2)

/-- W1 after W3 or station time has moved: an advance like any other, or a step when `jumped` (R96, R134). -/
def Chip.moveW1 (c : Chip) (old : Nat) (jumped : Bool) : Chip :=
  let d := (c.phase 1 + 2 ^ 64 - old) % 2 ^ 64
  if d = 0 then c
  else if d < 2 ^ 63 then c.passSlots 1 jumped old d
  else let w := c.wheel 1; c.setWheel 1 { w with back := w.back + (2 ^ 64 - d) }

/-! ### The advance and the step of a wheel -/

/-- The wheel's phase set, modulo 2^64. -/
def Chip.putPhase (c : Chip) (n p : Nat) : Chip :=
  c.setWheel n { c.wheel n with frac := p % 2 ^ 48, turn := p / 2 ^ 48 % 2 ^ 16 }

/-- Wheel `n` goes forward by `d`: carries, station time, W1, the slots; a carry of the advance is a reference edge of W2
with SRC 6 (R99). -/
def Chip.wheelForward (c : Chip) (n d : Nat) (caught : Bool) : Chip :=
  let p := (c.wheel n).turn * 2 ^ 48 + (c.wheel n).frac
  let old1 := c.phase 1
  let carries := (p + d) / 2 ^ 48 - p / 2 ^ 48
  let c := (c.putPhase n (p + d)).passSlots n caught p d
  if n = 3 then
    let r := c.secondsUp carries
    let c := r.1.moveW1 old1 (caught || r.2)
    if !caught && decide (0 < carries) && c.src 2 == 6 then c.edgeNow 2 else c
  else c

/-- Wheel `n` goes back by `d` (R126, R127): the mark is kept, and the seconds counter follows W3. -/
def Chip.wheelBack (c : Chip) (n d : Nat) : Chip :=
  let p := (c.wheel n).turn * 2 ^ 48 + (c.wheel n).frac
  let old1 := c.phase 1
  let q := (p + 2 ^ 64 - d % 2 ^ 64) % 2 ^ 64
  let turns := (p / 2 ^ 48 + 2 ^ 16 - q / 2 ^ 48) % 2 ^ 16
  let c := c.putPhase n q
  let w := c.wheel n
  let c := c.setWheel n { w with back := w.back + d }
  if n = 3 then (c.wr R.SYS_TIME (c.rd R.SYS_TIME + 2 ^ 32 - turns)).moveW1 old1 true else c

/-- One tick of wheel `n`: its step, which replaces the advance, or its advance (R94, R124). A halted wheel stands. -/
def Chip.wheelTick (c : Chip) (n : Nat) : Chip :=
  let w := c.wheel n
  match w.step with
  | some e =>
    let c := c.setWheel n { w with step := none }
    if e < 0 then c.wheelBack n e.natAbs else c.wheelForward n e.natAbs true
  | none => if c.freqNom n = 0 then c else c.wheelForward n (c.word n) false

/-! ### Actions (R119 to R122, R923) -/

/-- The EVT output register changed; while CPU is off there is none. -/
def Chip.evtSet (c : Chip) (v : Nat) : Chip := if c.domOn dCPU then c.wr R.SIO_EVTOUT v else c

/-- An operation on an EVT pin: 0 set, 1 clear, 2 toggle, which cancel a pulse, or 3 a pulse of `width` ticks (R122). -/
def Chip.evtPin (c : Chip) (pin op width : Nat) : Chip :=
  let v := c.rd R.SIO_EVTOUT
  let stop (c : Chip) : Chip := { c with phw := { c.phw with pulses := FMap.set 0 c.phw.pulses pin 0 } }
  match op with
  | 0 => (stop c).evtSet (putBit v pin true)
  | 1 => (stop c).evtSet (putBit v pin false)
  | 2 => (stop c).evtSet (putBit v pin (!bit v pin))
  | _ =>
    if c.domOn dCPU then { c.evtSet (putBit v pin true) with phw := { c.phw with pulses := FMap.set 0 c.phw.pulses pin (max 1 width) } } else c

/-- The end of a pulse drives its pin low. -/
def Chip.pulseEnd (c : Chip) (pin : Nat) : Chip :=
  if FMap.get 0 c.phw.pulses pin = 0 then c
  else { c.evtSet (putBit (c.rd R.SIO_EVTOUT) pin false) with phw := { c.phw with pulses := FMap.set 0 c.phw.pulses pin 0 } }

/-- The action of a slot; false says that it did not act (a doorbell lost, a round refused). -/
def Chip.slotDo (c : Chip) (s st : Nat) : Chip × Bool :=
  let arg := c.slotArg s
  match c.slotClass s with
  | 1 => (c.evtPin (fld arg 0 3) (fld arg 3 2) (fld arg 8 16), true)
  | 2 => let r := c.doorbell (fld arg 0 1 * 8 + fld arg 1 3) (BitVec.ofNat 8 (fld arg 8 8)); (r.1, !r.2)
  | 3 => (if c.domOn dAFE then c.adcStart (fld arg 0 5) else c, true)
  | 4 => (c.chgGate (!bit arg 0), true)
  | 5 => (if fld arg 0 2 < 3 then c.slotOpen (fld arg 0 2) (fld arg 8 8) else c, true)
  | 6 => ((c.request (c.slotAux s).origin (fld arg 0 7) (fld arg 8 16) (32 * c.slotEnergy s) (8 + st) (fun _ => .none)).1, true)
  | 7 => (c.rampSlot arg, true)
  | 8 =>
    if c.domOn dWEI then
      let r := c.rndStart (fld arg 0 14)
      (if r.2 then r.1 else (c.inc (R.WEI_CNT wcOVERRUN)).event 8 R.WEI_EVT 0x10, r.2)
    else (c, false)
  | _ => (c, true)

/-- A launched slot acts: CAUGHT shows how, ONESHOT disarms it; an action that does not come about counts in SKIPCNT. -/
def Chip.slotAct (c : Chip) (l : Nat × Nat × Bool) : Chip :=
  let s := l.1
  let r := c.slotDo s l.2.1
  if r.2 then
    let c := r.1.wr (R.SLOT_B2 s) (c.slotEnergy s + 8 * b2n l.2.2)
    if c.rbit (R.SLOT_B0 s) 1 then c.wbit (R.SLOT_B0 s) 0 false else c
  else r.1.skip s

/-- A slot placed in ascending order among the launched. -/
def launchInsert (x : Nat × Nat × Bool) : List (Nat × Nat × Bool) → List (Nat × Nat × Bool)
  | [] => [x]
  | y :: l => if x.1 < y.1 then x :: y :: l else y :: launchInsert x l

/-- The actions of the last tick's matches, in ascending slot number (R120). -/
def Chip.runLaunched (c : Chip) : Chip :=
  let l := c.phw.launched.foldl (fun l x => launchInsert x l) []
  l.foldl Chip.slotAct { c with phw := { c.phw with launched := [] } }

/-! ### Commits (R116, R130) -/

/-- Byte `i` of the staged entry: what reads of bytes 1 to 14 return, CAUGHT apart. -/
def Chip.liveByte (c : Chip) (s i : Nat) : Byte :=
  BitVec.ofNat 8 (match i with
    | 1 => c.rd (R.SLOT_B1 s)
    | 2 => c.rd (R.SLOT_B2 s) % 8
    | 3 => 0
    | n => c.rfld (R.SLOT_B4 s) (8 * (n - 4)) 8)

/-- The staged byte, else the live one. -/
def Chip.stagedByte (c : Chip) (s i : Nat) : Byte := (FMap.get none (c.slotAux s).staged i).getD (c.liveByte s i)

/-- The commit of slot `s` with byte 0 as written: the divider starts anew only on a disabled slot. -/
def Chip.slotCommitWith (c : Chip) (s : Nat) (b0 : Byte) (origin : Nat) : Chip :=
  let was := c.slotEn s
  let n (i : Nat) : Nat := (c.stagedByte s i).toNat
  let b4 := leNat ((List.range 11).map (fun i => c.stagedByte s (4 + i)))
  let caught := c.rd (R.SLOT_B2 s) / 8 % 2
  let c := c.wrs [(R.SLOT_B1 s, n 1 % 64), (R.SLOT_B2 s, n 2 % 8 + 8 * caught), (R.SLOT_B4 s, b4), (R.SLOT_B0 s, b0.toNat % 32)]
  let x := c.slotAux s
  let en := b0.toNat % 2 == 1
  c.setSlotAux s { x with staged := [], commit := none, origin := if en then origin else x.origin
                          count := if en && !was then c.slotOffset s + 1 else x.count }

/-- What is due on slot `s` at a tick: a write of SKIPCNT, a commit, a disarm. -/
def Chip.slotCommit (c : Chip) (s : Nat) : Chip :=
  let x := c.slotAux s
  let c := match x.skipWrite with | some b => c.wr (R.SLOT_SKIPCNT s) b.toNat | none => c
  let c := match x.commit with | some (b, o) => c.slotCommitWith s b o | none => c
  let c := if x.disarm then c.wbit (R.SLOT_B0 s) 0 false else c
  c.setSlotAux s { c.slotAux s with skipWrite := none, disarm := false }

/-- Every commit that is due. -/
def Chip.slotCommits (c : Chip) : Chip :=
  (c.phw.slots.filter (fun e => e.2.commit.isSome || e.2.disarm || e.2.skipWrite.isSome)).foldl (fun c e => c.slotCommit e.1) c

/-! ### The CK_PHASE tick -/

/-- The pulses' ticks (R122). -/
def Chip.pulseTick (c : Chip) : Chip :=
  c.phw.pulses.foldl (fun c e =>
    if e.2 = 1 then c.pulseEnd e.1
    else { c with phw := { c.phw with pulses := FMap.set 0 c.phw.pulses e.1 (e.2 - 1) } }) c

/-- A thread's TMR deadline has passed (05 R247, R248). -/
def ThreadSt.tmrTick (x : ThreadSt) (now : Nat) : ThreadSt :=
  match x.deadline with
  | some d => if d ≤ now then { x with deadline := none, expired := true } else x
  | none => x

/-- The threads' deadlines. -/
def Chip.tmrTicks (c : Chip) : Chip :=
  (c.threads.filter (fun e => e.2.deadline.isSome)).foldl (fun c e => c.setThr e.1 (e.2.tmrTick c.phw.tick)) c

/-- One tick of CK_PHASE: pulses end, the last tick's matches act, the wheels move, commits land, deadlines pass. While WRD is
not ON nothing moves. -/
def Chip.phaseTick (c : Chip) : Chip :=
  if (c.dom dWRD).state < 4 then c
  else
    let c := { c with phw := { c.phw with tick := (c.phw.tick + 1) % 2 ^ 64 } }
    let c := c.pulseTick.runLaunched
    (((c.wheelTick 0).wheelTick 2).wheelTick 3).slotCommits.tmrTicks

/-! ### Events that stand for many ticks -/

/-- A wheel's next carry at once (R94), with the matches on the way and their actions. W1 has no carry of its own. -/
def Chip.toCarry (c : Chip) (n : Nat) : Chip :=
  if n = 1 ∨ (c.dom dWRD).state < 4 ∨ c.freqNom n = 0 then c
  else (c.wheelForward n (2 ^ 48 - (c.wheel n).frac) false).runLaunched

/-- A slot's angle is reached (R119): its wheel goes on to the angle, and what matches acts. On W1, which W3 carries, the match
alone is made. -/
def Chip.toAngle (c : Chip) (s : Nat) : Chip :=
  let n := c.slotWheel s
  if !c.slotEn s ∨ (c.dom dWRD).state < 4 then c
  else if n = 1 then
    let x := c.slotAux s
    if x.count = 0 ∧ (c.wheel 1).back = 0 then ((c.setSlotAux s { x with count := c.slotDiv s }).slotMatch s false).runLaunched else c
  else if c.freqNom n = 0 then c
  else
    let d := (c.slotAngle s * 2 ^ 16 + 2 ^ 48 - (c.wheel n).frac) % 2 ^ 48
    (c.wheelForward n (if d = 0 then 2 ^ 48 else d) false).runLaunched

/-- WHEEL_TURN_CARRY. -/
def execWheelTurnCarry (n : Fin 4) (s : State) : Out := s.lift (fun c => c.toCarry n.val)
/-- STATION_SECOND (01 R45): while WRD is off CK_LF carries station time. -/
def execStationSecond (s : State) : Out := s.lift (fun c => if (c.dom dWRD).state < 4 then c.secondUp.1 else c)
/-- SLOT_MATCH. -/
def execSlotMatch (n : Fin 256) (s : State) : Out := s.lift (fun c => c.toAngle n.val)
/-- SLOT_COMMIT. -/
def execSlotCommit (n : Fin 256) (s : State) : Out := s.lift (fun c => if c.wrdOn then c.slotCommit n.val else c)
/-- EVT_PULSE_END (R122). -/
def execEvtPulseEnd (p : Fin 8) (s : State) : Out := s.lift (fun c => c.pulseEnd p.val)

end Sys2Proof.Machine
end

