-- ==== Sys2Proof/Machine/Sio.lean ====
section
/-!
DEFINITION. The sensor ports (19 R911 to R924): the SDI-12 recorder, the UARTs, the controllers, GPIO and the EVT pins. How
the 64-byte blocks of the UARTs and controllers are laid out the spec does not say: their bytes are plain registers, and what
the hardware would place in them stands in the state's own fields (log entry 45).
-/
namespace Sys2Proof.Machine

/-- The sensor ports work: CPU is enabled (R932). -/
def Chip.sioOn (c : Chip) : Bool := c.domOn dCPU

/-! ### SDI-12 (R911 to R916) -/

/-- Line status codes, in the order R914 names them. -/
def sdOK : Nat := 0
def sdCRC_BAD : Nat := 1
def sdNO_RESPONSE : Nat := 2
def sdABORTED : Nat := 3

/-- The characters of a text. -/
def chars (l : List Nat) : List Byte := l.map (BitVec.ofNat 8)

/-- A decimal digit. -/
def isDigit (b : Byte) : Bool := Nat.ble 48 b.toNat && Nat.ble b.toNat 57

/-- The number that digits spell. -/
def decimal (l : List Byte) : Nat := l.foldl (fun a b => 10 * a + (b.toNat - 48)) 0

/-- The digits of a number below 1000, without leading zeros. -/
def digits (n : Nat) : List Byte :=
  chars (if n < 10 then [48 + n] else if n < 100 then [48 + n / 10, 48 + n % 10] else [48 + n / 100, 48 + n / 10 % 10, 48 + n % 10])

/-- What the engine makes of a command (R911, R913): its count digits, whether a service request may come, whether its data
carries a CRC, and the last data command; the other commands end with their reply. -/
inductive SdiKind where
  | plain
  | measure (countDigits : Nat) (service crc : Bool) (last : Nat)
  deriving DecidableEq, Repr

/-- The kind of a command: its text without the address and `!`; none when the engine does not carry it out (R911). -/
def sdiKind (text : List Byte) : Option SdiKind :=
  match (text.drop 1).map BitVec.toNat with
  | [33] => some .plain
  | [73, 33] => some .plain
  | [86, 33] => some .plain
  | [77, 33] => some (.measure 1 true false 9)
  | [77, 67, 33] => some (.measure 1 true true 9)
  | [67, 33] => some (.measure 2 false false 9)
  | [67, 67, 33] => some (.measure 2 false true 9)
  | [72, 65, 33] => some (.measure 3 false false 999)
  | [65, _, 33] => some .plain
  | 68 :: l => if 2 ≤ l.length ∧ l.length ≤ 4 ∧ l.getLast? = some 33 ∧ (l.dropLast.all (fun b => Nat.ble 48 b && Nat.ble b 57)) then some .plain else none
  | [82, d, 33] => if 48 ≤ d ∧ d ≤ 57 then some .plain else none
  | _ => none

/-- The command text in SIO_SDICMD: its bytes up to and with the first `!`. -/
def uptoBang : List Byte → List Byte
  | [] => []
  | b :: l => if b = 33 then [b] else b :: uptoBang l
def Chip.sdiText (c : Chip) : List Byte := uptoBang (leBytes 15 (c.rd R.SIO_SDICMD))

/-- Raw mode (R915). -/
def Chip.sdiRaw (c : Chip) : Bool := c.rbit R.SIO_SDICMD 121

/-- A text sent; the break is left out when the same address answered less than 87 ms ago, and always made for a repeated
attempt (R912). -/
def Chip.sdiSend (c : Chip) (text : List Byte) (again : Bool) : Chip :=
  let recent :=
    match c.sio.sdiLast with
    | some (a, t) => decide (text.head? = some a) && decide (c.phw.tick < t + 17400000)
    | none => false
  { c with sio := { c.sio with sdiSent := (again || !recent, text) :: c.sio.sdiSent } }

/-- The command ends; GO reads 0 again (log entry 45). -/
def Chip.sdiEnd (c : Chip) : Chip := { c.wbit R.SIO_SDICMD 120 false with sio := { c.sio with sdi := none } }

/-- A line in the FIFO with its status; one that finds it full ends the command (R914). -/
def Chip.sdiLine (c : Chip) (status : Nat) (text : List Byte) : Chip :=
  let t := text.take 82
  if c.sio.lines.length < 4 then
    let e : List Byte := chars [status, t.length] ++ t ++ List.replicate (82 - t.length) 0
    { c with sio := { c.sio with lines := c.sio.lines ++ [e] } }.event 15 R.SIO_EVT 1
  else c.sdiEnd

/-- The command in progress ends with ABORTED. -/
def Chip.sdiAbort (c : Chip) : Chip := if c.sio.sdi.isSome then (c.sdiLine sdABORTED []).sdiEnd else c

/-- GO written: the command in SIO_SDICMD starts, unless one runs, the mode is raw, or the engine does not know it. -/
def Chip.sdiGo (c : Chip) : Chip :=
  let t := c.sdiText
  if !c.sioOn || c.sdiRaw || c.sio.sdi.isSome || (sdiKind t).isNone then c
  else { c.sdiSend t false with sio := { (c.sdiSend t false).sio with sdi := some { text := t, now := t } } }

/-- The state of the running command replaced. -/
def Chip.setSdi (c : Chip) (x : SdiCmd) : Chip := { c with sio := { c.sio with sdi := some x } }

/-- The data command of number `n` sent (R913). -/
def Chip.sdiData (c : Chip) (x : SdiCmd) (n : Nat) (retries : Nat) : Chip :=
  let t := x.text.take 1 ++ [68] ++ digits n ++ [33]
  (c.sdiSend t (retries != 0)).setSdi { x with now := t, attempts := 1, retries := retries, phase := 2, index := n }

/-- No response in time (R912): three attempts in all. -/
def Chip.sdiTimeout (c : Chip) : Chip :=
  match c.sio.sdi with
  | none => c
  | some x =>
    if x.phase = 1 then c
    else if x.attempts < 3 then (c.sdiSend x.now true).setSdi { x with attempts := x.attempts + 1 }
    else (c.sdiLine sdNO_RESPONSE []).sdiEnd

/-- One byte into the CRC of SDI-12 1.4: polynomial 0xA001, reflected, from 0. -/
def sdiCrcByte : Nat → Nat → Nat
  | 0, x => x
  | n + 1, x => sdiCrcByte n (if x % 2 = 1 then (x / 2) ^^^ 0xA001 else x / 2)

/-- The three characters of a data line's CRC. -/
def sdiCrc (l : List Byte) : List Byte :=
  let x := l.foldl (fun a b => sdiCrcByte 8 (a ^^^ b.toNat)) 0
  chars [64 + x / 4096, 64 + x / 64 % 64, 64 + x % 64]

/-- Values in a data line: each begins with its sign. -/
def valueCount (l : List Byte) : Nat := (l.filter (fun b => b == 43 || b == 45)).length

/-- A data line of the running command (R913): a bad CRC is retried up to three times; the next data command follows until
the promised values are there. -/
def Chip.sdiDataLine (c : Chip) (x : SdiCmd) (crc : Bool) (last : Nat) (line : List Byte) : Chip :=
  let n := line.length - 3
  if crc && !(decide (3 ≤ line.length) && line.drop n == sdiCrc (line.take n)) then
    let c := c.sdiLine sdCRC_BAD line
    if c.sio.sdi.isNone then c
    else if x.retries < 3 then c.sdiData x x.index (x.retries + 1)
    else c.sdiEnd
  else
    let got := x.got + valueCount (if crc then line.take n else line)
    let c := c.sdiLine sdOK line
    if c.sio.sdi.isNone then c
    else if x.expect ≤ got ∨ last ≤ x.index then c.sdiEnd
    else c.sdiData { x with got := got } (x.index + 1) 0

/-- The atttn reply of a measurement command (R913): no values ends it; ttt of 0 goes on to the data at once. -/
def Chip.sdiReply (c : Chip) (x : SdiCmd) (countDigits : Nat) (line : List Byte) : Chip :=
  let c := c.sdiLine sdOK line
  let ttt := decimal ((line.drop 1).take 3)
  let n := decimal ((line.drop 4).take countDigits)
  if c.sio.sdi.isNone then c
  else if n = 0 then c.sdiEnd
  else if ttt = 0 then c.sdiData { x with expect := n } 0 0
  else c.setSdi { x with expect := n, phase := 1 }

/-- A response line, without CR LF (R914). -/
def Chip.sdiReceived (c : Chip) (line : List Byte) : Chip :=
  match c.sio.sdi with
  | none => c
  | some x =>
    let c := { c with sio := { c.sio with sdiLast := some (line.headD 0, c.phw.tick) } }
    match x.phase, sdiKind x.text with
    | 1, _ => c
    | 0, some (.measure d _ _ _) => c.sdiReply x d line
    | 0, _ => let c := c.sdiLine sdOK line; c.sdiEnd
    | _, some (.measure _ _ crc last) => c.sdiDataLine x crc last line
    | _, _ => c.sdiEnd

/-- A service request of an M command, or the end of ttt (R913). -/
def Chip.sdiReady (c : Chip) (addr : Option Byte) : Chip :=
  match c.sio.sdi with
  | none => c
  | some x =>
    let service := match sdiKind x.text with | some (.measure _ s _ _) => s | _ => false
    let ok := match addr with | some a => service && decide (x.text.head? = some a) | none => true
    if decide (x.phase = 1) && ok then c.sdiData x 0 0 else c

/-- A raw byte or break sent (R915). -/
def Chip.sdiRawSend (c : Chip) (b : Byte) (brk : Bool) : Chip :=
  if c.sioOn && c.sdiRaw then { c with sio := { c.sio with sdiSent := (brk, if brk then [] else [b]) :: c.sio.sdiSent } } else c

/-- SDI12_COMMAND: GO is set and the command in SIO_SDICMD starts. -/
def execSdi12Command (s : State) : Out := s.lift (fun c => if c.sioOn then (c.wbit R.SIO_SDICMD 120 true).sdiGo else c)
/-- SDI12_RESPONSE_TIMEOUT. -/
def execSdi12ResponseTimeout (s : State) : Out := s.lift (fun c => c.sdiTimeout)
/-- SDI12_LINE_RECEIVED. -/
def execSdi12LineReceived (line : List (BitVec 8)) (s : State) : Out := s.lift (fun c => c.sdiReceived line)
/-- SDI12_SERVICE_REQUEST. -/
def execSdi12ServiceRequest (address : BitVec 8) (s : State) : Out := s.lift (fun c => c.sdiReady (some address))
/-- SDI12_WAIT_TIMEOUT. -/
def execSdi12WaitTimeout (s : State) : Out := s.lift (fun c => c.sdiReady none)
/-- SDI12_BUS_FAULT (R916, 02 R86). -/
def execSdi12BusFault (s : State) : Out := s.lift (fun c => if c.sioOn then (c.event 15 R.SIO_EVT 2).sdiAbort else c)
/-- SDI12_RAW_WRITE: SIO_SDIRAW holds what was sent. -/
def execSdi12RawWrite (w : Writer) (b : BitVec 8) (brk : Bool) (s : State) : Out :=
  s.lift (fun c =>
    if !c.sioOn then c.offWrite w
    else (c.wr R.SIO_SDIRAW (b.toNat + 256 * (b2n brk + 4 * b2n (c.rbit R.SIO_SDIRAW 10)))).sdiRawSend b brk)
/-- SDI12_RAW_RECEIVE. -/
def execSdi12RawReceive (b : BitVec 8) (s : State) : Out :=
  s.lift (fun c => if c.sioOn && c.sdiRaw then (c.wfld R.SIO_SDIRAW 0 8 b.toNat).wbit R.SIO_SDIRAW 10 true else c)

/-- A pop of the line FIFO by a reader; an empty one gives 0 (00 R1012). -/
def Chip.linePop (c : Chip) (k : Nat) : Chip :=
  match c.sio.lines with
  | [] => c.setLatch k R.SIO_SDILINE 0
  | e :: l => ({ c with sio := { c.sio with lines := l } }).setLatch k R.SIO_SDILINE (leNat e)

/-- SIO_SDILINE_POP. -/
def execSioSdilinePop (r : Reader) (s : State) : Out := s.lift (fun c => if c.sioOn then c.linePop (readerKind r) else c)

/-! ### UARTs and NMEA (R917, R918) -/

/-- A UART of bank C works. -/
def Chip.bankC (c : Chip) : Bool := c.sioOn && c.bankGood 2

/-- UART_RX_FRAME: the byte enters the receive FIFO of 64; a full one takes none. -/
def execUartRxFrame (u : Fin 2) (b : BitVec 8) (s : State) : Out :=
  s.lift (fun c =>
    let q := FMap.get [] c.sio.uartRx u.val
    if c.bankC && decide (q.length < 64) then
      { c with sio := { c.sio with uartRx := FMap.set [] c.sio.uartRx u.val (q ++ [b]) } }.event 15 R.SIO_EVT (2 ^ (3 + u.val))
    else c)
/-- UART_BREAK (02 R86): one break is reported. -/
def execUartBreak (u : Fin 2) (s : State) : Out :=
  s.lift (fun c => if c.bankC then { c with sio := { c.sio with uartBreaks := FMap.upd 0 c.sio.uartBreaks u.val (· + 1) } } else c)

/-- The bytes of a sentence between its start character and `*`. -/
def uptoStar : List Byte → List Byte
  | [] => []
  | b :: l => if b = 42 then [] else b :: uptoStar l

/-- The value of a hexadecimal digit. -/
def hexVal (b : Byte) : Nat := if b.toNat < 65 then b.toNat - 48 else b.toNat % 32 + 9

/-- A sentence's status (R918): 0 OK, 1 BAD_SUM, 2 NO_SUM, 3 OVERLONG. -/
def nmeaStatus (text : List Byte) : Nat :=
  let body := uptoStar (text.drop 1)
  if 82 < text.length then 3
  else
    match text.drop (body.length + 2) with
    | [a, b] => if hexVal a * 16 + hexVal b = body.foldl (fun x y => x ^^^ y.toNat) 0 then 0 else 1
    | [] => 2
    | _ => 1

/-- NMEA_SENTENCE: a sentence enters the FIFO of 4, or is dropped and counted. -/
def execNmeaSentence (text : List (BitVec 8)) (startTick : BitVec 32) (s : State) : Out :=
  s.lift (fun c =>
    if !c.bankC then c
    else if c.sio.nmea.length < 4 then
      let r : NmeaRec := { status := BitVec.ofNat 8 (nmeaStatus text), tick := startTick, text := text.take 82 }
      { c with sio := { c.sio with nmea := c.sio.nmea ++ [r] } }.event 15 R.SIO_EVT 4
    else { c with sio := { c.sio with nmeaDropped := c.sio.nmeaDropped + 1 } })

/-! ### Controllers (R919 to R921) -/

/-- IC_TRANSFER: a transfer starts on an idle controller. -/
def execIcTransfer (i : Fin 2) (s : State) : Out :=
  s.lift (fun c => if c.bankC then { c with sio := { c.sio with icBusy := FMap.set false c.sio.icBusy i.val true, icResult := FMap.set none c.sio.icResult i.val none } } else c)
/-- IC_TRANSFER_DONE: result and up to 32 received bytes. -/
def execIcTransferDone (i : Fin 2) (res : IcResult) (data : List (BitVec 8)) (s : State) : Out :=
  s.lift (fun c =>
    if FMap.get false c.sio.icBusy i.val then
      { c with sio := { c.sio with icBusy := FMap.set false c.sio.icBusy i.val false
                                   icResult := FMap.set none c.sio.icResult i.val (some res)
                                   icData := FMap.set [] c.sio.icData i.val (data.take 32) } }.event 15 R.SIO_EVT (2 ^ (5 + i.val))
    else c)
/-- SPC0_TRANSFER: a transfer starts. -/
def execSpc0Transfer (s : State) : Out :=
  s.lift (fun c => if c.bankC then { c with sio := { c.sio with spcBusy := true, spcData := none } } else c)
/-- SPC0_TRANSFER_DONE: up to 64 received bytes. -/
def execSpc0TransferDone (data : List (BitVec 8)) (s : State) : Out :=
  s.lift (fun c =>
    if c.sio.spcBusy then { c with sio := { c.sio with spcBusy := false, spcData := some (data.take 64) } }.event 15 R.SIO_EVT 0x80
    else c)

/-! ### GPIO and EVT (R922 to R924) -/

/-- The doorbell of a pin. -/
def Chip.gpioBell (c : Chip) (p : Nat) : Chip :=
  let g := c.rd (R.SIO_GP p)
  (c.doorbell (8 * fld g 9 1 + fld g 10 3) (BitVec.ofNat 8 (fld g 16 8))).1

/-- A filtered edge of a pin: one that qualifies raises its doorbell; within the rate limit edges coalesce (02 R73, R86). -/
def Chip.gpioEdge (c : Chip) (p : Nat) (rising : Bool) : Chip :=
  if !c.sioOn || !c.bankGood 1 then c
  else
    let c := { c with sio := { c.sio with gpioIn := putBit c.sio.gpioIn p rising } }
    let edge := c.rfld (R.SIO_GP p) 5 2
    if c.sup.blanking.contains 1 || !(if rising then bit edge 0 else bit edge 1) then c
    else if c.sio.gpioLimited.contains p then
      { c with sio := { c.sio with gpioHeld := if c.sio.gpioHeld.contains p then c.sio.gpioHeld else c.sio.gpioHeld ++ [p]
                                   gpioCoalesced := FMap.upd 0 c.sio.gpioCoalesced p (· + 1) } }.event 15 R.SIO_EVT 0x100
    else { c with sio := { c.sio with gpioLimited := c.sio.gpioLimited ++ [p] } }.gpioBell p

/-- A pin's rate limit ends: the coalesced doorbell goes out, and the limit runs again after it. -/
def Chip.gpioExpire (c : Chip) (p : Nat) : Chip :=
  if c.sio.gpioHeld.contains p then { c with sio := { c.sio with gpioHeld := c.sio.gpioHeld.filter (· != p) } }.gpioBell p
  else { c with sio := { c.sio with gpioLimited := c.sio.gpioLimited.filter (· != p) } }

/-- GPIO_EDGE. -/
def execGpioEdge (p : Fin 16) (rising : Bool) (s : State) : Out := s.lift (fun c => c.gpioEdge p.val rising)
/-- GPIO_RATE_LIMIT_EXPIRE. -/
def execGpioRateLimitExpire (p : Fin 16) (s : State) : Out := s.lift (fun c => c.gpioExpire p.val)
/-- EVT_SET_WRITE. -/
def execEvtSetWrite (w : Writer) (v : BitVec 8) (s : State) : Out :=
  s.lift (fun c => if c.sioOn then c.evtSet (c.rd R.SIO_EVTOUT ||| v.toNat) else c.offWrite w)
/-- EVT_CLEAR_WRITE. -/
def execEvtClearWrite (w : Writer) (v : BitVec 8) (s : State) : Out :=
  s.lift (fun c => if c.sioOn then c.evtSet (c.rd R.SIO_EVTOUT &&& (255 - v.toNat)) else c.offWrite w)

end Sys2Proof.Machine
end

