-- ==== Sys2Proof/Machine/MapRead.lean ====
section
/-!
DEFINITION. Reads of the data map (07 R303 to R308, 08 R395, 00 R18 to R25, R1012): what each range holds, the registers
whose value is computed, latching registers, and who is refused what.
-/
namespace Sys2Proof.Machine

/-- A range of the data map. -/
inductive Region where
  | dmem | wdmem | imem | wimem | flash | ledger | store | control | slots | desc | otp | unmapped
  deriving DecidableEq, Repr

/-- The range of an address: of the main cores and the host (07 R303), or of the Warden (08 R395). -/
def region (warden : Bool) (a : Nat) : Region :=
  if Nat.ble 0x800000 a then
    if Nat.blt a 0x812000 then .control
    else if Nat.ble 0x820000 a && Nat.blt a 0x821000 then .slots
    else if Nat.ble 0x840000 a && Nat.blt a 0x880000 then (if warden then .unmapped else .desc)
    else if Nat.ble 0x900000 a && Nat.blt a 0x900400 then .otp
    else .unmapped
  else if Nat.ble 0x200000 a && Nat.blt a 0x400000 then .flash
  else if Nat.ble 0x400000 a && Nat.blt a 0x440000 then .ledger
  else if warden then
    if Nat.blt a 0x2000 then .wdmem
    else if Nat.ble 0x100000 a && Nat.blt a 0x140000 then .imem
    else if Nat.ble 0x180000 a && Nat.blt a 0x188000 then .wimem
    else .unmapped
  else if Nat.blt a 0x10000 then .dmem
  else if Nat.ble 0x600000 a then .store
  else .unmapped

/-- The reader is a Warden thread. -/
def rWarden (r : Reader) : Bool := match r with | .warden _ => true | _ => false
/-- The reader is the host. -/
def rHost (r : Reader) : Bool := r == .spi || r == .i2c
/-- The thread that reads. -/
def rThread (r : Reader) : Option Nat := match r with | .main t => some t.val | .warden s => some (16 + s.val) | _ => none

/-- Why a byte is not served, as host status codes (19 R894): 0 it is, 1 unmapped, 2 refused, 3 an actuation point, 4 a flash
granule with a double-bit error, 5 its domain is off. Threads get cause 0x07 for 1, 0x08 for 2 to 4, and 0x00 without an
exception for 5 (07 R304 to R306). -/
abbrev Refusal' := Nat

/-- What stops a read of the byte at `a`. -/
def Chip.readStop (c : Chip) (rd : Reader) (a : Nat) : Refusal' :=
  let on (b : Bool) : Nat := if b then 0 else 5
  match region (rWarden rd) a with
  | .unmapped => 1
  | .dmem => on (c.domOn dCPU)
  | .wdmem => 0
  | .imem => 2
  | .wimem => 2
  | .flash => if !c.wrdOn then 5 else if c.nvm.flashBad.contains (a / 16) then 4 else 0
  | .ledger => on c.wrdOn
  | .store => if c.domOn dWEI then 0 else if rHost rd then 5 else 2
  | .desc => if c.domOn dWEI then 0 else if rHost rd then 5 else 2
  | .slots => on c.wrdOn
  | .otp => if !c.wrdOn then 5 else if rHost rd && Nat.ble 0x9000A0 a && Nat.blt a 0x9000C0 then 2 else 0
  | .control => match regAt a with | some r => on (c.regOn r) | none => 0

/-- The latching registers (00 R1012). -/
def latching : List Reg :=
  [R.SYS_TIME, R.WHn_PHASE 0, R.WHn_PHASE 1, R.WHn_PHASE 2, R.WHn_PHASE 3, R.TICKCNT, R.WEI_REJFIFO, R.TLN_JOINFIFO,
   R.HIF_MBOUT, R.HIF_ORDREP, R.SIO_SDILINE]

/-- The register latches for its readers. -/
def isLatching (r : Reg) : Bool := latching.any (fun x => x.addr == r.addr)

/-- A pop of the host outbox by a reader; an empty one gives 0 (19 R908). -/
def Chip.mboutPop (c : Chip) (k : Nat) : Chip :=
  match c.hif.outbox with
  | [] => c.setLatch k R.HIF_MBOUT 0
  | m :: l => ({ c with hif := { c.hif with outbox := l } }).setLatch k R.HIF_MBOUT (m.kind.toNat + 256 * m.payload.toNat)

/-- A pop of the order reply FIFO by a reader; an empty one gives 0 (19 R910). -/
def Chip.ordrepPop (c : Chip) (k : Nat) : Chip :=
  match c.hif.replies with
  | [] => c.setLatch k R.HIF_ORDREP 0
  | e :: l => ({ c with hif := { c.hif with replies := l } }).setLatch k R.HIF_ORDREP (leNat e)

/-- A latch taken, or an entry popped, by a reader of kind `k` (00 R1012). -/
def Chip.takeLatch (c : Chip) (k : Nat) (r : Reg) : Chip :=
  if r.addr == 0x800040 then c.setLatch k r c.now
  else if r.addr == 0x806100 then c.setLatch k r c.phw.tick
  else if r.addr == 0x807034 then c.rejPop k
  else if r.addr == 0x808044 then c.joinPop k
  else if r.addr == 0x80E010 then c.mboutPop k
  else if r.addr == 0x80E020 then c.ordrepPop k
  else if r.addr == 0x80F020 then c.linePop k
  else c.setLatch k r (c.phase ((r.addr - 0x806008) / 0x40))

/-- Address `b` is one of the `n` from `a` on, modulo 2^24 (07 R310). -/
def within24 (a n b : Nat) : Bool := Nat.blt ((b + 2 ^ 24 - a % 2 ^ 24) % 2 ^ 24) n

/-- What a read of `n` bytes from `a` on does before its bytes are taken: latches, the source of SEQ_FREC's change
(19 R905), corrections of flash granules counted (17 R819). -/
def Chip.readEffects (c : Chip) (k a n : Nat) : Chip :=
  let l := latching.filter (fun r => within24 a n r.addr && c.regOn r)
  let c : Chip := l.foldl (fun (c : Chip) r => c.takeLatch k r) c
  let c : Chip := if (List.range 16).any (fun i => within24 a n (0x801110 + i)) then { c with hif := { c.hif with frecNew := false } } else c
  let g := c.nvm.flashCorr.filter (fun g => (List.range 16).any (fun i => within24 a n (16 * g + i)))
  if c.wrdOn then g.foldl (fun (c : Chip) _ => c.inc R.NVM_CORRCNT) c else c

/-- FENCE of a descriptor: a fence of the queue is outstanding (14 R672). -/
def Chip.qFence (c : Chip) (q : Nat) : Bool := c.weir.fences.any (fun f => f.queue == q)

/-- WEI_QREC of the selected queue. -/
def Chip.qrecVal (c : Chip) : Nat :=
  let r := c.qrec (c.rd R.WEI_QSEL)
  r.sseq % 2 ^ 16 + 2 ^ 16 * (r.rseq % 2 ^ 16) + 2 ^ 32 * (r.pepoch % 256) + 2 ^ 40 * (b2n r.live + 2 * b2n r.pend + 4 * b2n r.resync)

/-- WEI_GREC of the selected group. -/
def Chip.grecVal (c : Chip) : Nat :=
  let g := c.grec (c.rd R.WEI_GSEL)
  g.node % 2 ^ 13 + 2 ^ 13 * b2n g.send + 2 ^ 14 * b2n g.bound + 2 ^ 16 * (g.stamp % 2 ^ 16)

/-- PEB_STAT of instance `i`. -/
def Chip.pebStat (c : Chip) (i : Nat) : Nat := b2n (c.pebActive i) + 2 * ((c.peb.held.filter (fun h => h.inst == i)).length % 8)

/-- Levels that a pin's IN bit reads: 0 while bank B is not good (02 R72). -/
def Chip.gpioLevel (c : Chip) (p : Nat) : Bool := c.bankGood 1 && bit c.sio.gpioIn p

/-- A wheel's register as it reads, by its offset in the wheel's block. -/
def Chip.wheelReg (c : Chip) (r : Reg) (n off : Nat) : Nat :=
  match off with
  | 2 => c.wheelState n
  | 0x18 => if n = 1 then c.word 3 / max 1 (c.rd R.W1_DIV) else c.word n
  | _ => c.rd r

/-- The control registers of SYS, SEQ, AUT, LED, NVM, HIF and WDN that do not read as what was written. -/
def Chip.sysReg (c : Chip) (r : Reg) : Nat :=
  match r.addr with
  | 0x800020 => c.pstateReg
  | 0x801104 => c.seqStatus
  | 0x809006 => c.aut.windows.length
  | 0x80A002 => c.ledStat
  | 0x80A00A => c.staged
  | 0x80B000 => 0
  | 0x80DC11 => b2n c.fuseUnlock + 2 * b2n c.pebUnlocked
  | 0x80E002 => c.irq
  | 0x810008 => 0
  | 0x807000 => c.weir.fences.length % 32
  | 0x807008 => c.qrecVal
  | 0x807018 => c.grecVal
  | _ => c.rd r

/-- The value a register reads as, latches and shadows apart. -/
def Chip.regVal (c : Chip) (r : Reg) : Nat :=
  if r.acc == .wo || r.acc == .wop || r.acc == .wohp || r.acc == .hostWo then 0
  else if Nat.ble 0x840000 r.addr then
    let q := (r.addr - 0x840000) / 16
    if r.addr % 16 = 0 then putBit (c.rd r) 95 (c.qFence q)
    else (c.qrec q).sseq % 2 ^ 16 + 2 ^ 16 * ((c.qrec q).rseq % 2 ^ 16)
  else if Nat.ble 0x806000 r.addr && Nat.blt r.addr 0x806100 then c.wheelReg r ((r.addr - 0x806000) / 0x40) ((r.addr - 0x806000) % 0x40)
  else if Nat.ble 0x80F300 r.addr && Nat.blt r.addr 0x80F340 then putBit (c.rd r) 2 (c.gpioLevel ((r.addr - 0x80F300) / 4))
  else if Nat.ble 0x80D000 r.addr && Nat.blt r.addr 0x80DC00 && r.addr % 0x200 = 0x100 then c.pebStat ((r.addr - 0x80D100) / 0x200)
  else c.sysReg r

/-- Byte `i` of a number. -/
def byteOf (v i : Nat) : Byte := BitVec.ofNat 8 (v / 256 ^ i)

/-- A slot byte as it reads (03 R116): staged, but CAUGHT and SKIPCNT live. -/
def Chip.slotByte (c : Chip) (s i : Nat) : Byte :=
  match i with
  | 0 => match (c.slotAux s).commit with | some (b, _) => b | none => byteOf (c.rd (R.SLOT_B0 s)) 0
  | 2 => BitVec.ofNat 8 ((c.stagedByte s 2).toNat % 8 + 8 * (c.rd (R.SLOT_B2 s) / 8 % 2))
  | 15 => byteOf (c.rd (R.SLOT_SKIPCNT s)) 0
  | i => c.stagedByte s i

/-- The register byte at `a` for a reader of kind `k`; a thread's own pending RWS bytes overlay it (00 R18). -/
def Chip.regByte (c : Chip) (k : Nat) (shadow : FMap (Option Byte)) (a : Nat) : Byte :=
  match regAt a with
  | none => 0
  | some r =>
    if isLatching r then FMap.get 0 c.latch (k * 2 ^ 24 + a)
    else if r.acc == .rws then (FMap.get none shadow a).getD (byteOf (c.regVal r) (a - r.addr))
    else byteOf (c.regVal r) (a - r.addr)

/-- The bytes of a row of the OTP shadow; rows 10 and 11 read 0 (17 R806). -/
def Chip.otpByte (c : Chip) (a : Nat) : Byte :=
  let r := (a - 0x900000) / 16
  if r = 10 ∨ r = 11 then 0 else byteOf (FMap.get 0 c.nvm.shadow r) (a % 16)

/-- The byte at `a`, when nothing stops the read. -/
def Chip.byteAt (c : Chip) (rd : Reader) (a : Nat) : Byte :=
  match region (rWarden rd) a with
  | .dmem => FMap.get 0 c.mem.dmem a
  | .wdmem => FMap.get 0 c.mem.wdmem a
  | .flash => c.flashByte a
  | .ledger => FMap.get erased c.mem.ledger a
  | .store => FMap.get 0 c.mem.weir a
  | .otp => c.otpByte a
  | .slots => c.slotByte ((a - 0x820000) / 16) (a % 16)
  | .control => c.regByte (readerKind rd) (match rThread rd with | some t => (c.thr t).regShadow | none => []) a
  | .desc => c.regByte (readerKind rd) [] a
  | _ => 0

/-- The `n` addresses from `a` on, modulo 2^24 (07 R310). -/
def addrs (a n : Nat) : List Nat := (List.range n).map (fun i => (a + i) % 2 ^ 24)

/-- The bytes of a read; one that is stopped reads 0x00. -/
def Chip.bytesAt (c : Chip) (rd : Reader) (a n : Nat) : List Byte :=
  (addrs a n).map (fun x => if c.readStop rd x = 0 then c.byteAt rd x else 0)

/-- The first byte of an access that raises an exception in a thread, with its cause (07 R304, R305; 17 R819). -/
def Chip.readFault (c : Chip) (rd : Reader) (a n : Nat) : Option (Nat × Nat) :=
  (addrs a n).findSome? (fun x => match c.readStop rd x with | 0 => none | 5 => none | 1 => some (7, x) | _ => some (8, x))

/-- A thread's read of one part: a fault gives no bytes and takes no latch. -/
def Chip.readPart (c : Chip) (rd : Reader) (a n : Nat) : Chip × List Byte × Option (Nat × Nat) :=
  match c.readFault rd a n with
  | some e => (c, List.replicate n 0, some e)
  | none =>
    let c := c.readEffects (readerKind rd) a n
    (c, c.bytesAt rd a n, none)

/-- The status of a host read (19 R893, R894): the first fault's, else DOMAIN_OFF when a byte's domain is off. -/
def Chip.readStatus (c : Chip) (rd : Reader) (a n : Nat) : Nat :=
  let l := (addrs a n).map (c.readStop rd)
  match l.find? (fun x => x != 0 && x != 5) with
  | some x => x
  | none => if l.contains 5 then 5 else 0

/-- LATCHING_READ: a read of `len` bytes by a thread through its data port, or by the host. A thread's read that a window does
not permit, or that faults, raises its exception (04 R187, 07 R304). -/
def Chip.latchRead (c : Chip) (r : Reader) (a n : Nat) : Chip :=
  match rThread r with
  | none => c.readEffects (readerKind r) a n
  | some t =>
    match (addrs a n).find? (fun x => !c.mayAccess t false x) with
    | some x => c.raiseNow t uLSU 0 ⟨5, some x⟩
    | none =>
      match c.readPart r a n with
      | (_, _, some (e, x)) => c.raiseNow t uLSU 0 ⟨e, some x⟩
      | (c, _, none) => c

/-- LATCHING_READ. -/
def execLatchingRead (r : Reader) (addr : BitVec 24) (len : Nat) (s : State) : Out := s.lift (fun c => c.latchRead r addr.toNat len)
/-- HIF_MBOUT_POP. -/
def execHifMboutPop (r : Reader) (s : State) : Out := s.lift (fun c => c.mboutPop (readerKind r))
/-- HIF_ORDREP_POP. -/
def execHifOrdrepPop (r : Reader) (s : State) : Out := s.lift (fun c => c.ordrepPop (readerKind r))

end Sys2Proof.Machine
end

