-- ==== Sys2Proof/Machine/MapWrite.lean ====
section
/-!
DEFINITION. Writes of the data map (07 R303 to R308, R1013; 19 R890 to R892): which byte is refused to whom, Ledger entries
of logged registers, and what a write of each register does.
-/
namespace Sys2Proof.Machine

/-- Bytes written, by address. -/
abbrev Writes := List (Nat × Byte)

/-- The byte written at an address. -/
def Writes.at? (l : Writes) (a : Nat) : Option Byte := (List.find? (fun e => e.1 == a) l).map (fun e => e.2)

/-- The cell at `a` lies in the area of an enabled queue (14 R684). -/
def Chip.inQueueArea (c : Chip) (a : Nat) : Bool :=
  let cell := (a - 0x600000) / 16
  c.regs.any (fun e =>
    Nat.ble 0x840000 e.1 && Nat.blt e.1 0x880000 && e.1 % 16 == 0 &&
      (let q := (e.1 - 0x840000) / 16
       c.qEn q && Nat.blt ((cell + 131072 - c.qBase q % 131072) % 131072) (c.qCells q)))

/-- The host or a privileged main-core thread. -/
def Chip.hostOrPriv (c : Chip) (w : Writer) : Bool := wHost w || (c.privWriter w && !wWarden w)

/-- The field of an actuation point, by its writer: a thread's write is a request, the host's is AP_FIELD, the Warden's is
refused (01 R34, 19 R891, 10). -/
def apStop (w : Writer) : Nat := if wHost w then 3 else if wWarden w then 2 else 0

/-- The thread whose inbox HIF_MBIN names: byte 0 as written, else as it stands (log entry 46). -/
def Chip.mbinThread (c : Chip) (l : Writes) : Nat :=
  (match l.at? 0x80E018 with | some b => b.toNat | none => c.rd R.HIF_MBIN % 256) % 16

/-- What stops a write of register `r` by `w` at byte `a`, as status codes (MapRead.Refusal'); `l` is the whole write. -/
def Chip.regStop (c : Chip) (w : Writer) (r : Reg) (a : Nat) (l : Writes) : Nat :=
  let ok (b : Bool) : Nat := if b then 0 else 2
  match r.acc with
  | .ro => 0
  | .rw => 0
  | .w1c => 0
  | .wo => 0
  | .rws => 0
  | .nvmOwn => 0
  | .ap => apStop w
  | .chMode =>
    if r.addr = 0x8020CA then (if wHost w then 3 else 2) else ok (wWarden w)
  | .desc =>
    let q := (r.addr - 0x840000) / 16
    ok (c.hostOrPriv w && (!c.qEn q || c.qFrozen q))
  | .hostWo =>
    if !wHost w then 0
    else if a = 0x80E01D ∧ 8 ≤ (c.thr (c.mbinThread l)).inbox.length then 0xB
    else 0
  | .hp => ok (c.hostOrPriv w)
  | .pmap => ok (c.hostOrPriv w)
  | .whp => ok (wHost w || c.privWriter w)
  | .whl => ok (wHost w || wWarden w)
  | .wl => ok (wWarden w)
  | .wn =>
    if !wWarden w then 2
    else if r.addr = 0x800020 then
      ok (!(match l.at? a with | some b => b.getLsbD 2 | none => false) || (c.othersOff && !orderEntries.any (fun i => (c.handled i).isSome) && c.mode.power == 0))
    else 0
  | .nvm => ok (c.nvmMayWrite w)
  | .pebRule => ok ((wHost w || c.privWriter w) && !c.pebActive ((r.addr - 0x80D000) / 0x200))
  | .rnd => ok (c.hostOrPriv w && !c.rndEn ((r.addr - 0x807800) / 0x40))
  | .rndCtrl =>
    ok (c.hostOrPriv w && (!c.rndEn ((r.addr - 0x807800) / 0x40) || (match l.at? a with | some b => !b.getLsbD 0 | none => true)))
  | .slot => ok (!wWarden w)
  | .slot0 => ok (!wWarden w)
  | .slot15 => ok (!wWarden w)
  | .wop => ok (c.hostOrPriv w)
  | .wohp => ok (c.hostOrPriv w)

/-- Every main-core thread is HALTED (08 R395). -/
def Chip.imemOpen (c : Chip) : Bool := c.mainHalted

/-- The writer runs from the boot ROM (08 R395). -/
def Chip.fromRom (c : Chip) (w : Writer) : Bool :=
  match w with
  | .warden s => Nat.ble 0x7000 (c.thr (16 + s.val)).pc.toNat
  | _ => false

/-- What stops a write of the byte at `a` (R304 to R306, R1013; 08 R395). -/
def Chip.writeStop (c : Chip) (w : Writer) (l : Writes) (a : Nat) : Nat :=
  match region (wWarden w) a with
  | .unmapped => 1
  | .dmem => if c.domOn dCPU then 0 else 5
  | .wdmem => 0
  | .imem => if !c.imemOpen then 2 else if c.domOn dCPU then 0 else 5
  | .wimem => if c.fromRom w then 0 else 2
  | .flash => if c.wrdOn then 2 else 5
  | .ledger => if c.wrdOn then 2 else 5
  | .otp => if c.wrdOn then 2 else 5
  | .store => if !c.domOn dWEI then (if wHost w then 5 else 2) else if c.inQueueArea a then 2 else 0
  | .slots => if !c.wrdOn then 5 else if wWarden w then 2 else 0
  | .desc =>
    if !c.domOn dWEI then (if wHost w then 5 else 2)
    else match regAt a with | some r => c.regStop w r a l | none => 0
  | .control =>
    match regAt a with
    | some r => if c.regOn r then c.regStop w r a l else 5
    | none => 0

/-! ### Logged writes (16 R777, R1014; 19 R892) -/

/-- A write of this register's byte stages a Ledger entry. GOV_GRANT logs its own (11). -/
def Chip.logs (c : Chip) (r : Reg) (a : Nat) (b : Byte) : Bool :=
  c.regOn r &&
  match r.acc with
  | .hp => true
  | .whp => true
  | .whl => true
  | .wl => r.addr != 0x805100
  | .chMode => true
  | .pmap => c.headActive
  | .pebRule => true
  | .rnd => true
  | .rndCtrl => true
  | .wn => r.addr == 0x800020 && a == 0x800020 && b.getLsbD 2
  | .nvm => r.addr == 0x80B008 || r.addr == 0x80B010 || r.addr == 0x80B034
  | _ => false

/-- The aligned word that a logged byte belongs to; GAU_QACC has one entry (13 R640). -/
def wordOf (a : Nat) : Nat := if a = 0x80400C then 0x804008 else a / 4 * 4

/-- The aligned word at `a` as its bytes read. -/
def Chip.wordVal (c : Chip) (a : Nat) : Nat :=
  leNat ((List.range 4).map (fun i => match regAt (a + i) with | some r => byteOf (c.regVal r) (a + i - r.addr) | none => 0))

/-- The byte `a` after the write: written bits of registers that exist, else as it stands. -/
def Chip.newByte (c : Chip) (l : Writes) (a : Nat) : Byte :=
  match regAt a with
  | none => 0
  | some r =>
    let old := byteOf (c.regVal r) (a - r.addr)
    match l.at? a with
    | some b => if c.logs r a b then b &&& byteOf r.mask (a - r.addr) else old
    | none => old

/-- GAU_QACC after the write. -/
def Chip.newQacc (c : Chip) (l : Writes) : Nat := leNat ((List.range 5).map (fun i => c.newByte l (0x804008 + i)))

/-- The entry of a logged word. -/
def Chip.wordEntry (c : Chip) (w : Writer) (l : Writes) (a : Nat) : LedEntry :=
  let v : Nat × Nat :=
    if a = 0x804008 then (charge32 c.qacc, charge32 (toSigned 40 (c.newQacc l)))
    else (c.wordVal a, leNat ((List.range 4).map (fun i => c.newByte l (a + i))))
  { origin := wOrigin w, object := regObject a, old := v.1, new := v.2, cause := cause 0x48 0 }

/-- The logged words of a write, in order. -/
def Chip.loggedWords (c : Chip) (l : Writes) : List Nat :=
  (l.filterMap (fun e => (regAt e.1).bind (fun r => if c.logs r e.1 e.2 then some (wordOf e.1) else none))).eraseDups

/-- The entries of a write staged, all or none: none when one finds no free order entry, which is counted once. -/
def Chip.stageWords (c : Chip) (w : Writer) (l : Writes) : Chip × Bool :=
  let ws := c.loggedWords l
  let free := (orderEntries.filter (fun i => (c.entry i).isNone)).length
  if ws.isEmpty then (c, true)
  else if c.exhausted then (c.event 10 R.LED_EVT 4, false)
  else if Nat.blt free ws.length then (c.inc R.LED_REFCNT, false)
  else (ws.foldl (fun (d : Chip) a => (d.stageWrite (c.wordEntry w l a)).1) c, true)

/-! ### What a write of a register does -/

/-- A counter that clears on a write of all ones. -/
def isCounter (r : Reg) : Bool := r.acc == .w1c && r.mask == allBits r.width && r.addr != 0x811080 && r.addr != 0x806108

/-- The register's value with the written bits `m` of `v` in place. -/
def merge (r : Reg) (old v m : Nat) : Nat := (old - (old &&& (m &&& r.mask))) + (v &&& (m &&& r.mask))

/-- What follows the change of a plain register: each block's own consequence. -/
def Chip.after (c : Chip) (r : Reg) : Chip :=
  let a := r.addr
  if Nat.ble 0x801000 a && Nat.blt a 0x8010D0 then
    (if a % 0x10 = 0 then c.parityRewrite ((a - 0x801000) / 0x10) false
     else if a % 0x10 = 2 then c.parityRewrite ((a - 0x801000) / 0x10) true
     else c)
  else if Nat.ble 0x803000 a && Nat.blt a 0x804000 then (if a = 0x803001 then c.chemWritten else c.chgSettle)
  else if a = 0x8020CB then c.chgSettle
  else if a = 0x804004 then c.setQacc c.qacc
  else if a = 0x804008 then ({ c with gau := { c.gau with remainder := 0 } }).setQacc c.qacc
  else if a = 0x804020 then c.ocvCheck
  else if Nat.ble 0x805000 a && Nat.blt a 0x805100 then c.fillSettle
  else if a = 0x808000 ∨ a = 0x808001 then (if c.tstate = tsJOINED then c else c.roleApply)
  else c

/-- A committed RWS register (00 R19, R20): the wheel follows (03). -/
def Chip.afterRws (c : Chip) (r : Reg) (oldW1 : Nat) : Chip :=
  if r.addr = 0x806074 ∨ r.addr = 0x806078 then c.moveW1 oldW1 true
  else c.wheelForce ((r.addr - 0x806000) / 0x40)

/-- Pending bytes of RWS registers committed: each register once, in order. -/
def Chip.commitRws (c : Chip) (l : Writes) : Chip :=
  let rs := (l.filterMap (fun e => regAt e.1)).eraseDups
  rs.foldl (fun (c : Chip) (r : Reg) =>
    if !c.regOn r then c
    else
      let old := c.phase 1
      let v := leNat ((List.range r.width).map (fun i => (l.at? (r.addr + i)).getD (byteOf (c.rd r) i)))
      (c.wr r (v &&& r.mask)).afterRws r old) c

/-- An NVM command written as a byte: the source's voltage and the die temperature are what they are (log entry 47). -/
def Chip.nvmStore (c : Chip) (w : Writer) (code : Nat) : Chip :=
  let a := c.takeFreeNat
  let b := a.2.takeFreeNat
  b.2.nvmCommand w code a.1 (b.1 : Int)

/-- HIF_MBIN submitted (19 R909): the host's message to a thread's inbox. -/
def Chip.mbinSubmit (c : Chip) (v : Nat) : Chip :=
  match c.toInbox (fld v 0 4) ⟨BitVec.ofNat 8 (fld v 8 7 + 128), BitVec.ofNat 32 (fld v 16 32)⟩ with
  | some c => c
  | none => c

/-- Requests of a thread for the actuation points whose fields a write covers (01 R34). -/
def Chip.apRequests (c : Chip) (w : Writer) (r : Reg) (v m : Nat) : Chip :=
  let l := (List.range 128).filterMap (fun ap => match apField ap with
    | some (r', lo, n) => if r' = r ∧ fld m lo n ≠ 0 then some (ap, fld (merge r (c.rd r) v m) lo n) else none
    | none => none)
  match w with
  | .main t => l.foldl (fun (c : Chip) (e : Nat × Nat) => (c.request (originOf t.val) e.1 e.2 0 0 (fun _ => .thread t.val)).1) c
  | _ => c

/-- A command register written: its command. `v` holds the bytes written and `m` which. -/
def Chip.commandWrite (c : Chip) (w : Writer) (r : Reg) (v m : Nat) : Chip :=
  match r.addr with
  | 0x803039 => if bit v 0 then c.vocStart else c
  | 0x804100 => c.adcStart (v % 32)
  | 0x808007 =>
    let c := if bit v 0 then { c with tln := { c.tln with stopped := false } } else c
    if bit v 1 then c.leave else c
  | 0x808058 =>
    let d := c.wr r (merge r (c.rd r) v m)
    if bit m 32 then d.jreply (d.rd r) else d
  | 0x807010 =>
    let c := if bit v 0 then c.qcmdResync w else c
    if bit v 1 then c.qcmdUnbind w else c
  | 0x808070 => c.wr r (merge r (c.rd r) v m)
  | 0x80DC00 =>
    let d := c.wr r (merge r (c.rd r) v m)
    if bit m 88 then d.pebUnlock w (d.rd r) else d
  | 0x80003C =>
    if !wHost w then c
    else
      let c := if bit v 0 then c.bootRetry else c
      if bit v 1 then c.bootReload else c
  | 0x80E018 =>
    if !wHost w then c
    else
      let d := c.wr r (merge r (c.rd r) v m)
      if bit m 40 then d.mbinSubmit (d.rd r) else d
  | 0x80F341 => c.evtSet (c.rd R.SIO_EVTOUT ||| v % 256)
  | 0x80F342 => c.evtSet (c.rd R.SIO_EVTOUT &&& (255 - v % 256))
  | _ => c

/-- A plain register written. -/
def Chip.plainWrite (c : Chip) (r : Reg) (v m : Nat) : Chip :=
  match r.addr with
  | 0x800020 => if bit v 2 then c.hibBegin else c
  | 0x800040 => { c with phw := { c.phw with sysTime := some (merge r (c.phw.sysTime.getD c.now) v m) } }
  | 0x810008 => if m % 256 = 0 then c else c.verdict (v % 2 ^ 16)
  | 0x80F010 =>
    let raw := c.sdiRaw
    let d := c.wr r (merge r (c.rd r) v m)
    let d := if d.sdiRaw != raw then d.sdiAbort else d
    if bit m 120 && bit v 120 then d.sdiGo else d
  | 0x80F080 =>
    let d := c.wr r (merge r (c.rd r) v m)
    if m % 2 ^ 16 = 0 then d else d.sdiRawSend (byteOf (d.rd r) 0) (d.rbit r 8)
  | _ => (c.wr r (merge r (c.rd r) v m)).after r

/-- Bits cleared, or a counter cleared (00, W1C). -/
def Chip.clearWrite (c : Chip) (r : Reg) (v m : Nat) : Chip :=
  if isCounter r then (if v = allBits r.width ∧ m = allBits r.width then c.wr r 0 else c)
  else if r.addr = 0x80B030 then (if bit v 31 then c.wr r 0 else c)
  else c.wr r (c.rd r - (c.rd r &&& (v &&& r.mask)))

/-- Staged bytes of a slot (03 R116). -/
def Chip.slotWrite (c : Chip) (r : Reg) (v m : Nat) : Chip :=
  let s := (r.addr - 0x820000) / 16
  let o := r.addr % 16
  let x := c.slotAux s
  let st := (List.range r.width).foldl (fun (st : FMap (Option Byte)) (i : Nat) =>
    if fld m (8 * i) 8 = 0 then st else FMap.set none st (o + i) (some (byteOf (v &&& r.mask) i))) x.staged
  c.setSlotAux s { x with staged := st }

/-- Register `r` written by `w`: `v` holds the bytes written, `m` is 0xFF at each of them. -/
def Chip.regWrite (c : Chip) (w : Writer) (r : Reg) (v m : Nat) : Chip :=
  match r.acc with
  | .ro => c
  | .w1c => c.clearWrite r v m
  | .ap => c.apRequests w r v m
  | .chMode => c.plainWrite r v m
  | .desc =>
    let q := (r.addr - 0x840000) / 16
    c.qWrite q (merge r (c.rd r) v m % 2 ^ 93)
  | .nvmOwn => c.nvmOwnWrite w (merge r (c.rd r) v m)
  | .nvm =>
    if r.addr = 0x80B000 then c.nvmStore w (v % 256)
    else if r.addr = 0x80B034 then c.nvmWplim w (merge r (c.rd r) v m)
    else c.wr r (merge r (c.rd r) v m)
  | .pmap => if c.headActive then c.plainWrite r v m else c
  | .rndCtrl =>
    let i := (r.addr - 0x807800) / 0x40
    if c.rndEn i then (c.wbit r 0 false).wr (R.RND_STATE i) 0 else c.plainWrite r v m
  | .slot => c.slotWrite r v m
  | .slot0 =>
    let s := (r.addr - 0x820000) / 16
    c.setSlotAux s { c.slotAux s with commit := some (BitVec.ofNat 8 (v &&& r.mask), wOrigin w) }
  | .slot15 =>
    let s := (r.addr - 0x820000) / 16
    c.setSlotAux s { c.slotAux s with skipWrite := some (BitVec.ofNat 8 v) }
  | .wl => if r.addr = 0x805100 then c.govWrite w (v % 256) else c.plainWrite r v m
  | .wo => c.commandWrite w r v m
  | .wop => c.commandWrite w r v m
  | .wohp => c.commandWrite w r v m
  | .hostWo => c.commandWrite w r v m
  | .rws => c
  | _ => c.plainWrite r v m

/-- Byte `i` of a bundle replaced. -/
def putBundle (b : Bundle) (i : Nat) (x : Byte) : Bundle := BitVec.ofNat 64 (putFld b.toNat (8 * i) 8 x.toNat)

/-- A byte of a memory written. -/
def Chip.memWrite (c : Chip) (w : Writer) (a : Nat) (b : Byte) : Chip :=
  match region (wWarden w) a with
  | .dmem => { c with mem := { c.mem with dmem := FMap.set 0 c.mem.dmem a b } }
  | .wdmem => c.wdmemStore a [b]
  | .imem => { c with mem := { c.mem with imem := FMap.upd 0 c.mem.imem ((a - 0x100000) / 8) (fun x => putBundle x (a % 8) b) } }
  | .wimem => { c with mem := { c.mem with wimem := FMap.upd 0 c.mem.wimem ((a - 0x180000) / 8) (fun x => putBundle x (a % 8) b) } }
  | .store => { c with mem := { c.mem with weir := FMap.set 0 c.mem.weir a b } }
  | _ => c

/-- The bytes of a write that register `r` gets: their value and their mask. -/
def bytesFor (l : Writes) (r : Reg) : Nat × Nat :=
  let at' (i : Nat) : Option Byte := l.at? (r.addr + i)
  (leNat ((List.range r.width).map (fun i => (at' i).getD 0)),
   leNat ((List.range r.width).map (fun i => if (at' i).isSome then (255 : Byte) else 0)))

/-- The accepted bytes of a write land: memory bytes, then the registers in order of address; RWS bytes of a thread wait in
its shadow, the host's commit at the end of its transaction. Bytes of a domain that is off are left out. -/
def Chip.land (c : Chip) (w : Writer) (l : Writes) : Chip :=
  let l := l.filter (fun e => c.writeStop w l e.1 == 0)
  let isReg (a : Nat) : Bool := match region (wWarden w) a with | .control => true | .slots => true | .desc => true | _ => false
  let mem := l.filter (fun e => !isReg e.1)
  let c : Chip :=
    match w, mem with
    | .warden _, (a, _) :: _ => if region true a == .wdmem then c.wdmemStore a (mem.map (fun e => e.2)) else mem.foldl (fun (c : Chip) (e : Nat × Byte) => c.memWrite w e.1 e.2) c
    | _, _ => mem.foldl (fun (c : Chip) (e : Nat × Byte) => c.memWrite w e.1 e.2) c
  let regs := ((l.filter (fun e => isReg e.1)).filterMap (fun e => regAt e.1)).eraseDups
  let c : Chip := regs.foldl (fun (c : Chip) (r : Reg) => let b := bytesFor l r; c.regWrite w r b.1 b.2) c
  let rws := l.filter (fun e => match regAt e.1 with | some r => isReg e.1 && r.acc == .rws | none => false)
  match w with
  | .main t => if rws.isEmpty then c else c.updThr t.val (fun x => { x with regShadow := rws.foldl (fun m e => FMap.set none m e.1 (some e.2)) x.regShadow })
  | .warden s => if rws.isEmpty then c else c.updThr (16 + s.val) (fun x => { x with regShadow := rws.foldl (fun m e => FMap.set none m e.1 (some e.2)) x.regShadow })
  | _ => c.commitRws rws

/-- The first refused byte of a write and its status (R1013, 19 R890). -/
def Chip.firstStop (c : Chip) (w : Writer) (l : Writes) : Option (Nat × Nat) :=
  l.findSome? (fun e => match c.writeStop w l e.1 with | 0 => none | 5 => none | k => some (k, e.1))

/-- A whole write (R1013, 16 R1014): refused whole with the first refused byte's status and address, or landed. The status
of a write with bytes of a domain that is off is DOMAIN_OFF. -/
def Chip.storeAll (c : Chip) (w : Writer) (l : Writes) : Chip × Option (Nat × Nat) :=
  match c.firstStop w l with
  | some (k, a) => (c, some (k, a))
  | none =>
    match c.stageWords w l with
    | (d, false) => (d, some (0xA, (l.find? (fun e => match regAt e.1 with | some r => c.logs r e.1 e.2 | none => false)).elim 0 (fun e => e.1)))
    | (d, true) =>
      (d.land w l, if l.any (fun e => c.writeStop w l e.1 == 5) then some (5, 0) else none)

/-- The exception of a refused store in a thread: cause 0x07 for an unmapped byte, 0x08 for any other (R304, R1013). -/
def storeTrap (k a : Nat) : Option Trap := if k = 5 then none else some ⟨if k = 1 then 7 else 8, some a⟩

/-- The bytes of a write from address `a` on, modulo 2^24. -/
def writesAt (a : Nat) (bs : List Byte) : Writes := (addrs a bs.length).zip bs

/-- REGISTER_WRITE: a write through the data map by a thread, its windows permitting (04 R187), or by the host, whose status
HIF_LAST shows (19 R890). -/
def Chip.registerWrite (c : Chip) (w : Writer) (a : Nat) (bs : List Byte) : Chip :=
  let go (t : Nat) : Chip :=
    match (addrs a bs.length).find? (fun x => !c.mayAccess t true x) with
    | some x => c.raiseNow t uLSU 0 ⟨5, some x⟩
    | none =>
      match c.storeAll w (writesAt a bs) with
      | (d, some (k, x)) => (match storeTrap k x with | some e => d.raiseNow t uLSU 0 e | none => d)
      | (d, none) => d
  match w with
  | .main t => go t.val
  | .warden s => go (16 + s.val)
  | _ =>
    match c.storeAll w (writesAt a bs) with
    | (d, some (k, _)) => d.wr R.HIF_LAST k
    | (d, none) => d.wr R.HIF_LAST 0

/-- REGISTER_WRITE. -/
def execRegisterWrite (w : Writer) (addr : BitVec 24) (data : List (BitVec 8)) (s : State) : Out := s.lift (fun c => c.registerWrite w addr.toNat data)
/-- SYS_TIME_WRITE (01 R62). -/
def execSysTimeWrite (w : Writer) (v : BitVec 32) (s : State) : Out := s.lift (fun c => c.registerWrite w 0x800040 (leBytes 4 v.toNat))

end Sys2Proof.Machine
end

