-- ==== Sys2Proof/Machine/Lsu.lean ====
section
/-!
DEFINITION. The LSU (05 R232 to R237; 07 R309 to R316, R318, R333): loads, stores and swap8, split and strict accesses.
-/
namespace Sys2Proof.Machine

/-- A thread as a reader and as a writer. -/
def readerOf (t : Nat) : Reader := if h : t < 16 then .main ⟨t, h⟩ else .warden ⟨(t - 16) % 4, Nat.mod_lt _ (by decide)⟩
def writerOf (t : Nat) : Writer := if h : t < 16 then .main ⟨t, h⟩ else .warden ⟨(t - 16) % 4, Nat.mod_lt _ (by decide)⟩

/-- What an LSU code does. -/
inductive LsuKind where
  | load (signed : Bool)
  | store
  | swap
  deriving DecidableEq, Repr

/-- The kind and the size in bytes of an LSU code; others are undefined (05 R232). -/
def lsuKind (code : Nat) : Option (LsuKind × Nat) :=
  match code with
  | 0 => some (.load false, 1)
  | 1 => some (.load false, 2)
  | 2 => some (.load false, 4)
  | 4 => some (.load true, 1)
  | 5 => some (.load true, 2)
  | 8 => some (.store, 1)
  | 9 => some (.store, 2)
  | 10 => some (.store, 4)
  | 16 => some (.swap, 1)
  | _ => none

/-- The parts of an access: one, or two when it crosses a 4-byte boundary (07 R309 to R312). -/
def lsuParts (a n : Nat) : List (Nat × Nat) :=
  if a % 4 + n ≤ 4 then [(a, n)] else [(a, 4 - a % 4), ((a + (4 - a % 4)) % 2 ^ 24, n - (4 - a % 4))]

/-- The byte lies in the thread's DMEM: Warden DMEM on the Warden. -/
def inDmem (t a : Nat) : Bool := region (isWarden t) a == (if isWarden t then Region.wdmem else Region.dmem)

/-- An access wholly within DMEM is short (05 R233, 07 R315). -/
def lsuShort (t a n : Nat) : Bool := (addrs a n).all (inDmem t)

/-- What an LSU operation answers: the chip, q, SPLIT, the exception. -/
structure LsuRes where
  chip : Chip
  q : Nat
  split : Bool
  trap : Option Trap

/-- A protection fault of one part (04 R185 to R188). -/
def permFault (t : Nat) (op : LongOp) (write : Bool) (a n : Nat) : Option Trap :=
  ((addrs a n).find? (fun x => !permitted (if isWarden t then [] else op.windows) op.priv write x)).map (fun x => ⟨5, some x⟩)

/-- One part of a load. -/
def Chip.loadPart (c : Chip) (t : Nat) (op : LongOp) (a n : Nat) : Chip × List Byte × Option Trap :=
  match permFault t op false a n with
  | some e => (c, [], some e)
  | none =>
    match c.readPart (readerOf t) a n with
    | (d, l, none) => (d, l, none)
    | (d, _, some (e, x)) => (d, [], some ⟨e, some x⟩)

/-- One part of a store. A refusal that the written register itself makes becomes the operation's exception. -/
def Chip.storePart (c : Chip) (t : Nat) (op : LongOp) (a : Nat) (bs : List Byte) : Chip × Option Trap :=
  match permFault t op true a bs.length with
  | some e => (c, some e)
  | none =>
    match c.storeAll (writerOf t) (writesAt a bs) with
    | (d, some (k, x)) => (d, storeTrap k x)
    | (d, none) =>
      match (c.thr t).exc, (d.thr t).exc with
      | none, some e => (d.updThr t (fun x => { x with exc := none }), some ⟨e.cause.toNat, e.addr⟩)
      | _, _ => (d, none)

/-- The parts of a load in order; a fault delivers 0x00 in every byte (07 R314). -/
def Chip.loadAll (c : Chip) (t : Nat) (op : LongOp) : List (Nat × Nat) → List Byte → Chip × List Byte × Option Trap
  | [], acc => (c, acc, none)
  | (a, n) :: l, acc =>
    match c.loadPart t op a n with
    | (d, bs, none) => d.loadAll t op l (acc ++ bs)
    | (d, _, some e) => (d, [], some e)

/-- The parts of a store in order; a part that faults leaves the earlier one landed (07 R314). -/
def Chip.storeParts (c : Chip) (t : Nat) (op : LongOp) : List (Nat × Nat) → List Byte → Chip × Option Trap
  | [], _ => (c, none)
  | (a, n) :: l, bs =>
    match c.storePart t op a (bs.take n) with
    | (d, none) => d.storeParts t op l (bs.drop n)
    | (d, some e) => (d, some e)

/-- swap8 (05 R236, R237): DMEM only. -/
def Chip.swapByte (c : Chip) (t : Nat) (op : LongOp) (a : Nat) : LsuRes :=
  match permFault t op true a 1, permFault t op false a 1 with
  | some e, _ => ⟨c, 0, false, some e⟩
  | _, some e => ⟨c, 0, false, some e⟩
  | none, none =>
    if inDmem t a then
      match c.loadPart t op a 1 with
      | (d, bs, none) =>
        let r := d.storePart t op a [BitVec.ofNat 8 op.b.toNat]
        ⟨r.1, leNat bs, false, r.2⟩
      | (d, _, some e) => ⟨d, 0, false, some e⟩
    else ⟨c, 0, false, some ⟨if region (isWarden t) a == .unmapped then 7 else 8, some a⟩⟩

/-- An LSU operation done (05 R232; 07 R309 to R316): `oldq` is what a store leaves in q. -/
def Chip.lsuDo (c : Chip) (t : Nat) (op : LongOp) (oldq : Nat) : LsuRes :=
  let a := op.a.toNat % 2 ^ 24
  match lsuKind op.code with
  | none => ⟨c, oldq, false, some ⟨3, none⟩⟩
  | some (.swap, _) => c.swapByte t op a
  | some (.load signed, n) =>
    if op.strict ∧ a % n ≠ 0 then ⟨c, 0, false, some ⟨6, some a⟩⟩
    else
      let ps := lsuParts a n
      match c.loadAll t op ps [] with
      | (d, bs, none) => ⟨d, if signed then ofSigned 32 (toSigned (8 * n) (leNat bs)) else leNat bs, ps.length == 2, none⟩
      | (d, _, some e) => ⟨d, 0, ps.length == 2, some e⟩
  | some (.store, n) =>
    if op.strict ∧ a % n ≠ 0 then ⟨c, oldq, false, some ⟨6, some a⟩⟩
    else
      let ps := lsuParts a n
      let r := c.storeParts t op ps (leBytes n op.b.toNat)
      ⟨r.1, oldq, ps.length == 2, r.2⟩

/-- What a trigger captures for a short access: as a long one would (05 R208). -/
def Chip.capture (c : Chip) (t u code slot : Nat) : LongOp :=
  let x := c.thr t
  let s := x.unit u
  let k := c.core (coreOf t)
  { code := code, a := s.a, b := s.b, fpmode := x.fpmode.toNat, strict := isWarden t || x.lsuMode.getLsbD 0
    priv := c.isPriv t, windows := (List.range 32).map (fun i => k.csrv (0xD0 + i)), pc := x.pc, slot := slot }

/-- The trigger of an LSU operation: short within DMEM, else long. -/
def lsuOp (t code slot : Nat) (c : Chip) : OpRes :=
  let op := c.capture t uLSU code slot
  match lsuKind code with
  | none => illegalOp c
  | some (_, n) =>
    if lsuShort t (op.a.toNat % 2 ^ 24) n then
      let r := c.lsuDo t op (c.unit t uLSU).q.toNat
      match r.trap with
      | some e => (r.chip, some e)
      | none => (r.chip.finish t uLSU r.q (b2n r.split) false 2, none)
    else (c.startLong t uLSU code slot [], none)

/-- A full undo log: the Warden takes a checkpoint before its next store (08 R364). -/
def Chip.undoRoom (c : Chip) (t : Nat) : Chip := if isWarden t && Nat.ble 1024 c.wdn.undo.length then c.checkpointCycle else c

/-- An LSU row. -/
def lsuRow (t : Thread) (code : Nat) (c : Chip) : Chip := (c.undoRoom t).row t uLSU code (lsuOp t code 0)

/-- LD (05 R232): ld8, ld16, ld32. -/
def execLd (t : Thread) (w : Fin 3) (s : State) : Out := s.lift (lsuRow t w.val)
/-- LD_SIGNED (05 R232): ld8s, ld16s. -/
def execLdSigned (t : Thread) (w : Fin 2) (s : State) : Out := s.lift (lsuRow t (4 + w.val))
/-- ST (05 R232): st8, st16, st32. -/
def execSt (t : Thread) (w : Fin 3) (s : State) : Out := s.lift (lsuRow t (8 + w.val))
/-- SWAP8 (05 R237). -/
def execSwap8 (t : Thread) (s : State) : Out := s.lift (lsuRow t 16)

end Sys2Proof.Machine
end

