-- ==== Sys2Proof/Machine/Ctl.lean ====
section
/-!
DEFINITION. CTL (05 R242 to R246, R266; 07 R319, R343, R344) and the commit of shadows (04 R170 to R176, R201; 00 R19); the
clock modes' steps (04 R177 to R181, R203).
-/
namespace Sys2Proof.Machine

/-! ### Shadows (04 R170 to R173) -/

/-- The bits of a writable CSR socket that exist. -/
def csrMask (s : Nat) : Nat :=
  if s = 0xC1 ∨ s = 0xCC ∨ s = 0xCD then 1
  else if s = 0xC2 then 0xF
  else if s = 0xC3 then 0x3F
  else if s = 0xCB then 0x1F
  else if s = 0xCF then 0x7F
  else if 0xD0 ≤ s ∧ s ≤ 0xEF ∧ s % 4 = 3 then 7
  else if s = 0xF0 then 3
  else 0xFF

/-- A socket of the core whose value a sync commits (04, sync-required sockets). -/
def coreWide (s : Nat) : Bool := (Nat.ble 0xD0 s && Nat.ble s 0xEF) || (Nat.ble 0xF0 s && Nat.ble s 0xF3)

/-- The thread has a pending shadow of a core-wide socket. -/
def ThreadSt.coreShadow (x : ThreadSt) : Bool := x.shadow.any (fun e => coreWide e.1 && e.2.isSome)

/-- A thread-scope value committed. -/
def ThreadSt.putCsr (x : ThreadSt) (s v : Nat) : ThreadSt :=
  match s with
  | 0xC2 => { x with fpmode := BitVec.ofNat 8 v }
  | 0xCC => { x with precise := BitVec.ofNat 8 v }
  | 0xCD => { x with lsuMode := BitVec.ofNat 8 v }
  | 0xCE => { x with handler := BitVec.ofNat 15 (putFld x.handler.toNat 0 8 v) }
  | 0xCF => { x with handler := BitVec.ofNat 15 (putFld x.handler.toNat 8 7 v) }
  | _ => x

/-- A value clamped to a range. -/
def clampN (lo hi v : Nat) : Nat := max lo (min hi v)

/-- A core-scope value as it commits: FMIN, FMAX and THERMLIM are clamped (R157). -/
def csrClamp (s v : Nat) : Nat :=
  if s = 0xF1 ∨ s = 0xF2 then clampN 4 150 v else if s = 0xF3 then clampN 70 120 v else v

/-- The core's floor: FMIN, which above FMAX acts as FMAX (R157). -/
def CoreSt.fmin (k : CoreSt) : Nat := min (k.csrv 0xF1) (k.csrv 0xF2)

/-- The core runs ADAPTIVE. -/
def CoreSt.adaptive (k : CoreSt) : Bool := bit (k.csrv 0xF0) 0

/-- The frequency after a commit of the clock controls (R177, R179): FIXED is 250 MHz; ADAPTIVE takes FMAX, above 250 MHz only
when BOOST_EN is set and the hardware's temperature and margin checks pass, `granted` (log entry 48). -/
def CoreSt.setClock (k : CoreSt) (granted : Bool) : CoreSt :=
  let boost := bit (k.csrv 0xF0) 1 && granted && Nat.blt 125 (k.csrv 0xF2)
  let f := if k.adaptive then max k.fmin (if boost then k.csrv 0xF2 else min 125 (k.csrv 0xF2)) else 125
  { k with boost := k.adaptive && boost }.setCsr 0xF4 f

/-- The clock controls of a core committed. -/
def Chip.clockCommit (c : Chip) (k : Nat) : Chip :=
  let a := c.takeFreeNat
  a.2.updCore k (fun x => x.setClock (bit a.1 0))

/-- All of the thread's pending shadows committed at once (R171, 00 R19). -/
def Chip.commitShadow (c : Chip) (t : Nat) : Chip :=
  let x := c.thr t
  let sh : List (Nat × Nat) := x.shadow.filterMap (fun e => e.2.map (fun b => (e.1, b.toNat)))
  let rg : Writes := x.regShadow.filterMap (fun e => e.2.map (fun b => (e.1, b)))
  let x := sh.foldl (fun (x : ThreadSt) (e : Nat × Nat) => x.putCsr e.1 e.2) x
  let c := c.setThr t { x with shadow := [], regShadow := [] }
  let wide := sh.filter (fun e => coreWide e.1)
  let c := c.updCore (coreOf t) (fun k => wide.foldl (fun (k : CoreSt) (e : Nat × Nat) => k.setCsr e.1 (csrClamp e.1 e.2)) k)
  let c := if wide.any (fun e => Nat.ble 0xF0 e.1 && Nat.ble e.1 0xF2) then c.clockCommit (coreOf t) else c
  c.commitRws rg

/-- sync (R171, R172): at once, or once the core's LSU operations have retired when a core-wide socket is pending. -/
def Chip.syncOp (c : Chip) (t : Nat) : Chip :=
  if (c.thr t).coreShadow then c.updThr t (fun x => { x with hold := .sync }) else c.commitShadow t

/-- CORE_WIDE_COMMIT (R172, R173): every LSU operation of the core has retired; the waiting threads commit in ascending order in
one cycle in which the core issues nothing. -/
def Chip.coreCommit (c : Chip) (k : Nat) : Chip :=
  let ts := (threadsOf k).filter (fun t => (c.thr t).hold == .sync)
  if ts.isEmpty || (threadsOf k).any (fun t => ((c.thr t).unit uLSU).busy.isSome) then c
  else
    let c : Chip := ts.foldl (fun (c : Chip) (t : Nat) => (c.commitShadow t).updThr t (fun x => { x with hold := .none })) c
    c.updCore k (fun x => { x with cyc := x.cyc + 1 })

/-! ### Operations -/

/-- What a CTL operation answers: the chip, the exception, where the thread goes on when it is not the next bundle. -/
structure CtlRes where
  chip : Chip
  trap : Option Trap := none
  target : Option Index := none

/-- A thread halts (05 R246, 04 R201): shadows are discarded, a free NVM interface of its own is released (17 R824). -/
def Chip.haltThread (c : Chip) (t : Nat) : Chip :=
  (c.updThr t (fun x => { x with run := .halted, hold := .none, shadow := [], regShadow := [] })).nvmReleaseThread t

/-- halt: at once, or when the long operations have retired. -/
def Chip.haltOp (c : Chip) (t : Nat) : Chip :=
  if (c.thr t).quiet then c.haltThread t else c.updThr t (fun x => { x with hold := .halt, holdPc := x.pc })

/-- A wait that ends: fl[4:0] holds the sources that were pending; a QUE completion is consumed (05 R244). -/
def Chip.wakeNow (c : Chip) (t m : Nat) : Chip :=
  (c.finish t uCTL 0 (m % 32) false 1).updThr t (fun x => { x with run := .active, queDone := if bit m 2 then false else x.queDone })

/-- wait (05 R244, R266). -/
def Chip.waitOp (c : Chip) (t : Nat) : CtlRes :=
  if (c.thr t).waitmask = 0 then { chip := c, trap := some ⟨3, none⟩ }
  else if c.waitPending t ≠ 0 then { chip := c.wakeNow t (c.waitPending t) }
  else { chip := c.updThr t (fun x => { x with run := .waiting, holdPc := x.pc }) }

/-- spawn (05 R245, R260): the target of the same core, or s0 to s3. -/
def Chip.spawnOp (c : Chip) (t : Nat) (b : Nat) : Chip :=
  let fail := if isWarden t then bit b 18 else false
  let n := if isWarden t then 16 + fld b 16 2 else 8 * coreOf t + fld b 16 3
  if fail || (c.thr n).run != .halted then c.finish t uCTL 0 0x80 true 1
  else
    let c := c.updThr n (fun x => x.start (BitVec.ofNat 15 b) (isWarden t || (bit b 19 && c.isPriv t)))
    c.finish t uCTL 0 0 false 1

/-- The codes of CTL and their form: true for the unary ones. -/
def ctlUnary (code : Nat) : Option Bool :=
  match code with
  | 0x00 => some false
  | 0x01 => some false
  | 0x02 => some true
  | 0x03 => some true
  | 0x04 => some true
  | 0x05 => some true
  | 0x06 => some false
  | 0x08 => some true
  | 0x10 => some true
  | 0x80 => some true
  | 0xFF => some true
  | _ => none

/-- jump (R242), call, ret (R243) and eret (07 R343, R344). -/
def Chip.jumpOp (c : Chip) (t code : Nat) (a b : Nat) : CtlRes :=
  let x := c.thr t
  match code with
  | 0x00 => { chip := c.finish t uCTL 0 0 false 1, target := some (BitVec.ofNat 15 b) }
  | 0x01 =>
    if 8 ≤ x.stack.length then { chip := c, trap := some ⟨9, none⟩ }
    else
      let c := c.setThr t { x with stack := (x.pc + 1, x.priv) :: x.stack }
      { chip := c.finish t uCTL 0 0 false 1, target := some (BitVec.ofNat 15 b) }
  | 0x02 =>
    match x.stack with
    | [] => { chip := c, trap := some ⟨9, none⟩ }
    | e :: l => { chip := (c.setThr t { x with stack := l }).finish t uCTL 0 0 false 1, target := some e.1 }
  | _ =>
    if !c.isPriv t then { chip := c, trap := some ⟨4, none⟩ }
    else if 2 ≤ a % 256 then { chip := c, trap := some ⟨3, none⟩ }
    else
      match x.stack with
      | [] => { chip := c, trap := some ⟨9, none⟩ }
      | e :: l =>
        { chip := (c.setThr t { x with stack := l, priv := e.2 }).finish t uCTL 0 0 false 1
          target := some (e.1 + BitVec.ofNat 15 (a % 256)) }

/-- A CTL operation; the operands are those the trigger captured. -/
def Chip.ctlOp (c : Chip) (t code : Nat) : CtlRes :=
  let s := c.unit t uCTL
  let a := s.a.toNat
  let b := s.b.toNat
  match code with
  | 0x04 => c.waitOp t
  | 0x05 =>
    let n := if a % 256 = 0 then 4 else a % 256
    { chip := (c.finish t uCTL 0 0 false 1).updThr t (fun x => { x with notBefore := (c.core (coreOf t)).cyc + 1 + n }) }
  | 0x06 => { chip := c.spawnOp t b }
  | 0x08 => { chip := (c.finish t uCTL 0 0 false 1).syncOp t }
  | 0x10 =>
    let c := c.finish t uCTL 0 0 false 1
    { chip := if (c.thr t).quiet then c else c.updThr t (fun x => { x with hold := .fence }) }
  | 0x80 => { chip := (c.finish t uCTL 0 0 false 1).haltOp t }
  | 0xFF => { chip := c, trap := some ⟨0x0A, none⟩ }
  | _ => if code < 4 then c.jumpOp t code a b else { chip := c, trap := some ⟨3, none⟩ }

/-- A trap (07 R334, R336, R340): the tag is the ta byte, and the thread resumes at the bundle after it. -/
def Chip.trapNow (c : Chip) (t slot : Nat) : Chip :=
  let x := c.thr t
  c.raise t { cause := 0x0A, fu := unitBase uCTL, tag := BitVec.ofNat 8 (x.unit uCTL).a.toNat, pc := x.pc, slot := slot, resume := x.pc + 1 }

/-- A CTL row: the operation as the whole of a bundle, which the thread leaves behind it. -/
def ctlRow (t : Thread) (code : Nat) (c : Chip) : Chip :=
  let c := c.selectOp t uCTL code
  let r := c.ctlOp t code
  match r.trap with
  | some e => if e.cause = 0x0A then c.trapNow t 0 else c.raiseNow t uCTL 0 e
  | none => r.chip.updThr t (fun x => { x with pc := r.target.getD ((c.thr t).pc + 1) })

/-- JUMP. -/
def execJump (t : Thread) (s : State) : Out := s.lift (ctlRow t 0x00)
/-- CALL. -/
def execCall (t : Thread) (s : State) : Out := s.lift (ctlRow t 0x01)
/-- RET. -/
def execRet (t : Thread) (s : State) : Out := s.lift (ctlRow t 0x02)
/-- ERET. -/
def execEret (t : Thread) (s : State) : Out := s.lift (ctlRow t 0x03)
/-- WAIT. -/
def execWait (t : Thread) (s : State) : Out := s.lift (ctlRow t 0x04)
/-- YIELD. -/
def execYield (t : Thread) (s : State) : Out := s.lift (ctlRow t 0x05)
/-- SPAWN. -/
def execSpawn (t : Thread) (s : State) : Out := s.lift (ctlRow t 0x06)
/-- SYNC. -/
def execSync (t : Thread) (s : State) : Out := s.lift (ctlRow t 0x08)
/-- FENCE. -/
def execFence (t : Thread) (s : State) : Out := s.lift (ctlRow t 0x10)
/-- HALT. -/
def execHalt (t : Thread) (s : State) : Out := s.lift (ctlRow t 0x80)
/-- TRAP. -/
def execTrap (t : Thread) (s : State) : Out := s.lift (ctlRow t 0xFF)
/-- CORE_WIDE_COMMIT. -/
def execCoreWideCommit (k : Fin 2) (s : State) : Out := s.lift (fun c => c.coreCommit k.val)
/-- THREAD_WAKE (05 R244): a waiting thread with a pending source goes on at the bundle after the wait. -/
def execThreadWake (t : Thread) (s : State) : Out :=
  s.lift (fun c => if (c.thr t).run == .waiting && c.waitPending t != 0 && (c.thr t).exc.isNone then c.wakeNow t (c.waitPending t) else c)
/-- DOORBELL_POP (03 R121): a read of the DOORBELL socket; empty reads 0x00 and changes nothing. -/
def execDoorbellPop (t : Thread) (s : State) : Out := s.lift (fun c => c.updThr t (fun x => { x with doorbells := x.doorbells.tail }))

/-! ### Clock modes (R178, R181, R203) -/

/-- THERMAL_PAUSE_STEP: 1 ms in FIXED mode at die temperature `dieC`. -/
def execThermalPauseStep (k : Fin 2) (dieC : Int) (s : State) : Out :=
  s.lift (fun c => c.updCore k.val (fun x =>
    if x.adaptive then x
    else
      let lim : Int := x.csrv 0xF3
      let p := if lim ≤ dieC then min 16 (x.pause + 1) else if dieC ≤ lim - 5 then x.pause - 1 else x.pause
      { x with pause := p }))
/-- ADAPTIVE_FREQ_STEP: 1 ms in ADAPTIVE mode at THERMLIM: 2 MHz down, not below FMIN. -/
def execAdaptiveFreqStep (k : Fin 2) (dieC : Int) (s : State) : Out :=
  s.lift (fun c => c.updCore k.val (fun x =>
    if x.adaptive && decide ((x.csrv 0xF3 : Int) ≤ dieC) then
      let f := max x.fmin (x.csrv 0xF4 - 1)
      { x with boost := x.boost && Nat.blt 125 f }.setCsr 0xF4 f
    else x))
/-- BOOST_STOP: at 70 °C an ADAPTIVE core above 250 MHz leaves boost. -/
def execBoostStop (k : Fin 2) (dieC : Int) (s : State) : Out :=
  s.lift (fun c => c.updCore k.val (fun x =>
    if x.adaptive && decide (70 ≤ dieC) && Nat.blt 125 (x.csrv 0xF4) then { x with boost := false }.setCsr 0xF4 125 else x))
/-- JUNCTION_LIMIT: at 125 °C an ADAPTIVE core falls to FMIN. -/
def execJunctionLimit (k : Fin 2) (dieC : Int) (s : State) : Out :=
  s.lift (fun c => c.updCore k.val (fun x =>
    if x.adaptive && decide (125 ≤ dieC) then { x with boost := false }.setCsr 0xF4 x.fmin else x))

end Sys2Proof.Machine
end

