-- ==== Sys2Proof/Machine/Float.lean ====
section
/-!
DEFINITION. binary16 and binary32 arithmetic of FPH and FPS (05 R226 to R231, 06 R274 to R299). A finite operand is an exact
number m × 2^e; every operation computes exactly and rounds once.
-/
namespace Sys2Proof.Machine

/-- A floating format by its exponent and fraction widths (06 R274). -/
structure Fmt where
  eb : Nat
  fb : Nat
  deriving DecidableEq, Repr

/-- binary16. -/
def Fmt.half : Fmt := ⟨5, 10⟩
/-- binary32. -/
def Fmt.single : Fmt := ⟨8, 23⟩

/-- Exponent bias. -/
def Fmt.bias (f : Fmt) : Nat := 2 ^ (f.eb - 1) - 1
/-- Exponent of the smallest normal number. -/
def Fmt.emin (f : Fmt) : Int := 1 - (f.bias : Int)
/-- Width of an encoding. -/
def Fmt.bits (f : Fmt) : Nat := 1 + f.eb + f.fb
/-- The canonical quiet NaN (06, symbols). -/
def Fmt.qnan (f : Fmt) : Nat := (2 ^ f.eb - 1) * 2 ^ f.fb + 2 ^ (f.fb - 1)
/-- Infinity of a sign. -/
def Fmt.inf (f : Fmt) (neg : Bool) : Nat := b2n neg * 2 ^ (f.eb + f.fb) + (2 ^ f.eb - 1) * 2 ^ f.fb
/-- The largest finite value M of a sign. -/
def Fmt.max (f : Fmt) (neg : Bool) : Nat := f.inf neg - 1
/-- Zero of a sign. -/
def Fmt.zero (f : Fmt) (neg : Bool) : Nat := b2n neg * 2 ^ (f.eb + f.fb)

/-- Rounding modes of FPMODE[1:0] (06 R276). -/
inductive Rm where
  | rne | rtz | rup | rdn
  deriving DecidableEq, Repr

/-- The rounding mode of an FPMODE byte. -/
def Rm.ofMode (m : Nat) : Rm :=
  match m % 4 with
  | 0 => .rne | 1 => .rtz | 2 => .rup | _ => .rdn

/-- The flags of FPFLAGS (04, CSR sockets). -/
structure FFlags where
  nv : Bool := false
  dz : Bool := false
  ovf : Bool := false
  unf : Bool := false
  nx : Bool := false
  idn : Bool := false
  deriving DecidableEq, Repr

/-- Bits [0] NV, [1] DZ, [2] OF, [3] UF, [4] NX, [5] ID. -/
def FFlags.toNat (f : FFlags) : Nat :=
  b2n f.nv + 2 * b2n f.dz + 4 * b2n f.ovf + 8 * b2n f.unf + 16 * b2n f.nx + 32 * b2n f.idn

/-- A result with its flags. -/
structure FRes where
  val : Nat
  fl : FFlags := {}
  deriving DecidableEq, Repr

/-- An unpacked operand. A finite one is (-1)^neg × m × 2^e. -/
inductive FVal where
  | nan (signalling : Bool)
  | inf (neg : Bool)
  | fin (neg : Bool) (m : Nat) (e : Int)
  deriving DecidableEq, Repr

/-- The operand that the bits `x` encode (06 R274, R275). -/
def unpack (f : Fmt) (x : Nat) : FVal :=
  let frac := fld x 0 f.fb
  let ex := fld x f.fb f.eb
  let neg := bit x (f.eb + f.fb)
  if ex = 2 ^ f.eb - 1 then (if frac = 0 then .inf neg else .nan (!bit frac (f.fb - 1)))
  else if ex = 0 then .fin neg frac (f.emin - f.fb)
  else .fin neg (2 ^ f.fb + frac) ((ex : Int) - f.bias - f.fb)

/-- Whether `x` encodes a subnormal. -/
def isSubnormal (f : Fmt) (x : Nat) : Bool := decide (fld x f.fb f.eb = 0) && decide (fld x 0 f.fb ≠ 0)

/-- An operand after DAZ: a subnormal becomes zero of its sign (06 R284); the second part says that it was replaced. -/
def dazIn (f : Fmt) (daz : Bool) (x : Nat) : Nat × Bool :=
  if daz && isSubnormal f x then (f.zero (bit x (f.eb + f.fb)), true) else (x % 2 ^ f.bits, false)

/-- Whether the magnitude q + rem/2^sh (plus a bit of `sticky`) rounds up to q + 1 in mode `rm` (06 R276). -/
def roundsUp (rm : Rm) (neg : Bool) (q rem sh : Nat) (sticky : Bool) : Bool :=
  let inexact := decide (rem ≠ 0) || sticky
  match rm with
  | .rne =>
    let half := 2 ^ (sh - 1)
    decide (sh ≠ 0) && (decide (half < rem) || (decide (rem = half) && (sticky || bit q 0)))
  | .rtz => false
  | .rup => inexact && !neg
  | .rdn => inexact && neg

/-- Magnitude m × 2^e (a little more when `sticky`) rounded to a multiple of 2^g: the multiple and whether it is inexact. A
caller that gives `sticky` has e + 2 ≤ g. -/
def roundTo (rm : Rm) (neg : Bool) (m : Nat) (e : Int) (sticky : Bool) (g : Int) : Nat × Bool :=
  if g ≤ e then (m * 2 ^ (e - g).toNat, sticky)
  else
    let sh := (g - e).toNat
    let q := m / 2 ^ sh
    let rem := m % 2 ^ sh
    (q + b2n (roundsUp rm neg q rem sh sticky), decide (rem ≠ 0) || sticky)

/-- The encoding of magnitude q × 2^g with g at least the exponent of the last subnormal bit and q below 2^(fb + 1). -/
def packFin (f : Fmt) (neg : Bool) (q : Nat) (g : Int) : Nat :=
  if q < 2 ^ f.fb then f.zero neg + q
  else f.zero neg + ((g + f.fb + f.bias).toNat) * 2 ^ f.fb + (q - 2 ^ f.fb)

/-- The result of overflow (06 R279). -/
def overflowVal (f : Fmt) (rm : Rm) (neg : Bool) : Nat :=
  match rm with
  | .rne => f.inf neg
  | .rtz => f.max neg
  | .rup => if neg then f.max true else f.inf false
  | .rdn => if neg then f.inf true else f.max false

/-- A non-zero exact magnitude m × 2^e (a little more when `sticky`) delivered in format `f` (06 R276 to R283, R298). -/
def roundPack (f : Fmt) (rm : Rm) (ftz : Bool) (neg : Bool) (m : Nat) (e : Int) (sticky : Bool) : FRes :=
  let len : Int := (Nat.log2 m : Nat) + 1
  let g := e + len - (f.fb + 1)
  let r := roundTo rm neg m e sticky g
  let q := if r.1 = 2 ^ (f.fb + 1) then 2 ^ f.fb else r.1
  let g' := if r.1 = 2 ^ (f.fb + 1) then g + 1 else g
  -- with an unbounded exponent the rounded value is q × 2^g', q of fb + 1 bits
  if g' + f.fb < f.emin then
    if ftz then ⟨f.zero neg, { unf := true, nx := true }⟩
    else
      let s := roundTo rm neg m e sticky (f.emin - f.fb)
      ⟨packFin f neg s.1 (f.emin - f.fb), { unf := s.2, nx := s.2 }⟩
  else if (f.bias : Int) < g' + f.fb then ⟨overflowVal f rm neg, { ovf := true, nx := true }⟩
  else ⟨packFin f neg q g', { nx := r.2 }⟩

/-- The signed number m × 2^e, exact zero of sign `zneg`. -/
def deliver (f : Fmt) (rm : Rm) (ftz : Bool) (x : Int) (e : Int) (zneg : Bool) : FRes :=
  if x = 0 then ⟨f.zero zneg, {}⟩ else roundPack f rm ftz (decide (x < 0)) x.natAbs e false

/-- A signed mantissa. -/
def sgn (neg : Bool) (m : Nat) : Int := if neg then -(m : Int) else m

/-- The sum of two finite numbers as one mantissa and exponent. -/
def addExact (n1 : Bool) (m1 : Nat) (e1 : Int) (n2 : Bool) (m2 : Nat) (e2 : Int) : Int × Int :=
  let e := if e1 ≤ e2 then e1 else e2
  (sgn n1 m1 * 2 ^ (e1 - e).toNat + sgn n2 m2 * 2 ^ (e2 - e).toNat, e)

/-- NV with the canonical NaN (06 R287, R289). -/
def invalid (f : Fmt) : FRes := ⟨f.qnan, { nv := true }⟩

/-- The sum of two operands (06 R280, R289): `isSig` says that a signalling NaN took part. -/
def fAdd (f : Fmt) (rm : Rm) (ftz : Bool) (a b : FVal) : FRes :=
  match a, b with
  | .nan s, .nan t => ⟨f.qnan, { nv := s || t }⟩
  | .nan s, _ => ⟨f.qnan, { nv := s }⟩
  | _, .nan t => ⟨f.qnan, { nv := t }⟩
  | .inf s, .inf t => if s = t then ⟨f.inf s, {}⟩ else invalid f
  | .inf s, _ => ⟨f.inf s, {}⟩
  | _, .inf t => ⟨f.inf t, {}⟩
  | .fin n1 m1 e1, .fin n2 m2 e2 =>
    let x := addExact n1 m1 e1 n2 m2 e2
    deliver f rm ftz x.1 x.2 (if n1 = n2 ∧ m1 = 0 ∧ m2 = 0 then n1 else decide (rm = .rdn))

/-- The operand with its sign inverted. -/
def FVal.negate : FVal → FVal
  | .nan s => .nan s
  | .inf n => .inf (!n)
  | .fin n m e => .fin (!n) m e

/-- The product of two operands (06 R289). -/
def fMul (f : Fmt) (rm : Rm) (ftz : Bool) (a b : FVal) : FRes :=
  match a, b with
  | .nan s, .nan t => ⟨f.qnan, { nv := s || t }⟩
  | .nan s, _ => ⟨f.qnan, { nv := s }⟩
  | _, .nan t => ⟨f.qnan, { nv := t }⟩
  | .inf s, .inf t => ⟨f.inf (xor s t), {}⟩
  | .inf s, .fin t m _ => if m = 0 then invalid f else ⟨f.inf (xor s t), {}⟩
  | .fin s m _, .inf t => if m = 0 then invalid f else ⟨f.inf (xor s t), {}⟩
  | .fin n1 m1 e1, .fin n2 m2 e2 =>
    deliver f rm ftz (sgn (xor n1 n2) (m1 * m2)) (e1 + e2) (xor n1 n2)

/-- x × y + z with one rounding (05 R227, 06 R280, R289). -/
def fFma (f : Fmt) (rm : Rm) (ftz : Bool) (x y z : FVal) : FRes :=
  let sig := match x with | .nan s => s | _ => false
  let sig := sig || match y with | .nan s => s | _ => false
  let sig := sig || match z with | .nan s => s | _ => false
  let zeroInf := match x, y with
    | .inf _, .fin _ m _ => decide (m = 0)
    | .fin _ m _, .inf _ => decide (m = 0)
    | _, _ => false
  if zeroInf then invalid f
  else
    match x, y, z with
    | .nan _, _, _ => ⟨f.qnan, { nv := sig }⟩
    | _, .nan _, _ => ⟨f.qnan, { nv := sig }⟩
    | _, _, .nan _ => ⟨f.qnan, { nv := sig }⟩
    | .fin n1 m1 e1, .fin n2 m2 e2, z => fAdd f rm ftz (.fin (xor n1 n2) (m1 * m2) (e1 + e2)) z
    | .inf s, .inf t, z => fAdd f rm ftz (.inf (xor s t)) z
    | .inf s, .fin t _ _, z => fAdd f rm ftz (.inf (xor s t)) z
    | .fin s _ _, .inf t, z => fAdd f rm ftz (.inf (xor s t)) z

/-- The quotient of two operands (06 R289, R290). -/
def fDiv (f : Fmt) (rm : Rm) (ftz : Bool) (a b : FVal) : FRes :=
  match a, b with
  | .nan s, .nan t => ⟨f.qnan, { nv := s || t }⟩
  | .nan s, _ => ⟨f.qnan, { nv := s }⟩
  | _, .nan t => ⟨f.qnan, { nv := t }⟩
  | .inf _, .inf _ => invalid f
  | .inf s, .fin t _ _ => ⟨f.inf (xor s t), {}⟩
  | .fin s _ _, .inf t => ⟨f.zero (xor s t), {}⟩
  | .fin n1 m1 e1, .fin n2 m2 e2 =>
    let neg := xor n1 n2
    if m2 = 0 then (if m1 = 0 then invalid f else ⟨f.inf neg, { dz := true }⟩)
    else if m1 = 0 then ⟨f.zero neg, {}⟩
    else
      let k := 2 * f.fb + 4
      let n := m1 * 2 ^ k
      roundPack f rm ftz neg (n / m2) (e1 - e2 - k) (decide (n % m2 ≠ 0))

/-- Integer square root by bits: the largest r with r² ≤ n among those that add bits below `k` to `r`. -/
def isqrt (n : Nat) : Nat → Nat → Nat
  | 0, r => r
  | k + 1, r => if (r + 2 ^ k) * (r + 2 ^ k) ≤ n then isqrt n k (r + 2 ^ k) else isqrt n k r

/-- The square root of an operand (06 R289, R291). -/
def fSqrt (f : Fmt) (rm : Rm) (ftz : Bool) (a : FVal) : FRes :=
  match a with
  | .nan s => ⟨f.qnan, { nv := s }⟩
  | .inf s => if s then invalid f else ⟨f.inf false, {}⟩
  | .fin n m e =>
    if m = 0 then ⟨f.zero n, {}⟩
    else if n then invalid f
    else
      let odd := e % 2 ≠ 0
      let m1 := if odd then 2 * m else m
      let e1 := if odd then e - 1 else e
      let k := f.fb + 3
      let x := m1 * 2 ^ (2 * k)
      let r := isqrt x (2 * f.fb + 6) 0
      roundPack f rm ftz false r (e1 / 2 - k) (decide (r * r ≠ x))

/-- Whether a lies below b, both numbers; −0 equals +0. -/
def fLt (a b : FVal) : Bool :=
  match a, b with
  | .inf s, .inf t => s && !t
  | .inf s, .fin _ _ _ => s
  | .fin _ _ _, .inf t => !t
  | .fin n1 m1 e1, .fin n2 m2 e2 => decide ((addExact n1 m1 e1 (!n2) m2 e2).1 < 0)
  | _, _ => false

/-- q0 of fcmp: [0] LT, [1] EQ, [2] GT, [3] UN (05 R229, 06 R299). -/
def fCmp (a b : FVal) : FRes :=
  match a, b with
  | .nan s, .nan t => ⟨8, { nv := s || t }⟩
  | .nan s, _ => ⟨8, { nv := s }⟩
  | _, .nan t => ⟨8, { nv := t }⟩
  | a, b => ⟨if fLt a b then 1 else if fLt b a then 4 else 2, {}⟩

/-- The sign bit of a number. -/
def FVal.neg : FVal → Bool
  | .nan _ => false
  | .inf n => n
  | .fin n _ _ => n

/-- Minimum or maximum of the encodings x and y (05 R230, 06 R291); −0 lies below +0. -/
def fMinMax (f : Fmt) (wantMax : Bool) (x y : Nat) : FRes :=
  let a := unpack f x
  let b := unpack f y
  match a, b with
  | .nan s, .nan t => ⟨f.qnan, { nv := s || t }⟩
  | .nan s, _ => ⟨y, { nv := s }⟩
  | _, .nan t => ⟨x, { nv := t }⟩
  | a, b =>
    let aLess := fLt a b || (!fLt b a && a.neg && !b.neg)
    ⟨if aLess = wantMax then y else x, {}⟩

/-- A signed integer delivered as a float; zero is +0. -/
def intToFloat (f : Fmt) (rm : Rm) (ftz : Bool) (x : Int) : FRes := deliver f rm ftz x 0 false

/-- A float delivered as an integer between `lo` and `hi` (05 R231, 06 R294). -/
def floatToInt (rm : Rm) (lo hi : Int) (a : FVal) : Int × FFlags :=
  match a with
  | .nan _ => (0, { nv := true })
  | .inf n => (if n then lo else hi, { nv := true })
  | .fin n m e =>
    let r := roundTo rm n m e false 0
    let x := sgn n r.1
    if hi < x then (hi, { nv := true })
    else if x < lo then (lo, { nv := true })
    else (x, { nx := r.2 })

/-- A float delivered in another format. -/
def fConvert (dst : Fmt) (rm : Rm) (ftz : Bool) (a : FVal) : FRes :=
  match a with
  | .nan s => ⟨dst.qnan, { nv := s }⟩
  | .inf n => ⟨dst.inf n, {}⟩
  | .fin n m e => deliver dst rm ftz (sgn n m) e n

/-- Flags with ID added. -/
def FRes.withId (r : FRes) (d : Bool) : FRes := { r with fl := { r.fl with idn := r.fl.idn || d } }

/-- The codes of FPH and FPS (05, table after R228). -/
inductive FpOp where
  | fadd | fsub | fmul | fma | fmin | fmax | fcmp | fdiv | fsqrt | fabs | fneg
  | cvtFI | cvtIF | cvtFU | cvtUF | cvtFF
  deriving DecidableEq, Repr

/-- The operation of a code; 0x04 is defined on FPH alone. -/
def FpOp.ofCode (isH : Bool) : Nat → Option FpOp
  | 0x00 => some .fadd | 0x01 => some .fsub | 0x02 => some .fmul
  | 0x04 => if isH then some .fma else none
  | 0x05 => some .fmin | 0x06 => some .fmax | 0x07 => some .fcmp | 0x08 => some .fdiv
  | 0x10 => some .fsqrt | 0x11 => some .fabs | 0x12 => some .fneg
  | 0x20 => some .cvtFI | 0x21 => some .cvtIF | 0x22 => some .cvtFU | 0x23 => some .cvtUF | 0x24 => some .cvtFF
  | _ => none

/-- The code of an operation. -/
def FpOp.code : FpOp → Nat
  | .fadd => 0x00 | .fsub => 0x01 | .fmul => 0x02 | .fma => 0x04 | .fmin => 0x05 | .fmax => 0x06 | .fcmp => 0x07
  | .fdiv => 0x08 | .fsqrt => 0x10 | .fabs => 0x11 | .fneg => 0x12
  | .cvtFI => 0x20 | .cvtIF => 0x21 | .cvtFU => 0x22 | .cvtUF => 0x23 | .cvtFF => 0x24

/-- Unary operations (05, table after R228). -/
def FpOp.unary : FpOp → Bool
  | .fsqrt | .fabs | .fneg | .cvtFI | .cvtIF | .cvtFU | .cvtUF | .cvtFF => true
  | _ => false

/-- The format of FPH or FPS. -/
def fpFmt (isH : Bool) : Fmt := if isH then .half else .single

/-- An operation of FPH or FPS on the operand registers A and B under FPMODE `mode` (05 R226 to R231, 06 R283 to R297):
the value in the q ports and the flags. -/
def fpRes (isH : Bool) (op : FpOp) (mode a b : Nat) : FRes :=
  let f := fpFmt isH
  let rm := Rm.ofMode mode
  let ftz := bit mode 2
  let daz := bit mode 3
  let ib := if isH then 16 else 32
  let x := dazIn f daz (a % 2 ^ ib)
  let y := dazIn f daz (b % 2 ^ ib)
  let u := unpack f x.1
  let v := unpack f y.1
  let d2 := x.2 || y.2
  match op with
  | .fadd => (fAdd f rm ftz u v).withId d2
  | .fsub => (fAdd f rm ftz u v.negate).withId d2
  | .fmul => (fMul f rm ftz u v).withId d2
  | .fma =>
    let x1 := dazIn f daz (a / 2 ^ 16 % 2 ^ 16)
    (fFma f rm ftz (unpack f x1.1) v u).withId (x1.2 || d2)
  | .fmin => (fMinMax f false x.1 y.1).withId d2
  | .fmax => (fMinMax f true x.1 y.1).withId d2
  | .fcmp => (fCmp u v).withId d2
  | .fdiv => (fDiv f rm ftz u v).withId d2
  | .fsqrt => (fSqrt f rm ftz u).withId x.2
  | .fabs => ⟨a % 2 ^ (ib - 1), {}⟩
  | .fneg => ⟨(a % 2 ^ ib) ^^^ 2 ^ (ib - 1), {}⟩
  | .cvtFI => intToFloat f rm ftz (toSigned ib a)
  | .cvtIF =>
    let r := floatToInt rm (-(2 ^ (ib - 1))) (2 ^ (ib - 1) - 1) u
    FRes.withId ⟨ofSigned ib r.1, r.2⟩ x.2
  | .cvtFU =>
    let r := intToFloat f rm ftz ((a % 2 ^ ib : Nat) : Int)
    -- 06 R294 gives OF in every mode for 0xFFFF, where R279 alone would give it in RNE and RUP (DEDUCED)
    if isH && decide (a % 2 ^ 16 = 0xFFFF) then { r with fl := { r.fl with ovf := true } } else r
  | .cvtUF =>
    let r := floatToInt rm 0 (2 ^ ib - 1) u
    FRes.withId ⟨ofSigned ib r.1, r.2⟩ x.2
  | .cvtFF =>
    if isH then
      let z := dazIn .single daz (a % 2 ^ 32)
      (fConvert .half rm ftz (unpack .single z.1)).withId z.2
    else
      let z := dazIn .half daz (a % 2 ^ 16)
      (fConvert .single rm ftz (unpack .half z.1)).withId z.2

end Sys2Proof.Machine
end

