-- ==== Sys2Proof/Machine/FpUnits.lean ====
section
/-!
DEFINITION. FPH and FPS (05 R226 to R231) and the short operations of CRC (05 R238 to R241).
-/
namespace Sys2Proof.Machine

/-- Flags ORed into a thread's FPFLAGS (05 R226, 04 R158). -/
def Chip.orFp (c : Chip) (t fl : Nat) : Chip := c.updThr t (fun x => { x with fpflags := BitVec.ofNat 8 (x.fpflags.toNat ||| fl) })

/-- The latency of an FPH operation (05, table after R228). -/
def fphLatency (op : FpOp) : Nat := if op = .fdiv ∨ op = .fsqrt then 12 else 4

/-- An FPH operation: short; fdiv and fsqrt hold the divider of the core for 6 cycles (05 R214). -/
def fphOp (t : Nat) (op : FpOp) (c : Chip) : OpRes :=
  let x := c.thr t
  let s := x.unit uFPH
  let r := fpRes true op x.fpmode.toNat s.a.toNat s.b.toNat
  let c := c.finish t uFPH r.val r.fl.toNat (r.fl.nv || r.fl.dz) (fphLatency op)
  let c := c.orFp t r.fl.toNat
  (if op = .fdiv ∨ op = .fsqrt then c.updCore (coreOf t) (fun k => { k with fphFree := k.cyc + 6 }) else c, none)

/-- An FPS operation starts: all are long (05 R228); fdiv and fsqrt hold the divider of the core for 13 cycles. -/
def fpsOp (t : Nat) (op : FpOp) (slot : Nat) (c : Chip) : OpRes :=
  let c := c.startLong t uFPS op.code slot []
  (if op = .fdiv ∨ op = .fsqrt then c.updCore (coreOf t) (fun k => { k with fpsFree := k.cyc + 13 }) else c, none)

/-- A floating row on FPH or FPS. fma exists on FPH alone. -/
def fpRow (t : Thread) (u : FpUnit) (op : FpOp) (c : Chip) : Chip :=
  match u with
  | .fph => c.row t uFPH op.code (fphOp t op)
  | .fps => c.row t uFPS op.code (fpsOp t op 0)

/-- The short CRC operations: the accumulator takes `acc`, and q shows the finished value (05 R238 to R240). -/
def crcLand (t p acc : Nat) (c : Chip) : Chip :=
  (c.updThr t (fun x => { x with crcAcc := BitVec.ofNat 32 acc })).finish t uCRC (crcDone p (acc % 2 ^ 32)) 0 false 1

/-- init, byte and seed of polynomial P; P = 3 is undefined (05 R238). -/
def crcShort (t f p : Nat) (c : Chip) : OpRes :=
  if 2 < p then illegalOp c
  else
    let x := c.thr t
    let s := x.unit uCRC
    match f with
    | 0 => (crcLand t p (crcInit p) c, none)
    | 1 => (crcLand t p (crcByte p x.crcAcc.toNat (BitVec.ofNat 8 s.a.toNat)) c, none)
    | _ => (crcLand t p s.b.toNat c, none)

/-- A block starts (05 R240). -/
def crcBlockOp (t p slot : Nat) (c : Chip) : OpRes :=
  if 2 < p then illegalOp c else (c.startLong t uCRC (8 + p) slot [], none)

/-- A short CRC row. -/
def crcRow (t : Thread) (f : Nat) (p : Fin 3) (c : Chip) : Chip := c.row t uCRC (4 * f + p) (crcShort t f p)

/-- The floating operation of its name on FPH or FPS (05, table after R228). -/
def execFadd (t : Thread) (u : FpUnit) (s : State) : Out := s.lift (fpRow t u .fadd)

/-- The floating operation of its name on FPH or FPS (05, table after R228). -/
def execFsub (t : Thread) (u : FpUnit) (s : State) : Out := s.lift (fpRow t u .fsub)

/-- The floating operation of its name on FPH or FPS (05, table after R228). -/
def execFmul (t : Thread) (u : FpUnit) (s : State) : Out := s.lift (fpRow t u .fmul)

/-- The floating operation of its name on FPH or FPS (05, table after R228). -/
def execFmin (t : Thread) (u : FpUnit) (s : State) : Out := s.lift (fpRow t u .fmin)

/-- The floating operation of its name on FPH or FPS (05, table after R228). -/
def execFmax (t : Thread) (u : FpUnit) (s : State) : Out := s.lift (fpRow t u .fmax)

/-- The floating operation of its name on FPH or FPS (05, table after R228). -/
def execFcmp (t : Thread) (u : FpUnit) (s : State) : Out := s.lift (fpRow t u .fcmp)

/-- The floating operation of its name on FPH or FPS (05, table after R228). -/
def execFdiv (t : Thread) (u : FpUnit) (s : State) : Out := s.lift (fpRow t u .fdiv)

/-- The floating operation of its name on FPH or FPS (05, table after R228). -/
def execFsqrt (t : Thread) (u : FpUnit) (s : State) : Out := s.lift (fpRow t u .fsqrt)

/-- The floating operation of its name on FPH or FPS (05, table after R228). -/
def execFabs (t : Thread) (u : FpUnit) (s : State) : Out := s.lift (fpRow t u .fabs)

/-- The floating operation of its name on FPH or FPS (05, table after R228). -/
def execFneg (t : Thread) (u : FpUnit) (s : State) : Out := s.lift (fpRow t u .fneg)

/-- The floating operation of its name on FPH or FPS (05, table after R228). -/
def execCvtIntToFloat (t : Thread) (u : FpUnit) (s : State) : Out := s.lift (fpRow t u .cvtFI)

/-- The floating operation of its name on FPH or FPS (05, table after R228). -/
def execCvtFloatToInt (t : Thread) (u : FpUnit) (s : State) : Out := s.lift (fpRow t u .cvtIF)

/-- The floating operation of its name on FPH or FPS (05, table after R228). -/
def execCvtUintToFloat (t : Thread) (u : FpUnit) (s : State) : Out := s.lift (fpRow t u .cvtFU)

/-- The floating operation of its name on FPH or FPS (05, table after R228). -/
def execCvtFloatToUint (t : Thread) (u : FpUnit) (s : State) : Out := s.lift (fpRow t u .cvtUF)

/-- The floating operation of its name on FPH or FPS (05, table after R228). -/
def execCvtFormat (t : Thread) (u : FpUnit) (s : State) : Out := s.lift (fpRow t u .cvtFF)

/-- FMA: FPH alone (05 R227). -/
def execFma (t : Thread) (s : State) : Out := s.lift (fpRow t .fph .fma)

/-- CRC_INIT (05 R238). -/
def execCrcInit (t : Thread) (p : Fin 3) (s : State) : Out := s.lift (crcRow t 0 p)

/-- CRC_BYTE (05 R238). -/
def execCrcByte (t : Thread) (p : Fin 3) (s : State) : Out := s.lift (crcRow t 1 p)

/-- CRC_SEED (05 R238). -/
def execCrcSeed (t : Thread) (p : Fin 3) (s : State) : Out := s.lift (crcRow t 3 p)

/-- CRC_BLOCK (05 R240, R241): the operation starts; it is done at LONG_OP_RETIRE. -/
def execCrcBlock (t : Thread) (p : Fin 3) (s : State) : Out := s.lift (fun c => c.row t uCRC (8 + p) (crcBlockOp t p 0))

end Sys2Proof.Machine
end

