-- ==== Sys2Proof/Machine/Hif.lean ====
section
/-!
DEFINITION. The host target on SPI and I²C (19 R888 to R904, R928 to R931; 02 R86; 18 R877).
-/
namespace Sys2Proof.Machine

/-- The host as a writer and as a reader through a port, its origin (R889), its Pebble instance (18 R869). -/
def hostWriter (h : HostPort) : Writer := match h with | .spi => .spi | .i2c => .i2c
def hostReader (h : HostPort) : Reader := match h with | .spi => .spi | .i2c => .i2c
def hostOrigin (h : HostPort) : Nat := match h with | .spi => 3 | .i2c => 4
def hostPebble (h : HostPort) : Nat := match h with | .spi => 3 | .i2c => 4

/-- Frames of the port carry a CRC byte or a PEC (R900, R904). -/
def Chip.hostCheck (c : Chip) (h : HostPort) : Bool := match h with | .spi => c.rbit R.HIF_CTRL 0 | .i2c => c.rbit R.HIF_CTRL 1

/-- The target's 7-bit address as its first byte of a frame, with the direction bit (R901). -/
def Chip.i2cByte (c : Chip) (read : Bool) : Byte := BitVec.ofNat 8 (2 * c.rfld R.HIF_I2CADDR 0 7 + b2n read)

/-- The check byte that ends a response: over its bytes on SPI (R900); on I²C over every byte of the message, the addresses and
the bytes `asked` before a repeated start included (R904). -/
def Chip.respond (c : Chip) (h : HostPort) (asked body : List Byte) : Chip :=
  let overs := match h with
    | .spi => body
    | .i2c => (if asked.isEmpty then [] else c.i2cByte false :: asked) ++ c.i2cByte true :: body
  let r := body ++ (if c.hostCheck h then [BitVec.ofNat 8 (crcOf 0 overs)] else [])
  { c with hif := { c.hif with response := r } }

/-- A transaction begins: MISO carries the status of the previous one (R897); the response of the previous one is over. -/
def Chip.hostBegin (c : Chip) (h : HostPort) : Chip :=
  { c with hif := { c.hif with misoStatus := if h = .spi then BitVec.ofNat 8 (c.rd R.HIF_LAST) else c.hif.misoStatus, response := [] } }

/-- The status and the command byte of a transaction that has ended. -/
def Chip.hostEnd (c : Chip) (cmd : Byte) (st : Nat) : Chip := { c.wr R.HIF_LAST st with hif := { c.hif with lastCmd := cmd } }

/-- A length byte of 0 is 256 bytes (R889). -/
def hostLen (b : Nat) : Nat := if b % 256 = 0 then 256 else b % 256

/-- The bytes of a read after its command byte. -/
def readFrame (a len : Nat) : List Byte := 0x03 :: beBytes 3 a ++ [BitVec.ofNat 8 len]

/-- The pending read carried out (R893, R898, R902): on SPI the token and the data, or the token of a fault and the status; on
I²C the status, then the data. -/
def Chip.hostReadDo (c : Chip) : Chip :=
  match c.hif.pendingRead with
  | none => c
  | some (h, a, n) =>
    let rd := hostReader h
    let st := c.readStatus rd a n
    let c := c.readEffects (readerKind rd) a n
    let bs := c.bytesAt rd a n
    let s : Byte := BitVec.ofNat 8 st
    let body := match h with
      | .spi => if st = 0 then 0xA5 :: bs else [0x5A, s]
      | .i2c => s :: bs
    let c : Chip := { c.hostEnd 3 st with hif := { (c.hostEnd 3 st).hif with pendingRead := none } }
    c.respond h (readFrame a n) body

/-- A transaction on port `h` takes its turn: a read that waits on the other port came first (R895); one on the same port has
been cut short by the host. -/
def Chip.hostTurn (c : Chip) (h : HostPort) : Chip :=
  match c.hif.pendingRead with
  | some (p, _, _) => if p = h then { c with hif := { c.hif with pendingRead := none } } else c.hostReadDo
  | none => c

/-- A transaction on port `h` with command byte `cmd`: bank A must be good (02 R88); a wrong CRC or PEC, then a wrong length, end
it with nothing applied (R894); a good one goes on as `f`. CRC and PEC are checked only when enabled. -/
def Chip.hostDo (c : Chip) (h : HostPort) (cmd : Byte) (k : FrameCheck) (f : Chip → Chip) : Chip :=
  if !c.bankGood 0 then c
  else
    let c := (c.hostTurn h).hostBegin h
    match k with
    | .badCrc => if c.hostCheck h then c.hostEnd cmd 6 else f c
    | .badLength => c.hostEnd cmd 8
    | .ok => f c

/-- A write or an order as the layer above Pebble sees it, from the command byte on (R888 to R891, R894). -/
def Chip.hostApply (c : Chip) (h : HostPort) (bs : List Byte) : Chip :=
  let n (i k : Nat) : Nat := beNat ((bs.drop i).take k)
  let cmd := bs.headD 0
  match cmd.toNat with
  | 0x02 =>
    if bs.length < 6 ∨ bs.length - 5 ≠ hostLen (n 4 1) then c.hostEnd cmd 8
    else
      let d := c.registerWrite (hostWriter h) (n 1 3) (bs.drop 5)
      { d with hif := { d.hif with lastCmd := cmd } }
  | 0x40 =>
    if bs.length ≠ 12 then c.hostEnd cmd 8
    else
      let o := hostOrigin h
      (c.submit { origin := o, seq := n 1 2, ap := n 8 1, value := n 9 2, options := n 11 1, reply := .hostFifo (BitVec.ofNat 8 o) } (n 3 1) (n 4 4)).hostEnd cmd 0
  | 0x03 => c.hostEnd cmd 8
  | 0x0B => c.hostEnd cmd 8
  | _ => c.hostEnd cmd 7

/-- What Pebble lets through of a write or an order (18 R877); one that it drops or holds reaches nothing (log entry 50). -/
def Chip.hostPass (c : Chip) (h : HostPort) (bs : List Byte) : Chip :=
  let r := c.pebble (hostPebble h) true (.host bs)
  r.2.foldl (fun (c : Chip) (x : PebItem) => match x with | .host b => c.hostApply h b | .link _ _ => c) r.1

/-- A write's bytes from the command byte on. -/
def writeFrame (a : Nat) (data : List Byte) : List Byte := 0x02 :: beBytes 3 a ++ BitVec.ofNat 8 data.length :: data

/-- An order's bytes from the command byte on (R888, R889). -/
def orderFrame (o : HostOrder) : List Byte :=
  0x40 :: beBytes 2 o.seq.toNat ++ [o.epoch] ++ beBytes 4 o.issue.toNat ++ [o.ap] ++ beBytes 2 o.value.toNat ++ [o.options]

/-- A read's command, address and length have arrived: it waits for its data (R898, R903). A frame with a wrong CRC is answered
with its status on SPI, and not acknowledged on I²C (R904). -/
def Chip.hostRead (c : Chip) (h : HostPort) (a len : Nat) (k : FrameCheck) : Chip :=
  let d := c.hostDo h 3 k (fun c => { c with hif := { c.hif with pendingRead := some (h, a, hostLen len) } })
  if k = .badCrc ∧ h = .spi ∧ c.bankGood 0 = true ∧ c.hostCheck h = true then d.respond h [] [0x5A, 6] else d

/-- The six bytes of a status response (R899), formed before the status command itself counts as the last transaction. -/
def Chip.statusBytes (c : Chip) : List Byte :=
  [BitVec.ofNat 8 (c.rd R.HIF_LAST), c.hif.lastCmd] ++ leBytes 2 c.irq ++
    [BitVec.ofNat 8 c.hif.replies.length, BitVec.ofNat 8 c.hif.outbox.length]

/-- HOST_READ. -/
def execHostRead (h : HostPort) (addr : BitVec 24) (len : BitVec 8) (chk : FrameCheck) (s : State) : Out :=
  s.lift (fun c => c.hostRead h addr.toNat len.toNat chk)
/-- HOST_READ_DATA_READY (R898): the data of the read that waits on the port. -/
def execHostReadDataReady (h : HostPort) (s : State) : Out :=
  s.lift (fun c => match c.hif.pendingRead with | some (p, _, _) => if p = h then c.hostReadDo else c | none => c)
/-- HOST_WRITE. A write of more than 256 bytes, or of none, has no length byte that fits. -/
def execHostWrite (h : HostPort) (addr : BitVec 24) (data : List (BitVec 8)) (chk : FrameCheck) (s : State) : Out :=
  s.lift (fun c => c.hostDo h 2 chk (fun c =>
    if data.length = 0 ∨ 256 < data.length then c.hostEnd 2 8 else c.hostPass h (writeFrame addr.toNat data)))
/-- HOST_STATUS. -/
def execHostStatus (h : HostPort) (chk : FrameCheck) (s : State) : Out :=
  s.lift (fun c => c.hostDo h 0x0B chk (fun c => (c.respond h [] c.statusBytes).hostEnd 0x0B 0))
/-- HOST_SEQUENCED_ORDER. -/
def execHostSequencedOrder (h : HostPort) (o : HostOrder) (chk : FrameCheck) (s : State) : Out :=
  s.lift (fun c => c.hostDo h 0x40 chk (fun c => c.hostPass h (orderFrame o)))
/-- HOST_BAD_COMMAND: a command byte other than the four (R888). -/
def execHostBadCommand (h : HostPort) (cmd : BitVec 8) (s : State) : Out :=
  s.lift (fun c => if cmd = 2 ∨ cmd = 3 ∨ cmd = 0x0B ∨ cmd = 0x40 then c else c.hostDo h cmd .ok (fun c => c.hostEnd cmd 7))

/-- A transaction in progress is cut off (02 R86, R88): nothing is applied, the abort is counted. -/
def Chip.hostAbort (c : Chip) (h : HostPort) : Chip :=
  let c : Chip := match c.hif.pendingRead with
    | some (p, _, _) => if p = h then { c with hif := { c.hif with pendingRead := none } } else c
    | none => c
  { c.wr R.HIF_LAST 9 with hif := { c.hif with aborts := c.hif.aborts + 1, response := [] } }

/-- HOST_SPI_ABORT. -/
def execHostSpiAbort (s : State) : Out := s.lift (fun c => if c.bankGood 0 then c.hostAbort .spi else c)
/-- HOST_I2C_TIMEOUT: only with HIF_CTRL.SMBTO set. -/
def execHostI2cTimeout (s : State) : Out := s.lift (fun c => if c.bankGood 0 && c.rbit R.HIF_CTRL 2 then c.hostAbort .i2c else c)
/-- HIF_MBIN_WRITE (R909): the six bytes written at once. -/
def execHifMbinWrite (h : HostPort) (v : BitVec 48) (s : State) : Out :=
  s.lift (fun c => if c.bankGood 0 then c.registerWrite (hostWriter h) 0x80E018 (leBytes 6 v.toNat) else c)

end Sys2Proof.Machine
end

