-- ==== Sys2Proof/Machine/Flags.lean ====
section
/-!
DEFINITION. The integer units' results and flags (05 R205 to R225, 06 R270 to R273): every operation computes on exact
integers and narrows at the end.
-/
namespace Sys2Proof.Machine

/-- Width in bits of width code W: 8, 16 or 32 (05 R205). -/
def bitsOf (w : Nat) : Nat := 8 * 2 ^ w

/-- A result of an integer unit: the delivered value and fl. -/
structure IRes where
  val : Nat
  fl : Nat
  deriving DecidableEq, Repr

/-- fl of the integer units (05 R207): Z and N from a result of `n` bits, then C, V and S. -/
def intFlags (n r : Nat) (c v s : Bool) : Nat :=
  b2n (r == 0) + 2 * b2n (bit r (n - 1)) + 4 * b2n c + 8 * b2n v + 16 * b2n s

/-- A result of `n` bits with its flags. -/
def iRes (n r : Nat) (c v s : Bool) : IRes := ⟨r % 2 ^ n, intFlags n (r % 2 ^ n) c v s⟩

/-- Whether the signed number `x` fits `n` bits. -/
def fitsSigned (n : Nat) (x : Int) : Bool := decide (-(2 ^ (n - 1) : Int) ≤ x) && decide (x < 2 ^ (n - 1))

/-- `x` clamped to the signed range of `n` bits (06 R271). -/
def clampSigned (n : Nat) (x : Int) : Int :=
  if x < -(2 ^ (n - 1) : Int) then -(2 ^ (n - 1) : Int) else if (2 ^ (n - 1) : Int) ≤ x then 2 ^ (n - 1) - 1 else x

/-- The operations of ALU0 and ALU1, in the order of their codes F (05 R216). -/
inductive AluOp where
  | add | adc | sub | sbc | and | or | xor | andn | adds | addus | subs | subus | mins | minu | maxs | maxu
  | not | neg | abss | pass
  deriving DecidableEq, Repr

/-- The operation of code F. -/
def AluOp.ofCode : Nat → Option AluOp
  | 0 => some .add | 1 => some .adc | 2 => some .sub | 3 => some .sbc
  | 4 => some .and | 5 => some .or | 6 => some .xor | 7 => some .andn
  | 8 => some .adds | 9 => some .addus | 10 => some .subs | 11 => some .subus
  | 12 => some .mins | 13 => some .minu | 14 => some .maxs | 15 => some .maxu
  | 16 => some .not | 17 => some .neg | 18 => some .abss | 19 => some .pass
  | _ => none

/-- The code F of an operation. -/
def AluOp.code : AluOp → Nat
  | .add => 0 | .adc => 1 | .sub => 2 | .sbc => 3 | .and => 4 | .or => 5 | .xor => 6 | .andn => 7
  | .adds => 8 | .addus => 9 | .subs => 10 | .subus => 11 | .mins => 12 | .minu => 13 | .maxs => 14 | .maxu => 15
  | .not => 16 | .neg => 17 | .abss => 18 | .pass => 19

/-- Codes 16 to 19 are unary (05 R216). -/
def AluOp.unary : AluOp → Bool
  | .not | .neg | .abss | .pass => true
  | _ => false

/-- A saturating result: the clamped exact value, V equal to S (05 R216, 06 R271). -/
def satRes (n : Nat) (x : Int) : IRes :=
  let s := !fitsSigned n x
  iRes n (ofSigned n (clampSigned n x)) false s s

/-- An ALU operation on operands of `n` bits with carry in `cin` (05 R216, R217). -/
def aluRes (op : AluOp) (n a b : Nat) (cin : Bool) : IRes :=
  let sa := toSigned n a
  let sb := toSigned n b
  let ci := b2n cin
  match op with
  | .add => iRes n (a + b) (decide (2 ^ n ≤ a + b)) (!fitsSigned n (sa + sb)) false
  | .adc => iRes n (a + b + ci) (decide (2 ^ n ≤ a + b + ci)) (!fitsSigned n (sa + sb + ci)) false
  | .sub => iRes n (a + 2 ^ n - b) (decide (a < b)) (!fitsSigned n (sa - sb)) false
  | .sbc => iRes n (a + 2 ^ (n + 1) - b - ci) (decide (a < b + ci)) (!fitsSigned n (sa - sb - ci)) false
  | .and => iRes n (a &&& b) false false false
  | .or => iRes n (a ||| b) false false false
  | .xor => iRes n (a ^^^ b) false false false
  | .andn => iRes n (a &&& (2 ^ n - 1 - b)) false false false
  | .adds => satRes n (sa + sb)
  | .addus =>
    let s := decide (2 ^ n ≤ a + b)
    iRes n (if s then 2 ^ n - 1 else a + b) false s s
  | .subs => satRes n (sa - sb)
  | .subus =>
    let s := decide (a < b)
    iRes n (a - b) false s s
  | .mins => iRes n (if sa ≤ sb then a else b) false false false
  | .minu => iRes n (if a ≤ b then a else b) false false false
  | .maxs => iRes n (if sb ≤ sa then a else b) false false false
  | .maxu => iRes n (if b ≤ a then a else b) false false false
  | .not => iRes n (2 ^ n - 1 - a) false false false
  | .neg => iRes n (2 ^ n - a) (decide (a ≠ 0)) (decide (a = 2 ^ (n - 1))) false
  | .abss => satRes n (if sa < 0 then -sa else sa)
  | .pass => iRes n a false false false

/-- The operations of SHF, in the order of their codes F (05 R218). -/
inductive ShfOp where
  | shl | shr | sar | rol | ror | shls | bswap
  deriving DecidableEq, Repr

/-- The operation of code F. -/
def ShfOp.ofCode : Nat → Option ShfOp
  | 0 => some .shl | 1 => some .shr | 2 => some .sar | 3 => some .rol | 4 => some .ror | 5 => some .shls
  | 6 => some .bswap
  | _ => none

/-- The code F of an operation. -/
def ShfOp.code : ShfOp → Nat
  | .shl => 0 | .shr => 1 | .sar => 2 | .rol => 3 | .ror => 4 | .shls => 5 | .bswap => 6

/-- `a` with its `n / 8` bytes in reverse order. -/
def byteSwap (n a : Nat) : Nat := beNat (leBytes (n / 8) a)

/-- A shift of the `n`-bit value `a` by `k`, 0 to 255 (05 R218, R219). For a rotation by a non-zero multiple of the width no
bit wraps and C is 0 (DEDUCED). -/
def shfRes (op : ShfOp) (n a k : Nat) : IRes :=
  let m := k % n
  match op with
  | .shl =>
    iRes n (if k ≥ n then 0 else a * 2 ^ k) (decide (k ≠ 0) && decide (k ≤ n) && bit a (n - k)) false false
  | .shr =>
    iRes n (if k ≥ n then 0 else a / 2 ^ k) (decide (k ≠ 0) && decide (k ≤ n) && bit a (k - 1)) false false
  | .sar =>
    let sign := bit a (n - 1)
    if k ≥ n then iRes n (if sign then 2 ^ n - 1 else 0) sign false false
    else iRes n (ofSigned n (toSigned n a / 2 ^ k)) (decide (k ≠ 0) && bit a (k - 1)) false false
  | .rol =>
    let r := (a * 2 ^ m + a / 2 ^ (n - m)) % 2 ^ n
    iRes n r (decide (m ≠ 0) && bit r 0) false false
  | .ror =>
    let r := (a / 2 ^ m + a * 2 ^ (n - m)) % 2 ^ n
    iRes n r (decide (m ≠ 0) && bit r (n - 1)) false false
  | .shls => satRes n (toSigned n a * 2 ^ (if k ≥ n then n else k))
  | .bswap => iRes n (byteSwap n a) false false false

/-- The conditions of CMP, by their codes (05 R220). -/
inductive CmpCond where
  | eq | ne | ltu | geu | lts | ges | tst | tstz
  deriving DecidableEq, Repr

/-- The condition of a code. -/
def CmpCond.ofCode : Nat → CmpCond
  | 0 => .eq | 1 => .ne | 2 => .ltu | 3 => .geu | 4 => .lts | 5 => .ges | 6 => .tst | _ => .tstz

/-- The code of a condition. -/
def CmpCond.code : CmpCond → Nat
  | .eq => 0 | .ne => 1 | .ltu => 2 | .geu => 3 | .lts => 4 | .ges => 5 | .tst => 6 | .tstz => 7

/-- Whether the condition holds of `a` and `b` of `n` bits (05 R220). -/
def CmpCond.holds (c : CmpCond) (n a b : Nat) : Bool :=
  match c with
  | .eq => a == b
  | .ne => !(a == b)
  | .ltu => decide (a < b)
  | .geu => decide (b ≤ a)
  | .lts => decide (toSigned n a < toSigned n b)
  | .ges => decide (toSigned n b ≤ toSigned n a)
  | .tst => !(a &&& b == 0)
  | .tstz => a &&& b == 0

/-- fl of a CMP (05 R221). -/
def cmpFlags (n a b : Nat) : Nat :=
  b2n (a == b) + 2 * b2n (decide (toSigned n a < toSigned n b)) + 4 * b2n (decide (a < b))

/-- The operations of MUL, in the order of their codes F (05 R222). -/
inductive MulOp where
  | mulu | muls | mulhu | mulhs | mulq
  deriving DecidableEq, Repr

/-- The operation of code F. -/
def MulOp.ofCode : Nat → Option MulOp
  | 0 => some .mulu | 1 => some .muls | 2 => some .mulhu | 3 => some .mulhs | 4 => some .mulq
  | _ => none

/-- The code F of an operation. -/
def MulOp.code : MulOp → Nat
  | .mulu => 0 | .muls => 1 | .mulhu => 2 | .mulhs => 3 | .mulq => 4

/-- A product of operands of `n` bits (05 R222, R223): mulu and muls deliver twice the width, at most 32 bits. -/
def mulRes (op : MulOp) (n a b : Nat) : IRes :=
  let p := if n = 32 then 32 else 2 * n
  let x := toSigned n a * toSigned n b
  match op with
  | .mulu => iRes p (a * b) false false false
  | .muls => iRes p (ofSigned p x) false false false
  | .mulhu => iRes n (a * b / 2 ^ n) false false false
  | .mulhs => iRes n (ofSigned n (x / 2 ^ n)) false false false
  | .mulq => satRes n ((x + 2 ^ (n - 2)) / 2 ^ (n - 1))

/-- Number of set bits among the `n` low bits. -/
def popcount : Nat → Nat → Nat
  | 0, _ => 0
  | n + 1, a => a % 2 + popcount n (a / 2)

/-- Zeros below the lowest set bit among `n` bits; `n` when none is set. -/
def trailingZeros : Nat → Nat → Nat
  | 0, _ => 0
  | n + 1, a => if a % 2 = 1 then 0 else 1 + trailingZeros n (a / 2)

/-- The `n` low bits of `a` in reverse order. -/
def bitReverse : Nat → Nat → Nat
  | 0, _ => 0
  | n + 1, a => a % 2 * 2 ^ n + bitReverse n (a / 2)

/-- Zeros above the highest set bit among `n` bits; `n` when none is set. -/
def leadingZeros (n a : Nat) : Nat := trailingZeros n (bitReverse n a)

/-- A result of BIT: Z alone (05 R225). -/
def bitRes (r : Nat) : IRes := ⟨r % 2 ^ 32, b2n (r % 2 ^ 32 == 0)⟩

/-- The length that u6 gives: 0, or above 32, acts as 32; cut at bit 31 (05 R224, R225). -/
def fieldLen (pos len : Nat) : Nat :=
  let l := if len = 0 ∨ 32 < len then 32 else len
  if 31 < pos then 0 else if 32 < pos + l then 32 - pos else l

/-- extu (05 R224, R225). -/
def extuRes (a pos len : Nat) : IRes := bitRes (fld a pos (fieldLen pos len))

/-- exts (05 R224, R225): sign-extended from the field's top bit; an empty field extracts as 0. -/
def extsRes (a pos len : Nat) : IRes :=
  let l := fieldLen pos len
  if l = 0 then bitRes 0 else bitRes (ofSigned 32 (toSigned l (fld a pos l)))

/-- ins (05 R224, R225): an empty field leaves A unchanged. -/
def insRes (a b pos len : Nat) : IRes :=
  let l := fieldLen pos len
  if l = 0 then bitRes a else bitRes (putFld a pos l b)

end Sys2Proof.Machine
end

