-- ==== Sys2Proof/Machine/IntUnits.lean ====
section
/-!
DEFINITION. ALU0, ALU1, SHF, CMP, MUL and BIT (05 R216 to R225).
-/
namespace Sys2Proof.Machine

/-- An ALU operation of width code W (05 R216, R217): Cin is C of the unit's last completed operation. -/
def aluOp (t u : Nat) (op : AluOp) (w : Nat) (c : Chip) : OpRes :=
  if 2 < w then illegalOp c
  else
    let s := c.unit t u
    let n := bitsOf w
    let r := aluRes op n (operand s.a n) (operand s.b n) (s.fl.getLsbD 2)
    (c.finish t u r.val r.fl false 1, none)

/-- A SHF operation (05 R218, R219). bswap8 is undefined. -/
def shfOp (t : Nat) (op : ShfOp) (w : Nat) (c : Chip) : OpRes :=
  if 2 < w ∨ (op = .bswap ∧ w = 0) then illegalOp c
  else
    let s := c.unit t uSHF
    let n := bitsOf w
    let r := shfRes op n (operand s.a n) (operand s.b 8)
    (c.finish t uSHF r.val r.fl false 1, none)

/-- A CMP operation into guard `g`, replaced or ANDed (05 R220, R221). -/
def cmpOp (t : Nat) (k : CmpCond) (w g : Nat) (anded : Bool) (c : Chip) : OpRes :=
  if 2 < w then illegalOp c
  else
    let s := c.unit t uCMP
    let n := bitsOf w
    let a := operand s.a n
    let b := operand s.b n
    let h := k.holds n a b
    let c := c.finish t uCMP (b2n h) (cmpFlags n a b) false 1
    let x := c.thr t
    let old := x.guards.getLsbD g
    let v := if anded then old && h else h
    (c.setThr t { x with guards := BitVec.ofNat 4 (putBit x.guards.toNat g v) }, none)

/-- The product that MUL delivers for operands A and B. -/
def mulDone (op : MulOp) (w : Nat) (a b : Word) : IRes := mulRes op (bitsOf w) (operand a (bitsOf w)) (operand b (bitsOf w))

/-- A MUL operation (05 R222, R223): W = 2 is long on the main cores and undefined on the Warden (R260). -/
def mulOp (t : Nat) (op : MulOp) (w slot : Nat) (c : Chip) : OpRes :=
  if 2 < w then illegalOp c
  else if w = 2 then
    (if isWarden t then illegalOp c else (c.startLong t uMUL (4 * op.code + w) slot [], none))
  else
    let s := c.unit t uMUL
    let r := mulDone op w s.a s.b
    (c.finish t uMUL r.val r.fl false (w + 2), none)

/-- The unary counts of BIT and the field operations (05 R224). -/
inductive BitOp where
  | popcnt | clz | ctz | brev | extu | exts | ins
  deriving DecidableEq, Repr

/-- The operation of a BIT code with its width code. -/
def BitOp.ofCode (k : Nat) : Option (BitOp × Nat) :=
  if k = 0x12 then some (.extu, 2) else if k = 0x16 then some (.exts, 2) else if k = 0x1A then some (.ins, 2)
  else if k % 4 = 3 then none
  else
    match k / 4 with
    | 0 => some (.popcnt, k % 4)
    | 1 => some (.clz, k % 4)
    | 2 => some (.ctz, k % 4)
    | 3 => some (.brev, k % 4)
    | _ => none

/-- The code of a BIT operation. -/
def BitOp.code : BitOp → Nat → Nat
  | .popcnt, w => w | .clz, w => 4 + w | .ctz, w => 8 + w | .brev, w => 12 + w
  | .extu, _ => 0x12 | .exts, _ => 0x16 | .ins, _ => 0x1A

/-- The result of a BIT operation (05 R224, R225). -/
def bitOpRes (op : BitOp) (w : Nat) (a b : Word) (pos len : Nat) : IRes :=
  let n := bitsOf w
  match op with
  | .popcnt => bitRes (popcount n (operand a n))
  | .clz => bitRes (leadingZeros n (operand a n))
  | .ctz => bitRes (trailingZeros n (operand a n))
  | .brev => bitRes (bitReverse n (operand a n))
  | .extu => extuRes a.toNat pos len
  | .exts => extsRes a.toNat pos len
  | .ins => insRes a.toNat b.toNat pos len

/-- A BIT operation (05 R224, R225). -/
def bitOp (t : Nat) (op : BitOp) (w : Nat) (c : Chip) : OpRes :=
  if 2 < w then illegalOp c
  else
    let s := c.unit t uBIT
    let r := bitOpRes op w s.a s.b s.u5.toNat s.u6.toNat
    (c.finish t uBIT r.val r.fl false 1, none)

/-- An ALU row. -/
def aluRow (t : Thread) (u : Fin 2) (op : AluOp) (w : Fin 3) (c : Chip) : Chip :=
  c.row t u (4 * op.code + w) (aluOp t u op w)

/-- A SHF row. -/
def shfRow (t : Thread) (op : ShfOp) (w : Fin 3) (c : Chip) : Chip :=
  c.row t uSHF (4 * op.code + w) (shfOp t op w)

/-- A CMP row. -/
def cmpRow (t : Thread) (k : CmpCond) (w : Fin 3) (g : Fin 4) (anded : Bool) (c : Chip) : Chip :=
  c.row t uCMP (w + 4 * k.code + 32 * g + 128 * b2n anded) (cmpOp t k w g anded)

/-- A MUL row. -/
def mulRow (t : Thread) (op : MulOp) (w : Fin 3) (c : Chip) : Chip :=
  c.row t uMUL (4 * op.code + w) (mulOp t op w 0)

/-- A BIT row. -/
def bitRow (t : Thread) (op : BitOp) (w : Fin 3) (c : Chip) : Chip :=
  c.row t uBIT (op.code w) (bitOp t op w)

/-- ADD (05 R216). -/
def execAdd (t : Thread) (u : Fin 2) (w : Fin 3) (s : State) : Out := s.lift (aluRow t u .add w)

/-- ADC (05 R216). -/
def execAdc (t : Thread) (u : Fin 2) (w : Fin 3) (s : State) : Out := s.lift (aluRow t u .adc w)

/-- SUB (05 R216). -/
def execSub (t : Thread) (u : Fin 2) (w : Fin 3) (s : State) : Out := s.lift (aluRow t u .sub w)

/-- SBC (05 R216). -/
def execSbc (t : Thread) (u : Fin 2) (w : Fin 3) (s : State) : Out := s.lift (aluRow t u .sbc w)

/-- AND (05 R216). -/
def execAnd (t : Thread) (u : Fin 2) (w : Fin 3) (s : State) : Out := s.lift (aluRow t u .and w)

/-- OR (05 R216). -/
def execOr (t : Thread) (u : Fin 2) (w : Fin 3) (s : State) : Out := s.lift (aluRow t u .or w)

/-- XOR (05 R216). -/
def execXor (t : Thread) (u : Fin 2) (w : Fin 3) (s : State) : Out := s.lift (aluRow t u .xor w)

/-- ANDN (05 R216). -/
def execAndn (t : Thread) (u : Fin 2) (w : Fin 3) (s : State) : Out := s.lift (aluRow t u .andn w)

/-- ADDS (05 R216). -/
def execAdds (t : Thread) (u : Fin 2) (w : Fin 3) (s : State) : Out := s.lift (aluRow t u .adds w)

/-- ADDUS (05 R216). -/
def execAddus (t : Thread) (u : Fin 2) (w : Fin 3) (s : State) : Out := s.lift (aluRow t u .addus w)

/-- SUBS (05 R216). -/
def execSubs (t : Thread) (u : Fin 2) (w : Fin 3) (s : State) : Out := s.lift (aluRow t u .subs w)

/-- SUBUS (05 R216). -/
def execSubus (t : Thread) (u : Fin 2) (w : Fin 3) (s : State) : Out := s.lift (aluRow t u .subus w)

/-- MINS (05 R216). -/
def execMins (t : Thread) (u : Fin 2) (w : Fin 3) (s : State) : Out := s.lift (aluRow t u .mins w)

/-- MINU (05 R216). -/
def execMinu (t : Thread) (u : Fin 2) (w : Fin 3) (s : State) : Out := s.lift (aluRow t u .minu w)

/-- MAXS (05 R216). -/
def execMaxs (t : Thread) (u : Fin 2) (w : Fin 3) (s : State) : Out := s.lift (aluRow t u .maxs w)

/-- MAXU (05 R216). -/
def execMaxu (t : Thread) (u : Fin 2) (w : Fin 3) (s : State) : Out := s.lift (aluRow t u .maxu w)

/-- NOT (05 R216). -/
def execNot (t : Thread) (u : Fin 2) (w : Fin 3) (s : State) : Out := s.lift (aluRow t u .not w)

/-- NEG (05 R216). -/
def execNeg (t : Thread) (u : Fin 2) (w : Fin 3) (s : State) : Out := s.lift (aluRow t u .neg w)

/-- ABSS (05 R216). -/
def execAbss (t : Thread) (u : Fin 2) (w : Fin 3) (s : State) : Out := s.lift (aluRow t u .abss w)

/-- PASS (05 R216). -/
def execPass (t : Thread) (u : Fin 2) (w : Fin 3) (s : State) : Out := s.lift (aluRow t u .pass w)

/-- SHL (05 R218). -/
def execShl (t : Thread) (w : Fin 3) (s : State) : Out := s.lift (shfRow t .shl w)

/-- SHR (05 R218). -/
def execShr (t : Thread) (w : Fin 3) (s : State) : Out := s.lift (shfRow t .shr w)

/-- SAR (05 R218). -/
def execSar (t : Thread) (w : Fin 3) (s : State) : Out := s.lift (shfRow t .sar w)

/-- ROL (05 R218). -/
def execRol (t : Thread) (w : Fin 3) (s : State) : Out := s.lift (shfRow t .rol w)

/-- ROR (05 R218). -/
def execRor (t : Thread) (w : Fin 3) (s : State) : Out := s.lift (shfRow t .ror w)

/-- SHLS (05 R218). -/
def execShls (t : Thread) (w : Fin 3) (s : State) : Out := s.lift (shfRow t .shls w)

/-- BSWAP (05 R218). -/
def execBswap (t : Thread) (w : Fin 3) (s : State) : Out := s.lift (shfRow t .bswap w)

/-- CMP_EQ (05 R220). -/
def execCmpEq (t : Thread) (w : Fin 3) (g : Fin 4) (anded : Bool) (s : State) : Out :=
  s.lift (cmpRow t .eq w g anded)

/-- CMP_NE (05 R220). -/
def execCmpNe (t : Thread) (w : Fin 3) (g : Fin 4) (anded : Bool) (s : State) : Out :=
  s.lift (cmpRow t .ne w g anded)

/-- CMP_LTU (05 R220). -/
def execCmpLtu (t : Thread) (w : Fin 3) (g : Fin 4) (anded : Bool) (s : State) : Out :=
  s.lift (cmpRow t .ltu w g anded)

/-- CMP_GEU (05 R220). -/
def execCmpGeu (t : Thread) (w : Fin 3) (g : Fin 4) (anded : Bool) (s : State) : Out :=
  s.lift (cmpRow t .geu w g anded)

/-- CMP_LTS (05 R220). -/
def execCmpLts (t : Thread) (w : Fin 3) (g : Fin 4) (anded : Bool) (s : State) : Out :=
  s.lift (cmpRow t .lts w g anded)

/-- CMP_GES (05 R220). -/
def execCmpGes (t : Thread) (w : Fin 3) (g : Fin 4) (anded : Bool) (s : State) : Out :=
  s.lift (cmpRow t .ges w g anded)

/-- CMP_TST (05 R220). -/
def execCmpTst (t : Thread) (w : Fin 3) (g : Fin 4) (anded : Bool) (s : State) : Out :=
  s.lift (cmpRow t .tst w g anded)

/-- CMP_TSTZ (05 R220). -/
def execCmpTstz (t : Thread) (w : Fin 3) (g : Fin 4) (anded : Bool) (s : State) : Out :=
  s.lift (cmpRow t .tstz w g anded)

/-- MULU (05 R222). -/
def execMulu (t : Thread) (w : Fin 3) (s : State) : Out := s.lift (mulRow t .mulu w)

/-- MULS (05 R222). -/
def execMuls (t : Thread) (w : Fin 3) (s : State) : Out := s.lift (mulRow t .muls w)

/-- MULHU (05 R222). -/
def execMulhu (t : Thread) (w : Fin 3) (s : State) : Out := s.lift (mulRow t .mulhu w)

/-- MULHS (05 R222). -/
def execMulhs (t : Thread) (w : Fin 3) (s : State) : Out := s.lift (mulRow t .mulhs w)

/-- MULQ (05 R222). -/
def execMulq (t : Thread) (w : Fin 3) (s : State) : Out := s.lift (mulRow t .mulq w)

/-- POPCNT (05 R224). -/
def execPopcnt (t : Thread) (w : Fin 3) (s : State) : Out := s.lift (bitRow t .popcnt w)

/-- CLZ (05 R224). -/
def execClz (t : Thread) (w : Fin 3) (s : State) : Out := s.lift (bitRow t .clz w)

/-- CTZ (05 R224). -/
def execCtz (t : Thread) (w : Fin 3) (s : State) : Out := s.lift (bitRow t .ctz w)

/-- BREV (05 R224). -/
def execBrev (t : Thread) (w : Fin 3) (s : State) : Out := s.lift (bitRow t .brev w)

/-- EXTU (05 R224, R225). -/
def execExtu (t : Thread) (s : State) : Out := s.lift (bitRow t .extu 2)

/-- EXTS (05 R224, R225). -/
def execExts (t : Thread) (s : State) : Out := s.lift (bitRow t .exts 2)

/-- INS (05 R224, R225). -/
def execIns (t : Thread) (s : State) : Out := s.lift (bitRow t .ins 2)

end Sys2Proof.Machine
end

