-- ==== Sys2Proof/Machine/Tmr.lean ====
section
/-!
DEFINITION. TMR and PHS (05 R247 to R251; 03 R101, R116, R1018).
-/
namespace Sys2Proof.Machine

/-! ### TMR -/

/-- fl of TMR: EXP, and ARMED while a deadline is set (R248). -/
def ThreadSt.tmrFl (x : ThreadSt) : Nat := b2n x.expired + 2 * b2n x.deadline.isSome

/-- A deadline set: one that is not ahead expires at once (R247). -/
def Chip.setDeadline (c : Chip) (t ahead : Nat) : Chip :=
  c.updThr t (fun x =>
    if ahead = 0 then { x with deadline := none, expired := true }
    else { x with deadline := some (c.phw.tick + ahead), expired := false })

/-- Ticks to a target of TICKCNT[31:0], 0 when it is not ahead (R247). -/
def aheadOf (now target : Nat) : Nat := if serialAfter 32 target now then (target + 2 ^ 32 - now % 2 ^ 32) % 2 ^ 32 else 0

/-- A TMR operation. -/
def tmrOp (t code : Nat) (c : Chip) : OpRes :=
  let x := c.thr t
  let b := (x.unit uTMR).b.toNat
  let done (c : Chip) (q : Nat) : OpRes := (c.finish t uTMR q ((c.thr t).tmrFl) false 1, none)
  match code with
  | 0 => done (c.setDeadline t b) 0
  | 1 => done (c.setDeadline t (aheadOf c.phw.tick b)) 0
  | 2 => done (c.updThr t (fun x => { x with deadline := none, expired := false })) 0
  | 4 => done c (c.phw.tick % 2 ^ 32)
  | 8 => done c (match x.deadline with | some d => d - c.phw.tick | none => 0)
  | _ => illegalOp c

/-- TSET. -/
def execTset (t : Thread) (s : State) : Out := s.lift (fun c => c.row t uTMR 0 (tmrOp t 0))
/-- TSETABS. -/
def execTsetabs (t : Thread) (s : State) : Out := s.lift (fun c => c.row t uTMR 1 (tmrOp t 1))
/-- TCANCEL. -/
def execTcancel (t : Thread) (s : State) : Out := s.lift (fun c => c.row t uTMR 2 (tmrOp t 2))
/-- TNOW. -/
def execTnow (t : Thread) (s : State) : Out := s.lift (fun c => c.row t uTMR 4 (tmrOp t 4))
/-- TLEFT. -/
def execTleft (t : Thread) (s : State) : Out := s.lift (fun c => c.row t uTMR 8 (tmrOp t 8))
/-- TMR_EXPIRE (R248). -/
def execTmrExpire (t : Thread) (s : State) : Out :=
  s.lift (fun c => c.updThr t (fun x => if x.deadline.isSome then { x with deadline := none, expired := true } else x))

/-! ### PHS -/

/-- The wheel that a thread's u5 selects (R249). -/
def Chip.phsWheel (c : Chip) (t : Nat) : Nat := (c.unit t uPHS).u5.toNat % 4

/-- mark (R250, 03 R101): refused, rejected, or an edge of its wheel. -/
def Chip.mark (c : Chip) (n angle stamp : Nat) : Chip × Nat :=
  let age := (c.phw.tick + 2 ^ 32 - stamp % 2 ^ 32) % 2 ^ 32
  if c.src n ≠ 3 ∨ !c.loopOn n then (c, 2)
  else if 2 ^ 48 < age * c.freqNom n then (c.inc (R.WHn_REJCNT n), 1)
  else
    let r := c.refEdge n (c.phw.tick - age) angle
    (r.1, if r.2 then 0 else 1)

/-- setphase (03 R1018): the step the shorter way round, due at the next tick; W1 refuses it. -/
def Chip.setPhase (c : Chip) (n angle turn : Nat) : Chip × Nat :=
  if n = 1 then (c, 2)
  else
    let d : Nat := (turn % 2 ^ 16 * 2 ^ 48 + angle % 2 ^ 32 * 2 ^ 16 + 2 ^ 64 - c.phase n) % 2 ^ 64
    let e : Int := if d < 2 ^ 63 then (d : Int) else (d : Int) - (2 ^ 64 : Nat)
    (c.setWheel n { c.wheel n with step := if d = 0 then none else some e }, 0)

/-- arm and disarm (R251, 03 R116): protected as a write of byte 0 of the slot. -/
def Chip.armSlot (c : Chip) (t slot : Nat) (arm : Bool) : OpRes :=
  let a := 0x820000 + 16 * slot
  if !c.mayAccess t true a then (c, some ⟨5, some a⟩)
  else
    let x := c.slotAux slot
    let c :=
      if arm then c.setSlotAux slot { x with commit := some (c.slotByte slot 0 ||| 1, originOf t), disarm := false }
      else c.setSlotAux slot { x with disarm := true }
    (c.finish t uPHS 0 0 false 2, none)

/-- A PHS operation. -/
def phsOp (t code : Nat) (c : Chip) : OpRes :=
  let s := c.unit t uPHS
  let n := c.phsWheel t
  let a := s.a.toNat
  let b := s.b.toNat
  let done (c : Chip) (q : Nat) : OpRes := (c.finish t uPHS q 0 false 2, none)
  match code with
  | 0 => done c (c.phase n / 2 ^ 16 % 2 ^ 32)
  | 1 => done c (c.wheelTurn n + 2 ^ 16 * c.wheelState n)
  | 2 => done (c.updThr t (fun x => { x with tickHi := BitVec.ofNat 32 (c.phw.tick / 2 ^ 32) })) (c.phw.tick % 2 ^ 32)
  | 3 => done c (c.thr t).tickHi.toNat
  | 4 => let r := c.mark n a b; done r.1 r.2
  | 8 => if c.isPriv t then (let r := c.setPhase n a b; done r.1 r.2) else (c, some ⟨4, none⟩)
  | 16 => c.armSlot t (a % 256) true
  | 17 => c.armSlot t (a % 256) false
  | _ => illegalOp c

/-- A PHS row: the Warden has PWR at that base. -/
def Chip.phsRow (c : Chip) (t : Thread) (code : Nat) : Chip := if isWarden t then c else c.row t uPHS code (phsOp t code)

/-- RDPHASE. -/
def execRdphase (t : Thread) (s : State) : Out := s.lift (fun c => c.phsRow t 0)
/-- RDTURN. -/
def execRdturn (t : Thread) (s : State) : Out := s.lift (fun c => c.phsRow t 1)
/-- RDTICK. -/
def execRdtick (t : Thread) (s : State) : Out := s.lift (fun c => c.phsRow t 2)
/-- RDTICKH. -/
def execRdtickh (t : Thread) (s : State) : Out := s.lift (fun c => c.phsRow t 3)
/-- MARK. -/
def execMark (t : Thread) (s : State) : Out := s.lift (fun c => c.phsRow t 4)
/-- SETPHASE. -/
def execSetphase (t : Thread) (s : State) : Out := s.lift (fun c => c.phsRow t 8)
/-- ARM. -/
def execArm (t : Thread) (s : State) : Out := s.lift (fun c => c.phsRow t 16)
/-- DISARM. -/
def execDisarm (t : Thread) (s : State) : Out := s.lift (fun c => c.phsRow t 17)

end Sys2Proof.Machine
end

