-- ==== Sys2Proof/Machine/Que.lean ====
section
/-!
DEFINITION. The long operations of QUE (05 R252 to R254, R267; 14 R663 to R665, R672 to R680), MBX (05 R257 to R260) and RNG
(05 R255, R256; 18 R867): what each does when it retires.
-/
namespace Sys2Proof.Machine

/-- What a long operation leaves when it retires: the chip, q, fl, what source u6 shows, the exception. An exception leaves
q and fl as they were (07 R318). -/
structure Ret where
  chip : Chip
  q : Nat := 0
  fl : Nat := 0
  src6 : Nat := 0
  trap : Option Trap := none

/-! ### QUE -/

/-- Status codes (R254). -/
def quOK : Nat := 0
def quEMPTY : Nat := 1
def quFULL : Nat := 2
def quFROZEN : Nat := 3
def quNOT_OWNER : Nat := 4
def quGAP_HELD : Nat := 5
def quDEFERRED : Nat := 6
def quTOO_LONG : Nat := 7
def quBAD_QUEUE : Nat := 8
def quSTORE_OFF : Nat := 9
def quBAD_ROUND : Nat := 10

/-- A QUE result: status in q0, `len1` in q1, `seq` in q3:q2; FAIL for every status other than OK, DEFER (R253, R254). -/
def queRes (c : Chip) (status len1 seq more src6 : Nat) : Ret :=
  { chip := c, q := status + 256 * (len1 % 256) + 65536 * (seq % 65536)
    fl := b2n (status != 0) + 2 * b2n (status == quDEFERRED) + more, src6 := src6 }

/-- What keeps a thread from an operation on a queue: EN clear, the wrong kind of queue, another owner (R663). -/
def Chip.queStop (c : Chip) (t q : Nat) (kindOk : Bool) : Option Nat :=
  if !c.qEn q || !kindOk then some quBAD_QUEUE else if c.qOwner q ≠ t then some quNOT_OWNER else none

/-- The buffer's fault (R254): past 0xFFFF a bus-error, without permission a protection exception. -/
def bufFault (t : Nat) (op : LongOp) (write : Bool) (len : Nat) : Option Trap :=
  let a := op.a.toNat % 2 ^ 16
  if 2 ^ 16 < a + len then some ⟨8, some (2 ^ 16)⟩ else permFault t op write a len

/-- Queue `q` transmits what it can, when it is outbound. -/
def Chip.queSent (c : Chip) (q : Nat) : Chip := if c.qOut q then c.pump (c.qPort q - 1) pumpFuel else c

/-- The stamp that an enq on queue `q` takes from its group, which it binds (R673); none for a local queue or group 0. The last
part is false for a group bound otherwise. -/
def Chip.groupStamp (c : Chip) (q : Nat) : Chip × Option (Nat × Nat) × Bool :=
  let g := c.qGroup q
  if g = 0 ∨ !c.qOut q then (c, none, true)
  else
    let r := c.grec g
    if r.bound && !(r.send && r.node == c.qNode q) then (c, none, false)
    else
      let s := if r.bound then r.stamp else 0
      (c.setGrec g { node := c.qNode q, send := true, bound := true, stamp := (s + 1) % 2 ^ 16 }, some (g, s), true)

/-- The tag and expiry turn of an output that a round in COMPUTE governs (R685). -/
def Chip.roundTag (c : Chip) (q : Nat) : Option (Nat × Nat) :=
  match c.rndOfOut q with
  | some (r, _) =>
    if c.rd (R.RND_STATE r) = 2 then
      some (c.rd (R.RND_RNUM r), (c.wheelTurn (c.rndWheel r) + max 1 (c.rd (R.RND_DEADLINE r))) % 2 ^ 16)
    else none
  | none => none

/-- A message appended at cell `o` with the next sequence (R664). -/
def Chip.queAppend (c : Chip) (q o : Nat) (data : List Byte) (stamp : Option (Nat × Nat)) : Chip × Nat :=
  let r := c.qrec q
  let tag := c.roundTag q
  let e : WeirEntry := { kind := .data, seq := r.sseq, cell := o, len := data.length, stamp := stamp
                         rtag := tag.map (fun x => x.1), expiry := (tag.map (fun x => x.2)).getD 0 }
  let c := (c.qStore q o data).setEntries q (c.entries q ++ [e])
  let c := c.setQrec q { c.qrec q with sseq := (r.sseq + 1) % 2 ^ 16 }
  (c.qSync q, r.sseq)

/-- enq: of a local or outbound queue (R664). -/
def Chip.enq (c : Chip) (t : Nat) (op : LongOp) : Ret :=
  let q := op.a.toNat / 2 ^ 16 % 2 ^ 14
  let len := op.b.toNat % 256 + 1
  match bufFault t op false len with
  | some e => { chip := c, trap := some e }
  | none =>
    match c.queStop t q (!c.qIn q) with
    | some k => queRes c k 0 0 0 0
    | none =>
      let cls := c.qfld q 84 3
      if c.qFrozen q then queRes c quFROZEN 0 0 0 0
      else if c.grant < cls then queRes (c.inc (R.GOV_DEFCNT cls)) quDEFERRED 0 0 0 0
      else
        match c.qRoom q ((len + 15) / 16) with
        | none => queRes c quFULL 0 0 0 0
        | some o =>
          match c.groupStamp q with
          | (_, _, false) => queRes c quBAD_QUEUE 0 0 0 0
          | (d, st, true) =>
            let r := d.queAppend q o op.data st
            queRes (r.1.queSent q) quOK 0 r.2 0 0

/-- deq and peek: of a local or inbound queue (R664, R665, R675). -/
def Chip.deq (c : Chip) (t : Nat) (op : LongOp) (remove : Bool) : Ret :=
  let q := op.a.toNat / 2 ^ 16 % 2 ^ 14
  let cap := op.b.toNat % 256 + 1
  match bufFault t op true cap with
  | some e => { chip := c, trap := some e }
  | none =>
    match c.queStop t q (!c.qOut q) with
    | some k => queRes c k 0 0 0 0
    | none =>
      if c.qFrozen q then queRes c quFROZEN 0 0 0 0
      else
        match c.entries q with
        | [] => queRes c quEMPTY 0 0 0 0
        | e :: l =>
          match e.kind with
          | .gap reason _ => queRes c quGAP_HELD reason e.seq 0 0
          | _ =>
            let synth := e.kind == .synthetic
            let seq := if synth then 0 else e.seq
            if cap < e.len then queRes c quTOO_LONG (e.len - 1) seq 0 0
            else
              let d : Chip := { c with mem := { c.mem with dmem := Mem.writeN 0 c.mem.dmem (op.a.toNat % 2 ^ 16) (c.qBytes q e) } }
              let d := if remove then (d.setEntries q l).qSync q else d
              queRes d quOK (e.len - 1) seq (4 * b2n synth + 8 * b2n e.rtag.isSome) ((e.rtag.getD 0) % 256)

/-- qfence: it takes a sequence of the outbound queue; on a local queue it is OK at once (R664, R672). -/
def Chip.qfence (c : Chip) (t : Nat) (op : LongOp) : Ret :=
  let q := op.a.toNat / 2 ^ 16 % 2 ^ 14
  match c.queStop t q (!c.qIn q) with
  | some k => queRes c k 0 0 0 0
  | none =>
    let r := c.qrec q
    if c.qLocal q then queRes c quOK 0 0 0 0
    else if 16 ≤ c.weir.fences.length then queRes c quFULL 0 0 0 0
    else
      let others := (c.weir.entries.map (fun e => e.1)).filter (fun p => c.qEn p && c.qOut p && c.qNode p == c.qNode q && p != q)
      let marks := (q, r.sseq) :: others.map (fun p => (p, (c.qrec p).sseq))
      let f : FenceRec := { queue := q, node := c.qNode q, seq := r.sseq, marks := marks }
      let c := c.setEntries q (c.entries q ++ [{ kind := .fence, seq := r.sseq, cell := c.qfld q 33 12 }])
      let c := c.setQrec q { c.qrec q with sseq := (r.sseq + 1) % 2 ^ 16 }
      let c : Chip := { c with weir := { c.weir with fences := c.weir.fences ++ [f] } }
      queRes (c.queSent q) quOK 0 r.sseq 0 0

/-- abandon: the gap marker at the head goes, and its span is passed (R678). -/
def Chip.abandon (c : Chip) (t : Nat) (op : LongOp) : Ret :=
  let q := op.a.toNat / 2 ^ 16 % 2 ^ 14
  match c.queStop t q true with
  | some k => queRes c k 0 0 0 0
  | none =>
    match c.entries q with
    | [] => queRes c quEMPTY 0 0 0 0
    | e :: l =>
      match e.kind with
      | .gap _ span =>
        let next := (e.seq + span) % 2 ^ 16
        let c := c.setEntries q l
        let c := if c.qIn q then c.setQrec q { c.qrec q with sseq := next } else c.setQrec q { c.qrec q with rseq := next }
        let c :=
          if c.qOut q then
            let tx := FMap.get 0 c.weir.txNext q
            { c with weir := { c.weir with skipDue := c.weir.skipDue ++ [(q, e.seq, span, 1)]
                                           txNext := if serialAfter 16 next tx then FMap.set 0 c.weir.txNext q next else c.weir.txNext } }.queSent q
          else c.qSync q
        queRes c quOK 0 span 0 0
      | _ => queRes c quEMPTY 0 0 0 0

/-- freeze and thaw: by OWNER or a privileged thread (R663). -/
def Chip.freezeOp (c : Chip) (t : Nat) (op : LongOp) (on : Bool) : Ret :=
  let q := op.a.toNat / 2 ^ 16 % 2 ^ 14
  if !c.qEn q then queRes c quBAD_QUEUE 0 0 0 0
  else if c.qOwner q ≠ t ∧ !op.priv then queRes c quNOT_OWNER 0 0 0 0
  else
    let c := c.wbit (R.WEI_DESC q) 93 on
    queRes (if on then c else c.queSent q) quOK 0 0 0 0

/-- A QUE operation that retires; with WEI off every one ends with STORE_OFF (R267). -/
def Chip.queDo (c : Chip) (t : Nat) (op : LongOp) : Ret :=
  if !c.domOn dWEI then queRes c quSTORE_OFF 0 0 0 0
  else
    match op.code with
    | 0x00 => c.enq t op
    | 0x01 => c.deq t op true
    | 0x02 => c.deq t op false
    | 0x04 => c.qfence t op
    | 0x05 => c.abandon t op
    | 0x08 => c.freezeOp t op true
    | 0x10 => c.freezeOp t op false
    | _ =>
      let r := c.rndStart (op.a.toNat % 2 ^ 14)
      queRes r.1 (if r.2 then quOK else quBAD_ROUND) 0 0 0 0

/-- The codes of QUE and their form. -/
def queUnary (code : Nat) : Option Bool :=
  match code with
  | 0x00 => some false
  | 0x01 => some false
  | 0x02 => some false
  | 0x04 => some true
  | 0x05 => some true
  | 0x08 => some true
  | 0x10 => some true
  | 0x80 => some true
  | _ => none

/-- A QUE operation starts; enq reads its buffer's bytes (07 R325). -/
def queOp (t code slot : Nat) (c : Chip) : OpRes :=
  let s := c.unit t uQUE
  let data := if code = 0 then (List.range (s.b.toNat % 256 + 1)).map (fun i => FMap.get 0 c.mem.dmem (s.a.toNat % 2 ^ 16 + i)) else []
  if (queUnary code).isNone then illegalOp c else (c.startLong t uQUE code slot data, none)

/-- A QUE row. -/
def queRow (t : Thread) (code : Nat) (c : Chip) : Chip := c.row t uQUE code (queOp t code 0)

/-- ENQ. -/
def execEnq (t : Thread) (s : State) : Out := s.lift (queRow t 0x00)
/-- DEQ. -/
def execDeq (t : Thread) (s : State) : Out := s.lift (queRow t 0x01)
/-- PEEK. -/
def execPeek (t : Thread) (s : State) : Out := s.lift (queRow t 0x02)
/-- QFENCE. -/
def execQfence (t : Thread) (s : State) : Out := s.lift (queRow t 0x04)
/-- ABANDON. -/
def execAbandon (t : Thread) (s : State) : Out := s.lift (queRow t 0x05)
/-- FREEZE. -/
def execFreeze (t : Thread) (s : State) : Out := s.lift (queRow t 0x08)
/-- THAW. -/
def execThaw (t : Thread) (s : State) : Out := s.lift (queRow t 0x10)
/-- ROUND. -/
def execRound (t : Thread) (s : State) : Out := s.lift (queRow t 0x80)

/-! ### MBX -/

/-- The result of a send (R258). -/
def sendRes (c : Chip) (full : Bool) : Ret := { chip := c, q := b2n full, fl := 2 * b2n full }

/-- A message to the host outbox of 8 (R257, 19 R908); one that finds it empty sets source 13. -/
def Chip.sendh (c : Chip) (m : Msg) : Ret :=
  if c.hif.outbox.length < 8 then
    let fresh := c.hif.outbox.isEmpty
    let d : Chip := { c with hif := { c.hif with outbox := c.hif.outbox ++ [m] } }
    sendRes (if fresh then d.route 13 else d) false
  else sendRes c true

/-- A message to an inbox. -/
def Chip.sendTo (c : Chip) (t : Nat) (m : Msg) : Ret :=
  match c.toInbox t m with
  | some d => sendRes d false
  | none => sendRes c true

/-- recv (R258, 08 R387): the oldest message; the Warden takes hardware messages first. -/
def Chip.recv (c : Chip) (t : Nat) : Ret :=
  let got (m : Msg) (d : Chip) : Ret := { chip := d, q := m.payload.toNat, src6 := m.kind.toNat }
  if isWarden t then
    match c.wdn.inboxHw, c.wdn.inboxSw with
    | m :: l, _ => got m { c with wdn := { c.wdn with inboxHw := l } }
    | [], m :: l => got m { c with wdn := { c.wdn with inboxSw := l } }
    | [], [] => { chip := c, fl := 1 }
  else
    match (c.thr t).inbox with
    | m :: l => got m (c.updThr t (fun x => { x with inbox := l }))
    | [] => { chip := c, fl := 1 }

/-- An MBX operation that retires. -/
def Chip.mbxDo (c : Chip) (t : Nat) (op : LongOp) : Ret :=
  let a := op.a.toNat
  match op.code with
  | 0 => c.sendTo 16 ⟨BitVec.ofNat 8 (a % 128), op.b⟩
  | 1 => c.sendh ⟨BitVec.ofNat 8 a, op.b⟩
  | 2 => c.recv t
  | 3 => c.sendTo (a % 16) ⟨BitVec.ofNat 8 (a / 256 % 128), op.b⟩
  | _ =>
    let r := c.request (originOf t) (a % 128) (op.b.toNat % 2 ^ 16) 0 0 (fun _ => .thread t)
    { chip := r.1, q := r.2 }

/-- The codes of MBX of a thread and their form: sendc is the Warden's, in place of sendw (R260). -/
def mbxUnary (warden : Bool) (code : Nat) : Option Bool :=
  match code with
  | 0 => if warden then none else some false
  | 1 => some false
  | 2 => some true
  | 3 => if warden then some false else none
  | 4 => some false
  | _ => none

/-- An MBX operation starts. -/
def mbxOp (t code slot : Nat) (c : Chip) : OpRes :=
  if (mbxUnary (isWarden t) code).isNone then illegalOp c else (c.startLong t uMBX code slot [], none)

/-- An MBX row. -/
def mbxRow (t : Thread) (code : Nat) (c : Chip) : Chip := c.row t uMBX code (mbxOp t code 0)

/-- SENDW. -/
def execSendw (t : Thread) (s : State) : Out := s.lift (mbxRow t 0)
/-- SENDH. -/
def execSendh (t : Thread) (s : State) : Out := s.lift (mbxRow t 1)
/-- RECV. -/
def execRecv (t : Thread) (s : State) : Out := s.lift (mbxRow t 2)
/-- REQ. -/
def execReq (t : Thread) (s : State) : Out := s.lift (mbxRow t 4)
/-- SENDC. -/
def execSendc (t : Thread) (s : State) : Out := s.lift (mbxRow t 3)

/-! ### RNG -/

/-- The guard that an RNG read writes when u5[2] is set (R256). -/
def Chip.rngGuard (c : Chip) (t : Nat) (u5 : Byte) (got : Bool) : Chip :=
  if u5.getLsbD 2 then c.updThr t (fun x => { x with guards := BitVec.ofNat 4 (putBit x.guards.toNat (u5.toNat % 4) got) }) else c

/-- A read that ends without data (R256). -/
def Chip.rngEmpty (c : Chip) (t : Nat) (op : LongOp) : Ret := { chip := c.rngGuard t op.u5 false, fl := 1 }

/-- An RNG read that retires: DRBG bytes; while none are to be had it stalls, unless ENT_RNGTMO is 0 (R255, 18 R867). -/
def Chip.rngDo (c : Chip) (t : Nat) (op : LongOp) : Option Ret :=
  match c.drbgTake (2 ^ op.code) with
  | some (bs, d) => some { chip := d.rngGuard t op.u5 true, q := leNat bs }
  | none => if c.rd R.ENT_RNGTMO = 0 then some (c.rngEmpty t op) else none

/-- An RNG read starts. -/
def rngOp (t code slot : Nat) (c : Chip) : OpRes := if 2 < code then illegalOp c else (c.startLong t uRNG code slot [], none)

/-- RND. -/
def execRnd (t : Thread) (w : Fin 3) (s : State) : Out := s.lift (fun c => c.row t uRNG w.val (rngOp t w.val 0))

end Sys2Proof.Machine
end

