-- ==== Sys2Proof/Machine/Bundle.lean ====
section
/-!
DEFINITION. Bundles (04 R135 to R147, R156, R190): their moves, what is wrong with them, the sockets as sources and as
destinations, and which unit operations they trigger.
-/
namespace Sys2Proof.Machine

/-! ### Decoding (R135 to R137, R142) -/

/-- A move: its slot, guard code, source socket (none for a long immediate, whose value is `imm`) and destination socket. -/
structure Move where
  slot : Nat
  guard : Nat
  src : Option Nat
  imm : Nat
  dst : Nat
  deriving DecidableEq, Repr

/-- The move of slot `i` (R136). -/
def slotMove (w i : Nat) : Move :=
  let m := fld w (20 * i) 20
  ⟨i, fld m 16 4, some (fld m 8 8), 0, fld m 0 8⟩

/-- The long immediate, which occupies slots 1 and 2 (R135). -/
def longMove (w : Nat) : Move := ⟨1, fld w 56 4, none, fld w 24 24, fld w 48 8⟩

/-- The bundle has a long immediate. -/
def isLong (w : Nat) : Bool := bit w 63

/-- The moves of a bundle but the empty slots. -/
def bundleMoves (w : Nat) : List Move :=
  (if isLong w then [slotMove w 0, longMove w] else [slotMove w 0, slotMove w 1, slotMove w 2]).filter (fun m => m.guard != 1)

/-- A reserved bit of the bundle is set (R137). -/
def badHeader (w : Nat) : Bool := fld w 60 2 != 0 || (isLong w && fld w 20 4 != 0)

/-! ### Reserved sockets (R144, R145, R147, R190) -/

/-- A socket reserved in either field for thread `t`. -/
def socketReserved (t s : Nat) : Bool :=
  (Nat.ble 0x24 s && Nat.ble s 0x27) || (Nat.ble 0x30 s && Nat.ble s 0x3F) || s == 0xF7 ||
    (Nat.ble 0x40 s && Nat.ble s 0xBF && !unitPresent t ((s - 0x40) / 8)) || (isWarden t && Nat.ble 0xD0 s)

/-- A destination reserved: the short immediates other than the sink as well. -/
def dstReserved (t s : Nat) : Bool := socketReserved t s || (Nat.ble 0x29 s && Nat.ble s 0x2F)

/-- The unit that a destination triggers. -/
def triggerOf (d : Nat) : Option Nat :=
  if 0x40 ≤ d ∧ d ≤ 0xBF ∧ (d % 8 = 3 ∨ d % 8 = 4) then some ((d - 0x40) / 8) else none

/-- The destinations a move writes: three cells for a long immediate to a cell, none for the sink (R139, R142, R143). -/
def Move.footprint (m : Move) : List Nat :=
  if m.dst = 0x28 then [] else if m.src.isNone ∧ m.dst < 0x20 then [m.dst, m.dst + 1, m.dst + 2] else [m.dst]

/-- Two moves write one destination or trigger one unit (R139). -/
def Move.clashes (m n : Move) : Bool :=
  m.footprint.any (fun d => n.footprint.contains d) || ((triggerOf m.dst).isSome && triggerOf m.dst == triggerOf n.dst)

/-- Sockets that only a privileged thread writes (R156). -/
def privSocket (s : Nat) : Bool := s == 0xC1 || s == 0xCE || s == 0xCF || (Nat.ble 0xD0 s && Nat.ble s 0xEF) || (Nat.ble 0xF0 s && Nat.ble s 0xF3)

/-- The guard holds (R136, guard codes). -/
def guardHolds (g : BitVec 4) (code : Nat) : Bool :=
  if code = 0 then true else if code < 2 ∨ 9 < code then false else (g.getLsbD ((code - 2) / 2)) != (code % 2 == 1)

/-- What is wrong with a move of a bundle: its cause, or none. -/
def Move.wrong (m : Move) (t : Nat) (priv : Bool) (g : BitVec 4) (all : List Move) : Option Nat :=
  if 9 < m.guard then some 1
  else if (match m.src with | some s => socketReserved t s | none => false) || dstReserved t m.dst then some 2
  else if m.src.isNone && (m.dst == 30 || m.dst == 31) then some 1
  else if all.any (fun n => n.slot != m.slot && m.clashes n) then some 1
  else if privSocket m.dst && !priv && guardHolds g m.guard then some 4
  else none

/-- What decoding finds wrong with a bundle: the cause, and the slot of the lowest faulting move (R140, R192). -/
def bundleWrong (w t : Nat) (priv : Bool) (g : BitVec 4) : Option (Nat × Nat) :=
  if badHeader w then some (1, 0)
  else
    let ms := bundleMoves w
    (ms.filterMap (fun m => (m.wrong t priv g ms).map (fun k => (k, m.slot)))).head?

/-- The bundle at the thread's index; on the Warden some indices have none (R300, 08 R394). -/
def Chip.fetch (c : Chip) (t : Nat) : Option Bundle :=
  let pc := (c.thr t).pc
  if !isWarden t then some (FMap.get 0 c.mem.imem pc.toNat)
  else if pc.toNat < 0x1000 then some (FMap.get 0 c.mem.wimem pc.toNat)
  else if 0x7000 ≤ pc.toNat then some (Config.bootRom pc)
  else none

/-! ### Sources (R144, R148, R154, R155, CSR sockets) -/

/-- A CSR value before shadows. -/
def Chip.csrRead (c : Chip) (t s : Nat) : Nat :=
  let x := c.thr t
  let k := c.core (coreOf t)
  match s with
  | 0xC0 => if isWarden t then t - 16 else t
  | 0xC1 => b2n (c.isPriv t)
  | 0xC2 => x.fpmode.toNat
  | 0xC3 => x.fpflags.toNat
  | 0xC4 => x.excPc.toNat % 256
  | 0xC5 => x.excPc.toNat / 256
  | 0xC6 => x.excSlot % 4 + 4 * b2n x.imprecise + 8 * b2n x.prevPriv
  | 0xC7 => x.excCause.toNat
  | 0xC8 => x.excFu.toNat
  | 0xC9 => x.excTag.toNat
  | 0xCA => (x.doorbells.headD 0).toNat
  | 0xCB => x.waitmask.toNat
  | 0xCC => x.precise.toNat
  | 0xCD => if isWarden t then 1 else x.lsuMode.toNat
  | 0xCE => x.handler.toNat % 256
  | 0xCF => x.handler.toNat / 256
  | 0xF5 => k.pause
  | 0xF6 => ((threadsOf (coreOf t)).zipIdx.map (fun e => b2n ((c.thr e.1).run != .halted) * 2 ^ e.2)).sum
  | _ => if s < 0xF6 then k.csrv s else if s = 0xF8 then k.cyc % 256 else fld k.cycLatch (8 * (s - 0xF8)) 8

/-- The byte a source socket shows; a pending shadow of the thread before the committed value (R170). -/
def Chip.srcByte (c : Chip) (t s : Nat) : Nat :=
  let x := c.thr t
  if s < 0x20 then (FMap.get 0 x.cells s).toNat
  else if s < 0x24 then b2n (x.guards.getLsbD (s - 0x20))
  else if s < 0x40 then ([0x00, 0x01, 0x02, 0x04, 0x08, 0x10, 0x80, 0xFF] : List Nat).getD (s - 0x28) 0
  else if s < 0xC0 then
    let u := (s - 0x40) / 8
    let p := x.unit u
    match s % 8 with
    | 4 => if u = uTMR then x.tmrFl else p.fl.toNat
    | 5 => b2n (p.busy.isSome || decide ((c.core (coreOf t)).cyc < p.readyAt)) + 2 * b2n p.err
    | 6 => p.src6.toNat
    | 7 => p.tag.toNat
    | i => fld p.q.toNat (8 * i) 8
  else
    match FMap.get none x.shadow s with
    | some b => b.toNat
    | none => c.csrRead t s

/-- What reading a source does beside delivering its byte: DOORBELL pops, byte 0 of CYCCNT latches. -/
def Chip.srcEffect (c : Chip) (t s : Nat) : Chip :=
  if s = 0xCA then c.updThr t (fun x => { x with doorbells := x.doorbells.tail })
  else if s = 0xF8 ∧ !isWarden t then c.updCore (coreOf t) (fun k => { k with cycLatch := k.cyc % 2 ^ 64 })
  else c

/-- The moves that take place, in slot order, each with its value: every guard and source is read before any write (R138,
R141). -/
def Chip.readMoves (c : Chip) (t : Nat) : List Move → Chip × List (Move × Nat)
  | [] => (c, [])
  | m :: l =>
    if guardHolds (c.thr t).guards m.guard then
      match m.src with
      | some s =>
        let r := (c.srcEffect t s).readMoves t l
        (r.1, (m, c.srcByte t s) :: r.2)
      | none =>
        let r := c.readMoves t l
        (r.1, (m, m.imm) :: r.2)
    else c.readMoves t l

/-! ### Destinations (R138, R142, R144, R148, R152a, R170, R182) -/

/-- A byte written to a unit's port other than a trigger. -/
def UnitSt.put (s : UnitSt) (u p : Nat) (b : Byte) : UnitSt :=
  match p with
  | 0 => { s with op := b }
  | 1 => { s with a := shiftIn s.a b }
  | 2 => { s with b := shiftIn s.b b }
  | 5 => if u = uPHS ∨ u = uRNG ∨ u = uBIT then { s with u5 := b } else s
  | 6 => if u = uBIT then { s with u6 := b } else s
  | _ => s

/-- A byte written to a CSR socket: at once, to the shadow of a sync-required one, or ignored (R152a, R170). PRIV is written
after the triggers. -/
def ThreadSt.csrWrite (x : ThreadSt) (warden : Bool) (s v : Nat) : ThreadSt :=
  if s = 0xC3 then { x with fpflags := BitVec.ofNat 8 (v &&& csrMask s) }
  else if s = 0xCB then { x with waitmask := BitVec.ofNat 8 (v &&& csrMask s) }
  else if s = 0xC2 ∨ s = 0xCC ∨ (s = 0xCD ∧ !warden) ∨ s = 0xCE ∨ s = 0xCF ∨ coreWide s then
    { x with shadow := FMap.set none x.shadow s (some (BitVec.ofNat 8 (v &&& csrMask s))) }
  else x

/-- A byte written to a destination that triggers nothing. -/
def ThreadSt.putByte (x : ThreadSt) (warden : Bool) (d v : Nat) : ThreadSt :=
  if d < 0x20 then { x with cells := FMap.set 0 x.cells d (BitVec.ofNat 8 v) }
  else if d < 0x24 then { x with guards := BitVec.ofNat 4 (putBit x.guards.toNat (d - 0x20) (bit v 0)) }
  else if d < 0x40 then x
  else if d < 0xC0 then
    let u := (d - 0x40) / 8
    x.setUnit u ((x.unit u).put u (d % 8) (BitVec.ofNat 8 v))
  else x.csrWrite warden d v

/-- The non-trigger write of a move (R138, R142). -/
def ThreadSt.land (x : ThreadSt) (warden : Bool) (m : Move) (v : Nat) : ThreadSt :=
  if (triggerOf m.dst).isSome then x
  else if m.src.isSome then x.putByte warden m.dst v
  else if m.dst < 0x20 then ((x.putByte warden m.dst (fld v 0 8)).putByte warden (m.dst + 1) (fld v 8 8)).putByte warden (m.dst + 2) (fld v 16 8)
  else if 0x40 ≤ m.dst ∧ m.dst < 0xC0 ∧ (m.dst % 8 = 1 ∨ m.dst % 8 = 2) then
    ((x.putByte warden m.dst (fld v 16 8)).putByte warden m.dst (fld v 8 8)).putByte warden m.dst (fld v 0 8)
  else x.putByte warden m.dst (fld v 0 8)

/-- The operand write of a trigger: its byte, or the three of a long immediate, shifts into B for t and into A for ta (R142,
R149). -/
def UnitSt.operandIn (s : UnitSt) (m : Move) (v : Nat) : UnitSt :=
  let bs := if m.src.isSome then [fld v 0 8] else [fld v 16 8, fld v 8 8, fld v 0 8]
  bs.foldl (fun (s : UnitSt) (b : Nat) =>
    if m.dst % 8 = 3 then { s with b := shiftIn s.b (BitVec.ofNat 8 b) } else { s with a := shiftIn s.a (BitVec.ofNat 8 b) }) s

/-! ### Triggers (R149, R152) -/

/-- The form of a unit's operation code: none undefined, true unary, false binary (05). -/
def unitForm (t u code : Nat) : Option Bool :=
  if u = uALU0 ∨ u = uALU1 then (if code % 4 = 3 then none else (AluOp.ofCode (code / 4)).map AluOp.unary)
  else if u = uSHF then
    (if code % 4 = 3 then none
     else (ShfOp.ofCode (code / 4)).bind (fun o => if o = .bswap then (if code % 4 = 0 then none else some true) else some false))
  else if u = uCMP then (if code % 4 = 3 then none else some false)
  else if u = uMUL then (if code % 4 = 3 ∨ (code % 4 = 2 ∧ isWarden t) then none else (MulOp.ofCode (code / 4)).map (fun _ => false))
  else if u = uFPH then (FpOp.ofCode true code).map FpOp.unary
  else if u = uFPS then (FpOp.ofCode false code).map FpOp.unary
  else if u = uLSU then (lsuKind code).map (fun k => match k.1 with | .load _ => true | _ => false)
  else if u = uCTL then ctlUnary code
  else if u = uQUE then queUnary code
  else if u = uPHS then
    (if isWarden t then (if code = 0 then some false else if code = 1 ∨ code = 2 ∨ code = 4 then some true else none)
     else if code ≤ 3 ∨ code = 16 ∨ code = 17 then some true else if code = 4 ∨ code = 8 then some false else none)
  else if u = uCRC then (if code % 4 = 3 ∨ 16 ≤ code then none else some (decide (code / 4 < 2)))
  else if u = uRNG then (if code ≤ 2 then some true else none)
  else if u = uMBX then mbxUnary (isWarden t) code
  else if u = uBIT then (BitOp.ofCode code).map (fun o => o.1 != .ins)
  else if code ≤ 1 then some false
  else if code = 2 ∨ code = 4 ∨ code = 8 then some true
  else none

/-- An operation of a unit other than CTL, as the op register selects it. -/
def unitOp (t u code slot : Nat) (c : Chip) : OpRes :=
  let w := code % 4
  if u = uALU0 ∨ u = uALU1 then (match AluOp.ofCode (code / 4) with | some o => aluOp t u o w c | none => illegalOp c)
  else if u = uSHF then (match ShfOp.ofCode (code / 4) with | some o => shfOp t o w c | none => illegalOp c)
  else if u = uCMP then cmpOp t (CmpCond.ofCode (code / 4 % 8)) w (code / 32 % 4) (bit code 7) c
  else if u = uMUL then (match MulOp.ofCode (code / 4) with | some o => mulOp t o w slot c | none => illegalOp c)
  else if u = uFPH then (match FpOp.ofCode true code with | some o => fphOp t o c | none => illegalOp c)
  else if u = uFPS then (match FpOp.ofCode false code with | some o => fpsOp t o slot c | none => illegalOp c)
  else if u = uLSU then lsuOp t code slot c
  else if u = uQUE then queOp t code slot c
  else if u = uPHS then
    (if isWarden t then (match code with | 0 => pcmdOp t c | 1 => plastOp t c | 2 => ppgOp t c | _ => pholdOp t c) else phsOp t code c)
  else if u = uCRC then (if code / 4 = 2 then crcBlockOp t w slot c else crcShort t (code / 4) w c)
  else if u = uRNG then rngOp t code slot c
  else if u = uMBX then mbxOp t code slot c
  else if u = uBIT then (match BitOp.ofCode code with | some o => bitOp t o.1 o.2 c | none => illegalOp c)
  else tmrOp t code c

/-- What the triggers of a bundle answer: the chip, the first exception with its unit and slot, a trap's slot, the target of a
transfer of control. -/
structure TrigRes where
  chip : Chip
  fault : Option (Nat × Nat × Trap) := none
  trapSlot : Option Nat := none
  target : Option Index := none

/-- The trigger of one move: its operand write, the check of the op code's form, the operation (R149, R152). -/
def TrigRes.trigger (r : TrigRes) (t : Nat) (m : Move) (v : Nat) : TrigRes :=
  match r.fault, triggerOf m.dst with
  | none, some u =>
    let c := r.chip.setUnit t u ((r.chip.unit t u).operandIn m v)
    let code := (c.unit t u).op.toNat
    if unitForm t u code ≠ some (m.dst % 8 == 4) then { r with fault := some (u, m.slot, ⟨3, none⟩) }
    else if u = uCTL then
      let k := c.ctlOp t code
      match k.trap with
      | some e => if e.cause = 0x0A then { r with chip := c, trapSlot := some m.slot } else { r with fault := some (u, m.slot, e) }
      | none => { r with chip := k.chip, target := k.target }
    else
      match unitOp t u code m.slot c with
      | (d, none) => { r with chip := d }
      | (d, some e) => { r with chip := r.chip.keepLanded d, fault := some (u, m.slot, e) }
  | _, _ => r

/-- The triggers of a bundle: every unit's but CTL's in slot order, then CTL's, so that fence, halt and wait see the operations
that their own bundle starts. -/
def Chip.triggers (c : Chip) (t : Nat) (ms : List (Move × Nat)) : TrigRes :=
  let ctl (m : Move × Nat) : Bool := triggerOf m.1.dst == some uCTL
  (ms.filter (fun m => !ctl m) ++ ms.filter ctl).foldl (fun (r : TrigRes) (m : Move × Nat) => r.trigger t m.1 m.2) { chip := c }

end Sys2Proof.Machine
end

