-- ==== Sys2Proof/Machine/Issue.lean ====
section
/-!
DEFINITION. The issue unit (04 R138 to R143, R159 to R166, R199, R200; 11 R523), the retirement of long operations (07 R317 to
R321), exception entry (04 R191 to R193; 07 R336 to R342) and the Warden's compared bundles (08 R359 to R367).
-/
namespace Sys2Proof.Machine

/-! ### Readiness (R161) -/

/-- The result of unit `u` will not yet be readable in this cycle. -/
def Chip.resultPending (c : Chip) (t u : Nat) : Bool :=
  let s := c.unit t u
  s.busy.isSome || decide ((c.core (coreOf t)).cyc < s.readyAt)

/-- A move's source is a result that is not yet readable; a false guard changes nothing here (R141). -/
def Chip.sourcePending (c : Chip) (t : Nat) (m : Move) : Bool :=
  match m.src with
  | some s => Nat.ble 0x40 s && Nat.ble s 0xBF && Nat.ble (s % 8) 4 && c.resultPending t ((s - 0x40) / 8)
  | none => false

/-- The op code in force at a trigger of unit `u`: one the bundle itself writes, else the register. -/
def Chip.opAt (c : Chip) (t u : Nat) (ms : List Move) : Nat :=
  match (ms.filter (fun m => m.dst == 0x40 + 8 * u && guardHolds (c.thr t).guards m.guard)).head? with
  | some m => (match m.src with | some s => c.srcByte t s | none => fld m.imm 0 8)
  | none => (c.unit t u).op.toNat

/-- The shared hardware of unit `u` takes no trigger of that operation in this cycle (05 R214; R200): a divider, the CRC block
of the core, the LSU while a core-wide commit waits. -/
def Chip.sharedBusy (c : Chip) (t u code : Nat) : Bool :=
  let k := c.core (coreOf t)
  if u = uFPH then (code == 0x08 || code == 0x10) && decide (k.cyc < k.fphFree)
  else if u = uFPS then (code == 0x08 || code == 0x10) && decide (k.cyc < k.fpsFree)
  else if u = uCRC then code / 4 == 2 && (threadsOf (coreOf t)).any (fun s => s != t && (c.unit s uCRC).busy.isSome)
  else if u = uLSU then (threadsOf (coreOf t)).any (fun s => (c.thr s).hold == .sync)
  else false

/-- A move that takes place triggers a unit that cannot take it. -/
def Chip.triggerPending (c : Chip) (t : Nat) (ms : List Move) (m : Move) : Bool :=
  match triggerOf m.dst with
  | some u => guardHolds (c.thr t).guards m.guard && ((c.unit t u).busy.isSome || c.sharedBusy t u (c.opAt t u ms))
  | none => false

/-- The thread may issue as far as its own state goes. -/
def Chip.mayIssue (c : Chip) (t : Nat) : Bool :=
  let x := c.thr t
  x.run == .active && x.exc.isNone && x.hold == .none && decide (x.notBefore ≤ (c.core (coreOf t)).cyc) && c.mode.loadMain != some t

/-- The thread's next bundle is ready (R161). A bundle that decoding refuses waits for nothing. -/
def Chip.ready (c : Chip) (t : Nat) : Bool :=
  c.mayIssue t &&
    match c.fetch t with
    | none => true
    | some b =>
      let w := b.toNat
      let x := c.thr t
      if (bundleWrong w t (c.isPriv t) x.guards).isSome then true
      else
        let ms := bundleMoves w
        !(ms.any (fun m => c.sourcePending t m || (Nat.ble 2 m.guard && decide ((c.core (coreOf t)).cyc < (c.unit t uCMP).readyAt))
            || c.triggerPending t ms m))

/-- The threads of core `k` in the order in which the issue unit examines them: from the one after the last issued (R159). -/
def Chip.order (c : Chip) (k : Nat) : List Nat :=
  let ts := threadsOf k
  let n := ((c.core k).last + 1) % ts.length
  ts.drop n ++ ts.take n

/-- The core's clock runs and its issue unit works: a main core released and not dozing (R167, 20 R934); the Warden with its
policy running, neither LOST nor rolling back nor before its exercise (08). -/
def Chip.coreRuns (c : Chip) (k : Nat) : Bool :=
  c.mode.power != 1 && c.coreOn k && (k != 2 || (c.wdnState != 2 && !c.wdn.rollback && !c.mode.exDue))

/-- The thread that issues in this cycle. -/
def Chip.nextThread (c : Chip) (k : Nat) : Option Nat := (c.order k).find? (fun t => c.ready t)

/-- A cycle of core `k` passes. -/
def Chip.cycle (c : Chip) (k : Nat) : Chip := c.updCore k (fun x => { x with cyc := x.cyc + 1 })

/-! ### One bundle (R138, R140, R165) -/

/-- The long operations outstanding have been passed by a later bundle (07 R321). -/
def ThreadSt.passLater (x : ThreadSt) : ThreadSt :=
  { x with units := x.units.map (fun e => (e.1, { e.2 with busy := e.2.busy.map (fun o => { o with later := true }) })) }

/-- PRIV cleared by a privileged thread's own write, from the next bundle on, unless the bundle is an exception return (R182). -/
def Chip.privClear (c : Chip) (t : Nat) (ms : List (Move × Nat)) : Chip :=
  let eret := ms.any (fun m => triggerOf m.1.dst == some uCTL) && (c.unit t uCTL).op == 3
  if ms.any (fun m => m.1.dst == 0xC1 && !bit m.2 0) && !isWarden t && !eret then c.updThr t (fun x => { x with priv := false }) else c

/-- A bundle of thread `t` executed: its moves read, the writes in slot order, the triggers, then the next index (R138, R165).
An exception of a short operation suppresses all of it (07 R336) but a trap. -/
def Chip.runBundle (c : Chip) (t w : Nat) : Chip × List (Move × Nat) :=
  match bundleWrong w t (c.isPriv t) (c.thr t).guards with
  | some (k, slot) =>
    let pc := (c.thr t).pc
    (c.raise t { cause := BitVec.ofNat 8 k, pc := pc, slot := slot, resume := pc }, [])
  | none =>
    let r := (c.updThr t ThreadSt.passLater).readMoves t (bundleMoves w)
    let d := r.1.updThr t (fun x => r.2.foldl (fun (x : ThreadSt) (m : Move × Nat) => x.land (isWarden t) m.1 m.2) x)
    let q := d.triggers t r.2
    match q.fault with
    | some (u, slot, e) => ((c.keepLanded q.chip).raiseNow t u slot e, [])
    | none =>
      let d := match q.trapSlot with | some slot => q.chip.trapNow t slot | none => q.chip
      let d := d.privClear t r.2
      let y := bit w 62
      let now := (c.core (coreOf t)).cyc
      (d.updThr t (fun x => { x with pc := q.target.getD ((c.thr t).pc + 1), notBefore := if y then max x.notBefore (now + 5) else x.notBefore }), r.2)

/-- The bundle's outgoing actions on the Warden (08 R359): whether there are any, and whether they hold anything other than PWR
operations and loads (R363). -/
def Chip.outgoing (c : Chip) (t : Nat) (ms : List (Move × Nat)) : Bool × Bool :=
  let us := ms.filterMap (fun m => triggerOf m.1.dst)
  let s := c.unit t uLSU
  let far := us.contains uLSU && (match lsuKind s.op.toNat with | some k => !lsuShort t (s.a.toNat % 2 ^ 24) k.2 | none => false)
  let load := match lsuKind s.op.toNat with | some (.load _, _) => true | _ => false
  (far || us.contains uPHS || us.contains uMBX, us.contains uMBX || (far && !load))

/-- The kind of a suppressed vector (08 R362, R367). -/
def lockKind (k : Lockstep) : Nat := match k with | .mismatch => 1 | .parity => 2 | .rail => 3 | .agree => 0

/-- The bundle of Warden thread `t`: its vector is released when the comparison agrees; a suppressed one rolls both cores back
(08 R360 to R365). -/
def Chip.wardenBundle (c : Chip) (t w : Nat) (k : Lockstep) : Chip :=
  let stores := (bundleMoves w).any (fun m => triggerOf m.dst == some uLSU)
  let c := if stores then c.undoRoom t else c
  let r := c.runBundle t w
  let o := r.1.outgoing t r.2
  if o.1 && k != .agree then (c.cycle 2).wdnMismatch (lockKind k)
  else
    let d := r.1.updCore 2 (fun x => { x with cyc := x.cyc + 1, last := t - 16 })
    if o.2 then d.checkpointCycle else d

/-- The bundle of a main-core thread: it counts as a real one for Millpond (11 R522). -/
def Chip.mainBundle (c : Chip) (t w : Nat) : Chip :=
  let k := coreOf t
  let d := (c.runBundle t w).1.updCore k (fun x => { x with cyc := x.cyc + 1, last := t % 8 })
  d.setMp k { d.mp k with real := (d.mp k).real + 1 }

/-- A bundle that no fetch delivers raises illegal-bundle (08 R394). -/
def Chip.noBundle (c : Chip) (t : Nat) : Chip :=
  let pc := (c.thr t).pc
  (c.raise t { cause := 1, pc := pc, resume := pc }).updCore (coreOf t) (fun x => { x with cyc := x.cyc + 1, last := t - 16 })

/-- One cycle of core `k`: the first ready thread issues its bundle, or the cycle is idle (R159). -/
def Chip.issue (c : Chip) (k : Nat) (l : Lockstep) : Chip :=
  if !c.coreRuns k then c
  else
    match c.nextThread k with
    | none => c.cycle k
    | some t =>
      match c.fetch t with
      | none => c.noBundle t
      | some b => if isWarden t then c.wardenBundle t b.toNat l else c.mainBundle t b.toNat

/-- BUNDLE_ISSUE (R138, R159). -/
def execBundleIssue (k : Fin 3) (l : Lockstep) (s : State) : Out := s.lift (fun c => c.issue k.val l)

/-- An idle cycle of core `k` filled (11 R523 to R525). -/
def Chip.filler (c : Chip) (k : Nat) : Chip :=
  if c.coreRuns k && (c.nextThread k).isNone && c.fillerDue k then
    let c := c.cycle k
    let c := c.wr (R.MP_FILLCNT k) (c.rd (R.MP_FILLCNT k) + 1)
    c.setMp k { c.mp k with filler := (c.mp k).filler + 1 }
  else c

/-- FILLER_ISSUE. -/
def execFillerIssue (k : Fin 2) (s : State) : Out := s.lift (fun c => c.filler k.val)

/-! ### Retirement (07 R317 to R321, R337) -/

/-- The bytes of a CRC block, in ascending order, each with the thread's permissions (05 R241, 07 R328). -/
def Chip.crcRead (c : Chip) (t : Nat) (op : LongOp) : Nat → Nat → List Byte → Chip × List Byte × Option Trap
  | 0, _, acc => (c, acc.reverse, none)
  | n + 1, a, acc =>
    match c.loadPart t op (a % 2 ^ 24) 1 with
    | (d, bs, none) => d.crcRead t op n (a + 1) (bs ++ acc)
    | (d, _, some e) => (d, [], some e)

/-- A CRC block done (05 R240, R241). -/
def Chip.crcDo (c : Chip) (t : Nat) (op : LongOp) : Ret :=
  match c.crcRead t op (op.b.toNat % 2 ^ 16) (op.a.toNat % 2 ^ 24) [] with
  | (d, bs, none) =>
    let p := op.code % 4
    let acc := crcBytes p (d.thr t).crcAcc.toNat bs
    { chip := d.updThr t (fun x => { x with crcAcc := BitVec.ofNat 32 acc }), q := crcDone p (acc % 2 ^ 32) }
  | (d, _, some e) => { chip := d, trap := some e }

/-- An LSU operation done: a faulting load clears q (R318). -/
def Chip.lsuRet (c : Chip) (t : Nat) (op : LongOp) : Ret :=
  let s := c.unit t uLSU
  let r := c.lsuDo t op s.q.toNat
  { chip := r.chip, q := r.q, fl := b2n r.split, trap := r.trap }

/-- An FPS operation done: its flags join FPFLAGS now (04 R158). -/
def Chip.fpsDo (c : Chip) (t : Nat) (op : LongOp) : Ret :=
  match FpOp.ofCode false op.code with
  | some o =>
    let r := fpRes false o op.fpmode op.a.toNat op.b.toNat
    { chip := c.orFp t r.fl.toNat, q := r.val, fl := r.fl.toNat }
  | none => { chip := c, trap := some ⟨3, none⟩ }

/-- A W = 2 product delivered. -/
def Chip.mulDo (c : Chip) (op : LongOp) : Ret :=
  match MulOp.ofCode (op.code / 4) with
  | some o => let r := mulDone o (op.code % 4) op.a op.b; { chip := c, q := r.val, fl := r.fl }
  | none => { chip := c, trap := some ⟨3, none⟩ }

/-- What the operation in progress on unit `u` does when it retires; none while an RNG read stalls. -/
def Chip.longDo (c : Chip) (t u : Nat) (op : LongOp) : Option Ret :=
  if u = uMUL then some (c.mulDo op)
  else if u = uFPS then some (c.fpsDo t op)
  else if u = uLSU then some (c.lsuRet t op)
  else if u = uQUE then some (c.queDo t op)
  else if u = uCRC then some (c.crcDo t op)
  else if u = uRNG then c.rngDo t op
  else some (c.mbxDo t op)

/-- st.ERR after a long operation (05, table after R215). -/
def longErr (u q fl : Nat) : Bool :=
  if u = uFPS then bit fl 0 || bit fl 1
  else if u = uQUE then Nat.ble 2 (q % 256)
  else if u = uRNG then bit fl 0
  else if u = uMBX then bit fl 0 || bit fl 1
  else false

/-- The unit after its long operation has retired: an exception leaves q and fl, but for a load (R318). -/
def UnitSt.retired (s : UnitSt) (u : Nat) (r : Ret) : UnitSt :=
  if r.trap.isSome then
    (if u = uLSU then { s with busy := none, q := BitVec.ofNat 32 r.q } else { s with busy := none })
  else { s with busy := none, q := BitVec.ofNat 32 r.q, fl := BitVec.ofNat 8 r.fl, src6 := BitVec.ofNat 8 r.src6, err := longErr u r.q r.fl }

/-- The checkpoint of a Warden thread holds the same operation as outstanding: it retires there too, so that a rollback does
not repeat it (08 R365). -/
def Chip.retireSaved (c : Chip) (t u : Nat) (op : LongOp) (s : UnitSt) : Chip :=
  if isWarden t then
    let x : ThreadSt := FMap.get {} c.wdn.saved t
    match (x.unit u).busy with
    | some o =>
      if o.tag = op.tag then
        { c with wdn := { c.wdn with saved := FMap.set {} c.wdn.saved t (x.setUnit u { s with op := (x.unit u).op, a := (x.unit u).a, b := (x.unit u).b, u5 := (x.unit u).u5, u6 := (x.unit u).u6 }) } }
      else c
    | none => c
  else c

/-- Where a thread goes on after the exception of a long operation (07 R340). -/
def ThreadSt.resumeAt (x : ThreadSt) : Index := if x.hold == .halt || x.run == .waiting then x.holdPc else x.pc

/-- A fence that is over ends; a halt whose operations have all retired happens, unless one of them raised an exception
(05 R246, 07 R319, R320). -/
def Chip.holdEnds (c : Chip) (t : Nat) : Chip :=
  let x := c.thr t
  if !x.quiet then c
  else if x.hold == .fence then c.setThr t { x with hold := .none }
  else if x.hold == .halt && x.exc.isNone then c.haltThread t
  else c

/-- The operation retires with result `r`. -/
def retireWith (t u : Nat) (op : LongOp) (r : Ret) : Chip :=
  let s := (r.chip.unit t u).retired u r
  let d := (r.chip.setUnit t u s).retireSaved t u op s
  let d := if u = uQUE ∧ r.trap.isNone then d.updThr t (fun x => { x with queDone := true }) else d
  let d :=
    match r.trap with
    | some e =>
      d.raise t { cause := BitVec.ofNat 8 e.cause, fu := unitBase u, tag := op.tag, pc := op.pc, slot := op.slot
                  imprecise := op.later, addr := e.addr, resume := (d.thr t).resumeAt }
    | none => d
  d.holdEnds t

/-- LONG_OP_RETIRE. -/
def Chip.retire (c : Chip) (t u : Nat) : Chip :=
  match (c.unit t u).busy with
  | none => c
  | some op =>
    match c.longDo t u op with
    | none => c
    | some r => retireWith t u op r

/-- LONG_OP_RETIRE (07 R317). -/
def execLongOpRetire (t : Thread) (u : Fin 16) (s : State) : Out := s.lift (fun c => c.retire t.val u.val)

/-- RNG_STALL_TIMEOUT (18 R867): the stalled read ends without data. -/
def execRngStallTimeout (t : Thread) (s : State) : Out :=
  s.lift (fun c =>
    match (c.unit t uRNG).busy with
    | some op => if (c.drbgTake 1).isNone then retireWith t uRNG op (c.rngEmpty t op) else c
    | none => c)

/-! ### Exception entry (04 R191; 07 R333 to R335, R338 to R342) -/

/-- The records of an exception (04 R191 to R193). -/
def ThreadSt.record (x : ThreadSt) (e : Exc) (cause : Byte) : ThreadSt :=
  { x with excPc := e.pc, excSlot := e.slot, imprecise := e.imprecise, prevPriv := x.priv, excCause := cause, excFu := e.fu
           excTag := e.tag }

/-- CORE_EXCADDR of a main-core thread: every entry overwrites it (07 R335); without a faulting address the spec states no value
(log entry 49). -/
def Chip.excAddr (c : Chip) (t : Nat) (addr : Option Nat) : Chip :=
  if isWarden t then c
  else
    match addr with
    | some a => c.wr (R.CORE_EXCADDR (t / 8) (t % 8)) (a % 2 ^ 24)
    | none =>
      let f := c.takeFreeNat
      f.2.wr (R.CORE_EXCADDR (t / 8) (t % 8)) (f.1 % 2 ^ 24)

/-- The entry of the exception pending in thread `t`, once its other long operations have retired: the resume entry is pushed,
the records are written, and the thread continues privileged at HANDLER after one cycle; with a full return stack it halts. -/
def Chip.enter (c : Chip) (t : Nat) : Chip :=
  let x := c.thr t
  match x.exc with
  | none => c
  | some e =>
    if !x.quiet then c
    else
      let c := c.excAddr t e.addr
      if 8 ≤ x.stack.length then
        let c := (c.setThr t { x.record e 9 with exc := none }).haltThread t
        if isWarden t then c else c.event 2 R.CORE_DFAULT (2 ^ t)
      else
        let y := x.record e e.cause
        c.setThr t { y with stack := (e.resume, x.priv) :: x.stack, priv := true, pc := x.handler, run := .active, hold := .none,
                            exc := none, notBefore := (c.core (coreOf t)).cyc + 1 }

/-- EXCEPTION_ENTRY. -/
def execExceptionEntry (t : Thread) (s : State) : Out := s.lift (fun c => c.enter t.val)

end Sys2Proof.Machine
end

