-- ==== Sys2Proof/Machine/Jtag.lean ====
section
/-!
DEFINITION. What Pebble held back and releases (18 R879, R880, R886), and JTAG (19 R925 to R927).
-/
namespace Sys2Proof.Machine

/-- An item that instance `i` releases reaches the layer above, or the line. -/
def Chip.pebOut (c : Chip) (i : Nat) (rx : Bool) (x : PebItem) : Chip :=
  match x with
  | .link f bad =>
    if rx then c.frameItem i (.link f bad) else c.setPort i { c.port i with sent := (f, bad) :: (c.port i).sent }
  | .host b => c.hostApply (if i = 3 then .spi else .i2c) b

/-- The `k`-th of the items that instance `i` holds, oldest first, has waited its time: 10 ms for a reordered one, its delay for a
delayed one. It passes, and counts for those that wait for further frames. -/
def Chip.pebReleaseAt (c : Chip) (i k : Nat) : Chip :=
  match (c.peb.held.filter (fun h => h.inst == i))[k]? with
  | none => c
  | some h =>
    let r := { c with peb := { c.peb with held := c.peb.held.erase h } }.pebPassed i h.rx [h.item]
    r.2.foldl (fun (c : Chip) (x : PebItem) => c.pebOut i h.rx x) r.1

/-- PEBBLE_HELD_RELEASE. -/
def execPebbleHeldRelease (i : Fin 5) (k : Nat) (s : State) : Out := s.lift (fun c => c.pebReleaseAt i.val k)

/-! ### JTAG -/

/-- The identification code (R925). -/
def jtagId : Nat := 0x17608F4B

/-- JTAG listens: it is not locked (R926), and bank C, which it stands on, is good (02 R69). -/
def Chip.jtagOn (c : Chip) : Bool := !c.jtagLocked && c.bankGood 2

/-- An instruction of JTAG. -/
def Chip.jtagDo (c : Chip) (f : JtagSt → JtagSt) : Chip := if c.jtagOn then { c with jtag := f c.jtag } else c

/-- BYPASS with bit `b` shifted in last. -/
def JtagSt.bypassed (j : JtagSt) (b : Bool) : JtagSt := { j with bypass := b, driven := none }

/-- JTAG_BYPASS. -/
def execJtagBypass (tdi : Bool) (s : State) : Out := s.lift (fun c => c.jtagDo (fun j => j.bypassed tdi))
/-- JTAG_IDCODE. -/
def execJtagIdcode (s : State) : Out := s.lift (fun c => c.jtagDo (fun j => { j with idcode := jtagId, driven := none }))
/-- JTAG_SAMPLE_PRELOAD: the pins are captured, the cells loaded, and the pins keep their function. -/
def execJtagSamplePreload (pins scanIn : BitVec 256) (s : State) : Out :=
  s.lift (fun c => c.jtagDo (fun j => { j with captured := pins.toNat, boundary := scanIn.toNat, driven := none }))
/-- JTAG_EXTEST (R927). The cells' order and number are not given (log entry 51). -/
def execJtagExtest (pins scanIn : BitVec 256) (s : State) : Out :=
  s.lift (fun c => c.jtagDo (fun j =>
    if c.channelsOff then { j with captured := pins.toNat, boundary := scanIn.toNat, driven := some scanIn.toNat }
    else j.bypassed (scanIn.getLsbD 255)))

end Sys2Proof.Machine
end

