-- ==== Sys2Proof/Machine/Dispatch.lean ====
section
/-!
DEFINITION. One arm per command: the table of meanings.
-/
namespace Sys2Proof.Machine

/-- The effect of a command (each arm is the meaning of one row of the opcode table). -/
def exec (i : Instr) (s : State) : Host.Outcome State Fault Refusal :=
  match i with
  | .bundleIssue c k => Sys2Proof.Machine.execBundleIssue c k s
  | .add t u w => Sys2Proof.Machine.execAdd t u w s
  | .adc t u w => Sys2Proof.Machine.execAdc t u w s
  | .sub t u w => Sys2Proof.Machine.execSub t u w s
  | .sbc t u w => Sys2Proof.Machine.execSbc t u w s
  | .and t u w => Sys2Proof.Machine.execAnd t u w s
  | .or t u w => Sys2Proof.Machine.execOr t u w s
  | .xor t u w => Sys2Proof.Machine.execXor t u w s
  | .andn t u w => Sys2Proof.Machine.execAndn t u w s
  | .adds t u w => Sys2Proof.Machine.execAdds t u w s
  | .addus t u w => Sys2Proof.Machine.execAddus t u w s
  | .subs t u w => Sys2Proof.Machine.execSubs t u w s
  | .subus t u w => Sys2Proof.Machine.execSubus t u w s
  | .mins t u w => Sys2Proof.Machine.execMins t u w s
  | .minu t u w => Sys2Proof.Machine.execMinu t u w s
  | .maxs t u w => Sys2Proof.Machine.execMaxs t u w s
  | .maxu t u w => Sys2Proof.Machine.execMaxu t u w s
  | .not t u w => Sys2Proof.Machine.execNot t u w s
  | .neg t u w => Sys2Proof.Machine.execNeg t u w s
  | .abss t u w => Sys2Proof.Machine.execAbss t u w s
  | .pass t u w => Sys2Proof.Machine.execPass t u w s
  | .shl t w => Sys2Proof.Machine.execShl t w s
  | .shr t w => Sys2Proof.Machine.execShr t w s
  | .sar t w => Sys2Proof.Machine.execSar t w s
  | .rol t w => Sys2Proof.Machine.execRol t w s
  | .ror t w => Sys2Proof.Machine.execRor t w s
  | .shls t w => Sys2Proof.Machine.execShls t w s
  | .bswap t w => Sys2Proof.Machine.execBswap t w s
  | .cmpEq t w g anded => Sys2Proof.Machine.execCmpEq t w g anded s
  | .cmpNe t w g anded => Sys2Proof.Machine.execCmpNe t w g anded s
  | .cmpLtu t w g anded => Sys2Proof.Machine.execCmpLtu t w g anded s
  | .cmpGeu t w g anded => Sys2Proof.Machine.execCmpGeu t w g anded s
  | .cmpLts t w g anded => Sys2Proof.Machine.execCmpLts t w g anded s
  | .cmpGes t w g anded => Sys2Proof.Machine.execCmpGes t w g anded s
  | .cmpTst t w g anded => Sys2Proof.Machine.execCmpTst t w g anded s
  | .cmpTstz t w g anded => Sys2Proof.Machine.execCmpTstz t w g anded s
  | .mulu t w => Sys2Proof.Machine.execMulu t w s
  | .muls t w => Sys2Proof.Machine.execMuls t w s
  | .mulhu t w => Sys2Proof.Machine.execMulhu t w s
  | .mulhs t w => Sys2Proof.Machine.execMulhs t w s
  | .mulq t w => Sys2Proof.Machine.execMulq t w s
  | .popcnt t w => Sys2Proof.Machine.execPopcnt t w s
  | .clz t w => Sys2Proof.Machine.execClz t w s
  | .ctz t w => Sys2Proof.Machine.execCtz t w s
  | .brev t w => Sys2Proof.Machine.execBrev t w s
  | .extu t => Sys2Proof.Machine.execExtu t s
  | .exts t => Sys2Proof.Machine.execExts t s
  | .ins t => Sys2Proof.Machine.execIns t s
  | .fadd t u => Sys2Proof.Machine.execFadd t u s
  | .fsub t u => Sys2Proof.Machine.execFsub t u s
  | .fmul t u => Sys2Proof.Machine.execFmul t u s
  | .fma t => Sys2Proof.Machine.execFma t s
  | .fmin t u => Sys2Proof.Machine.execFmin t u s
  | .fmax t u => Sys2Proof.Machine.execFmax t u s
  | .fcmp t u => Sys2Proof.Machine.execFcmp t u s
  | .fdiv t u => Sys2Proof.Machine.execFdiv t u s
  | .fsqrt t u => Sys2Proof.Machine.execFsqrt t u s
  | .fabs t u => Sys2Proof.Machine.execFabs t u s
  | .fneg t u => Sys2Proof.Machine.execFneg t u s
  | .cvtIntToFloat t u => Sys2Proof.Machine.execCvtIntToFloat t u s
  | .cvtFloatToInt t u => Sys2Proof.Machine.execCvtFloatToInt t u s
  | .cvtUintToFloat t u => Sys2Proof.Machine.execCvtUintToFloat t u s
  | .cvtFloatToUint t u => Sys2Proof.Machine.execCvtFloatToUint t u s
  | .cvtFormat t u => Sys2Proof.Machine.execCvtFormat t u s
  | .ld t w => Sys2Proof.Machine.execLd t w s
  | .ldSigned t w => Sys2Proof.Machine.execLdSigned t w s
  | .st t w => Sys2Proof.Machine.execSt t w s
  | .swap8 t => Sys2Proof.Machine.execSwap8 t s
  | .crcInit t p => Sys2Proof.Machine.execCrcInit t p s
  | .crcByte t p => Sys2Proof.Machine.execCrcByte t p s
  | .crcBlock t p => Sys2Proof.Machine.execCrcBlock t p s
  | .crcSeed t p => Sys2Proof.Machine.execCrcSeed t p s
  | .jump t => Sys2Proof.Machine.execJump t s
  | .call t => Sys2Proof.Machine.execCall t s
  | .ret t => Sys2Proof.Machine.execRet t s
  | .eret t => Sys2Proof.Machine.execEret t s
  | .wait t => Sys2Proof.Machine.execWait t s
  | .yield t => Sys2Proof.Machine.execYield t s
  | .spawn t => Sys2Proof.Machine.execSpawn t s
  | .sync t => Sys2Proof.Machine.execSync t s
  | .fence t => Sys2Proof.Machine.execFence t s
  | .halt t => Sys2Proof.Machine.execHalt t s
  | .trap t => Sys2Proof.Machine.execTrap t s
  | .tset t => Sys2Proof.Machine.execTset t s
  | .tsetabs t => Sys2Proof.Machine.execTsetabs t s
  | .tcancel t => Sys2Proof.Machine.execTcancel t s
  | .tnow t => Sys2Proof.Machine.execTnow t s
  | .tleft t => Sys2Proof.Machine.execTleft t s
  | .tmrExpire t => Sys2Proof.Machine.execTmrExpire t s
  | .rdphase t => Sys2Proof.Machine.execRdphase t s
  | .rdturn t => Sys2Proof.Machine.execRdturn t s
  | .rdtick t => Sys2Proof.Machine.execRdtick t s
  | .rdtickh t => Sys2Proof.Machine.execRdtickh t s
  | .mark t => Sys2Proof.Machine.execMark t s
  | .setphase t => Sys2Proof.Machine.execSetphase t s
  | .arm t => Sys2Proof.Machine.execArm t s
  | .disarm t => Sys2Proof.Machine.execDisarm t s
  | .enq t => Sys2Proof.Machine.execEnq t s
  | .deq t => Sys2Proof.Machine.execDeq t s
  | .peek t => Sys2Proof.Machine.execPeek t s
  | .qfence t => Sys2Proof.Machine.execQfence t s
  | .abandon t => Sys2Proof.Machine.execAbandon t s
  | .freeze t => Sys2Proof.Machine.execFreeze t s
  | .thaw t => Sys2Proof.Machine.execThaw t s
  | .round t => Sys2Proof.Machine.execRound t s
  | .rnd t w => Sys2Proof.Machine.execRnd t w s
  | .sendw t => Sys2Proof.Machine.execSendw t s
  | .sendh t => Sys2Proof.Machine.execSendh t s
  | .recv t => Sys2Proof.Machine.execRecv t s
  | .req t => Sys2Proof.Machine.execReq t s
  | .sendc t => Sys2Proof.Machine.execSendc t s
  | .pcmd t => Sys2Proof.Machine.execPcmd t s
  | .plast t => Sys2Proof.Machine.execPlast t s
  | .ppg t => Sys2Proof.Machine.execPpg t s
  | .phold t => Sys2Proof.Machine.execPhold t s
  | .longOpRetire t u => Sys2Proof.Machine.execLongOpRetire t u s
  | .exceptionEntry t => Sys2Proof.Machine.execExceptionEntry t s
  | .threadWake t => Sys2Proof.Machine.execThreadWake t s
  | .coreWideCommit c => Sys2Proof.Machine.execCoreWideCommit c s
  | .doorbellPop t => Sys2Proof.Machine.execDoorbellPop t s
  | .thermalPauseStep c dieC => Sys2Proof.Machine.execThermalPauseStep c dieC s
  | .adaptiveFreqStep c dieC => Sys2Proof.Machine.execAdaptiveFreqStep c dieC s
  | .fillerIssue c => Sys2Proof.Machine.execFillerIssue c s
  | .wardenRollbackDone => Sys2Proof.Machine.execWardenRollbackDone s
  | .wardenCheckpoint => Sys2Proof.Machine.execWardenCheckpoint s
  | .comparatorExercise rails => Sys2Proof.Machine.execComparatorExercise rails s
  | .exerciseMissing => Sys2Proof.Machine.execExerciseMissing s
  | .wardenLostTimeout => Sys2Proof.Machine.execWardenLostTimeout s
  | .wdnVerdictWrite v => Sys2Proof.Machine.execWdnVerdictWrite v s
  | .verdictTimeout h => Sys2Proof.Machine.execVerdictTimeout h s
  | .threadApWrite t ap v => Sys2Proof.Machine.execThreadApWrite t ap v s
  | .arbitrationWindowClose ap => Sys2Proof.Machine.execArbitrationWindowClose ap s
  | .lockExpire ap => Sys2Proof.Machine.execLockExpire ap s
  | .ledgerCommit => Sys2Proof.Machine.execLedgerCommit s
  | .ledgerEraseDone => Sys2Proof.Machine.execLedgerEraseDone s
  | .seqDelayExpire x => Sys2Proof.Machine.execSeqDelayExpire x s
  | .seqPgHigh x elapsed => Sys2Proof.Machine.execSeqPgHigh x elapsed s
  | .seqBlankExpire x => Sys2Proof.Machine.execSeqBlankExpire x s
  | .seqPgTimeout x => Sys2Proof.Machine.execSeqPgTimeout x s
  | .seqOffDelayExpire x => Sys2Proof.Machine.execSeqOffDelayExpire x s
  | .pgLoss x => Sys2Proof.Machine.execPgLoss x s
  | .faultNExternal => Sys2Proof.Machine.execFaultNExternal s
  | .faultNHoldEnd => Sys2Proof.Machine.execFaultNHoldEnd s
  | .restartWaitHighDone => Sys2Proof.Machine.execRestartWaitHighDone s
  | .restartBackoffExpire => Sys2Proof.Machine.execRestartBackoffExpire s
  | .restartStable => Sys2Proof.Machine.execRestartStable s
  | .latchedLongwaitExpire => Sys2Proof.Machine.execLatchedLongwaitExpire s
  | .seqParityError x inDelay => Sys2Proof.Machine.execSeqParityError x inDelay s
  | .bootRomStart exerciseOk => Sys2Proof.Machine.execBootRomStart exerciseOk s
  | .loadMain t => Sys2Proof.Machine.execLoadMain t s
  | .bootRetry => Sys2Proof.Machine.execBootRetry s
  | .bootReload => Sys2Proof.Machine.execBootReload s
  | .otpHaltListenSwitch => Sys2Proof.Machine.execOtpHaltListenSwitch s
  | .softStartEnd n => Sys2Proof.Machine.execSoftStartEnd n s
  | .channelPgChange n good => Sys2Proof.Machine.execChannelPgChange n good s
  | .slewEnd n => Sys2Proof.Machine.execSlewEnd n s
  | .currentLimitEnter n => Sys2Proof.Machine.execCurrentLimitEnter n s
  | .currentLimitTimeout n => Sys2Proof.Machine.execCurrentLimitTimeout n s
  | .shortTrip n => Sys2Proof.Machine.execShortTrip n s
  | .ovpTrip n => Sys2Proof.Machine.execOvpTrip n s
  | .ch5ImmediateTrip => Sys2Proof.Machine.execCh5ImmediateTrip s
  | .ch5ReverseTrip on => Sys2Proof.Machine.execCh5ReverseTrip on s
  | .ch3LimitFallback => Sys2Proof.Machine.execCh3LimitFallback s
  | .ch3LimitRestore => Sys2Proof.Machine.execCh3LimitRestore s
  | .ch2PhaseShed => Sys2Proof.Machine.execCh2PhaseShed s
  | .ch2PhaseResume => Sys2Proof.Machine.execCh2PhaseResume s
  | .ch6ReverseFlow on => Sys2Proof.Machine.execCh6ReverseFlow on s
  | .ch4Bypass on => Sys2Proof.Machine.execCh4Bypass on s
  | .ch0Dropout on => Sys2Proof.Machine.execCh0Dropout on s
  | .vsysUndervoltage => Sys2Proof.Machine.execVsysUndervoltage s
  | .capEvaluate pavg => Sys2Proof.Machine.execCapEvaluate pavg s
  | .millpondPeriod => Sys2Proof.Machine.execMillpondPeriod s
  | .millpondRampBegin target => Sys2Proof.Machine.execMillpondRampBegin target s
  | .fillHoldEnd => Sys2Proof.Machine.execFillHoldEnd s
  | .fillNoack => Sys2Proof.Machine.execFillNoack s
  | .fillAckStuck => Sys2Proof.Machine.execFillAckStuck s
  | .ch5ShapeRelease => Sys2Proof.Machine.execCh5ShapeRelease s
  | .govGrantWrite v => Sys2Proof.Machine.execGovGrantWrite v s
  | .inputPresent idx => Sys2Proof.Machine.execInputPresent idx s
  | .inputAbsent idx => Sys2Proof.Machine.execInputAbsent idx s
  | .inputOvervoltage idx => Sys2Proof.Machine.execInputOvervoltage idx s
  | .aonSourceSwitch src => Sys2Proof.Machine.execAonSourceSwitch src s
  | .aonPorEnd faultNHigh => Sys2Proof.Machine.execAonPorEnd faultNHigh s
  | .aonPorBegin => Sys2Proof.Machine.execAonPorBegin s
  | .bankGood b => Sys2Proof.Machine.execBankGood b s
  | .bankLost b => Sys2Proof.Machine.execBankLost b s
  | .bankEdgeBlankEnd b => Sys2Proof.Machine.execBankEdgeBlankEnd b s
  | .portAttach rp => Sys2Proof.Machine.execPortAttach rp s
  | .portDetectionDone bc => Sys2Proof.Machine.execPortDetectionDone bc s
  | .rpChange rp => Sys2Proof.Machine.execRpChange rp s
  | .waveSignatureFound => Sys2Proof.Machine.execWaveSignatureFound s
  | .waveSignatureLost => Sys2Proof.Machine.execWaveSignatureLost s
  | .vocSampleStart => Sys2Proof.Machine.execVocSampleStart s
  | .vocSampleEnd mv => Sys2Proof.Machine.execVocSampleEnd mv s
  | .chgVocnowWrite w => Sys2Proof.Machine.execChgVocnowWrite w s
  | .vbatUvTrip => Sys2Proof.Machine.execVbatUvTrip s
  | .vbatOvTrip => Sys2Proof.Machine.execVbatOvTrip s
  | .vbatOvRecover => Sys2Proof.Machine.execVbatOvRecover s
  | .batteryRemoved => Sys2Proof.Machine.execBatteryRemoved s
  | .chargerStart vbat usable => Sys2Proof.Machine.execChargerStart vbat usable s
  | .prechargeComplete vbat => Sys2Proof.Machine.execPrechargeComplete vbat s
  | .prechargeTimeout => Sys2Proof.Machine.execPrechargeTimeout s
  | .pulseTimeTimeout => Sys2Proof.Machine.execPulseTimeTimeout s
  | .pulseEnd iend limited => Sys2Proof.Machine.execPulseEnd iend limited s
  | .restPhaseEnd => Sys2Proof.Machine.execRestPhaseEnd s
  | .recharge vbat => Sys2Proof.Machine.execRecharge vbat s
  | .gatedPhaseBackstop iend limited => Sys2Proof.Machine.execGatedPhaseBackstop iend limited s
  | .chargerHold z => Sys2Proof.Machine.execChargerHold z s
  | .chargerHoldExit z => Sys2Proof.Machine.execChargerHoldExit z s
  | .zoneChange z => Sys2Proof.Machine.execZoneChange z s
  | .shipDeferEnd => Sys2Proof.Machine.execShipDeferEnd s
  | .shipPowerDown => Sys2Proof.Machine.execShipPowerDown s
  | .shipWakePress => Sys2Proof.Machine.execShipWakePress s
  | .sinkAttach attached => Sys2Proof.Machine.execSinkAttach attached s
  | .reverseReserveLow bySoc => Sys2Proof.Machine.execReverseReserveLow bySoc s
  | .dockLiveChange live => Sys2Proof.Machine.execDockLiveChange live s
  | .hwThermalTrip above => Sys2Proof.Machine.execHwThermalTrip above s
  | .gauSeqgoWrite w seq => Sys2Proof.Machine.execGauSeqgoWrite w seq s
  | .adcSequenceDone results => Sys2Proof.Machine.execAdcSequenceDone results s
  | .gaugeConversion isNtc v ratioPermille => Sys2Proof.Machine.execGaugeConversion isNtc v ratioPermille s
  | .restBegin iBefore vBefore vAfter1ms => Sys2Proof.Machine.execRestBegin iBefore vBefore vAfter1ms s
  | .restEnd ms ocv endUv beforeUv => Sys2Proof.Machine.execRestEnd ms ocv endUv beforeUv s
  | .counterEmpty => Sys2Proof.Machine.execCounterEmpty s
  | .forcedRestPending vbat => Sys2Proof.Machine.execForcedRestPending vbat s
  | .forcedRestStart => Sys2Proof.Machine.execForcedRestStart s
  | .forcedRestEnd valid => Sys2Proof.Machine.execForcedRestEnd valid s
  | .gauOcvaddrWrite w v => Sys2Proof.Machine.execGauOcvaddrWrite w v s
  | .gauQaccWrite w v => Sys2Proof.Machine.execGauQaccWrite w v s
  | .weirDescriptorWrite w q v => Sys2Proof.Machine.execWeirDescriptorWrite w q v s
  | .weirRetransmitTimeout q => Sys2Proof.Machine.execWeirRetransmitTimeout q s
  | .weirDataReceive f => Sys2Proof.Machine.execWeirDataReceive f s
  | .weirAckReceive f => Sys2Proof.Machine.execWeirAckReceive f s
  | .weirNackReceive f => Sys2Proof.Machine.execWeirNackReceive f s
  | .weirSkipReceive f => Sys2Proof.Machine.execWeirSkipReceive f s
  | .weirGsyncReceive f => Sys2Proof.Machine.execWeirGsyncReceive f s
  | .weirResyncReceive f => Sys2Proof.Machine.execWeirResyncReceive f s
  | .weirRejoinReceive f => Sys2Proof.Machine.execWeirRejoinReceive f s
  | .weirAckSend q => Sys2Proof.Machine.execWeirAckSend q s
  | .roundWindowClose r => Sys2Proof.Machine.execRoundWindowClose r s
  | .roundExpiry r => Sys2Proof.Machine.execRoundExpiry r s
  | .weiQcmdResync w => Sys2Proof.Machine.execWeiQcmdResync w s
  | .weiQcmdUnbind w => Sys2Proof.Machine.execWeiQcmdUnbind w s
  | .weiRejfifoPop r => Sys2Proof.Machine.execWeiRejfifoPop r s
  | .frameReceive p f crcOk => Sys2Proof.Machine.execFrameReceive p f crcOk s
  | .frameForwardStore p f => Sys2Proof.Machine.execFrameForwardStore p f s
  | .forwardBufferStart p => Sys2Proof.Machine.execForwardBufferStart p s
  | .hackSend p => Sys2Proof.Machine.execHackSend p s
  | .hackReceive p next => Sys2Proof.Machine.execHackReceive p next s
  | .hopRetransmit p => Sys2Proof.Machine.execHopRetransmit p s
  | .jabberStop p => Sys2Proof.Machine.execJabberStop p s
  | .beaconSend => Sys2Proof.Machine.execBeaconSend s
  | .beaconReceive p f stamp => Sys2Proof.Machine.execBeaconReceive p f stamp s
  | .headListenEnd => Sys2Proof.Machine.execHeadListenEnd s
  | .contentionSlotOpen p => Sys2Proof.Machine.execContentionSlotOpen p s
  | .tarnlineSlotEnd p => Sys2Proof.Machine.execTarnlineSlotEnd p s
  | .joinReqSend => Sys2Proof.Machine.execJoinReqSend s
  | .joinReqReceive p f => Sys2Proof.Machine.execJoinReqReceive p f s
  | .joinReplyReceive p f => Sys2Proof.Machine.execJoinReplyReceive p f s
  | .joinTableExpire uid => Sys2Proof.Machine.execJoinTableExpire uid s
  | .joinAnswerTimeout => Sys2Proof.Machine.execJoinAnswerTimeout s
  | .tlnJreplyWrite w v => Sys2Proof.Machine.execTlnJreplyWrite w v s
  | .tlnJoinfifoPop r => Sys2Proof.Machine.execTlnJoinfifoPop r s
  | .leaveReceive p f => Sys2Proof.Machine.execLeaveReceive p f s
  | .statusReceive p f => Sys2Proof.Machine.execStatusReceive p f s
  | .presenceReceive p f => Sys2Proof.Machine.execPresenceReceive p f s
  | .noticeReceive p f => Sys2Proof.Machine.execNoticeReceive p f s
  | .beaconLoss => Sys2Proof.Machine.execBeaconLoss s
  | .childAbsent p => Sys2Proof.Machine.execChildAbsent p s
  | .tlnCmdJoin w => Sys2Proof.Machine.execTlnCmdJoin w s
  | .tlnCmdLeave w => Sys2Proof.Machine.execTlnCmdLeave w s
  | .roleChangeApply => Sys2Proof.Machine.execRoleChangeApply s
  | .portIsolate p => Sys2Proof.Machine.execPortIsolate p s
  | .portRetry p => Sys2Proof.Machine.execPortRetry p s
  | .orderReceive p f => Sys2Proof.Machine.execOrderReceive p f s
  | .orderReplyReceive p f => Sys2Proof.Machine.execOrderReplyReceive p f s
  | .orderTimeout q => Sys2Proof.Machine.execOrderTimeout q s
  | .nvmOwnWrite w v => Sys2Proof.Machine.execNvmOwnWrite w v s
  | .nvmOwnerTimeout => Sys2Proof.Machine.execNvmOwnerTimeout s
  | .program1 w sourceMv => Sys2Proof.Machine.execProgram1 w sourceMv s
  | .program2 w sourceMv => Sys2Proof.Machine.execProgram2 w sourceMv s
  | .erase w sourceMv => Sys2Proof.Machine.execErase w sourceMv s
  | .otpProgram w sourceMv dieC => Sys2Proof.Machine.execOtpProgram w sourceMv dieC s
  | .otpSeal w sourceMv dieC => Sys2Proof.Machine.execOtpSeal w sourceMv dieC s
  | .arbInc w sourceMv dieC => Sys2Proof.Machine.execArbInc w sourceMv dieC s
  | .nvmCommandDone verified => Sys2Proof.Machine.execNvmCommandDone verified s
  | .eraseSuspend => Sys2Proof.Machine.execEraseSuspend s
  | .eraseResume => Sys2Proof.Machine.execEraseResume s
  | .nvmWplimWrite w v => Sys2Proof.Machine.execNvmWplimWrite w v s
  | .healthTestFailure k => Sys2Proof.Machine.execHealthTestFailure k s
  | .entHoldoffEnd => Sys2Proof.Machine.execEntHoldoffEnd s
  | .entStartupPass entropy nonce => Sys2Proof.Machine.execEntStartupPass entropy nonce s
  | .drbgReseed entropy => Sys2Proof.Machine.execDrbgReseed entropy s
  | .entRestartsClear => Sys2Proof.Machine.execEntRestartsClear s
  | .lfsrReseed => Sys2Proof.Machine.execLfsrReseed s
  | .rngStallTimeout t => Sys2Proof.Machine.execRngStallTimeout t s
  | .pebUnlockWrite w v => Sys2Proof.Machine.execPebUnlockWrite w v s
  | .pebbleExpire idx => Sys2Proof.Machine.execPebbleExpire idx s
  | .pebbleHeldRelease idx k => Sys2Proof.Machine.execPebbleHeldRelease idx k s
  | .hostRead h addr len chk => Sys2Proof.Machine.execHostRead h addr len chk s
  | .hostReadDataReady h => Sys2Proof.Machine.execHostReadDataReady h s
  | .hostWrite h addr data chk => Sys2Proof.Machine.execHostWrite h addr data chk s
  | .hostStatus h chk => Sys2Proof.Machine.execHostStatus h chk s
  | .hostSequencedOrder h o chk => Sys2Proof.Machine.execHostSequencedOrder h o chk s
  | .hostBadCommand h cmd => Sys2Proof.Machine.execHostBadCommand h cmd s
  | .hostSpiAbort => Sys2Proof.Machine.execHostSpiAbort s
  | .hostI2cTimeout => Sys2Proof.Machine.execHostI2cTimeout s
  | .hifMbinWrite h v => Sys2Proof.Machine.execHifMbinWrite h v s
  | .hifMboutPop r => Sys2Proof.Machine.execHifMboutPop r s
  | .hifOrdrepPop r => Sys2Proof.Machine.execHifOrdrepPop r s
  | .sdi12Command => Sys2Proof.Machine.execSdi12Command s
  | .sdi12ResponseTimeout => Sys2Proof.Machine.execSdi12ResponseTimeout s
  | .sdi12LineReceived line => Sys2Proof.Machine.execSdi12LineReceived line s
  | .sdi12ServiceRequest address => Sys2Proof.Machine.execSdi12ServiceRequest address s
  | .sdi12WaitTimeout => Sys2Proof.Machine.execSdi12WaitTimeout s
  | .sdi12BusFault => Sys2Proof.Machine.execSdi12BusFault s
  | .sdi12RawWrite w b brk => Sys2Proof.Machine.execSdi12RawWrite w b brk s
  | .sioSdilinePop r => Sys2Proof.Machine.execSioSdilinePop r s
  | .uartRxFrame u b => Sys2Proof.Machine.execUartRxFrame u b s
  | .uartBreak u => Sys2Proof.Machine.execUartBreak u s
  | .nmeaSentence text startTick => Sys2Proof.Machine.execNmeaSentence text startTick s
  | .icTransfer c => Sys2Proof.Machine.execIcTransfer c s
  | .icTransferDone c res data => Sys2Proof.Machine.execIcTransferDone c res data s
  | .spc0Transfer => Sys2Proof.Machine.execSpc0Transfer s
  | .spc0TransferDone data => Sys2Proof.Machine.execSpc0TransferDone data s
  | .gpioEdge p rising => Sys2Proof.Machine.execGpioEdge p rising s
  | .evtSetWrite w v => Sys2Proof.Machine.execEvtSetWrite w v s
  | .evtClearWrite w v => Sys2Proof.Machine.execEvtClearWrite w v s
  | .evtPulseEnd p => Sys2Proof.Machine.execEvtPulseEnd p s
  | .jtagBypass tdi => Sys2Proof.Machine.execJtagBypass tdi s
  | .jtagIdcode => Sys2Proof.Machine.execJtagIdcode s
  | .jtagSamplePreload pins scanIn => Sys2Proof.Machine.execJtagSamplePreload pins scanIn s
  | .jtagExtest pins scanIn => Sys2Proof.Machine.execJtagExtest pins scanIn s
  | .dozeEnter => Sys2Proof.Machine.execDozeEnter s
  | .dozeExit => Sys2Proof.Machine.execDozeExit s
  | .hibernateRequest => Sys2Proof.Machine.execHibernateRequest s
  | .hibernateEnter => Sys2Proof.Machine.execHibernateEnter s
  | .hibernateWake src faultNHigh => Sys2Proof.Machine.execHibernateWake src faultNHigh s
  | .cklfCrystalSwitch => Sys2Proof.Machine.execCklfCrystalSwitch s
  | .cklfRcFallback => Sys2Proof.Machine.execCklfRcFallback s
  | .wheelTurnCarry n => Sys2Proof.Machine.execWheelTurnCarry n s
  | .stationSecond => Sys2Proof.Machine.execStationSecond s
  | .slotMatch n => Sys2Proof.Machine.execSlotMatch n s
  | .referenceEdge n => Sys2Proof.Machine.execReferenceEdge n s
  | .wheelLossTimeout n => Sys2Proof.Machine.execWheelLossTimeout n s
  | .holdoverExpire n => Sys2Proof.Machine.execHoldoverExpire n s
  | .noisyClear n => Sys2Proof.Machine.execNoisyClear n s
  | .w3CklfEdge => Sys2Proof.Machine.execW3CklfEdge s
  | .slotCommit n => Sys2Proof.Machine.execSlotCommit n s
  | .sysTimeWrite w v => Sys2Proof.Machine.execSysTimeWrite w v s
  | .latchingRead r addr len => Sys2Proof.Machine.execLatchingRead r addr len s
  | .registerWrite w addr data => Sys2Proof.Machine.execRegisterWrite w addr data s
  | .counterSample nanovolts => Sys2Proof.Machine.execCounterSample nanovolts s
  | .currentLimitExit n => Sys2Proof.Machine.execCurrentLimitExit n s
  | .fillAckEdge asserted => Sys2Proof.Machine.execFillAckEdge asserted s
  | .boostStop c dieC => Sys2Proof.Machine.execBoostStop c dieC s
  | .junctionLimit c dieC => Sys2Proof.Machine.execJunctionLimit c dieC s
  | .vbatPresent => Sys2Proof.Machine.execVbatPresent s
  | .gpioRateLimitExpire p => Sys2Proof.Machine.execGpioRateLimitExpire p s
  | .sdi12RawReceive b => Sys2Proof.Machine.execSdi12RawReceive b s
  | .loopProportionalEnd n => Sys2Proof.Machine.execLoopProportionalEnd n s

end Sys2Proof.Machine
end

