-- ==== Sys2Proof/WellFormed.lean ====
section
/-!
DEFINITION. Which commands can come about: the operands that the type of a constructor leaves wider than the spec does.
-/
namespace Sys2Proof

/-- A frame that fits the format of 15 R706: at most 255 payload bytes, and a tag exactly when FLAGS.MAC (bit 5) is set. -/
def frameWf (f : Frame) : Bool := decide (f.payload.length ≤ 255) && f.tag.isSome == f.flags.getLsbD 5

/-- The command is one the spec knows. Every constructor that is not named here takes any operands of its type. -/
def Instr.wf : Instr → Bool
  | .hostWrite _ _ data _ => decide (1 ≤ data.length) && decide (data.length ≤ 256)
  | .hostBadCommand _ cmd => cmd != 0x02 && cmd != 0x03 && cmd != 0x0B && cmd != 0x40
  | .latchingRead r _ len =>
    match r with
    | .main _ | .warden _ => len == 1 || len == 2 || len == 4
    | .spi | .i2c => decide (1 ≤ len) && decide (len ≤ 256)
  | .registerWrite w _ data =>
    match w with
    | .main _ | .warden _ => data.length == 1 || data.length == 2 || data.length == 4
    | .spi | .i2c => decide (1 ≤ data.length) && decide (data.length ≤ 256)
  | .frameReceive _ f _ => frameWf f
  | .frameForwardStore _ f => frameWf f
  | .beaconReceive _ f _ => frameWf f && f.kind == 0
  | .weirDataReceive f => frameWf f && f.kind == 2
  | .weirAckReceive f => frameWf f && f.kind == 2
  | .weirNackReceive f => frameWf f && f.kind == 2
  | .weirSkipReceive f => frameWf f && f.kind == 2
  | .weirGsyncReceive f => frameWf f && f.kind == 2
  | .weirResyncReceive f => frameWf f && f.kind == 2
  | .weirRejoinReceive f => frameWf f && f.kind == 2
  | .joinReqReceive _ f => frameWf f && f.kind == 5
  | .joinReplyReceive _ f => frameWf f && f.kind == 6
  | .leaveReceive _ f => frameWf f && f.kind == 7
  | .statusReceive _ f => frameWf f && f.kind == 8
  | .presenceReceive _ f => frameWf f && f.kind == 9
  | .noticeReceive _ f => frameWf f && f.kind == 10
  | .orderReceive _ f => frameWf f && f.kind == 3
  | .orderReplyReceive _ f => frameWf f && f.kind == 4
  | .sdi12LineReceived line => decide (line.length ≤ 82)
  | .icTransferDone _ _ data => decide (data.length ≤ 32)
  | .spc0TransferDone data => decide (data.length ≤ 64)
  | .adcSequenceDone results => decide (results.length ≤ 16)
  | .gaugeConversion _ _ ratio => decide (ratio ≤ 1000)
  | .pebbleHeldRelease _ k => decide (k < 8)
  | _ => true

end Sys2Proof
end

