-- ==== Sys2Proof/Safety.lean ====
section
/-!
DEFINITION. The terms in which claims speak of runs: what holds of every state after a command, what a command leaves alone, and
a step that goes on.
-/
namespace Sys2Proof.Machine

/-- The level rules hold of a chip (19 R927, 18 R880, 02 R88, 18 R861): EXTEST drives pins only while every channel domain is OFF,
only active Pebble instances hold frames, a host read is in progress only while bank A is good, the DRBG's output buffer holds
bytes only in RUN. -/
def Chip.Settled (c : Chip) : Prop :=
  (c.jtag.driven ≠ none → ∀ n < 8, (c.dom (dCH n)).state = 0) ∧
  (∀ h ∈ c.peb.held, c.pebActive h.inst = true) ∧
  (c.hif.pendingRead ≠ none → c.bankGood 0 = true) ∧
  (c.ent.buffer ≠ [] → c.entState = entRUN)

/-- The step goes on. -/
def Goes (s : State) : Prop := ∃ t, step s = .next t

/-- The command `i` in state `s` completes in a state whose queue is that of `s` and whose chip satisfies `P`. -/
def Does (i : Instr) (s : State) (P : Chip → Prop) : Prop :=
  ∃ t : State, exec i s = .next t ∧ t.pending = s.pending ∧ P t.chip

/-- Everything outside the cores is unchanged: registers, latches, memories and the state of every other block, but for what the
level rules do at any command. -/
def Chip.SameOutside (c d : Chip) : Prop :=
  d.regs = c.regs ∧ d.latch = c.latch ∧ d.mem = c.mem ∧ d.wdn = c.wdn ∧ d.aut = c.aut ∧ d.led = c.led ∧ d.weir = c.weir ∧
  d.tln = c.tln ∧ d.seq = c.seq ∧ d.chn = c.chn ∧ d.cap = c.cap ∧ d.sup = c.sup ∧ d.chg = c.chg ∧ d.gau = c.gau ∧
  d.phw = c.phw ∧ d.nvm = c.nvm ∧ d.sio = c.sio ∧ d.mode = c.mode ∧ d.free = c.free ∧
  d.jtag = c.settle.jtag ∧ d.peb = c.settle.peb ∧ d.hif = c.settle.hif ∧ d.ent = c.settle.ent

/-- Of the threads, thread `t` alone has changed, and of it the port state of unit `u` alone. -/
def Chip.OnlyUnit (c d : Chip) (t u : Nat) : Prop :=
  (∀ r, r ≠ t → d.thr r = c.thr r) ∧ (∀ v, v ≠ u → d.unit t v = c.unit t v) ∧
  { d.thr t with units := [] } = { c.thr t with units := [] }

/-- The thread's unit `u` exists and has no long operation outstanding: the row runs at once. -/
def Chip.Free (c : Chip) (t u : Nat) : Prop := unitPresent t u = true ∧ (c.unit t u).busy = none

/-- The `n` low bits of operand A, and of operand B, of unit `u` of thread `t` (04 R150). -/
def Chip.opA (c : Chip) (t u n : Nat) : Nat := (c.unit t u).a.toNat % 2 ^ n
def Chip.opB (c : Chip) (t u n : Nat) : Nat := (c.unit t u).b.toNat % 2 ^ n

/-- The command runs at once on unit `u` of thread `t` and leaves `q` in its q ports and `fl` in its flags; of the machine nothing
but that port state changes. -/
def UnitDone (i : Instr) (s : State) (t u q fl : Nat) : Prop :=
  Does i s (fun d => (d.unit t u).q.toNat = q ∧ (d.unit t u).fl.toNat = fl ∧ (d.unit t u).busy = none ∧
    s.chip.OnlyUnit d t u ∧ s.chip.SameOutside d ∧ d.cores = s.chip.cores)

/-- Of the threads, thread `t` alone has changed: to `f` of what it was, up to the port state of unit `u`. -/
def Chip.OnlyThr (c d : Chip) (t u : Nat) (f : ThreadSt → ThreadSt) : Prop :=
  (∀ r, r ≠ t → d.thr r = c.thr r) ∧ (∀ v, v ≠ u → d.unit t v = c.unit t v) ∧
  { d.thr t with units := [] } = { f (c.thr t) with units := [] }

/-- No core but `k` has changed, and core `k` is `f` of what it was. -/
def Chip.OnlyCore (c d : Chip) (k : Nat) (f : CoreSt → CoreSt) : Prop :=
  (∀ j, j ≠ k → d.core j = c.core j) ∧ d.core k = f (c.core k)

/-- The command runs at once on unit `u` of thread `t`, leaves `q` and `fl` there, and changes that thread by `f` alone. -/
def ThreadDone (i : Instr) (s : State) (t u q fl : Nat) (f : ThreadSt → ThreadSt) : Prop :=
  Does i s (fun d => (d.unit t u).q.toNat = q ∧ (d.unit t u).fl.toNat = fl ∧ s.chip.OnlyThr d t u f ∧ s.chip.SameOutside d ∧
    d.cores = s.chip.cores)

/-- The command starts operation `code` as a long operation of unit `u` of thread `t`, with operands A and B and the bytes `data`
captured; nothing else changes but the port's op, count and TAG, the hold of a PRECISE thread, and the divider's time. -/
def LongStarts (i : Instr) (s : State) (t u code : Nat) (data : List Byte) : Prop :=
  let v := s.chip.unit t u
  let n := v.count + 1
  let tag := BitVec.ofNat 8 (16 * u + n.toNat)
  Does i s (fun d =>
    (∃ op, (d.unit t u).busy = some op ∧ op.code = code ∧ op.a = v.a ∧ op.b = v.b ∧ op.data = data ∧ op.tag = tag ∧
      op.pc = (s.chip.thr t).pc ∧ op.fpmode = (s.chip.thr t).fpmode.toNat ∧ op.priv = s.chip.isPriv t) ∧
    d.unit t u = { v with op := BitVec.ofNat 8 code, count := n, tag := tag, busy := (d.unit t u).busy } ∧
    s.chip.OnlyThr d t u (fun x => if x.precise.getLsbD 0 then { x with hold := .fence } else x) ∧ s.chip.SameOutside d ∧
    ∀ k, { d.core k with fpsFree := 0 } = { s.chip.core k with fpsFree := 0 })

/-- The command raises in thread `t` the exception `cause` of unit `u`, precise, at its present bundle, with the faulting address
`addr`: no operand, result or flag of the unit changes, no memory, no register. -/
def Traps (i : Instr) (s : State) (t u cause : Nat) (addr : Option Nat) : Prop :=
  Does i s (fun d =>
    (∃ e, (d.thr t).exc = some e ∧ e.cause = BitVec.ofNat 8 cause ∧ e.fu = unitBase u ∧ e.pc = (s.chip.thr t).pc ∧
      e.imprecise = false ∧ e.addr = addr) ∧
    s.chip.OnlyThr d t u (fun x => { x with exc := (d.thr t).exc }) ∧ s.chip.SameOutside d ∧
    { d.unit t u with op := 0 } = { s.chip.unit t u with op := 0 } ∧ d.cores = s.chip.cores)

/-- From `c` to `d` no register but those of `rs` has changed, and nothing else but what `blank` clears; the level rules apply. -/
def Chip.Keeps (c d : Chip) (rs : List Reg) (blank : Chip → Chip) : Prop :=
  (∀ r : Reg, (∀ x ∈ rs, r.addr ≠ x.addr) → d.rd r = c.rd r) ∧
  blank { d with regs := [] } = blank { c.settle with regs := [] }

/-- Blanks: the parts that the level rules touch; the threads, of which `Rings` speaks; the Ledger's staging. -/
def Chip.noLevels (c : Chip) : Chip := { c with jtag := {}, peb := {}, hif := {}, ent := {} }
def Chip.noThreads (c : Chip) : Chip := { c with threads := [] }
def Chip.noLedger (c : Chip) : Chip := { c with led := {} }

/-- No thread has changed but in its doorbells. -/
def Chip.Rings (c d : Chip) : Prop := ∀ t, { d.thr t with doorbells := [] } = { c.thr t with doorbells := [] }

/-- The registers that staging a hardware action may move (16 R778, R779). -/
def ledgerRegs : List Reg := [R.LED_NEXTSEQ, R.LED_UNRECCNT]

/-- The hardware action is staged in the reserved entry 14. -/
def Chip.Recorded (d : Chip) (object old new cause : Nat) : Prop :=
  ∃ e, d.entry 14 = some e ∧ e.object = object ∧ e.old = old ∧ e.new = new ∧ e.cause = cause ∧ e.outcome = 5

/-- The registers through which the power path and the charger show what they do (12). -/
def chgRegs : List Reg :=
  [R.CHG_STATE, R.CHG_STAT, R.CHG_EVT, R.CHG_DET, R.CHG_PULSECNT, R.CHG_IPULSE, R.CHG_IEND, R.CHG_VOC, R.CHG_ICL_EFF 0, R.CHG_ICL_EFF 1,
   R.CHG_ICL_EFF 2, R.CHG_ICL_EFF 3, R.DOORBELL_OVF]

/-- The command changes nothing but the charger, its registers and the doorbell its event rings, and leaves `P`. -/
def ChgDoes (i : Instr) (s : State) (P : Chip → Prop) : Prop :=
  Does i s (fun d => P d ∧ s.chip.Rings d ∧ s.chip.Keeps d chgRegs (fun d => { d with chg := {}, threads := [] }))

/-- What a read by `r` of the latching register `x` leaves: its kind of reader's latch holds `v`, and no other latch has changed
(00 R1012). -/
def Chip.Latched (c d : Chip) (r : Reader) (x : Reg) (v : Nat) : Prop :=
  let a := readerKind r * 2 ^ 24 + x.addr
  Mem.readN 0 d.latch a x.width = leBytes x.width v ∧
  ∀ b, b < a ∨ a + x.width ≤ b → FMap.get 0 d.latch b = FMap.get 0 c.latch b

/-- The command changes what `P` says of a port, and nothing of the machine but the link layer's own state outside the registers;
of the link layer nothing but that port. -/
def PortDoes (i : Instr) (s : State) (p : Nat) (y : PortSt) : Prop :=
  Does i s (fun d => d.port p = y ∧ (∀ q, q ≠ p → d.port q = s.chip.port q) ∧
    { d.tln with ports := [], spoke := false } = { s.chip.tln with ports := [], spoke := false } ∧
    s.chip.Keeps d [] (fun d => { d with tln := {} }))

/-- The port after it has put a frame on its line: numbered and kept in its window where the link has hop state (15 R710). -/
def PortSt.sending (x : PortSt) (f : Frame) : PortSt :=
  let g := { f with hseq := if x.alive then x.txSeq else 0 }
  { x with sent := (g, false) :: x.sent, txSeq := if x.alive then x.txSeq + 1 else x.txSeq
           window := if x.alive then x.window ++ [g] else x.window }

/-- No port has an open slot: nothing is sent of what waits (15 R723 to R726). -/
def Chip.NoSlots (c : Chip) : Prop := ∀ p < 3, (c.port p).slot = none

end Sys2Proof.Machine
end

