-- ==== Sys2Proof/Certificates/Slice0/Obligations.lean ====
section
/-!
DEFINITION. The statements about the model.
-/
open Sys2Proof Sys2Proof.Machine

/-! ### The queue and the step -/

/-- With a command at the front of the queue, a step is that command on the state with the queue's rest. -/
def Obligations.StepRunsFront : Prop :=
  ∀ (s : State) (i : Instr) (rest : List Instr), s.pending = i :: rest → step s = exec i { s with pending := rest }

/-- On an empty queue a step goes on, with the queue still empty; while WRD is not ON the wheels, TICKCNT and every thread stand still. -/
def Parts.IdleQueue : Prop :=
  ∀ s : State, s.pending = [] →
    ∃ t, step s = .next t ∧ t.pending = [] ∧
      ((s.chip.dom dWRD).state < 4 → t.chip = s.chip.settle)

/-- Every command completes: it answers a next state with the queue untouched, for every state and every operand. No command ends
in a fault or a refusal. -/
def Obligations.EveryCommandCompletes : Prop := ∀ (i : Instr) (s : State), Does i s (fun _ => True)

/-- FIRST IN, FIRST OUT: what waits stays a suffix of what was sent, whatever a step does. -/
def Obligations.QueueIsFifo : Prop :=
  ∀ (sent : List Instr) (s t : State), s.pending <:+ sent → step s = .next t → t.pending <:+ sent

/-- THE LEVEL RULES ARE AN INVARIANT of every step (R927, R880, R88, R861): EXTEST drives pins only while every channel domain is
OFF, only active Pebble instances hold frames, a host read is in progress only while bank A is good, and the DRBG's output buffer
holds bytes only in RUN. -/
def Obligations.LevelRulesHold : Prop := ∀ s t : State, s.chip.Settled → step s = .next t → t.chip.Settled

/-- The level rules hold after reset. -/
def Obligations.ResetKeepsLevelRules : Prop := State.reset.chip.Settled ∧ State.reset.pending = []

/-- R18: after the power-on reset registers hold the reset values of their register references; no thread runs, every domain is
OFF, every core clock limit has its reset value, and no memory lists anything. -/
def Obligations.ResetValues : Prop :=
  let c := State.reset.chip
  c.rd R.SYS_ID = 0x00B00876 ∧ c.rd R.SEQ_POLICY = 3 ∧ c.rd R.SEQ_EN = 1 ∧ c.rd R.HIF_I2CADDR = 0x5C ∧ c.rd R.HIF_LAST = 0 ∧
  c.rd R.WDN_LASTCOMMIT = 0 ∧ c.rd R.TLN_AUTHREQ = 0xFFFD ∧ c.rd (R.SEQ_PGTO 4) = 1000 ∧ c.rd (R.CORE_EXCADDR 1 7) = 0 ∧
  (∀ t < 20, (c.thr t).run = .halted) ∧ (∀ x < 13, (c.dom x).state = 0) ∧
  (∀ k < 3, (c.core k).csrv 0xF1 = 4 ∧ (c.core k).csrv 0xF2 = 125 ∧ (c.core k).csrv 0xF3 = 110 ∧ (c.core k).csrv 0xF4 = 125) ∧
  c.mem.dmem = [] ∧ c.mem.imem = [] ∧ c.mem.weir = []

/-! ### Integer units (05) -/

/-- R216: add, adc, sub and sbc of width w deliver the sum or difference modulo 2^n with Z, N, C (carry or borrow) and V (signed
overflow); Cin is C of the unit's last completed operation (R217). Nothing else changes. -/
def Obligations.AluAddSubtract : Prop :=
  ∀ (s : State) (t : Thread) (u : Fin 2) (w : Fin 3), s.chip.Free t u →
    let n := bitsOf w
    let a := s.chip.opA t u n
    let b := s.chip.opB t u n
    let k := b2n ((s.chip.unit t u).fl.getLsbD 2)
    let x := toSigned n a
    let y := toSigned n b
    let V (z : Int) : Bool := decide (z < -(2 ^ (n - 1)) ∨ 2 ^ (n - 1) ≤ z)
    UnitDone (.add t u w) s t u ((a + b) % 2 ^ n) (intFlags n ((a + b) % 2 ^ n) (decide (2 ^ n ≤ a + b)) (V (x + y)) false) ∧
    UnitDone (.adc t u w) s t u ((a + b + k) % 2 ^ n) (intFlags n ((a + b + k) % 2 ^ n) (decide (2 ^ n ≤ a + b + k)) (V (x + y + k)) false) ∧
    UnitDone (.sub t u w) s t u ((a + 2 ^ n - b) % 2 ^ n) (intFlags n ((a + 2 ^ n - b) % 2 ^ n) (decide (a < b)) (V (x - y)) false) ∧
    UnitDone (.sbc t u w) s t u ((a + 2 ^ (n + 1) - b - k) % 2 ^ n)
      (intFlags n ((a + 2 ^ (n + 1) - b - k) % 2 ^ n) (decide (a < b + k)) (V (x - y - k)) false)

/-- R216: and, or, xor, andn, not, pass and neg; C and V are 0, but neg, whose C is the borrow and whose V marks the most negative
value. -/
def Parts.AluLogic : Prop :=
  ∀ (s : State) (t : Thread) (u : Fin 2) (w : Fin 3), s.chip.Free t u →
    let n := bitsOf w
    let a := s.chip.opA t u n
    let b := s.chip.opB t u n
    let plain (i : Instr) (r : Nat) : Prop := UnitDone i s t u r (intFlags n r false false false)
    plain (.and t u w) (a &&& b) ∧ plain (.or t u w) (a ||| b) ∧ plain (.xor t u w) (a ^^^ b) ∧
    plain (.andn t u w) (a &&& (2 ^ n - 1 - b)) ∧ plain (.not t u w) (2 ^ n - 1 - a) ∧ plain (.pass t u w) a ∧
    UnitDone (.neg t u w) s t u ((2 ^ n - a) % 2 ^ n)
      (intFlags n ((2 ^ n - a) % 2 ^ n) (decide (a ≠ 0)) (decide (a = 2 ^ (n - 1))) false)

/-- R216: adds, subs and abss saturate the signed result, addus and subus the unsigned one, with V equal to S; mins, minu, maxs and
maxu deliver one of their operands. -/
def Parts.AluSaturateMinMax : Prop :=
  ∀ (s : State) (t : Thread) (u : Fin 2) (w : Fin 3), s.chip.Free t u →
    let n := bitsOf w
    let a := s.chip.opA t u n
    let b := s.chip.opB t u n
    let x := toSigned n a
    let y := toSigned n b
    let lo : Int := -(2 ^ (n - 1))
    let hi : Int := 2 ^ (n - 1) - 1
    let sat (i : Instr) (z : Int) : Prop :=
      let r := ofSigned n (max lo (min hi z))
      let overs := decide (z < lo ∨ hi < z)
      UnitDone i s t u r (intFlags n r false overs overs)
    let plain (i : Instr) (r : Nat) : Prop := UnitDone i s t u r (intFlags n r false false false)
    sat (.adds t u w) (x + y) ∧ sat (.subs t u w) (x - y) ∧ sat (.abss t u w) (if x < 0 then -x else x) ∧
    (let r := min (2 ^ n - 1) (a + b)
     UnitDone (.addus t u w) s t u r (intFlags n r false (decide (2 ^ n ≤ a + b)) (decide (2 ^ n ≤ a + b)))) ∧
    UnitDone (.subus t u w) s t u (a - b) (intFlags n (a - b) false (decide (a < b)) (decide (a < b))) ∧
    plain (.mins t u w) (if x ≤ y then a else b) ∧ plain (.minu t u w) (min a b) ∧
    plain (.maxs t u w) (if y ≤ x then a else b) ∧ plain (.maxu t u w) (max a b)

/-- R216: the logic rows of the ALUs, and their saturating, minimum and maximum rows. -/
def Obligations.AluLogicAndSaturation : Prop := Parts.AluLogic ∧ Parts.AluSaturateMinMax

/-- R218, R219: the shifts take an amount k of 0 to 255 from B[7:0]. shl, shr and sar shift out the bit that C holds, rol and ror
rotate by k modulo the width, shls saturates, bswap (not of 8 bits) reverses the bytes. -/
def Obligations.Shifts : Prop :=
  ∀ (s : State) (t : Thread) (w : Fin 3), s.chip.Free t uSHF →
    let n := bitsOf w
    let a := s.chip.opA t uSHF n
    let k := s.chip.opB t uSHF 8
    let m := k % n
    let res (i : Instr) (r : Nat) (C : Bool) : Prop := UnitDone i s t uSHF r (intFlags n r C false false)
    res (.shl t w) (a * 2 ^ k % 2 ^ n) (decide (0 < k ∧ k ≤ n ∧ a / 2 ^ (n - k) % 2 = 1)) ∧
    res (.shr t w) (a / 2 ^ k) (decide (0 < k ∧ k ≤ n ∧ a / 2 ^ (k - 1) % 2 = 1)) ∧
    res (.sar t w) (ofSigned n (toSigned n a / 2 ^ k))
      (if n ≤ k then decide (2 ^ (n - 1) ≤ a) else decide (0 < k ∧ a / 2 ^ (k - 1) % 2 = 1)) ∧
    (let r := (a * 2 ^ m + a / 2 ^ (n - m)) % 2 ^ n; res (.rol t w) r (decide (m ≠ 0 ∧ r % 2 = 1))) ∧
    (let r := (a / 2 ^ m + a * 2 ^ (n - m)) % 2 ^ n; res (.ror t w) r (decide (m ≠ 0 ∧ 2 ^ (n - 1) ≤ r))) ∧
    (let z := toSigned n a * 2 ^ min k n
     let r := ofSigned n (clampSigned n z)
     UnitDone (.shls t w) s t uSHF r (intFlags n r false (!fitsSigned n z) (!fitsSigned n z))) ∧
    (w ≠ 0 → res (.bswap t w) (byteSwap n a) false)

/-- R220, R221: every compare writes 0 or 1 to q0 and its result, or the guard's old value AND the result, to its guard; fl holds Z
when A = B, C when A < B unsigned, N when A < B signed. Of the thread nothing else changes. -/
def Obligations.Compares : Prop :=
  ∀ (s : State) (t : Thread) (w : Fin 3) (g : Fin 4) (anded : Bool), s.chip.Free t uCMP →
    let n := bitsOf w
    let a := s.chip.opA t uCMP n
    let b := s.chip.opB t uCMP n
    let x := toSigned n a
    let y := toSigned n b
    ∀ p ∈ [(Instr.cmpEq t w g anded, decide (a = b)), (Instr.cmpNe t w g anded, decide (a ≠ b)),
           (Instr.cmpLtu t w g anded, decide (a < b)), (Instr.cmpGeu t w g anded, decide (b ≤ a)),
           (Instr.cmpLts t w g anded, decide (x < y)), (Instr.cmpGes t w g anded, decide (y ≤ x)),
           (Instr.cmpTst t w g anded, decide (a &&& b ≠ 0)), (Instr.cmpTstz t w g anded, decide (a &&& b = 0))],
      Does p.1 s (fun d =>
        (d.unit t uCMP).q.toNat = b2n p.2 ∧
        (d.unit t uCMP).fl.toNat = b2n (decide (a = b)) + 2 * b2n (decide (x < y)) + 4 * b2n (decide (a < b)) ∧
        (∀ h : Fin 4, (d.thr t).guards.getLsbD h =
          if h = g then (if anded then (s.chip.thr t).guards.getLsbD g && p.2 else p.2) else (s.chip.thr t).guards.getLsbD h) ∧
        (∀ r, r ≠ t.val → d.thr r = s.chip.thr r) ∧ (∀ v, v ≠ uCMP → d.unit t v = s.chip.unit t v) ∧
        { d.thr t with units := [], guards := 0 } = { s.chip.thr t with units := [], guards := 0 } ∧
        s.chip.SameOutside d ∧ d.cores = s.chip.cores)

/-- R222, R223: the products of 8 and 16 bits, which mulu and muls deliver in twice the width. -/
def Obligations.Multiplies : Prop :=
  ∀ (s : State) (t : Thread) (w : Fin 3), w ≠ 2 → s.chip.Free t uMUL →
    let n := bitsOf w
    let a := s.chip.opA t uMUL n
    let b := s.chip.opB t uMUL n
    let z := toSigned n a * toSigned n b
    let res (i : Instr) (p r : Nat) : Prop := UnitDone i s t uMUL r (intFlags p r false false false)
    res (.mulu t w) (2 * n) (a * b) ∧ res (.muls t w) (2 * n) (ofSigned (2 * n) z) ∧
    res (.mulhu t w) n (a * b / 2 ^ n) ∧ res (.mulhs t w) n (ofSigned n (z / 2 ^ n)) ∧
    (let y := (z + 2 ^ (n - 2)) / 2 ^ (n - 1)
     let r := ofSigned n (min (2 ^ (n - 1) - 1) y)
     UnitDone (.mulq t w) s t uMUL r (intFlags n r false (decide (2 ^ (n - 1) - 1 < y)) (decide (2 ^ (n - 1) - 1 < y))))

/-- R224, R225: the counts of BIT, and the field of u5 (position) and u6 (length); fl holds Z alone. -/
def Obligations.BitOperations : Prop :=
  ∀ (s : State) (t : Thread) (w : Fin 3), s.chip.Free t uBIT →
    let n := bitsOf w
    let a := s.chip.opA t uBIT n
    let v := (s.chip.unit t uBIT).a.toNat
    let pos := (s.chip.unit t uBIT).u5.toNat
    let len := fieldLen pos (s.chip.unit t uBIT).u6.toNat
    let res (i : Instr) (r : Nat) : Prop := UnitDone i s t uBIT r (b2n (decide (r = 0)))
    res (.popcnt t w) ((List.range n).filter (fun i => bit a i)).length ∧
    res (.clz t w) (if a = 0 then n else n - 1 - Nat.log2 a) ∧
    (∃ z, res (.ctz t w) z ∧ (a = 0 → z = n) ∧ (a ≠ 0 → a % 2 ^ z = 0 ∧ a / 2 ^ z % 2 = 1)) ∧
    (∃ z, res (.brev t w) z ∧ z < 2 ^ n ∧ ∀ i < n, bit z i = bit a (n - 1 - i)) ∧
    res (.extu t) (v / 2 ^ pos % 2 ^ len) ∧
    res (.exts t) (if len = 0 then 0 else ofSigned 32 (toSigned len (v / 2 ^ pos % 2 ^ len))) ∧
    (∃ z, res (.ins t) z ∧ ∀ i < 32, bit z i =
      if pos ≤ i ∧ i < pos + len then bit (s.chip.unit t uBIT).b.toNat (i - pos) else bit v i)

/-! ### Floating point (05, 06) -/

/-- R226, R227: every FPH row delivers the result of its operation under the thread's FPMODE, sets fl, and ORs its flags into
FPFLAGS; fdiv and fsqrt keep the core's divider for 6 cycles. Nothing else changes. What the results are, FloatSpecialOperands
and RoundingModes say. -/
def Obligations.FphRows : Prop :=
  ∀ (s : State) (t : Thread), s.chip.Free t uFPH →
    let x := s.chip.thr t
    let v := s.chip.unit t uFPH
    ∀ p ∈ [(Instr.fadd t .fph, FpOp.fadd), (Instr.fsub t .fph, FpOp.fsub), (Instr.fmul t .fph, FpOp.fmul), (Instr.fma t, FpOp.fma),
           (Instr.fmin t .fph, FpOp.fmin), (Instr.fmax t .fph, FpOp.fmax), (Instr.fcmp t .fph, FpOp.fcmp), (Instr.fdiv t .fph, FpOp.fdiv),
           (Instr.fsqrt t .fph, FpOp.fsqrt), (Instr.fabs t .fph, FpOp.fabs), (Instr.fneg t .fph, FpOp.fneg),
           (Instr.cvtIntToFloat t .fph, FpOp.cvtFI), (Instr.cvtFloatToInt t .fph, FpOp.cvtIF),
           (Instr.cvtUintToFloat t .fph, FpOp.cvtFU), (Instr.cvtFloatToUint t .fph, FpOp.cvtUF), (Instr.cvtFormat t .fph, FpOp.cvtFF)],
      let r := fpRes true p.2 x.fpmode.toNat v.a.toNat v.b.toNat
      Does p.1 s (fun d =>
        (d.unit t uFPH).q = BitVec.ofNat 32 r.val ∧ (d.unit t uFPH).fl = BitVec.ofNat 8 r.fl.toNat ∧
        s.chip.OnlyThr d t uFPH (fun x => { x with fpflags := BitVec.ofNat 8 (x.fpflags.toNat ||| r.fl.toNat) }) ∧
        s.chip.SameOutside d ∧
        s.chip.OnlyCore d (coreOf t) (fun k => if p.2 = .fdiv ∨ p.2 = .fsqrt then { k with fphFree := k.cyc + 6 } else k))

/-- R276: a number m × 2^e rounded to a multiple q × 2^g: to the nearest with ties to even, towards zero, up or down, and inexact
exactly when a bit was lost. -/
def Parts.RoundingModes : Prop :=
  ∀ (neg : Bool) (m : Nat) (e g : Int), e ≤ g →
    let k := 2 ^ (g - e).toNat
    let q (rm : Rm) : Nat := (roundTo rm neg m e false g).1
    (∀ rm, (roundTo rm neg m e false g).2 = decide (m % k ≠ 0)) ∧
    (q .rtz * k ≤ m ∧ m < (q .rtz + 1) * k) ∧
    (2 * m ≤ (2 * q .rne + 1) * k ∧ (2 * q .rne) * k ≤ 2 * m + k ∧
      (2 * m = (2 * q .rne + 1) * k ∨ (2 * q .rne) * k = 2 * m + k → q .rne % 2 = 0)) ∧
    (if neg then q .rup = q .rtz else m ≤ q .rup * k ∧ q .rup * k < m + k) ∧
    (if neg then m ≤ q .rdn * k ∧ q .rdn * k < m + k else q .rdn = q .rtz)

/-- R287 to R290: an operand that is a NaN gives the canonical NaN, in both formats and every mode; a number divided by zero an
infinity with DZ; the square root of a negative number the canonical NaN with NV. -/
def Parts.FloatSpecialOperands : Prop :=
  ∀ (isH : Bool) (mode a b : Nat),
    let f := fpFmt isH
    let expo (x : Nat) : Nat := x / 2 ^ f.fb % 2 ^ f.eb
    let frac (x : Nat) : Nat := x % 2 ^ f.fb
    let sign (x : Nat) : Nat := x / 2 ^ (f.eb + f.fb) % 2
    let nan (x : Nat) : Prop := expo x = 2 ^ f.eb - 1 ∧ frac x ≠ 0
    let normal (x : Nat) : Prop := 0 < expo x ∧ expo x < 2 ^ f.eb - 1
    let quiet : Nat := (2 ^ f.eb - 1) * 2 ^ f.fb + 2 ^ (f.fb - 1)
    (nan a ∨ nan b → ∀ op ∈ [FpOp.fadd, FpOp.fsub, FpOp.fmul, FpOp.fdiv], (fpRes isH op mode a b).val = quiet) ∧
    (nan a → (fpRes isH .fsqrt mode a b).val = quiet) ∧
    (normal a → expo b = 0 → frac b = 0 →
      (fpRes isH .fdiv mode a b).val = (if sign a = sign b then 0 else 2 ^ (f.eb + f.fb)) + (2 ^ f.eb - 1) * 2 ^ f.fb ∧
      (fpRes isH .fdiv mode a b).fl = { dz := true }) ∧
    (normal a → sign a = 1 → fpRes isH .fsqrt mode a b = ⟨quiet, { nv := true }⟩)

/-- R276, R287 to R290: rounding, and the results of special operands. -/
def Obligations.FloatSpecials : Prop := Parts.RoundingModes ∧ Parts.FloatSpecialOperands

/-! ### CRC (05) -/

/-- R238 to R240: init, byte and seed set the thread's accumulator and show the finished value; nothing else changes. -/
def Obligations.CrcRows : Prop :=
  ∀ (s : State) (t : Thread) (p : Fin 3), s.chip.Free t uCRC →
    let acc := (s.chip.thr t).crcAcc.toNat
    let v := s.chip.unit t uCRC
    let done (i : Instr) (n : Nat) : Prop :=
      ThreadDone i s t uCRC ((n ^^^ crcFinal p) % 2 ^ crcWidth p) 0 (fun x => { x with crcAcc := BitVec.ofNat 32 n })
    done (.crcInit t p) (crcInit p) ∧ done (.crcSeed t p) v.b.toNat ∧
    done (.crcByte t p) (crcByte p acc (BitVec.ofNat 8 v.a.toNat) % 2 ^ 32)

/-! ### Long operations (05, 07) -/

/-- R208, R213: the rows of long operations capture their operands, count and leave a TAG; the effect comes at LONG_OP_RETIRE. They
are every FPS row, a MUL row of 32 bits (which raises illegal-operation on the Warden, R260), the CRC block, every QUE row, every MBX row
and the RNG reads. -/
def Parts.LongRows : Prop :=
  ∀ (s : State) (t : Thread),
    (s.chip.Free t uFPS → ∀ p ∈ [(Instr.fadd t .fps, 0x00), (Instr.fsub t .fps, 0x01), (Instr.fmul t .fps, 0x02),
        (Instr.fmin t .fps, 0x05), (Instr.fmax t .fps, 0x06), (Instr.fcmp t .fps, 0x07), (Instr.fdiv t .fps, 0x08),
        (Instr.fsqrt t .fps, 0x10), (Instr.fabs t .fps, 0x11), (Instr.fneg t .fps, 0x12), (Instr.cvtIntToFloat t .fps, 0x20),
        (Instr.cvtFloatToInt t .fps, 0x21), (Instr.cvtUintToFloat t .fps, 0x22), (Instr.cvtFloatToUint t .fps, 0x23),
        (Instr.cvtFormat t .fps, 0x24)], LongStarts p.1 s t uFPS p.2 []) ∧
    (s.chip.Free t uMUL → ∀ p ∈ [(Instr.mulu t 2, 0x02), (Instr.muls t 2, 0x06), (Instr.mulhu t 2, 0x0A), (Instr.mulhs t 2, 0x0E),
        (Instr.mulq t 2, 0x12)], (t.val < 16 → LongStarts p.1 s t uMUL p.2 []) ∧
          (16 ≤ t.val → (s.chip.thr t).exc = none → Traps p.1 s t uMUL 3 none)) ∧
    (s.chip.Free t uCRC → ∀ p : Fin 3, LongStarts (.crcBlock t p) s t uCRC (8 + p) []) ∧
    (s.chip.Free t uQUE → ∀ p ∈ [(Instr.deq t, 0x01), (Instr.peek t, 0x02), (Instr.qfence t, 0x04), (Instr.abandon t, 0x05),
        (Instr.freeze t, 0x08), (Instr.thaw t, 0x10), (Instr.round t, 0x80)], LongStarts p.1 s t uQUE p.2 []) ∧
    (s.chip.Free t uQUE →
      let v := s.chip.unit t uQUE
      LongStarts (.enq t) s t uQUE 0 ((List.range (v.b.toNat % 256 + 1)).map (fun i => FMap.get 0 s.chip.mem.dmem (v.a.toNat % 2 ^ 16 + i)))) ∧
    (s.chip.Free t uMBX → LongStarts (.sendh t) s t uMBX 1 [] ∧ LongStarts (.recv t) s t uMBX 2 [] ∧ LongStarts (.req t) s t uMBX 4 [] ∧
      (if t.val < 16 then LongStarts (.sendw t) s t uMBX 0 [] else LongStarts (.sendc t) s t uMBX 3 [])) ∧
    (s.chip.Free t uRNG → ∀ w : Fin 3, LongStarts (.rnd t w) s t uRNG w [])

/-- R222, R226, R317: when a 32-bit product or an FPS operation retires, its result and flags appear at its unit, an FPS operation's
flags join FPFLAGS by the FPMODE captured, and the unit is free again; a thread that no hold stops changes in nothing else. -/
def Obligations.LongResults : Prop :=
  ∀ (s : State) (t : Thread) (op : LongOp), (s.chip.thr t).hold = .none → t.val < 16 →
    let a := op.a.toNat
    let b := op.b.toNat
    let free (u : Fin 16) (q fl : Nat) (f : ThreadSt → ThreadSt) : Prop :=
      Does (.longOpRetire t u) s (fun d => (d.unit t u).q = BitVec.ofNat 32 q ∧ (d.unit t u).fl = BitVec.ofNat 8 fl ∧
        (d.unit t u).busy = none ∧ s.chip.OnlyThr d t u f ∧ s.chip.SameOutside d ∧ d.cores = s.chip.cores)
    ((s.chip.unit t uMUL).busy = some op →
      let z := toSigned 32 a * toSigned 32 b
      (op.code = 0x02 → free 4 (a * b % 2 ^ 32) (intFlags 32 (a * b % 2 ^ 32) false false false) id) ∧
      (op.code = 0x06 → free 4 (a * b % 2 ^ 32) (intFlags 32 (a * b % 2 ^ 32) false false false) id) ∧
      (op.code = 0x0A → free 4 (a * b / 2 ^ 32) (intFlags 32 (a * b / 2 ^ 32) false false false) id) ∧
      (op.code = 0x0E → free 4 (ofSigned 32 (z / 2 ^ 32)) (intFlags 32 (ofSigned 32 (z / 2 ^ 32)) false false false) id) ∧
      (op.code = 0x12 →
        let y := (z + 2 ^ 30) / 2 ^ 31
        let r := ofSigned 32 (min (2 ^ 31 - 1) y)
        free 4 r (intFlags 32 r false (decide (2 ^ 31 - 1 < y)) (decide (2 ^ 31 - 1 < y))) id)) ∧
    ((s.chip.unit t uFPS).busy = some op →
      ∀ o, FpOp.ofCode false op.code = some o →
        let r := fpRes false o op.fpmode a b
        free 6 r.val r.fl.toNat (fun x => { x with fpflags := BitVec.ofNat 8 (x.fpflags.toNat ||| r.fl.toNat) }))

/-! ### LSU (05, 07) -/

/-- R232, R233, R309, R315: a load wholly within DMEM that its windows permit delivers the bytes from A[23:0] on, least significant
first, zero- or sign-extended, with SPLIT when it crosses a 4-byte boundary; memory does not change. -/
def Obligations.LoadsFromDmem : Prop :=
  ∀ (s : State) (t : Thread) (w : Fin 3), t.val < 16 → s.chip.Free t uLSU → s.chip.domOn dCPU = true →
    let n := 2 ^ w.val
    let a := (s.chip.unit t uLSU).a.toNat % 2 ^ 24
    let v := leNat ((List.range n).map (fun i => FMap.get 0 s.chip.mem.dmem (a + i)))
    a + n ≤ 0x10000 → (∀ i < n, s.chip.mayAccess t false (a + i) = true) →
    ((s.chip.thr t).lsuMode.getLsbD 0 = true → a % n = 0) →
    UnitDone (.ld t w) s t uLSU v (b2n (decide (4 < a % 4 + n))) ∧
    (∀ x : Fin 2, x.val = w.val → UnitDone (.ldSigned t x) s t uLSU (ofSigned 32 (toSigned (8 * n) v)) (b2n (decide (4 < a % 4 + n))))

/-- R232, R309: a store wholly within DMEM that its windows permit writes the low bytes of B from A[23:0] on, least significant
first, and no other byte of any memory; swap8 delivers the old byte and writes B's low byte. The DMEM keeps its canonical form. -/
def Obligations.StoresToDmem : Prop :=
  ∀ (s : State) (t : Thread) (w : Fin 3), t.val < 16 → s.chip.Free t uLSU → s.chip.domOn dCPU = true →
    let u := s.chip.unit t uLSU
    let n := 2 ^ w.val
    let a := u.a.toNat % 2 ^ 24
    let old (x : Nat) : Byte := FMap.get 0 s.chip.mem.dmem x
    let stored (d : Chip) (n : Nat) : Prop :=
      (∀ x, FMap.get 0 d.mem.dmem x = if a ≤ x ∧ x < a + n then BitVec.ofNat 8 (u.b.toNat / 256 ^ (x - a)) else old x) ∧
      { d.mem with dmem := [] } = { s.chip.mem with dmem := [] } ∧
      (Memory.wf 0 s.chip.mem.dmem = true → Memory.wf 0 d.mem.dmem = true) ∧
      s.chip.OnlyUnit d t uLSU ∧ s.chip.SameOutside { d with mem := s.chip.mem } ∧ d.cores = s.chip.cores
    a + n ≤ 0x10000 → (∀ i < n, s.chip.mayAccess t true (a + i) = true) →
    ((s.chip.thr t).lsuMode.getLsbD 0 = true → a % n = 0) →
    Does (.st t w) s (fun d => stored d n ∧ (d.unit t uLSU).q = u.q ∧ (d.unit t uLSU).fl.toNat = b2n (decide (4 < a % 4 + n))) ∧
    (s.chip.mayAccess t false a = true → n = 1 →
      Does (.swap8 t) s (fun d => stored d 1 ∧ (d.unit t uLSU).q.toNat = (old a).toNat ∧ (d.unit t uLSU).fl = 0))

/-- R236: where an LSU row stops short of its access: an unaligned 16- or 32-bit access in STRICT raises alignment, one that its
windows do not permit raises protection, with the first such address; nothing is stored. -/
def Obligations.LsuExceptions : Prop :=
  ∀ (s : State) (t : Thread) (w : Fin 3), t.val < 16 → s.chip.Free t uLSU → s.chip.domOn dCPU = true → (s.chip.thr t).exc = none →
    let n := 2 ^ w.val
    let a := (s.chip.unit t uLSU).a.toNat % 2 ^ 24
    a + n ≤ 0x10000 →
    ((s.chip.thr t).lsuMode.getLsbD 0 = true → a % n ≠ 0 → Traps (.ld t w) s t uLSU 6 (some a) ∧ Traps (.st t w) s t uLSU 6 (some a)) ∧
    (a % n = 0 → s.chip.mayAccess t false a = false → Traps (.ld t w) s t uLSU 5 (some a)) ∧
    (a % n = 0 → s.chip.mayAccess t true a = false → Traps (.st t w) s t uLSU 5 (some a)) ∧
    (n = 1 → s.chip.mayAccess t true a = false → Traps (.swap8 t) s t uLSU 5 (some a))

/-- R233: an access that is not wholly within DMEM is long: the row captures it, and it is made at LONG_OP_RETIRE. -/
def Parts.FarAccessesStart : Prop :=
  ∀ (s : State) (t : Thread) (w : Fin 3), t.val < 16 → s.chip.Free t uLSU →
    let n := 2 ^ w.val
    let a := (s.chip.unit t uLSU).a.toNat % 2 ^ 24
    (0x10000 < a + n →
      LongStarts (.ld t w) s t uLSU w [] ∧ LongStarts (.st t w) s t uLSU (8 + w) [] ∧
      (∀ x : Fin 2, x.val = w.val → LongStarts (.ldSigned t x) s t uLSU (4 + x) [])) ∧
    (0x10000 ≤ a → LongStarts (.swap8 t) s t uLSU 16 [])

/-- R208, R213, R233: which rows start a long operation, and what they capture. -/
def Obligations.LongRowsStart : Prop := Parts.LongRows ∧ Parts.FarAccessesStart

/-! ### CTL (05, 07, 04) -/

/-- R242, R243, R344: where the thread goes on after jump, call, ret and eret, with the return stack of 8; call-depth and the
privilege and operand exceptions otherwise. -/
def Obligations.Jumps : Prop :=
  ∀ (s : State) (t : Thread),
    let x := s.chip.thr t
    let a := (s.chip.unit t uCTL).a.toNat % 256
    let target : Index := BitVec.ofNat 15 (s.chip.unit t uCTL).b.toNat
    ThreadDone (.jump t) s t uCTL 0 0 (fun x => { x with pc := target }) ∧
    (x.stack.length < 8 →
      ThreadDone (.call t) s t uCTL 0 0 (fun x => { x with stack := (x.pc + 1, x.priv) :: x.stack, pc := target })) ∧
    (∀ e l, x.stack = e :: l →
      ThreadDone (.ret t) s t uCTL 0 0 (fun x => { x with stack := l, pc := e.1 }) ∧
      (s.chip.isPriv t = true → a < 2 →
        ThreadDone (.eret t) s t uCTL 0 0 (fun x => { x with stack := l, priv := e.2, pc := e.1 + BitVec.ofNat 15 a }))) ∧
    (x.exc = none →
      (8 ≤ x.stack.length → Traps (.call t) s t uCTL 9 none) ∧ (x.stack = [] → Traps (.ret t) s t uCTL 9 none) ∧
      (s.chip.isPriv t = false → Traps (.eret t) s t uCTL 4 none) ∧
      (s.chip.isPriv t = true → 2 ≤ a → Traps (.eret t) s t uCTL 3 none))

/-- R244, R246, R320, 05's CTL table: wait, yield, fence, halt and trap. A wait with a source pending completes at once with the
sources in fl; fence and halt wait for the thread's long operations; a halt discards shadows and releases an idle NVM interface
of the thread's own (17 R824). -/
def Parts.ControlRows : Prop :=
  ∀ (s : State) (t : Thread),
    let x := s.chip.thr t
    let m := s.chip.waitPending t
    let a := (s.chip.unit t uCTL).a.toNat % 256
    let keep (d : Chip) (f : ThreadSt → ThreadSt) : Prop :=
      s.chip.OnlyThr d t uCTL f ∧ s.chip.SameOutside d ∧ d.cores = s.chip.cores ∧ (d.unit t uCTL).busy = (s.chip.unit t uCTL).busy
    (x.waitmask = 0 → x.exc = none → Traps (.wait t) s t uCTL 3 none) ∧
    (x.waitmask ≠ 0 → m ≠ 0 →
      ThreadDone (.wait t) s t uCTL 0 (m % 32) (fun x => { x with run := .active, queDone := x.queDone && !bit m 2, pc := x.pc + 1 })) ∧
    (x.waitmask ≠ 0 → m = 0 → Does (.wait t) s (fun d => keep d (fun x => { x with run := .waiting, holdPc := x.pc, pc := x.pc + 1 }))) ∧
    ThreadDone (.yield t) s t uCTL 0 0
      (fun x => { x with notBefore := (s.chip.core (coreOf t)).cyc + 1 + (if a = 0 then 4 else a), pc := x.pc + 1 }) ∧
    ThreadDone (.fence t) s t uCTL 0 0 (fun x => { x with hold := if x.quiet then x.hold else .fence, pc := x.pc + 1 }) ∧
    (x.quiet = true → s.chip.rd R.NVM_OWN ≠ originOf t →
      ThreadDone (.halt t) s t uCTL 0 0 (fun x => { x with run := .halted, hold := .none, shadow := [], regShadow := [], pc := x.pc + 1 })) ∧
    (x.quiet = false → ThreadDone (.halt t) s t uCTL 0 0 (fun x => { x with hold := .halt, holdPc := x.pc, pc := x.pc + 1 })) ∧
    (x.exc = none → Does (.trap t) s (fun d =>
      (d.thr t).exc = some { cause := 0x0A, fu := unitBase uCTL, tag := BitVec.ofNat 8 (s.chip.unit t uCTL).a.toNat, pc := x.pc, resume := x.pc + 1 } ∧
      keep d (fun x => { x with exc := (d.thr t).exc })))

/-- R244: a waiting thread with a source pending becomes ACTIVE with the pending sources in fl; a doorbell byte is popped in
order. -/
def Parts.WakesAndDoorbells : Prop :=
  ∀ (s : State) (t : Thread),
    let x := s.chip.thr t
    let m := s.chip.waitPending t
    (x.run = .waiting → m ≠ 0 → x.exc = none →
      ThreadDone (.threadWake t) s t uCTL 0 (m % 32) (fun x => { x with run := .active, queDone := x.queDone && !bit m 2 })) ∧
    Does (.doorbellPop t) s (fun d => (d.thr t).doorbells = x.doorbells.drop 1 ∧ { d.thr t with doorbells := [] } = { x with doorbells := [] } ∧
      (∀ r, r ≠ t.val → d.thr r = s.chip.thr r) ∧ s.chip.SameOutside d ∧ d.cores = s.chip.cores)

/-- R244, R246, R320 and 05's CTL table: wait, yield, fence, halt, trap, the wake of a thread and the pop of a doorbell. -/
def Obligations.ThreadControl : Prop := Parts.ControlRows ∧ Parts.WakesAndDoorbells

/-- R245: a spawn starts the thread B[18:16] of the spawner's core (on the Warden s0 to s3 by B[17:16], R260), when it is halted, at bundle
B[14:0] with every state of its own anew but its inbox, privileged only when B[19] is set and the spawner is privileged (the Warden's
threads always are, 04 R190); otherwise, and on the Warden with B[18] set, fl shows FAIL and nothing else changes. -/
def Obligations.SpawnStartsThread : Prop :=
  ∀ (s : State) (t : Thread),
    let b := (s.chip.unit t uCTL).b.toNat
    let n := if t.val < 16 then 8 * (t.val / 8) + b / 2 ^ 16 % 8 else 16 + b / 2 ^ 16 % 4
    let named : Prop := t.val < 16 ∨ b / 2 ^ 18 % 2 = 0
    (n ≠ t.val → named → (s.chip.thr n).run = .halted →
      Does (.spawn t) s (fun d =>
        d.thr n = { run := .active, pc := BitVec.ofNat 15 b, priv := decide (16 ≤ t.val) || (decide (b / 2 ^ 19 % 2 = 1) && (s.chip.thr t).priv),
                    inbox := (s.chip.thr n).inbox } ∧
        (d.unit t uCTL).fl = 0 ∧ (d.thr t).pc = (s.chip.thr t).pc + 1 ∧
        { d.thr t with units := [], pc := 0 } = { s.chip.thr t with units := [], pc := 0 } ∧
        (∀ r, r ≠ t.val → r ≠ n → d.thr r = s.chip.thr r) ∧ s.chip.SameOutside d ∧ d.cores = s.chip.cores)) ∧
    (¬ named ∨ (s.chip.thr n).run ≠ .halted → ThreadDone (.spawn t) s t uCTL 0 0x80 (fun x => { x with pc := x.pc + 1 }))

/-- R171, R172: sync commits the thread's pending FPMODE and HANDLER at once; with a pending core-wide socket it holds the thread,
and CORE_WIDE_COMMIT commits it when no LSU operation of the core is outstanding, in a cycle of the core. THERMLIM is clamped to
70 to 120 (R157). -/
def Obligations.SyncCommits : Prop :=
  ∀ (s : State) (t : Thread) (m h : Byte), (s.chip.thr t).regShadow = [] →
    ((s.chip.thr t).shadow = [(0xC2, some m), (0xCE, some h)] →
      ThreadDone (.sync t) s t uCTL 0 0 (fun x => { x with fpmode := m, handler := BitVec.ofNat 15 (x.handler.toNat / 256 * 256 + h.toNat),
                                                            shadow := [], pc := x.pc + 1 })) ∧
    ((s.chip.thr t).shadow = [(0xF3, some h)] → t.val < 16 →
      ThreadDone (.sync t) s t uCTL 0 0 (fun x => { x with hold := .sync, pc := x.pc + 1 })) ∧
    (∀ k : Fin 2, t.val / 8 = k.val → (s.chip.thr t).shadow = [(0xF3, some h)] → (s.chip.thr t).hold = .sync →
      (∀ r ∈ threadsOf k, ((s.chip.unit r uLSU).busy = none ∧ (r ≠ t.val → (s.chip.thr r).hold ≠ .sync))) →
      Does (.coreWideCommit k) s (fun d =>
        (d.core k).csrv 0xF3 = max 70 (min 120 h.toNat) ∧ (d.core k).cyc = (s.chip.core k).cyc + 1 ∧
        { d.core k with csr := [], cyc := 0 } = { s.chip.core k with csr := [], cyc := 0 } ∧
        (∀ v, v ≠ 0xF3 → (d.core k).csrv v = (s.chip.core k).csrv v) ∧ (∀ j, j ≠ k.val → d.core j = s.chip.core j) ∧
        d.thr t = { s.chip.thr t with shadow := [], hold := .none } ∧ (∀ r, r ≠ t.val → d.thr r = s.chip.thr r) ∧ s.chip.SameOutside d))

/-- R178, R181: the thermal pause of a FIXED core, and the frequency steps of an ADAPTIVE one at die temperature T: 2 MHz down at
THERMLIM but not below FMIN, out of boost at 70 °C, to FMIN at 125 °C. The other core and everything else stand. -/
def Obligations.ClockSteps : Prop :=
  ∀ (s : State) (k : Fin 2) (T : Int),
    let x := s.chip.core k
    let lim : Int := x.csrv 0xF3
    let only (i : Instr) (f : CoreSt → CoreSt) : Prop :=
      Does i s (fun d => s.chip.OnlyCore d k f ∧ d.threads = s.chip.threads ∧ s.chip.SameOutside d)
    (x.adaptive = false → only (.thermalPauseStep k T)
      (fun x => { x with pause := if lim ≤ T then min 16 (x.pause + 1) else if T ≤ lim - 5 then x.pause - 1 else x.pause })) ∧
    (x.adaptive = true → lim ≤ T → only (.adaptiveFreqStep k T)
      (fun x => { x with boost := x.boost && decide (125 < max x.fmin (x.csrv 0xF4 - 1)) }.setCsr 0xF4 (max x.fmin (x.csrv 0xF4 - 1)))) ∧
    (x.adaptive = true → 70 ≤ T → 125 < x.csrv 0xF4 → only (.boostStop k T) (fun x => { x with boost := false }.setCsr 0xF4 125)) ∧
    (x.adaptive = true → 125 ≤ T → only (.junctionLimit k T) (fun x => { x with boost := false }.setCsr 0xF4 x.fmin))

/-- 04 R191 to R193, 07 R335 to R342: exception entry, once the thread's long operations have retired: the resume index and PRIV are
pushed, the records hold cause, unit, tag, bundle, slot and the privilege before, CORE_EXCADDR the faulting address, and the thread
goes on privileged at HANDLER one cycle later. With a full return stack it records cause 9 and halts, and CORE_DFAULT shows it. -/
def Obligations.ExceptionEntry : Prop :=
  ∀ (s : State) (t : Thread) (e : Exc) (a : Nat), t.val < 16 → (s.chip.thr t).exc = some e → e.addr = some a → a < 2 ^ 24 →
    (s.chip.thr t).quiet = true →
    let x := s.chip.thr t
    let excaddr := R.CORE_EXCADDR (t.val / 8) (t.val % 8)
    (x.stack.length < 8 →
      Does (.exceptionEntry t) s (fun d =>
        d.thr t = { x with excPc := e.pc, excSlot := e.slot, imprecise := e.imprecise, prevPriv := x.priv, excCause := e.cause,
                           excFu := e.fu, excTag := e.tag, stack := (e.resume, x.priv) :: x.stack, priv := true, pc := x.handler,
                           run := .active, hold := .none, exc := none, notBefore := (s.chip.core (coreOf t)).cyc + 1 } ∧
        d.rd excaddr = a ∧ s.chip.Keeps d [excaddr] Chip.noThreads ∧ (∀ r, r ≠ t.val → d.thr r = s.chip.thr r))) ∧
    (8 ≤ x.stack.length → s.chip.rd R.NVM_OWN ≠ originOf t → s.chip.rd (R.HIF_DBR 2) % 2 = 0 →
      Does (.exceptionEntry t) s (fun d =>
        (d.thr t).run = .halted ∧ (d.thr t).excCause = 9 ∧ (d.thr t).excPc = e.pc ∧ (d.thr t).exc = none ∧ (d.thr t).stack = x.stack ∧
        bit (d.rd R.CORE_DFAULT) t = true ∧ d.rd excaddr = a ∧ s.chip.Keeps d [excaddr, R.CORE_DFAULT] Chip.noThreads ∧
        (∀ r, r ≠ t.val → d.thr r = s.chip.thr r)))

/-! ### TMR and PHS (05, 03) -/

/-- R247, R248: tset and tsetabs set a deadline in ticks ahead, or expire at once where none is ahead; tcancel clears both; tnow and
tleft read; a deadline that passes sets EXP. fl shows EXP and ARMED. -/
def Obligations.Timers : Prop :=
  ∀ (s : State) (t : Thread), s.chip.Free t uTMR →
    let x := s.chip.thr t
    let b := (s.chip.unit t uTMR).b.toNat
    let now := s.chip.phw.tick
    let fl := b2n x.expired + 2 * b2n x.deadline.isSome
    let set (i : Instr) (n : Nat) : Prop :=
      if n = 0 then ThreadDone i s t uTMR 0 1 (fun x => { x with deadline := none, expired := true })
      else ThreadDone i s t uTMR 0 2 (fun x => { x with deadline := some (now + n), expired := false })
    set (.tset t) b ∧
    set (.tsetabs t) (if (b + 2 ^ 32 - now % 2 ^ 32) % 2 ^ 32 < 2 ^ 31 then (b + 2 ^ 32 - now % 2 ^ 32) % 2 ^ 32 else 0) ∧
    ThreadDone (.tcancel t) s t uTMR 0 0 (fun x => { x with deadline := none, expired := false }) ∧
    UnitDone (.tnow t) s t uTMR (now % 2 ^ 32) fl ∧
    (∀ e, x.deadline = some e → UnitDone (.tleft t) s t uTMR ((e - now) % 2 ^ 32) fl) ∧
    (x.deadline = none → UnitDone (.tleft t) s t uTMR 0 fl) ∧
    (x.deadline ≠ none → Does (.tmrExpire t) s (fun d => d.thr t = { x with deadline := none, expired := true } ∧
      (∀ r, r ≠ t.val → d.thr r = s.chip.thr r) ∧ s.chip.SameOutside d ∧ d.cores = s.chip.cores))

/-- R249 to R251, R1018: the PHS reads of the wheel that u5[1:0] selects; setphase makes the step of the shorter way round due at
the next tick; mark is refused by a wheel without a software reference; arm and disarm take effect at a slot's next commit. -/
def Parts.PhaseRows : Prop :=
  ∀ (s : State) (t : Thread), t.val < 16 → s.chip.Free t uPHS →
    let v := s.chip.unit t uPHS
    let n := v.u5.toNat % 4
    let a := v.a.toNat
    let slot := a % 256
    let c := s.chip
    let done (i : Instr) (q : Nat) (phw : PhwSt) : Prop :=
      Does i s (fun d => (d.unit t uPHS).q = BitVec.ofNat 32 q ∧ (d.unit t uPHS).fl = 0 ∧ c.OnlyUnit d t uPHS ∧ d.phw = phw ∧
        c.SameOutside { d with phw := c.phw } ∧ d.cores = c.cores)
    done (.rdphase t) (c.phase n / 2 ^ 16 % 2 ^ 32) c.phw ∧ done (.rdturn t) (c.wheelTurn n + 2 ^ 16 * c.wheelState n) c.phw ∧
    ThreadDone (.rdtick t) s t uPHS (c.phw.tick % 2 ^ 32) 0 (fun x => { x with tickHi := BitVec.ofNat 32 (c.phw.tick / 2 ^ 32) }) ∧
    done (.rdtickh t) (c.thr t).tickHi.toNat c.phw ∧
    (c.src n ≠ 3 → done (.mark t) 2 c.phw) ∧
    (c.isPriv t = true → n = 1 → done (.setphase t) 2 c.phw) ∧
    (c.isPriv t = true → n ≠ 1 → c.phase n < 2 ^ 64 →
      let goal := v.b.toNat % 2 ^ 16 * 2 ^ 48 + a % 2 ^ 32 * 2 ^ 16
      ∃ e : Int, -(2 ^ 63) ≤ e ∧ e < 2 ^ 63 ∧ (((c.phase n : Int) + e - (goal : Nat)) % 2 ^ 64 = 0) ∧
        done (.setphase t) 0 { c.phw with wheels := FMap.set {} c.phw.wheels n { c.wheel n with step := if e = 0 then none else some e } }) ∧
    (c.mayAccess t true (0x820000 + 16 * slot) = true →
      (let x := c.slotAux slot
       done (.arm t) 0 { c.phw with slots := FMap.set {} c.phw.slots slot { x with commit := some (c.slotByte slot 0 ||| 1, 0x10 + t.val), disarm := false } } ∧
       done (.disarm t) 0 { c.phw with slots := FMap.set {} c.phw.slots slot { x with disarm := true } })) ∧
    (c.mayAccess t true (0x820000 + 16 * slot) = false → (c.thr t).exc = none →
      Traps (.arm t) s t uPHS 5 (some (0x820000 + 16 * slot)) ∧ Traps (.disarm t) s t uPHS 5 (some (0x820000 + 16 * slot))) ∧
    (c.isPriv t = false → (c.thr t).exc = none → Traps (.setphase t) s t uPHS 4 none)

/-- R101: a mark of an unsynchronised wheel 0 with SRC 3 and its loop on, no older than a turn, is an accepted edge: the wheel
enters ACQUIRE with one edge, its phase error is shown, and the state's change is an event. -/
def Parts.MarkAccepted : Prop :=
  ∀ (s : State) (t : Thread), t.val < 16 → s.chip.Free t uPHS → (s.chip.unit t uPHS).u5.toNat % 4 = 0 →
    let c := s.chip
    let age := (c.phw.tick + 2 ^ 32 - (c.unit t uPHS).b.toNat % 2 ^ 32) % 2 ^ 32
    c.src 0 = 3 → c.loopOn 0 = true → age * c.freqNom 0 ≤ 2 ^ 48 → (c.wheel 0).state = 0 → (c.wheel 0).lastEdge = none →
    Does (.mark t) s (fun d =>
      (d.unit t uPHS).q = 0 ∧ (d.wheel 0).state = 1 ∧ (d.wheel 0).acqEdges = 1 ∧ (d.wheel 0).lastEdge = some (c.phw.tick - age) ∧
      d.rd (R.WHn_STATE_CHG 0) % 2 = 1 ∧ (∀ m, m ≠ 0 → d.wheel m = c.wheel m) ∧ d.phw.slots = c.phw.slots ∧ d.mem = c.mem)

/-- R249 to R251, R1018, R101: the PHS rows, a mark that a wheel accepts among them. -/
def Obligations.PhaseUnit : Prop := Parts.PhaseRows ∧ Parts.MarkAccepted

/-! ### Wheels, slots and station time (03, 01) -/

/-- R94, R98: one CK_PHASE tick of an ON WRD with nothing else due: TICKCNT rises by one and wheel 0 advances by its frequency
word. -/
def Parts.PhaseTickAdvances : Prop :=
  ∀ s : State, s.pending = [] → 4 ≤ (s.chip.dom dWRD).state →
    let c := s.chip
    let w := c.wheel 0
    c.phw.pulses = [] → c.phw.launched = [] → c.phw.slots = [] → c.armedSlots = [] → (∀ e ∈ c.threads, e.2.deadline = none) →
    (∀ n ∈ [0, 2, 3], (c.wheel n).step = none) → c.freqNom 2 = 0 → c.freqNom 3 = 0 → c.freqNom 0 ≠ 0 → w.turn < 2 ^ 16 → w.frac < 2 ^ 48 →
    ∃ t, step s = .next t ∧ t.chip.phw.tick = (c.phw.tick + 1) % 2 ^ 64 ∧
      (t.chip.wheel 0).turn * 2 ^ 48 + (t.chip.wheel 0).frac = (w.turn * 2 ^ 48 + w.frac + c.word 0) % 2 ^ 64 ∧
      c.Keeps t.chip [] (fun d => { d with phw := {} })

/-- On an empty queue a step is one tick of CK_PHASE, the model's choice (log entry 2): while WRD is ON TICKCNT rises by one (R94, R98), while it
is not nothing moves. -/
def Obligations.IdleStepTicks : Prop := Parts.IdleQueue ∧ Parts.PhaseTickAdvances

/-- R110, R1016: the loss timeout puts a wheel in HOLDOVER at the mean word, the end of HOLDOVER in FREE with its loop's words and
counts anew, a cleared NOISY in ACQUIRE; each change of state is an event. -/
def Obligations.WheelEvents : Prop :=
  ∀ (s : State) (n : Fin 4),
    let c := s.chip
    let w := c.wheel n
    let m := c.meanWord n
    let goes (i : Instr) (w' : Wheel) : Prop :=
      Does i s (fun d => d.wheel n = w' ∧ (∀ k, k ≠ n.val → d.wheel k = c.wheel k) ∧
        { d.phw with wheels := [] } = { c.phw with wheels := [] } ∧ bit (d.rd (R.WHn_STATE_CHG n)) 0 = true ∧ c.Rings d ∧
        c.Keeps d [R.WHn_STATE_CHG n, R.WHn_STATE_CHG 1, R.DOORBELL_OVF, R.CAP_STAT, R.CAP_EVT]
          (fun d => { d with phw := {}, cap := {}, threads := [] }))
    (w.state = 1 ∨ w.state = 2 → goes (.wheelLossTimeout n) { w with freq := some m, base := some m, state := 3 }) ∧
    (w.state = 3 → c.rd (R.WHn_HOLD n) ≠ 0 →
      goes (.holdoverExpire n) { w with freq := none, base := none, seedWord := none, lastEdge := none, acqEdges := 0, inTol := 0,
                                        outliers := 0, words := [], rejects := [], state := 0 }) ∧
    (w.state = 4 → goes (.noisyClear n) { w with acqEdges := 0, inTol := 0, outliers := 0, rejects := [], state := 1 })

/-- R104, R105, R107, R110: the first edge of wheel 0's reference takes a free wheel into ACQUIRE, 200 ticks back for its filter
(R100); one inside the guard is only counted; the proportional term leaves the word at its end; in FREE the second edge of CK_LF
steps W3 when the error is large. -/
def Obligations.ReferenceEdges : Prop :=
  ∀ s : State,
    let c := s.chip
    let w := c.wheel 0
    let at' := c.phw.tick - 200
    let e := c.phaseError 3 c.phw.tick 0
    (c.src 0 = 1 → c.loopOn 0 = true → w.state = 0 → w.lastEdge = none →
      Does (.referenceEdge 0) s (fun d => (d.wheel 0).state = 1 ∧ (d.wheel 0).acqEdges = 1 ∧ (d.wheel 0).lastEdge = some at' ∧
        d.rd (R.WHn_PERR 0) = ofSigned 32 (c.phaseError 0 at' (c.rd (R.WHn_REFANG 0)) / 2 ^ 16) ∧
        (∀ k, k ≠ 0 → d.wheel k = c.wheel k) ∧ d.phw.slots = c.phw.slots ∧ d.mem = c.mem)) ∧
    (c.src 0 = 1 → c.loopOn 0 = true → w.state = 0 → c.guardOk 0 at' = false → c.rd (R.WHn_REJCNT 0) < 255 →
      Does (.referenceEdge 0) s (fun d => d.rd (R.WHn_REJCNT 0) = c.rd (R.WHn_REJCNT 0) + 1 ∧
        { d.wheel 0 with rejects := [] } = { w with rejects := [] } ∧ (∀ k, k ≠ 0 → d.wheel k = c.wheel k) ∧
        c.Keeps d [R.WHn_REJCNT 0] (fun d => { d with phw := {} }))) ∧
    (∀ n : Fin 4, (c.wheel n).state = 1 ∨ (c.wheel n).state = 2 →
      Does (.loopProportionalEnd n) s (fun d => d.wheel n = { c.wheel n with freq := (c.wheel n).base } ∧
        (∀ k, k ≠ n.val → d.wheel k = c.wheel k) ∧ c.Keeps d [] (fun d => { d with phw := {} }))) ∧
    (c.wrdOn = true → (c.wheel 3).state = 0 → c.rbit (R.WHn_CTRL 3) 3 = true → c.freqNom 3 ≠ 0 →
      below e (c.rd (R.WHn_STEPTHR 3)) = false → c.rbit (R.WHn_CTRL 3) 4 = false →
      Does (.w3CklfEdge) s (fun d => d.wheel 3 = { c.wheel 3 with step := some e } ∧ d.rd (R.WHn_PERR 3) = ofSigned 32 (e / 2 ^ 16) ∧
        (∀ k, k ≠ 3 → d.wheel k = c.wheel k) ∧ c.Keeps d [R.WHn_PERR 3] (fun d => { d with phw := {} })))

/-- R45, R62, R94, R98: a carry takes a wheel to the start of its next turn, and W3's carry station time one second on; while WRD is
not ON the CK_LF second does. A written SYS_TIME takes the place of the increment, and every lock's seconds count down. -/
def Obligations.StationTime : Prop :=
  ∀ (s : State) (n : Fin 4),
    let c := s.chip
    let w := c.wheel n
    let next := c.phw.sysTime.getD ((c.rd R.SYS_TIME + 1) % 2 ^ 32)
    let locks : List Reg := (List.range 55).map R.AUT_LOCK
    let counted (d : Chip) : Prop := ∀ ap < 55, d.rd (R.AUT_LOCK ap) =
      if c.rd (R.AUT_LOCK ap) % 2 = 1 ∧ 1 < c.rd (R.AUT_LOCK ap) / 256 then (c.rd (R.AUT_LOCK ap) - 256) % 2 ^ 32 else c.rd (R.AUT_LOCK ap)
    (n ≠ 1 → n ≠ 3 → 4 ≤ (c.dom dWRD).state → c.freqNom n ≠ 0 → c.armedSlots = [] → c.phw.launched = [] → w.frac < 2 ^ 48 →
      Does (.wheelTurnCarry n) s (fun d => (d.wheel n).frac = 0 ∧ (d.wheel n).turn = (w.turn + 1) % 2 ^ 16 ∧
        (∀ k, k ≠ n.val → d.wheel k = c.wheel k) ∧ c.Keeps d [] (fun d => { d with phw := {} }))) ∧
    (n = 3 → 4 ≤ (c.dom dWRD).state → c.freqNom 3 ≠ 0 → c.armedSlots = [] → c.phw.launched = [] → w.frac < 2 ^ 48 → c.src 2 ≠ 6 →
      next < 2 ^ 32 →
      Does (.wheelTurnCarry n) s (fun d => (d.wheel 3).frac = 0 ∧ (d.wheel 3).turn = (w.turn + 1) % 2 ^ 16 ∧ d.rd R.SYS_TIME = next ∧
        counted d ∧ c.Keeps d (R.SYS_TIME :: locks) (fun d => { d with phw := {} }))) ∧
    ((c.dom dWRD).state < 4 → next < 2 ^ 32 →
      Does .stationSecond s (fun d => d.rd R.SYS_TIME = next ∧ d.phw = { c.phw with sysTime := none } ∧ counted d ∧
        c.Keeps d (R.SYS_TIME :: locks) (fun d => { d with phw := {} })))

/-- R116, R122, R130: a staged entry whose byte 0 has been written commits; an EVT pulse ends low. -/
def Parts.SlotCommits : Prop :=
  ∀ (s : State) (n : Fin 256) (p : Fin 8) (b : Byte) (o : Nat),
    let c := s.chip
    let x := c.slotAux n
    (c.wrdOn = true → x.commit = some (b, o) → x.disarm = false → x.skipWrite = none →
      Does (.slotCommit n) s (fun d =>
        d.rd (R.SLOT_B0 n) = b.toNat % 32 ∧ d.rd (R.SLOT_B1 n) = (c.stagedByte n 1).toNat % 64 ∧
        d.rd (R.SLOT_B4 n) = leNat ((List.range 11).map (fun i => c.stagedByte n (4 + i))) ∧
        d.rd (R.SLOT_B2 n) % 8 = (c.stagedByte n 2).toNat % 8 ∧
        (d.slotAux n).staged = [] ∧ (d.slotAux n).commit = none ∧ (b.toNat % 2 = 1 → (d.slotAux n).origin = o) ∧
        (∀ m, m ≠ n.val → d.slotAux m = c.slotAux m) ∧
        c.Keeps d [R.SLOT_B0 n, R.SLOT_B1 n, R.SLOT_B2 n, R.SLOT_B4 n] (fun d => { d with phw := { d.phw with slots := [] } }))) ∧
    (FMap.get 0 c.phw.pulses p ≠ 0 → c.domOn dCPU = true →
      Does (.evtPulseEnd p) s (fun d => bit (d.rd R.SIO_EVTOUT) p = false ∧
        (∀ q < 8, q ≠ p.val → bit (d.rd R.SIO_EVTOUT) q = bit (c.rd R.SIO_EVTOUT) q) ∧ FMap.get 0 d.phw.pulses p = 0 ∧
        c.Keeps d [R.SIO_EVTOUT] (fun d => { d with phw := { d.phw with pulses := [] } })))

/-- R115, R119, R122: a class 1 slot that always fires, armed alone on wheel 0: when its angle is reached on a qualifying turn it sets
its EVT pin; ONESHOT disarms it. -/
def Parts.SlotMatchActs : Prop :=
  ∀ (s : State) (n : Fin 256) (pin : Fin 8),
    let c := s.chip
    let arg := c.slotArg n
    4 ≤ (c.dom dWRD).state → c.domOn dCPU = true → c.armedSlots = [n.val] → c.slotEn n = true → c.slotWheel n = 0 → c.freqNom 0 ≠ 0 →
    c.phw.launched = [] → (c.wheel 0).frac < 2 ^ 48 → (c.wheel 0).turn < 2 ^ 16 → (c.wheel 0).back = 0 → (c.slotAux n).count = 0 →
    (c.wheel 0).frac < c.slotAngle n * 2 ^ 16 →
    c.slotClass n = 1 → c.rfld (R.SLOT_B0 n) 3 2 = 1 → arg % 8 = pin.val → arg / 8 % 4 = 0 →
    Does (.slotMatch n) s (fun d => bit (d.rd R.SIO_EVTOUT) pin = true ∧ (d.wheel 0).frac = c.slotAngle n * 2 ^ 16 ∧
      d.rbit (R.SLOT_B0 n) 0 = !c.rbit (R.SLOT_B0 n) 1 ∧ (d.slotAux n).count = c.slotDiv n ∧
      c.Keeps d [R.SIO_EVTOUT, R.SLOT_B0 n, R.SLOT_B2 n] (fun d => { d with phw := {} }))

/-- R115 to R130: a phase slot commits and acts, an EVT pulse ends. -/
def Obligations.PhaseSlots : Prop := Parts.SlotCommits ∧ Parts.SlotMatchActs

/-! ### Cap engine and Millpond (11) -/

/-- R508, R510, R514: one evaluation of the CH2 cap while no cut is pending: the levels that follow, and the mean it worked on. -/
def Parts.CapEvaluates : Prop :=
  ∀ (s : State) (pavg : BitVec 16), s.chip.domUp (dCH 2) = true →
    let c := s.chip
    let p := pavg.toNat
    let k := c.capRules
    let v := c.capLevels
    let lands (w : CapLevels) : Prop :=
      Does (.capEvaluate pavg) s (fun d => d.capLevels = w ∧ (k.limit ≠ 0 → d.rd R.CAP_PAVG = p) ∧
        c.Keeps d [R.CAP_STAT, R.CAP_EVT, R.CAP_PAVG, R.LED_NEXTSEQ, R.LED_UNRECCNT] (fun d => { d with cap := {}, led := {} }))
    v.cut = false →
    (k.limit = 0 → lands ⟨7, false, false, 0, 0, 0⟩) ∧
    (k.limit ≠ 0 → k.limit < p → 0 < v.hold → lands { v with hold := v.hold - 1, relax := 0 }) ∧
    (k.limit ≠ 0 → k.limit < p → v.hold = 0 → k.perfMin < v.perf → lands { v with perf := v.perf - 1, hold := k.holdN, relax := 0 }) ∧
    (k.limit ≠ 0 → k.limit < p → v.hold = 0 → v.perf ≤ k.perfMin → v.throttle = false →
      lands { v with overs := v.overs + 1, throttle := decide (k.thrN ≤ v.overs + 1), relax := 0 }) ∧
    (p ≤ k.limit → 15 * k.limit < 16 * p → lands { v with overs := 0, relax := 0 }) ∧
    (k.limit ≠ 0 → p ≤ k.limit → 16 * p ≤ 15 * k.limit →
      lands (if v.relax + 1 < k.relaxN then { v with overs := 0, relax := v.relax + 1 }
          else if v.throttle then { v with overs := 0, relax := 0, throttle := false }
          else { v with overs := 0, relax := 0, perf := min 7 (v.perf + 1) }))

/-- R513: the evaluation that reaches CAP_CUTN beyond the throttle's count makes a cut pending, sends the Warden a message of kind
0x82 and sets the event. -/
def Parts.CapCuts : Prop :=
  ∀ (s : State) (pavg : BitVec 16), s.chip.domUp (dCH 2) = true →
    let c := s.chip
    let k := c.capRules
    let v := c.capLevels
    k.limit ≠ 0 → k.limit < pavg.toNat → v.hold = 0 → v.perf ≤ k.perfMin → v.throttle = true → v.cut = false → k.cutN ≠ 0 →
    k.thrN + k.cutN ≤ v.overs + 1 → c.wdn.inboxHw = [] →
    Does (.capEvaluate pavg) s (fun d => d.rbit R.CAP_STAT 4 = true ∧ d.rbit R.CAP_EVT 2 = true ∧
      d.wdn = { c.wdn with inboxHw := [hwMsg 0x82 (pavg.toNat) (pavg.toNat / 256) 0 0] })

/-- R522 to R532, R536: Millpond's events: a ramp's delay ends on a core and on CH2, a hold ends, FILL_ACK comes, fails to come or is
stuck, shaping of CH5 ends. -/
def Parts.MillpondEvents : Prop :=
  ∀ (s : State) (k : Fin 2) (p : Nat),
    let c := s.chip
    let onlyCap (d : Chip) (rs : List Reg) : Prop := c.Keeps d rs (fun d => { d with cap := {} })
    ((c.mp k).due = some p →
      Does (.millpondRampBegin ⟨k.val, by omega⟩) s (fun d => d.mp k = { c.mp k with due := none, rampUp := true, hold := 0, prof := p } ∧
        (∀ j, j ≠ k.val → d.mp j = c.mp j) ∧ { d.cap with cores := [] } = { c.cap with cores := [] } ∧ onlyCap d [])) ∧
    (c.cap.fillDue = some p → c.rbit R.CAP_STAT 3 = false → c.profHold p ≠ 0 →
      Does (.millpondRampBegin 2) s (fun d => d.cap.fillDue = none ∧ d.cap.fillHold = true ∧
        (c.domUp (dCH 2) = true → d.rbit R.CAP_STAT 5 = true) ∧ onlyCap d [R.CAP_STAT, R.CAP_EVT])) ∧
    (c.unaligned = false →
      Does .fillHoldEnd s (fun d => d.cap.fillHold = false ∧ d.rbit R.CAP_STAT 5 = false ∧ onlyCap d [R.CAP_STAT])) ∧
    (c.cap.ackWait = true →
      Does .fillNoack s (fun d => d.rbit R.CAP_EVT 3 = true ∧ d.cap = { c.cap with ackWait := false } ∧ onlyCap d [R.CAP_EVT])) ∧
    (c.rbit R.CAP_STAT 6 = true → c.rbit R.CAP_STAT 5 = false →
      Does .fillAckStuck s (fun d => d.rbit R.CAP_EVT 4 = true ∧ d.cap = { c.cap with stuck := true } ∧ onlyCap d [R.CAP_EVT])) ∧
    (c.rbit R.SYS_SUPPLY 8 = true → c.cap.stuck = false →
      Does (.fillAckEdge true) s (fun d => d.rbit R.CAP_STAT 6 = true ∧ d.cap = { c.cap with ackWait := false } ∧ onlyCap d [R.CAP_STAT])) ∧
    Does (.fillAckEdge false) s (fun d => d.rbit R.CAP_STAT 6 = false ∧ d.cap = { c.cap with stuck := false } ∧ onlyCap d [R.CAP_STAT]) ∧
    Does .ch5ShapeRelease s (fun d => d.cap = { c.cap with shaping := false } ∧ onlyCap d [])

/-- R522: at a period boundary, aligned, both cores' levels fall by DN to at least the floor, or rise by UP to TOP while a ramp
runs, and never stand below the share of real bundles; the counts begin anew. -/
def Parts.MillpondPeriod : Prop :=
  ∀ (s : State) (k : Fin 2),
    let c := s.chip
    let m := c.mp k
    let up := min (c.profByte m.prof 0) (c.rd (R.MP_LEVEL k) + max 1 (c.profByte m.prof 1))
    let down := max (c.rd R.MP_FLOOR) (c.rd (R.MP_LEVEL k) - max 1 (c.profByte m.prof 2))
    c.mode.power ≠ 1 → c.rbit R.MP_CTRL 0 = true → c.domOn dCPU = true → c.unaligned = false → c.rbit R.CAP_STAT 7 = false →
    Does .millpondPeriod s (fun d =>
      (m.rampUp = true → d.rd (R.MP_LEVEL k) = max up (c.realShare k) % 256) ∧
      (m.rampUp = false → m.hold = 0 → d.rd (R.MP_LEVEL k) = max down (c.realShare k) % 256) ∧
      (m.rampUp = false → 0 < m.hold → d.rd (R.MP_LEVEL k) = max (c.rd (R.MP_LEVEL k)) (c.realShare k) % 256 ∧ (d.mp k).hold = m.hold - 1) ∧
      (d.mp k).real = 0 ∧ (d.mp k).filler = 0 ∧ (d.mp k).start = (c.core k).cyc ∧
      c.Keeps d [R.MP_LEVEL 0, R.MP_LEVEL 1, R.CAP_STAT, R.CAP_EVT] (fun d => { d with cap := {} }))

/-- R522 to R532, R536: Millpond's events and its periods. -/
def Obligations.Millpond : Prop := Parts.MillpondEvents ∧ Parts.MillpondPeriod

/-- R543, R552, R553: the Warden's write of the grant is logged and takes effect in CHECKED; in UNCHECKED a raise leaves the grant and
is logged as refused. -/
def Parts.GrantWrites : Prop :=
  ∀ (s : State) (v : BitVec 8),
    let c := s.chip
    let g := c.rfld R.GOV_GRANT 0 3
    let n := v.toNat % 8
    c.wrdOn = true → c.exhausted = false → c.entry 0 = none →
    (∀ e0, c.wdnState = 0 ∨ (c.wdnState = 1 ∧ g < n ∧ e0 = 3) →
      Does (.govGrantWrite v) s (fun d =>
        (∃ e, d.entry 0 = some e ∧ e.origin = 1 ∧ e.object = regObject 0x805100 ∧ e.new % 65536 = n ∧ e.old % 65536 = g ∧
          (c.wdnState = 1 → e.outcome = 3) ∧ (c.wdnState = 0 → e.outcome = 0)) ∧
        (c.wdnState = 0 → d.rd R.GOV_GRANT = n) ∧ (c.wdnState = 1 → d.rd R.GOV_GRANT = c.rd R.GOV_GRANT) ∧
        c.Keeps d [R.GOV_GRANT, R.LED_NEXTSEQ] Chip.noLedger))

/-- R508 to R514, R543, R552, R553: an evaluation of the CH2 cap, the cut it ends in, and the grant. -/
def Obligations.CapEngine : Prop := Parts.CapEvaluates ∧ Parts.CapCuts ∧ Parts.GrantWrites

/-! ### Channels (10) -/

/-- R466 to R501: what the channels' events show: the end of soft-start and of a slew, internal PG, the entry to and exit from current
limit, CH3's fall-back, CH2's phase, CH6's reverse flow, CH4's bypass and CH0's dropout. -/
def Obligations.ChannelEvents : Prop :=
  ∀ (s : State) (n : Fin 8) (on : Bool), s.chip.chOn n = true →
    let c := s.chip
    let stat := R.CHn_STAT n
    let x := c.ch n
    let one (i : Instr) (k : Nat) (b : Bool) : Prop :=
      Does i s (fun d => d.rd stat = putBit (c.rd stat) k b % 256 ∧ c.Keeps d [stat] id)
    let rec' (i : Instr) (y : ChnSt) : Prop :=
      Does i s (fun d => d.ch n = y ∧ (∀ m, m ≠ n.val → d.ch m = c.ch m) ∧ c.Keeps d [] (fun d => { d with chn := [] }))
    one (.softStartEnd n) 0 true ∧
    (intPg n = true → c.chStat n 0 = true ∨ on = false → one (.channelPgChange n on) 1 on) ∧
    rec' (.slewEnd n) { x with slewing := false, slewFrom := none } ∧
    (c.chStat n 2 = false → c.rd (R.CHn_LIMCNT n) < 255 →
      Does (.currentLimitEnter n) s (fun d => d.chStat n 2 = true ∧ d.rd (R.CHn_LIMCNT n) = c.rd (R.CHn_LIMCNT n) + 1 ∧
        c.Keeps d [stat, R.CHn_LIMCNT n] (fun d => { d with cap := { d.cap with shaping := false } }))) ∧
    Does (.currentLimitExit n) s (fun d => d.chStat n 2 = false ∧ c.Keeps d [stat] (fun d => { d with cap := { d.cap with shaping := false } })) ∧
    (n = 3 → rec' .ch3LimitFallback { x with fallen := true } ∧ rec' .ch3LimitRestore { x with fallen := false }) ∧
    (n = 2 → rec' .ch2PhaseResume { x with shed := false } ∧ (c.rbit (R.CHn_MODE 2) 1 = true → rec' .ch2PhaseShed { x with shed := true })) ∧
    (n = 6 → x.dir ≠ 0 → one (.ch6ReverseFlow on) 4 on) ∧ (n = 4 → one (.ch4Bypass on) 3 on) ∧ (n = 0 → one (.ch0Dropout on) 3 on)

/-! ### Fault shut-off, trips and the restart engine (09, 10, 12, 22) -/

/-- R426, R430, R440, R441: a fault shut-off while WRD is not OFF takes every domain to OFF, leaves only WRD's intent, records cause
and domain, drives FAULT_N unless FAULT_N was the cause, and ends in WAIT_HIGH, or in LATCHED when the policy allows no restart. -/
def Parts.ShutOffEffect : Prop :=
  ∀ (c : Chip) (code dom more : Nat), (c.dom dWRD).state ≠ 0 → code < 256 → dom < 256 →
    let d := c.faultShutoff code dom more
    (∀ x < 13, (d.dom x).state = 0) ∧ d.rd R.SEQ_EN = 1 ∧ d.rfld R.SEQ_FREC 0 8 = code ∧ d.rfld R.SEQ_FREC 8 8 = dom ∧
    d.seq.fnDrive = decide (code ≠ 3) ∧
    d.seq.engine = (if c.rfld R.SEQ_POLICY 0 3 ≤ c.rfld R.SEQ_RCOUNT 0 3 then .latched else .waitHigh) ∧ d.seq.frozen = false

/-- R419, R420, R421, R439, R476 to R478, R487, R488, R384, 12 R576, 22 R989: what ends in a fault shut-off, with its cause and domain,
and what each records before it. -/
def Parts.TripsShutOff : Prop :=
  ∀ (s : State) (n : Fin 8) (x : Fin 13),
    let c := s.chip
    let off (i : Instr) (pre : Chip) (code dom : Nat) : Prop := Does i s (fun d => d = (pre.faultShutoff code dom 0).settle)
    let trip (bits : Nat) : Chip := c.event 5 (R.CHn_TRIP n) bits
    (c.chOn n = true → c.chStat n 2 = true → c.chStat n 0 = true →
      ((n = 5 → c.cap.shaping = false) → off (.currentLimitTimeout n) (trip 1) 4 (dCH n)) ∧
      ((chRange n).isSome = true → off (.shortTrip n) (trip 5) 4 (dCH n))) ∧
    (c.chOn n = true → (chRange n).isSome = true → off (.ovpTrip n) (trip 2) 5 (dCH n)) ∧
    (c.chOn n = true → n = 5 → off .ch5ImmediateTrip (trip 1) 4 10 ∧
      off (.ch5ReverseTrip true) ((c.wbit (R.CHn_STAT 5) 4 true).event 5 (R.CHn_TRIP 5) 9) 4 10) ∧
    off (.hwThermalTrip true) { c with seq := { c.seq with hot := true } } 6 0xFF ∧
    (c.vbatPres = true → c.chg.fetUv = false → off .vbatUvTrip { c.uvPend with chg := { c.chg with fetUv := true } } 7 0xFF) ∧
    (c.vbatPres = true → c.chg.fetOv = false → off .vbatOvTrip { c with chg := { c.chg with fetOv := true } } 8 0xFF) ∧
    Does .vbatOvRecover s (fun d => d.chg = { c.chg with fetOv := false } ∧ c.Keeps d [] (fun d => { d with chg := {} })) ∧
    ((c.dom x).state = 2 → off (.seqPgTimeout x) c 2 x) ∧
    ((c.dom x).state = 3 → (c.dom x).pg = false → off (.seqBlankExpire x) c 1 x) ∧
    ((c.dom x).passed = true → 4 ≤ (c.dom x).state → x.val < 5 → off (.pgLoss x) c 1 x) ∧
    (c.seq.fnDrive = false →
      off .faultNExternal { c with seq := { c.seq with fnLow := true, engine := if c.seq.engine = .backoff then .waitHigh else c.seq.engine } } 3 0xFF) ∧
    (c.wdnLost = true → c.rd R.WDN_LOSTTO ≠ 0 → off .wardenLostTimeout c 0xA 0xFF) ∧
    (domains.filter (fun y => [6, 7, 8, 9, 11].contains y && c.domOn y) = [6] → (c.dom 6).passed = true → 4 ≤ (c.dom 6).state →
      off .vsysUndervoltage ((c.wbit (R.CHn_STAT 1) 1 false).setDom 6 { c.dom 6 with pg := false }) 1 6)

/-- R419 to R441, R476 to R488, R384, R576, R989: what a fault shut-off does, and what ends in one. -/
def Obligations.FaultShutOff : Prop := Parts.ShutOffEffect ∧ Parts.TripsShutOff

/-- R409, R421, R423: a domain's start: the end of DELAY enables it, the first filtered PG high starts BLANK and is timed, the end of
BLANK with PG high is ON; a stop ends with OFF. The rest of the sequencer stands where it has nothing due. -/
def Obligations.SequencerTimers : Prop :=
  ∀ (s : State) (x : Fin 13) (e : BitVec 16),
    let c := s.chip
    let still (d : Chip) : Prop := d.seqTick.seq.doms = d.seq.doms
    let only (d : Chip) (y : DomSt) : Prop := d.dom x = y ∧ (∀ z, z ≠ x.val → d.dom z = c.dom z) ∧ d.rd (R.SEQ_STATE x) = y.state
    ((c.dom x).state = 1 → (x = 0 ∨ c.seqHeld = false) → still (c.domEnable x) →
      Does (.seqDelayExpire x) s (fun d => only d { state := 2 })) ∧
    ((c.dom x).state = 2 → x.val < 5 →
      Does (.seqPgHigh x e) s (fun d => only d { c.dom x with pg := true, state := 3 } ∧
        ((c.dom x).passed = false → (c.dom x).pg = false → d.rd (R.SEQ_PGTIME x) = e.toNat) ∧
        c.Keeps d [R.SEQ_STATE x, R.SEQ_ON, R.SEQ_PGTIME x] (fun d => { d with seq := { d.seq with doms := [] } }))) ∧
    ((c.dom x).state = 3 → (c.dom x).pg = true → x = 1 → still (c.setDom x { c.dom x with state := 4, passed := true }) →
      Does (.seqBlankExpire x) s (fun d => only d { c.dom x with state := 4, passed := true } ∧ d.domUp x = true)) ∧
    ((c.dom x).state = 6 → c.seqHeld = false → still (c.domOff x) → x ≠ 0 →
      Does (.seqOffDelayExpire x) s (fun d => only d {} ∧ d.domOn x = false)) ∧
    ((c.dom x).passed = false → (c.dom x).state = 2 → x.val < 5 →
      Does (.pgLoss x) s (fun d => only d { c.dom x with pg := false }))

/-- R428, R440, R442, R444, R448: FAULT_N is released; WAIT_HIGH leads to BACKOFF, whose end raises the restart count, is logged and
starts WRD with reset kind 2; ten stable minutes clear the count; a LATCHED station waits for FAULT_N again after the long wait; a
parity error with every domain OFF or ON freezes the sequencer. -/
def Obligations.RestartEngine : Prop :=
  ∀ (s : State) (x : Fin 13),
    let c := s.chip
    let n := min 7 (c.rfld R.SEQ_RCOUNT 0 3 + 1)
    Does .faultNHoldEnd s (fun d => d.seq = { c.seq with fnDrive := false } ∧ c.Keeps d [] (fun d => { d with seq := {} })) ∧
    (c.seq.engine = .waitHigh → c.seq.fnDrive = false → c.seq.hot = false → c.seq.direct = false →
      Does .restartWaitHighDone s (fun d => d.seq = { c.seq with fnLow := false, engine := .backoff } ∧
        c.Keeps d [] (fun d => { d with seq := {} }))) ∧
    (c.seq.engine = .backoff → c.seq.hot = false → c.entry 14 = none →
      Does .restartBackoffExpire s (fun d => (d.dom dWRD).state = 1 ∧ d.seq.engine = .idle ∧ d.rd R.SEQ_RCOUNT = n ∧
        d.rd R.SYS_RSTREC_KIND = 2 ∧ d.Recorded 0x4000 0 0 (cause 0x19 n) ∧ d.mem = c.mem ∧ d.threads = c.threads)) ∧
    (c.domUp dWRD = true → Does .restartStable s (fun d => d.rd R.SEQ_RCOUNT = 0 ∧ c.Keeps d [R.SEQ_RCOUNT] id)) ∧
    (c.seq.engine = .latched → c.rd R.SEQ_LONGWAIT ≠ 0 → c.entry 14 = none →
      Does .latchedLongwaitExpire s (fun d => d.rd R.SEQ_RCOUNT = 0 ∧ d.Recorded 0x4000 0 0 (cause 0x19 0) ∧
        d.seq = { c.seq with engine := .waitHigh, direct := true, kind := 3 } ∧
        c.Keeps d (R.SEQ_RCOUNT :: ledgerRegs) (fun d => { d with seq := {}, led := {} }))) ∧
    (c.seq.parBad.contains (2 * x.val) = false → domains.all (fun y => (c.dom y).state == 0 || (c.dom y).state == 4) = true → c.entry 14 = none →
      Does (.seqParityError x false) s (fun d => d.seq = { c.seq with parBad := c.seq.parBad ++ [2 * x.val], frozen := true } ∧
        bit (d.rd R.SEQ_PARERR) x = true ∧ d.Recorded (0x4000 + x) 0 0 (cause 9 x) ∧ c.Rings d ∧
        c.Keeps d (R.SEQ_PARERR :: R.DOORBELL_OVF :: ledgerRegs) (fun d => { d with seq := {}, led := {}, threads := [] })))

/-! ### Issue, retirement, the Warden (04, 05, 08) -/

/-- R138, R159, R165, 11 R522, R523: a cycle of a running core without a ready thread is idle, and is filled when Millpond asks for it;
otherwise the first ready thread issues, here a bundle of one unguarded move from a cell to a cell, and goes on at the next
bundle. -/
def Obligations.CoreCycles : Prop :=
  ∀ (s : State) (k : Fin 3) (l : Lockstep) (t : Thread) (b : Bundle) (m : Move) (j : Nat), s.chip.coreRuns k = true →
    let c := s.chip
    let x := c.thr t
    (c.nextThread k = none →
      Does (.bundleIssue k l) s (fun d => c.OnlyCore d k (fun x => { x with cyc := x.cyc + 1 }) ∧ d.threads = c.threads ∧ c.SameOutside d)) ∧
    (∀ f : Fin 2, f.val = k.val → c.nextThread k = none → c.fillerDue k = true →
      Does (.fillerIssue f) s (fun d => c.OnlyCore d k (fun x => { x with cyc := x.cyc + 1 }) ∧ d.threads = c.threads ∧
        d.rd (R.MP_FILLCNT k) = (c.rd (R.MP_FILLCNT k) + 1) % 256 ^ (R.MP_FILLCNT k).width ∧
        d.mp k = { c.mp k with filler := (c.mp k).filler + 1 } ∧
        c.Keeps d [R.MP_FILLCNT k] (fun d => { d with cores := [], cap := {} }))) ∧
    (c.nextThread k = some t.val → coreOf t = k.val → c.fetch t = some b → bundleWrong b.toNat t (c.isPriv t) x.guards = none →
      bundleMoves b.toNat = [m] → m.guard = 0 → m.src = some j → j < 0x20 → m.dst < 0x20 → bit b.toNat 62 = false →
      Does (.bundleIssue k l) s (fun d =>
        FMap.get 0 (d.thr t).cells m.dst = FMap.get 0 x.cells j ∧
        (∀ i, i ≠ m.dst → FMap.get 0 (d.thr t).cells i = FMap.get 0 x.cells i) ∧
        { d.thr t with cells := [], pc := 0, units := [] } = { x with cells := [], pc := 0, units := [] } ∧ (d.thr t).pc = x.pc + 1 ∧
        (∀ r, r ≠ t.val → d.thr r = c.thr r) ∧ (d.core k).cyc = (c.core k).cyc + 1 ∧ (k ≠ 2 → (d.mp k).real = (c.mp k).real + 1) ∧
        c.Keeps d [] (fun d => { d with cores := [], threads := [], cap := {} })))

/-- R360 to R365, R380: a Warden bundle with outgoing actions whose vectors differ is suppressed: nothing of it happens, the mismatch
is counted, logged and an event, and both cores are to roll back; the end of the rollback restores threads and DMEM to the last
checkpoint. -/
def Parts.MismatchRollsBack : Prop :=
  ∀ (s : State) (t : Thread) (b : Bundle), s.chip.coreRuns 2 = true →
    let c := s.chip
    let r := c.runBundle t b.toNat
    c.nextThread 2 = some t.val → 16 ≤ t.val → c.fetch t = some b → (r.1.outgoing t r.2).1 = true →
    (bundleMoves b.toNat).any (fun m => triggerOf m.dst == some uLSU) = false →
    c.wdn.mmTimes = [] → c.entry 14 = none → c.rd R.WDN_MMCNT < 255 →
    Does (.bundleIssue 2 .mismatch) s (fun d =>
      d.wdn = { c.wdn with mmTimes := [c.phw.tick], rollback := true } ∧ d.rd R.WDN_MMCNT = c.rd R.WDN_MMCNT + 1 ∧
      bit (d.rd R.WDN_EVENT) 0 = true ∧ d.Recorded 0x4000 0 0 (cause 0x11 1) ∧ c.Rings d ∧
      c.OnlyCore d 2 (fun x => { x with cyc := x.cyc + 1 }) ∧
      c.Keeps d (R.WDN_MMCNT :: R.WDN_EVENT :: R.DOORBELL_OVF :: ledgerRegs) (fun d => { d with wdn := {}, led := {}, cores := [], threads := [] }))

/-- R363, R365, R372 to R378: the end of a rollback, a checkpoint, and the comparator exercise: a pass in CHECKED counts, a failure or
a missing exercise puts a CHECKED Warden in UNCHECKED with its event. -/
def Parts.WardenChecks : Prop :=
  ∀ (s : State),
    let c := s.chip
    (c.wdn.rollback = true →
      Does .wardenRollbackDone s (fun d => (∀ t ∈ wardenThreads, d.thr t = FMap.get {} c.wdn.saved t) ∧ (∀ t < 16, d.thr t = c.thr t) ∧
        d.wdn = { c.wdn with undo := [], rollback := false } ∧
        d.mem = { c.mem with wdmem := c.wdn.undo.foldl (fun m e => Mem.writeN 0 m e.1 e.2) c.mem.wdmem } ∧
        c.Keeps d [] (fun d => { d with wdn := {}, mem := {}, threads := [] }))) ∧
    (c.exRuns = true → c.wdn.rollback = false →
      Does .wardenCheckpoint s (fun d => (∀ t ∈ wardenThreads, FMap.get {} d.wdn.saved t = c.thr t) ∧ d.wdn.undo = [] ∧
        c.OnlyCore d 2 (fun x => { x with cyc := x.cyc + 1 }) ∧ c.Keeps d [] (fun d => { d with wdn := {}, cores := [] }))) ∧
    (c.exRuns = true → c.wdnState = 0 →
      Does (.comparatorExercise 2) s (fun d => d.rd R.WDN_EXCNT = (c.rd R.WDN_EXCNT + 1) % 256 ^ R.WDN_EXCNT.width ∧
        d.wdn = { c.wdn with exBit := c.wdn.exBit + 1 } ∧ d.mode = { c.mode with exDue := false } ∧
        c.Keeps d [R.WDN_EXCNT] (fun d => { d with wdn := {}, mode := {} })) ∧
      (∀ i ∈ [Instr.comparatorExercise 1, Instr.exerciseMissing],
        Does i s (fun d => d.wdnState = 1 ∧ bit (d.rd R.WDN_EVENT) 2 = true ∧ bit (d.rd R.WDN_EVENT) 4 = true ∧ c.Rings d ∧
          c.Keeps d [R.WDN_STATUS, R.WDN_EVENT, R.DOORBELL_OVF] (fun d => { d with wdn := {}, mode := {}, threads := [] }))))

/-- R360 to R380: mismatch, rollback, checkpoint and the comparator's exercise. -/
def Obligations.WardenComparison : Prop := Parts.MismatchRollsBack ∧ Parts.WardenChecks

/-- R261, R262, R369, R370, R391: plast, ppg and phold; pcmd of the Warden's own command: a stale number changes nothing and has status
1; LOST has status 5; a fresh one whose value fits, in CHECKED with a free entry, is logged with origin 0x0001, becomes the last
commit and is applied, here to the intent of a domain that has nothing else due. -/
def Obligations.PowerUnit : Prop :=
  ∀ (s : State) (t : Thread), 16 ≤ t.val → s.chip.Free t uPWR →
    let c := s.chip
    let a := (c.unit t uPWR).a.toNat
    let num := (c.unit t uPWR).b.toNat % 2 ^ 16
    let last := c.rd R.WDN_LASTCOMMIT
    last < 2 ^ 16 →
    UnitDone (.plast t) s t uPWR last 0 ∧ UnitDone (.ppg t) s t uPWR c.pgMask 0 ∧
    (c.wdnState ≠ 2 → Does (.phold t) s (fun d => d.wdn = { c.wdn with phold := true } ∧ c.OnlyUnit d t uPWR ∧
      c.SameOutside { d with wdn := c.wdn } ∧ d.cores = c.cores)) ∧
    (c.wdnState = 2 → UnitDone (.pcmd t) s t uPWR (5 + 65536 * last) 1) ∧
    (c.wdnState ≠ 2 → (num + 2 ^ 16 - last) % 2 ^ 16 = 0 → UnitDone (.pcmd t) s t uPWR (1 + 65536 * last) 1) ∧
    (c.wdnState = 0 → 0 < (num + 2 ^ 16 - last) % 2 ^ 16 → (num + 2 ^ 16 - last) % 2 ^ 16 < 2 ^ 15 → a / 2 ^ 23 % 2 = 0 →
      a / 2 ^ 16 % 2 ^ 7 = 1 → a % 2 ^ 16 < 2 → c.exhausted = false → c.entry 0 = none → c.seqHeld = true →
      Does (.pcmd t) s (fun d => (d.unit t uPWR).q = BitVec.ofNat 32 (65536 * num) ∧ (d.unit t uPWR).fl = 0 ∧
        d.rd R.WDN_LASTCOMMIT = num ∧ bit (d.rd R.SEQ_EN) 1 = decide (a % 2 = 1) ∧ d.wdn.phold = false ∧
        (∃ e, d.entry 0 = some e ∧ e.origin = 1 ∧ e.object = 1 ∧ e.new = a % 2 ^ 16 ∧ e.outcome = 0 ∧ e.oseq = num) ∧
        c.OnlyUnit d t uPWR ∧
        c.Keeps d [R.WDN_LASTCOMMIT, R.SEQ_EN, R.LED_NEXTSEQ] (fun d => { d with wdn := {}, led := {}, threads := [] })))

/-- R256 to R258, R664, R665, R667: what MBX, QUE and RNG operations do when they retire: a message sent reaches the Warden's inbox,
recv takes the oldest message, a queue operation with WEI off ends with STORE_OFF, a deq of an empty queue with EMPTY, one of a
message delivers its bytes and removes it; a stalled random read ends without data. -/
def Obligations.ServiceRetirements : Prop :=
  ∀ (s : State) (t : Thread) (op : LongOp) (m : Msg) (rest : List Msg), t.val < 16 → (s.chip.thr t).hold = .none →
    let c := s.chip
    let x := c.thr t
    let res (i : Instr) (u q fl : Nat) (P : Chip → Prop) : Prop :=
      Does i s (fun d => (d.unit t u).busy = none ∧ (d.unit t u).q = BitVec.ofNat 32 q ∧ (d.unit t u).fl = BitVec.ofNat 8 fl ∧ P d)
    let q := op.a.toNat / 2 ^ 16 % 2 ^ 14
    let buf := op.a.toNat % 2 ^ 16
    ((c.unit t uMBX).busy = some op →
      (op.code = 0 → c.wdn.inboxSw.length < 32 →
        res (.longOpRetire t 13) uMBX 0 0 (fun d => d.wdn = { c.wdn with inboxSw := c.wdn.inboxSw ++ [⟨BitVec.ofNat 8 (op.a.toNat % 128), op.b⟩] } ∧
          c.OnlyThr d t uMBX id)) ∧
      (op.code = 0 → 32 ≤ c.wdn.inboxSw.length → res (.longOpRetire t 13) uMBX 1 2 (fun d => d.wdn = c.wdn ∧ c.OnlyThr d t uMBX id)) ∧
      (op.code = 2 → x.inbox = m :: rest →
        res (.longOpRetire t 13) uMBX m.payload.toNat 0 (fun d => (d.unit t uMBX).src6 = m.kind ∧ c.OnlyThr d t uMBX (fun x => { x with inbox := rest }))) ∧
      (op.code = 2 → x.inbox = [] → res (.longOpRetire t 13) uMBX 0 1 (fun d => c.OnlyThr d t uMBX id))) ∧
    ((c.unit t uQUE).busy = some op →
      (c.domOn dWEI = false → res (.longOpRetire t 9) uQUE 9 1 (fun d => c.OnlyThr d t uQUE (fun x => { x with queDone := true }))) ∧
      (c.domOn dWEI = true → op.code = 1 → buf + (op.b.toNat % 256 + 1) ≤ 2 ^ 16 → permFault t op true buf (op.b.toNat % 256 + 1) = none →
        c.queStop t q (!c.qOut q) = none → c.qFrozen q = false →
        (c.entries q = [] → res (.longOpRetire t 9) uQUE 1 1 (fun d => c.OnlyThr d t uQUE (fun x => { x with queDone := true }) ∧ d.mem = c.mem)) ∧
        (∀ e l, c.entries q = e :: l → e.kind = .data → e.rtag = none → e.len ≤ op.b.toNat % 256 + 1 → 1 ≤ e.len → e.len ≤ 256 → e.seq < 65536 →
          res (.longOpRetire t 9) uQUE (256 * (e.len - 1) + 65536 * e.seq) 0 (fun d =>
            d.mem = { c.mem with dmem := Mem.writeN 0 c.mem.dmem buf (c.qBytes q e) } ∧ d.entries q = l ∧
            (∀ p, p ≠ q → d.entries p = c.entries p))))) ∧
    ((c.unit t uRNG).busy = some op → op.u5.getLsbD 2 = false → c.drbgTake 1 = none →
      res (.rngStallTimeout t) uRNG 0 1 (fun d => c.OnlyThr d t uRNG id ∧ c.SameOutside d ∧ d.cores = c.cores))

/-! ### Authority and Ledger (16) -/

/-- R754, R760 to R763: a main thread's write to an actuation point becomes a request of its origin with its next ticket, present epoch
and time; with a fresh window it is held there and opens the point's arbitration window. -/
def Parts.RequestOpensWindow : Prop :=
  ∀ (s : State) (t : Thread) (ap : BitVec 7) (v : BitVec 16), t.val < 16 →
    let c := s.chip
    let o := 0x10 + t.val
    let n := (FMap.get 0 c.aut.tickets o + 1) % 2 ^ 16
    apFits ap.toNat v.toNat = true → ap.toNat < 50 → c.originWin o = {} → FMap.get none c.aut.arb ap.toNat = none →
    Does (.threadApWrite t ap v) s (fun d =>
      FMap.get none d.aut.arb ap.toNat = some [{ origin := o, seq := n, ap := ap.toNat, value := v.toNat, reply := .thread t.val }] ∧
      FMap.get 0 d.aut.tickets o = n ∧ (d.originWin o).high = some n ∧ (∀ p, p ≠ ap.toNat → FMap.get none d.aut.arb p = FMap.get none c.aut.arb p) ∧
      c.Keeps d [] (fun d => { d with aut := {} }))

/-- R769 to R771, 08 R385, R386: the arbiter's winner, while no lock stands, has the highest rank of the orders that no later one of the
same origin replaces; the single order of a window that closes with the Warden CHECKED, policy running and room in the Ledger takes
entry 0, stands in WDN_ORD, and is a message of kind 0x80. -/
def Parts.WindowCloses : Prop :=
  (∀ (c : Chip) (ap : Nat) (l : List OrderRec) (w : OrderRec), c.rd (R.AUT_LOCK ap) % 2 = 0 → (c.arbitrate ap l).2 = some w →
    w ∈ l ∧ ∀ o ∈ l, (l.filter (fun x => x.origin == o.origin)).length = 1 →
      c.rankOf ap ((originClass o.origin).getD 0) ≤ c.rankOf ap ((originClass w.origin).getD 0)) ∧
  (∀ (s : State) (ap : BitVec 7) (o : OrderRec),
    let c := s.chip
    FMap.get none c.aut.arb ap.toNat = some [o] → (originClass o.origin).isSome = true → o.value < 2 ^ 16 → c.rd (R.AUT_LOCK ap.toNat) % 2 = 0 →
    c.exhausted = false → c.ledRefuses = none → c.entry 0 = none → c.wdnState = 0 → c.policyOn = true → c.wdn.inboxHw = [] →
    Does (.arbitrationWindowClose ap) s (fun d =>
      FMap.get none d.aut.arb ap.toNat = none ∧ d.handled 0 = some o ∧ (d.wdn.inboxHw = [hwMsg 0x80 o.value (o.value / 256) o.ap 0]) ∧
      (∃ e, d.entry 0 = some e ∧ e.origin = o.origin ∧ e.object = o.ap ∧ e.new = o.value ∧ e.oseq = o.seq ∧ e.final = false) ∧
      d.rd (R.WDN_ORD 0) % 2 ^ 16 = o.origin % 2 ^ 16 ∧
      c.Keeps d [R.WDN_ORD 0, R.LED_NEXTSEQ] (fun d => { d with aut := {}, led := {}, wdn := {} })))

/-- 08 R392, R393, 16 R773: a veto, or no verdict in time, completes the handled order's entry with outcome 3 and its cause and takes it
off WDN_ORD; a timeout is an event and a message as well; a lock that ends is an event. -/
def Parts.VerdictsAndLocks : Prop :=
  ∀ (s : State) (h : Fin 14) (reason : Byte) (o : OrderRec) (e : LedEntry) (ap : BitVec 7),
    let c := s.chip
    (c.entry h = some e → e.order = some o → e.dup = none → o.reply = .none → (c.originWin o.origin).held = [] →
      (c.wrdOn = true → Does (.wdnVerdictWrite (BitVec.ofNat 16 (h.val + 16 + 256 * reason.toNat))) s (fun d =>
        d.entry h = some { e with outcome := 3, cause := cause 0x16 reason.toNat, new := o.value, final := true, order := none } ∧
        d.rd (R.WDN_ORD h) = 0 ∧ c.Keeps d [R.WDN_ORD h] (fun d => { d with aut := {}, led := {} }))) ∧
      (c.wdn.inboxHw = [] → Does (.verdictTimeout h) s (fun d =>
        d.entry h = some { e with outcome := 3, cause := cause 0x14 0, new := o.value, final := true, order := none } ∧
        d.rd (R.WDN_ORD h) = 0 ∧ bit (d.rd R.WDN_EVENT) 6 = true ∧ d.wdn.inboxHw = [hwMsg 0x81 0 0 0 h] ∧ c.Rings d ∧
        c.Keeps d [R.WDN_ORD h, R.WDN_EVENT, R.DOORBELL_OVF] (fun d => { d with aut := {}, led := {}, wdn := {}, threads := [] })))) ∧
    (c.rbit (R.AUT_LOCK ap.toNat) 0 = true →
      Does (.lockExpire ap) s (fun d => d.rd (R.AUT_LOCK ap.toNat) = 0 ∧ bit (d.rd R.AUT_EVT) 2 = true ∧ c.Rings d ∧
        c.Keeps d [R.AUT_LOCK ap.toNat, R.AUT_EVT, R.DOORBELL_OVF] Chip.noThreads))

/-- R754 to R773, 08 R385 to R393: a request, its arbitration window, its verdict, and the lock. -/
def Obligations.AuthorityOrders : Prop := Parts.RequestOpensWindow ∧ Parts.WindowCloses ∧ Parts.VerdictsAndLocks

/-- R776 to R780: a commit programs the 32 bytes of the next final entry at the bank's next position, and no other byte, and frees its
staging entry; the end of a segment's erase leaves 0xFF in it alone. -/
def Obligations.LedgerCommits : Prop :=
  ∀ (s : State) (i n g : Nat) (e : LedEntry), s.chip.wrdOn = true →
    let c := s.chip
    let at' := ledBase (c.rd R.LED_SEG) + 32 * c.led.pos
    let byte (x : Chip) (a : Nat) : Byte := FMap.get erased x.mem.ledger a
    (c.nextCommit = some (i, e, n) → e.final = true → c.led.pos < 96 → c.rd R.LED_UNRECCNT = 0 → c.rd R.LED_REFCNT = 0 →
      Does .ledgerCommit s (fun d => Mem.readN erased d.mem.ledger at' 32 = e.bytes n ∧ (∀ a, a < at' ∨ at' + 32 ≤ a → byte d a = byte c a) ∧
        d.led.pos = c.led.pos + 1 ∧ d.entry i = none ∧ (∀ j, j ≠ i → d.entry j = c.entry j) ∧
        c.Keeps d [] (fun d => { d with led := {}, mem := { d.mem with ledger := [] } }))) ∧
    (c.led.erasing = some g → c.sealErases g < 100000 →
      Does .ledgerEraseDone s (fun d => (∀ a, 0x400000 ≤ a → byte d a = if (a - 0x400000) / 0x1000 = g then 0xFF else byte c a) ∧
        d.led = { c.led with erasing := none } ∧ c.Keeps d [R.LED_SEAL g] (fun d => { d with led := {}, mem := { d.mem with ledger := [] } })))

/-! ### Power path, charger and gauge (12, 13) -/

/-- R582 to R589: the phases of the charger that an event of its own leads to. -/
def Parts.ChargePhases : Prop :=
  ∀ (s : State) (vbat : Nat) (i : BitVec 16) (limited : Bool),
    let c := s.chip
    let p := c.chgPhase
    let go (i : Instr) (q : Nat) : Prop := ChgDoes i s (fun d => d.chgPhase = q)
    (p = phWAIT → c.vbatPres = true → c.anyInput = true →
      (vbat < c.rd R.CHG_VLOW * c.cells → go (.chargerStart vbat true) phPRE) ∧
      (c.rd R.CHG_VLOW * c.cells ≤ vbat → c.chgMode = 1 → c.chg.prevDone = false →
        ChgDoes (.chargerStart vbat true) s (fun d => d.chgPhase = phPULSE ∧ d.rd R.CHG_IPULSE = c.ichg)) ∧
      (c.rd R.CHG_VLOW * c.cells ≤ vbat → c.chgMode = 2 → go (.chargerStart vbat true) phCV)) ∧
    (p = phPRE → (c.rd R.CHG_VLOW + 100) * c.cells ≤ vbat → c.chgMode = 2 → go (.prechargeComplete vbat) phCV) ∧
    (p = phPRE → ChgDoes .prechargeTimeout s (fun d => d.chgPhase = phFAULT ∧ bit (d.rd R.CHG_EVT) 2 = true)) ∧
    (p = phPULSE → ChgDoes .pulseTimeTimeout s (fun d => d.chgPhase = phFAULT ∧ bit (d.rd R.CHG_EVT) 2 = true)) ∧
    (p = phPULSE → c.phaseMayEnd = true → limited = true →
      ChgDoes (.pulseEnd i limited) s (fun d => d.chgPhase = phREST ∧ d.rd R.CHG_IEND = i.toNat ∧ d.chgCount = c.chgCount)) ∧
    (p = phPULSE → c.phaseMayEnd = true → limited = false → c.chg.counting = true → c.belowIterm i.toNat = true → c.chgCount = 2 →
      ChgDoes (.pulseEnd i limited) s (fun d => d.chgPhase = phDONE ∧ d.chgCount = 3 ∧ bit (d.rd R.CHG_EVT) 0 = true)) ∧
    (p = phREST → c.phaseMayEnd = true → go .restPhaseEnd phPULSE) ∧
    (p = phDONE → vbat < c.rechargeLevel →
      ChgDoes (.recharge vbat) s (fun d => d.chgPhase = phPULSE ∧ d.rd R.CHG_IPULSE = c.ichg ∧ bit (d.rd R.CHG_EVT) 1 = true)) ∧
    (c.chg.gated = true → c.gating = true → c.chg.forced = none → p = phREST → go (.gatedPhaseBackstop i limited) phPULSE)

/-- R590, R597, R598: a change of temperature zone while the charger pulses on a present input and battery: the zone, its event and the
count; the cold and hot zones hold the charger, a zone between lets it out of HOLD to WAIT. -/
def Parts.ChargeZones : Prop :=
  ∀ (s : State) (z : Fin 5),
    let c := s.chip
    c.chgRun = true → c.vbatPres = true → c.anyInput = true → c.rbit R.CHG_CTRL 3 = false → c.rfld R.CHG_STAT 10 3 ≠ z.val →
    (c.chgPhase = phPULSE → ∀ i ∈ [Instr.zoneChange z] ++ (if z.val = 0 ∨ z.val = 4 then [Instr.chargerHold z] else []),
      ChgDoes i s (fun d => d.rfld R.CHG_STAT 10 3 = z.val ∧ bit (d.rd R.CHG_EVT) 4 = true ∧ d.chgCount = 0 ∧
        d.chgPhase = (if z.val = 0 ∨ z.val = 4 then phHOLD else phPULSE))) ∧
    (c.chgPhase = phHOLD → 1 ≤ z.val → z.val ≤ 3 →
      ChgDoes (.chargerHoldExit z) s (fun d => d.rfld R.CHG_STAT 10 3 = z.val ∧ d.chgPhase = phWAIT))

/-- R582 to R598: the charger's phases and temperature zones. -/
def Obligations.ChargerPhases : Prop := Parts.ChargePhases ∧ Parts.ChargeZones

/-- R562 to R569, R605, R613, R618: detection and limits of the inputs: PORT's limit by Rp and BC1.2, WAVE's signature, the open-circuit
sample of SOLAR and its class, a sink, the dock, the reserve, and the battery's presence. -/
def Obligations.PowerInputs : Prop :=
  ∀ (s : State) (rp : RpAdvert) (bc : Bc12) (mv : BitVec 16) (b : Bool) (w : Writer),
    let c := s.chip
    let lim (d : Chip) (n : Nat) : Prop := d.rd (R.CHG_ICL_EFF 2) = min n (c.rd (R.CHG_ICLMAX 2)) % 2 ^ 16
    (c.inputLive 2 = true →
      ChgDoes (.portAttach rp) s (fun d => d.chg.rp = rp ∧ d.chg.detDone = false ∧ lim d 100) ∧
      ChgDoes (.portDetectionDone bc) s (fun d => d.chg.bc12 = bc ∧ d.chg.detDone = true ∧ lim d (portLimit c.chg.rp bc true)) ∧
      ChgDoes (.rpChange rp) s (fun d => d.chg.rp = rp ∧ lim d (portLimit rp c.chg.bc12 c.chg.detDone))) ∧
    (c.inputLive 1 = true → ChgDoes .waveSignatureFound s (fun d => d.rbit R.CHG_DET 5 = true ∧
      d.rd (R.CHG_ICL_EFF 1) = c.rd (R.CHG_ICLMAX 1) % 2 ^ 16)) ∧
    ChgDoes .waveSignatureLost s (fun d => d.rbit R.CHG_DET 5 = false) ∧
    (c.inputLive 0 = true → c.inputLive 3 = true → c.chg.vocBusy = false → c.inShip = false →
      ChgDoes (.chgVocnowWrite w) s (fun d => d.chg = { c.chg with vocBusy := true }) ∧
      (c.rd R.CHG_VOCPER ≠ 0 → c.wrdOn = true → ChgDoes .vocSampleStart s (fun d => d.chg = { c.chg with vocBusy := true }))) ∧
    (c.chg.vocBusy = true → ChgDoes (.vocSampleEnd mv) s (fun d => d.chg.vocBusy = false ∧ d.rd R.CHG_VOC = mv.toNat ∧
      d.rfld R.CHG_DET 3 2 = solarClass mv.toNat)) ∧
    ChgDoes (.dockLiveChange b) s (fun d => d.chg.dock = b ∧ d.rbit R.CHG_STAT 14 = (b && !c.domUp (dCH 6))) ∧
    (c.rpShown = true → c.wdn.inboxHw = [] → Does (.sinkAttach b) s (fun d => d.rbit R.CHG_DET 7 = b ∧ bit (d.rd R.CHG_EVT) 7 = true ∧
      d.wdn.inboxHw = [hwMsg 0x83 (if b then 1 else 2) 0 0 0] ∧ c.Rings d ∧
      c.Keeps d [R.CHG_DET, R.CHG_EVT, R.DOORBELL_OVF] (fun d => { d with wdn := {}, threads := [] }))) ∧
    ((c.dom (dCH 6)).state = 4 → c.mode.power < 4 → c.wdn.inboxHw = [] → Does (.reverseReserveLow false) s (fun d =>
      bit (d.rd R.CHG_EVT) 6 = true ∧ d.wdn.inboxHw = [hwMsg 0x83 4 0 0 0] ∧ c.Rings d ∧
      c.Keeps d [R.CHG_EVT, R.DOORBELL_OVF] (fun d => { d with wdn := {}, threads := [] }))) ∧
    (c.vbatPres = b → Does (if b then .batteryRemoved else .vbatPresent) s (fun d => d.vbatPres = !b ∧ bit (d.rd R.SYS_SUPPLY_CHG) 4 = true ∧
      c.Rings d ∧ c.Keeps d (R.SYS_SUPPLY :: R.SYS_SUPPLY_CHG :: chgRegs) (fun d => { d with chg := {}, threads := [] })))

/-- R621 to R628, R630: an ADC sequence starts, or waits; its one result is stored and the next runs; the battery's conversion is
stored; a counter sample adds its charge, keeps what is below 1 µAh and shows the current in 0.1 mA; the counter's emptiness is
an event. -/
def Parts.Measurement : Prop :=
  ∀ (s : State) (w : Writer) (q : BitVec 8) (v : BitVec 16) (nv : Int) (r : Nat), s.chip.domOn dAFE = true →
    let c := s.chip
    let i := nv * 1000000 / ((min 10000 (max 1000 (c.rd R.GAU_RSNS)) : Nat) : Int)
    let t := c.gau.remainder + i
    (c.gau.running = none →
      Does (.gauSeqgoWrite w q) s (fun d => d.gau = { c.gau with running := some (q.toNat % 32) } ∧ c.Keeps d [] (fun d => { d with gau := {} }))) ∧
    (c.gau.running = some r → r ≠ q.toNat % 32 → c.gau.queue = [] →
      Does (.gauSeqgoWrite w q) s (fun d => d.gau = { c.gau with queue := [q.toNat % 32] } ∧ c.Keeps d [] (fun d => { d with gau := {} }))) ∧
    (∀ k < 25, c.gau.running = some r → c.adcEntries r = [k] → bit (c.rd (R.GAU_SEQ_HDR r)) 8 = false →
      Does (.adcSequenceDone [v]) s (fun d => d.rd (R.GAU_RES k) = v.toNat ∧
        d.gau = { c.gau with running := c.gau.queue.head?, queue := c.gau.queue.tail } ∧ c.Keeps d [R.GAU_RES k] (fun d => { d with gau := {} }))) ∧
    Does (.gaugeConversion false v 0) s (fun d => d.rd (R.GAU_RES 0) = v.toNat ∧ c.Keeps d [R.GAU_RES 0] id) ∧
    Does (.counterSample nv) s (fun d =>
      d.qacc = max (-(2 ^ 39 - 1)) (min (2 ^ 39 - 1) (c.qacc + t / 3600000000)) ∧ d.gau.remainder = t % 3600000000 ∧
      d.rd R.GAU_I = ofSigned 32 (i / 100000) ∧ (0 < c.qacc → d.qacc ≤ 0 → bit (d.rd R.GAU_EVT) 0 = true) ∧
      { d.gau with remainder := 0, sinceTrip := 0 } = { c.gau with remainder := 0, sinceTrip := 0 } ∧ c.Rings d ∧
      c.Keeps d [R.GAU_I, R.GAU_QACC, R.GAU_SOC, R.GAU_EVT, R.DOORBELL_OVF] (fun d => { d with gau := {}, threads := [] })) ∧
    (c.qacc ≤ 0 → Does .counterEmpty s (fun d => bit (d.rd R.GAU_EVT) 0 = true ∧ c.Rings d ∧
      c.Keeps d [R.GAU_EVT, R.DOORBELL_OVF] Chip.noThreads))

/-- R631, R632, R640, R644 to R648, R651: a rest begins; one that was too short leaves no record; a forced rest is asked for, begins
out of PULSE and ends in the phase it interrupted; a logged write sets the charge, and the OCV table's address. -/
def Parts.Rests : Prop :=
  ∀ (s : State) (i : Int) (vb va ms ocv : Nat) (e1 e2 : Int) (v : BitVec 40) (a : BitVec 24),
    let c := s.chip
    (c.domOn dAFE = true → c.rbit R.GAU_STAT 8 = false →
      Does (.restBegin i vb va) s (fun d => d.rbit R.GAU_STAT 8 = true ∧ d.gau = { c.gau with iBefore := i, vBefore := vb, vAfter := va } ∧
        c.Keeps d [R.GAU_STAT] (fun d => { d with gau := {} }))) ∧
    (c.domOn dAFE = true → c.rbit R.GAU_STAT 8 = true → ms < c.relaxMs →
      Does (.restEnd ms ocv e1 e2) s (fun d => d.rbit R.GAU_STAT 8 = false ∧ c.Keeps d [R.GAU_STAT] id)) ∧
    (c.domOn dAFE = true → c.rbit R.GAU_STAT 8 = true → c.relaxMs ≤ ms → c.rbit R.CHG_STAT 9 = false → ocv < 65536 →
      Does (.restEnd ms ocv e1 e2) s (fun d => d.rbit R.GAU_STAT 8 = false ∧ d.rd R.GAU_ROCV = ocv ∧ d.rd R.GAU_RTIME = c.rd R.SYS_TIME % 2 ^ 32)) ∧
    (c.domOn dAFE = true → 2 ≤ c.rd R.GAU_CTRL → c.rbit R.GAU_STAT 3 = false → c.gau.forced = false → c.rbit R.GAU_EVT 0 = true →
      c.wdn.inboxHw = [] →
      Does (.forcedRestPending vb) s (fun d => d.rbit R.GAU_STAT 3 = true ∧ d.rbit R.GAU_STAT 4 = true ∧
        d.wdn.inboxHw = [hwMsg 0x84 1 0 0 0] ∧ c.Keeps d [R.GAU_STAT] (fun d => { d with wdn := {} }))) ∧
    (c.domOn dAFE = true → c.rbit R.GAU_STAT 3 = true → c.gau.forced = false → c.chgPhase = phPULSE →
      Does .forcedRestStart s (fun d => d.chgPhase = phREST ∧ d.chg.forced = some phPULSE ∧ d.gau = { c.gau with forced := true } ∧
        c.Keeps d [R.CHG_STATE, R.CHG_STAT] (fun d => { d with gau := {}, chg := {} }))) ∧
    (c.gau.forced = true → c.chg.forced = some phPULSE → c.rbit R.GAU_STAT 4 = false →
      Does (.forcedRestEnd true) s (fun d => d.chgPhase = phPULSE ∧ d.chg.forced = none ∧ d.gau = { c.gau with forced := false } ∧
        d.rbit R.GAU_STAT 3 = false ∧ c.Keeps d [R.CHG_STATE, R.GAU_STAT] (fun d => { d with gau := {}, chg := {} }))) ∧
    (c.exhausted = false → c.entry 0 = none →
      Does (.gauQaccWrite .spi v) s (fun d => d.qacc = max (-(2 ^ 39 - 1)) (toSigned 40 v.toNat) ∧ d.gau.remainder = 0 ∧
        (∃ e, d.entry 0 = some e ∧ e.origin = 3 ∧ e.object = regObject 0x804008 ∧ e.new = charge32 (toSigned 40 v.toNat)) ∧ c.Rings d ∧
        c.Keeps d [R.GAU_QACC, R.GAU_SOC, R.GAU_EVT, R.DOORBELL_OVF, R.LED_NEXTSEQ] (fun d => { d with gau := {}, led := {}, threads := [] })) ∧
      Does (.gauOcvaddrWrite .spi a) s (fun d => d.rd R.GAU_OCVADDR = a.toNat ∧
        (∃ e, d.entry 0 = some e ∧ e.origin = 3 ∧ e.object = regObject 0x804020 ∧ e.new = a.toNat) ∧ c.Rings d ∧
        c.Keeps d [R.GAU_OCVADDR, R.GAU_STAT, R.GAU_EVT, R.DOORBELL_OVF, R.LED_NEXTSEQ] (fun d => { d with led := {}, threads := [] })))

/-- R621 to R651: measurements, the charge counter, rests, and the logged writes of the gauge. -/
def Obligations.Gauge : Prop := Parts.Measurement ∧ Parts.Rests

/-! ### Supplies, power modes and boot (02, 20, 12, 21, 22) -/

/-- R72 to R79, R93, R1008, R1010: the inputs, the banks, the source of AON and the source of CK_LF, each with its bit of SYS_SUPPLY,
which raises its bit of SYS_SUPPLY_CHG. -/
def Parts.Supplies : Prop :=
  ∀ (s : State) (i : Fin 4) (b : Fin 3) (src : Fin 5),
    let c := s.chip
    let sup (d : Chip) (k : Nat) (v : Bool) : Prop := d.rbit R.SYS_SUPPLY k = v ∧ bit (d.rd R.SYS_SUPPLY_CHG) k = true ∧ c.Rings d
    let supRegs := [R.SYS_SUPPLY, R.SYS_SUPPLY_CHG, R.DOORBELL_OVF]
    (c.rbit R.SYS_SUPPLY i = false → c.mode.power ≠ 5 →
      Does (.inputPresent i) s (fun d => sup d i true ∧ c.Keeps d (R.SYS_SUPPLY :: R.SYS_SUPPLY_CHG :: chgRegs) (fun d => { d with chg := {}, threads := [] }))) ∧
    (c.rbit R.SYS_SUPPLY i = true → ∀ j ∈ [Instr.inputAbsent i, Instr.inputOvervoltage i],
      Does j s (fun d => sup d i false ∧ d.sup.armed.contains i.val = true ∧
        c.Keeps d (R.SYS_SUPPLY :: R.SYS_SUPPLY_CHG :: chgRegs) (fun d => { d with sup := {}, chg := {}, threads := [] }))) ∧
    (c.rfld R.SYS_SUPPLY 5 3 ≠ src.val →
      Does (.aonSourceSwitch src) s (fun d => d.rfld R.SYS_SUPPLY 5 3 = src.val ∧ bit (d.rd R.SYS_SUPPLY_CHG) 5 = true ∧ c.Rings d ∧
        c.Keeps d supRegs Chip.noThreads)) ∧
    (c.bankGood b = false →
      Does (.bankGood b) s (fun d => sup d (8 + b) true ∧ d.sup = { c.sup with blanking := c.sup.blanking ++ [b.val] } ∧
        c.Keeps d supRegs (fun d => { d.noLevels with sup := {}, threads := [] }))) ∧
    (c.bankGood b = true →
      Does (.bankLost b) s (fun d => sup d (8 + b) false ∧ (b = 0 → d.hif.pendingRead = none) ∧ d.sup.blanking.contains b.val = false ∧
        c.Keeps d (R.CAP_STAT :: supRegs) (fun d => { d.noLevels with sup := {}, cap := {}, threads := [] }))) ∧
    Does (.bankEdgeBlankEnd b) s (fun d => d.sup = { c.sup with blanking := c.sup.blanking.filter (fun x => !(x == b.val)) } ∧
      c.Keeps d [] (fun d => { d with sup := {} })) ∧
    Does .cklfCrystalSwitch s (fun d => d.mode = { c.mode with crystal := true } ∧ c.Keeps d [] (fun d => { d with mode := {} })) ∧
    Does .cklfRcFallback s (fun d => d.mode = { c.mode with crystal := false } ∧ c.Keeps d [] (fun d => { d with mode := {} }))

/-- R76, R414: AON's power-on reset, while no NVM command and no segment erase runs, leaves flash, Ledger and OTP alone; its end starts
WRD with reset kind 1 when FAULT_N is high. -/
def Parts.AonReset : Prop :=
  ∀ s : State,
    let c := s.chip
    (c.nvm.cmd = none → c.led.erasing = none →
      Does .aonPorBegin s (fun d => d.mem.flash = c.mem.flash ∧ d.mem.ledger = c.mem.ledger ∧ d.nvm.otp = c.nvm.otp ∧ d.mem.dmem = [] ∧
        d.threads = [] ∧ d.sup.up = false ∧ (∀ x < 13, (d.dom x).state = 0) ∧ d.rd R.SEQ_EN = 1 ∧ d.rd R.SYS_TIME = 0 ∧
        d.rd R.SYS_SUPPLY % 16 = 0)) ∧
    (c.sup.up = false → c.seq.fnDrive = false → c.seq.hot = false →
      Does (.aonPorEnd true) s (fun d => d.sup.up = true ∧ (d.dom dWRD).state = 1 ∧ d.rd R.SYS_RSTREC_KIND = 1 ∧ d.seq.engine = .idle ∧
        d.mem = c.mem ∧ d.threads = c.threads))

/-- R72 to R79, R93, R414, R1008, R1010: inputs, banks, sources, and the power-on reset of AON. -/
def Obligations.SuppliesAndReset : Prop := Parts.Supplies ∧ Parts.AonReset

/-- R934 to R949, 12 R600 to R603: DOZE is entered and left; HIBERNATE is asked for, entered when the Ledger has settled, and left by the
host; SHIP is entered with every other domain OFF, a deferred entry ends, and a press ends SHIP, logged with the button's origin. -/
def Parts.PowerModes : Prop :=
  ∀ s : State,
    let c := s.chip
    let onlyMode (d : Chip) : Prop := c.Keeps d [] (fun d => { d with mode := {} })
    (c.mayDoze = true → Does .dozeEnter s (fun d => d.mode = { c.mode with power := 1 } ∧ onlyMode d)) ∧
    (c.mode.power = 1 → c.dozeWake = true → Does .dozeExit s (fun d => d.mode = { c.mode with power := 0, exDue := true } ∧ onlyMode d)) ∧
    (c.wrdOn = true → c.wdnState ≠ 2 → c.mode.power = 0 → c.othersOff = true → (∀ i ∈ orderEntries, c.handled i = none) →
      c.exhausted = false → c.entry 0 = none →
      Does .hibernateRequest s (fun d => d.mode = { c.mode with power := 2, wakePend := none } ∧ d.rd R.SYS_WAKECAUSE = 0 ∧
        (∃ e, d.entry 0 = some e ∧ e.origin = 1 ∧ e.object = regObject R.SYS_PSTATE.addr) ∧
        c.Keeps d [R.SYS_WAKECAUSE, R.LED_NEXTSEQ] (fun d => { d with mode := {}, led := {} }))) ∧
    (c.mode.power = 2 → c.ledSettled = true → c.mode.wakePend = none →
      Does .hibernateEnter s (fun d => d.mode.power = 3 ∧ ∀ x < 13, (d.dom x).state = 0)) ∧
    (c.mode.power = 3 → c.rbit R.SYS_WAKE 2 = true → c.rd R.SYS_WAKECAUSE = 0 → c.seq.fnDrive = false → c.seq.hot = false →
      Does (.hibernateWake .host true) s (fun d => d.mode.power = 0 ∧ (d.dom dWRD).state = 1 ∧ d.rd R.SYS_RSTREC_KIND = 5 ∧
        d.rd R.SYS_WAKECAUSE = 4 ∧ d.mem = c.mem)) ∧
    (c.mode.deferred = false → Does .shipDeferEnd s (fun d => d.mode = { c.mode with shipLow := false } ∧ onlyMode d)) ∧
    (c.mode.power = 4 → c.mode.deferred = false → c.othersOff = true →
      Does .shipPowerDown s (fun d => d.mode.power = 5 ∧ (∀ x < 13, (d.dom x).state = 0) ∧ d.seq.engine = .idle)) ∧
    (c.mode.power = 5 → c.mode.shipLow = false → c.seq.fnDrive = false → c.seq.fnLow = false → c.seq.hot = false → c.entry 14 = none →
      Does .shipWakePress s (fun d => d.mode.power = 0 ∧ d.mode.shipLow = true ∧ (d.dom dWRD).state = 1 ∧ d.rd R.SYS_RSTREC_KIND = 4 ∧
        d.rd R.SEQ_RCOUNT = 0 ∧ d.Recorded 0x4000 0 0 (cause 0x49 2)))

/-- R957 to R980: the boot ROM, with no alarm, no valid slot, an empty staging, the epoch and the Ledger's sequence set and boot policy
STANDARD, starts the standard image CHECKED on s0; with a failed factory or boot section it halts with LNK listening. LOAD_MAIN,
once its command for CPU has been made and CPU is ON, writes the slot's main section to IMEM and releases t0 at the image's entry,
privileged. RETRY restarts WRD with kind 6, RELOAD is a message while policy runs. -/
def Parts.Boot : Prop :=
  ∀ (s : State) (t : Thread) (k : Nat),
    let c := s.chip
    (c.stage = 1 → c.domUp dWRD = true → c.rd R.OTP_ALARM = 0 → c.led.seqSet = true → c.led.staging = [] → c.sealsNewest = [] →
      c.rbit R.SYS_RSTREC_FLAGS 1 = true → c.devKey = false → c.bootPolicy = 0 → c.slotCheck 0 ≠ 0 → c.slotCheck 1 ≠ 0 →
      Does (.bootRomStart true) s (fun d => d.stage = 2 ∧ d.wdnState = 0 ∧ d.rbit R.WDN_STATUS 2 = true ∧ d.rbit R.SYS_BOOT 9 = true ∧
        d.wdn.entry = Config.standardEntry ∧ (d.thr 16).run = .active ∧ (d.thr 16).pc = Config.standardEntry)) ∧
    (let n := c.callerNumber t
     let r := c.pcmd (65536 * dCPU + 1) n
     16 ≤ t.val → c.policyOn = true → c.wdnState ≠ 2 → c.mode.loadMain = none → c.bootSlot = some k → r.2 = 0 → (r.1.dom dCPU).state = 4 →
      r.1.bootSlot = some k → r.1.mainHalted = true → r.1.slotCheck k = 0 → r.1.imgEntry k 1 = 0xFFFF →
      Does (.loadMain t) s (fun d => d.mem.imem = r.1.mainImem k ∧ (d.thr 0).run = .active ∧ (d.thr 0).priv = true ∧
        (d.thr 0).pc = BitVec.ofNat 15 (r.1.imgEntry k 0) ∧ (d.core 0).held = false ∧ (d.core 1).held = false ∧ d.stage = 4 ∧
        (d.thr t).cell 2 = 0 ∧ d.mode.loadMain = none)) ∧
    (c.stage = 3 → c.seq.fnDrive = false → c.seq.fnLow = false → c.seq.hot = false →
      Does .bootRetry s (fun d => (d.dom dWRD).state = 1 ∧ d.rd R.SYS_RSTREC_KIND = 6)) ∧
    (c.policyOn = true → c.wdn.inboxHw = [] →
      Does .bootReload s (fun d => d.wdn = { c.wdn with inboxHw := [hwMsg 0x85 0 0 0 0] } ∧ c.Keeps d [] (fun d => { d with wdn := {} })))

/-- R600 to R603, R934 to R980: DOZE, HIBERNATE, SHIP, the boot ROM and LOAD_MAIN. -/
def Obligations.PowerModesAndBoot : Prop := Parts.PowerModes ∧ Parts.Boot

/-! ### NVM, OTP, entropy, Pebble (17, 18) -/

/-- R823 to R838: a free interface is taken by its writer, and released; the owner's commands that nothing refuses begin, an ERASE with its
count raised first; the end of a program writes its granule and no other byte, of an erase 0xFF in its sector alone, of an OTP program
its row; an erase is suspended and resumed; the write-protect limit only rises. -/
def Obligations.NvmCommands : Prop :=
  ∀ (s : State) (w : Writer) (v : BitVec 16) (mv : Nat) (die : Int) (m : NvmCmd), s.chip.wrdOn = true →
    let c := s.chip
    let a := c.rd R.NVM_ADDR
    let sec := a / 0x1000 - 0x200
    let byte (x : Chip) (a : Nat) : Byte := FMap.get erased x.mem.flash a
    let begins (i : Instr) (code stat : Nat) (logged : Bool) : Prop :=
      Does i s (fun d => (∃ e, d.nvm.cmd = some e ∧ e.code = code ∧ e.addr = a ∧ e.data = leBytes 32 (c.rd R.NVM_DATA)) ∧ d.rd R.NVM_STAT = stat ∧
        (logged = true → ∃ e, d.entry 0 = some e ∧ e.object = 0xAC00 ∧ e.new = code * 2 ^ 24 + a ∧ e.origin = wOrigin w ∧ e.final = false) ∧
        (code = 0x10 → d.ecnt sec = (c.ecnt sec + 1) % 2 ^ 24) ∧
        c.Keeps d [R.NVM_STAT, R.NVM_ECNT sec, R.NVM_SUSCNT, R.LED_NEXTSEQ] (fun d => { d with nvm := {}, led := {} }))
    let ends (P : Chip → Prop) : Prop := Does (.nvmCommandDone true) s (fun d => P d ∧ d.nvm.cmd = none ∧ d.rd R.NVM_STAT = 0 ∧ d.rd R.NVM_RESULT = 0)
    (c.rd R.NVM_OWN = 0 → Does (.nvmOwnWrite w v) s (fun d => d.rd R.NVM_OWN = wOrigin w ∧ c.Keeps d [R.NVM_OWN] id)) ∧
    (c.nvm.cmd = none → Does .nvmOwnerTimeout s (fun d => d.rd R.NVM_OWN = 0 ∧ c.Keeps d [R.NVM_OWN] id)) ∧
    (c.rd R.NVM_OWN = wOrigin w →
      (c.nvmRefusal 0x01 mv 25 = none → begins (.program1 w mv) 0x01 9 false) ∧ (c.nvmRefusal 0x02 mv 25 = none → begins (.program2 w mv) 0x02 9 false) ∧
      (c.exhausted = false → c.entry 0 = none →
        (c.nvmRefusal 0x10 mv 25 = none → begins (.erase w mv) 0x10 3 true) ∧ (c.nvmRefusal 0x20 mv die = none → begins (.otpProgram w mv die) 0x20 9 true) ∧
        (c.nvmRefusal 0x21 mv die = none → begins (.otpSeal w mv die) 0x21 9 true) ∧ (c.nvmRefusal 0x22 mv die = none → begins (.arbInc w mv die) 0x22 9 true)) ∧
      (c.nvmMayWrite w = true → Does (.nvmWplimWrite w v) s (fun d => d.rd R.NVM_WPLIM = max (c.rd R.NVM_WPLIM) (v.toNat % 1024) ∧
        c.Keeps d [R.NVM_WPLIM] id))) ∧
    (c.nvm.cmd = some m →
      (m.code = 0x01 → m.data.length = 32 → ends (fun d => ∀ x, byte d x =
        if x / 16 = m.addr / 16 then m.data.getD (x % 16) 0 else byte c x)) ∧
      (m.code = 0x10 → c.ecnt (m.addr / 0x1000 - 0x200) < 20000 → 0x200000 ≤ m.addr →
        ends (fun d => ∀ x, byte d x = if x / 0x1000 = m.addr / 0x1000 then 0xFF else byte c x)) ∧
      (m.code = 0x20 → ends (fun d => FMap.get 0 d.nvm.otp (m.addr % 64) = leNat (m.data.take 16) ∧ d.mem = c.mem ∧
        ∀ r, r ≠ m.addr % 64 → FMap.get 0 d.nvm.otp r = FMap.get 0 c.nvm.otp r))) ∧
    (c.rfld R.NVM_STAT 0 3 = 3 → c.rd R.NVM_SUSCNT < 255 →
      Does .eraseSuspend s (fun d => d.rbit R.NVM_STAT 2 = true ∧ d.rd R.NVM_SUSCNT = c.rd R.NVM_SUSCNT + 1 ∧
        c.Keeps d [R.NVM_STAT, R.NVM_SUSCNT] id)) ∧
    Does .eraseResume s (fun d => d.rbit R.NVM_STAT 2 = false ∧ c.Keeps d [R.NVM_STAT] id)

/-- R857 to R868: a health test that fails in RUN puts the source in FAILED, logged and an event; the holdoff's end in STARTUP with one more
restart; a passed start-up test in RUN; a reseed counts; 24 h clear the restarts; a reseeded LFSR is never zero. -/
def Parts.Entropy : Prop :=
  ∀ (s : State) (k : HealthFail) (e : BitVec 512) (n : BitVec 256),
    let c := s.chip
    let st := c.entState
    let evt (d : Chip) (i : Nat) : Prop := bit (d.rd R.ENT_EVT) i = true ∧ c.Rings d
    (st = 2 → c.wrdOn = true → c.entRestarts < 3 → c.entry 14 = none → c.rd R.ENT_FAILCNT < 255 →
      Does (.healthTestFailure k) s (fun d => d.entState = 3 ∧ d.rd R.ENT_FAILCNT = c.rd R.ENT_FAILCNT + 1 ∧ evt d 0 ∧ d.ent.buffer = [] ∧
        (∃ x ∈ [1, 2, 3], d.rd R.ENT_FAILCAUSE = x ∧ d.Recorded 0x40FF 0 0 (cause 0x50 x)) ∧
        c.Keeps d ([R.ENT_STATE, R.ENT_FAILCNT, R.ENT_FAILCAUSE, R.ENT_EVT, R.DOORBELL_OVF] ++ ledgerRegs)
          (fun d => { d with ent := {}, led := {}, threads := [] }))) ∧
    (st = 3 → c.entry 14 = none → c.entRestarts < 3 →
      Does .entHoldoffEnd s (fun d => d.entState = 1 ∧ d.entRestarts = c.entRestarts + 1 ∧ evt d 1 ∧
        d.Recorded 0x40FF 0 0 (cause 0x51 (c.entRestarts + 1)) ∧
        c.Keeps d ([R.ENT_STATE, R.ENT_EVT, R.DOORBELL_OVF] ++ ledgerRegs) (fun d => { d with ent := {}, led := {}, threads := [] }))) ∧
    (st = 1 → c.entRestarts = 0 →
      Does (.entStartupPass e n) s (fun d => d.entState = 2 ∧ c.Keeps d [R.ENT_STATE, R.ENT_RAW] (fun d => { d with ent := {} }))) ∧
    (st = 2 → Does (.drbgReseed e) s (fun d =>
      (d.ent.key, d.ent.v) = drbgReseed c.ent.key c.ent.v (natBytes (leBytes 64 e.toNat)) ∧ d.ent.buffer = c.ent.buffer ∧
      d.rd R.ENT_RESEEDS = (c.rd R.ENT_RESEEDS + 1) % 256 ^ R.ENT_RESEEDS.width ∧
      c.Keeps d [R.ENT_RESEEDS, R.ENT_RAW] (fun d => { d with ent := {} }))) ∧
    (st = 2 → Does .entRestartsClear s (fun d => d.entRestarts = 0 ∧ d.entState = 2 ∧ c.Keeps d [R.ENT_STATE] id)) ∧
    (st = 2 → Does .lfsrReseed s (fun d => (∀ i < 10, FMap.get 1 d.ent.lfsr i ≠ 0) ∧ c.Keeps d [] (fun d => { d with ent := {} })))

/-- R872 to R875, R880: an accepted unlock of the host unlocks Pebble until its time and is logged; an enable's lifetime ends with an
entry; a held reply that passes is put on the port's line. -/
def Parts.Pebble : Prop :=
  ∀ (s : State) (v : BitVec 96) (i : Fin 5) (p : Fin 3) (f : Frame),
    let c := s.chip
    (c.wrdOn = true → c.pebJudge v.toNat = 1 → c.exhausted = false → c.entry 0 = none →
      Does (.pebUnlockWrite .spi v) s (fun d => d.peb.unlocked = true ∧ d.rd R.PEB_UNLEXP = v.toNat % 2 ^ 32 ∧ d.pebUnlocked = true ∧
        (∃ e, d.entry 0 = some e ∧ e.origin = 3 ∧ e.outcome = 0 ∧ e.cause = cause 0x58 1) ∧
        c.Keeps d [R.PEB_UNLEXP, R.LED_NEXTSEQ] (fun d => { d with peb := {}, led := {} }))) ∧
    (c.rbit R.PEB_EN i = true → c.entry 14 = none →
      Does (.pebbleExpire (some i)) s (fun d => d.rbit R.PEB_EN i = false ∧ d.pebActive i = false ∧ (∀ h ∈ d.peb.held, h.inst ≠ i.val) ∧
        d.Recorded (50 + i) 1 0 (cause 0x5A 0) ∧ c.Keeps d (R.PEB_EN :: ledgerRegs) (fun d => { d with peb := {}, led := {} }))) ∧
    (c.pebActive p = true → c.peb.held = [⟨p, false, .link f false, 0⟩] →
      Does (.pebbleHeldRelease ⟨p.val, by omega⟩ 0) s (fun d => d.peb.held = [] ∧ (d.port p).sent = (f, false) :: (c.port p).sent ∧
        (∀ q, q ≠ p.val → d.port q = c.port q) ∧ c.Keeps d [] (fun d => { d with peb := {}, tln := {} })))

/-- R857 to R880: the entropy source's states, and Pebble's unlock, lifetime and held frames. -/
def Obligations.EntropyAndPebble : Prop := Parts.Entropy ∧ Parts.Pebble

/-! ### Host, registers, JTAG (19, 00, 07) -/

/-- R888 to R905: what a transaction leaves on a good bank A while no other waits: a read waits, and its data come with the status of the
whole; a status command shows the six bytes of R899 and then counts itself; an unknown command is status 7; a write and an order that
Pebble passes are applied; an abort is status 9. -/
def Parts.HostTransactions : Prop :=
  ∀ (s : State) (h : HostPort) (a : BitVec 24) (n : BitVec 8) (cmd : BitVec 8) (o : HostOrder) (b : Byte),
    let c := s.chip
    let ended (d : Chip) (cmd : Byte) (st : Nat) : Prop := d.rd R.HIF_LAST = st ∧ d.hif.lastCmd = cmd
    let len := if n.toNat = 0 then 256 else n.toNat
    let begun : Chip := c.hostBegin h
    c.bankGood 0 = true → c.hostCheck h = false →
    (c.hif.pendingRead = none →
      Does (.hostRead h a n .ok) s (fun d => d.hif.pendingRead = some (h, a.toNat, len) ∧ c.Keeps d [] (fun d => { d with hif := {} })) ∧
      Does (.hostStatus h .ok) s (fun d => ended d 0x0B 0 ∧ d.hif.response = begun.statusBytes ∧ c.Keeps d [R.HIF_LAST] (fun d => { d with hif := {} })) ∧
      (cmd ≠ 2 → cmd ≠ 3 → cmd ≠ 0x0B → cmd ≠ 0x40 →
        Does (.hostBadCommand h cmd) s (fun d => ended d cmd 7 ∧ c.Keeps d [R.HIF_LAST] (fun d => { d with hif := {} }))) ∧
      (∀ k ∈ [Instr.hostWrite h a [b] .badLength, Instr.hostSequencedOrder h o .badLength],
        Does k s (fun d => d.rd R.HIF_LAST = 8 ∧ c.Keeps d [R.HIF_LAST] (fun d => { d with hif := {} }))) ∧
      (c.pebActive (hostPebble h) = false →
        Does (.hostWrite h a [b] .ok) s (fun d => d.hif.lastCmd = 2 ∧ d.rd R.HIF_LAST = (begun.registerWrite (hostWriter h) a.toNat [b]).rd R.HIF_LAST ∧
          d.mem = (begun.registerWrite (hostWriter h) a.toNat [b]).mem) ∧
        Does (.hostSequencedOrder h o .ok) s (fun d => ended d 0x40 0 ∧
          d.aut = (begun.submit { origin := hostOrigin h, seq := o.seq.toNat, ap := o.ap.toNat, value := o.value.toNat, options := o.options.toNat,
                                  reply := .hostFifo (BitVec.ofNat 8 (hostOrigin h)) } o.epoch.toNat o.issue.toNat).aut))) ∧
    (c.hif.pendingRead = some (h, a.toNat, len) → c.readStatus (hostReader h) a.toNat len = 0 → c.readEffects 2 a.toNat len = c →
      Does (.hostReadDataReady h) s (fun d => ended d 3 0 ∧ d.hif.pendingRead = none ∧
        d.hif.response = (if h = .spi then 0xA5 else 0) :: c.bytesAt (hostReader h) a.toNat len ∧ c.Keeps d [R.HIF_LAST] (fun d => { d with hif := {} }))) ∧
    Does .hostSpiAbort s (fun d => d.rd R.HIF_LAST = 9 ∧ d.hif.aborts = c.hif.aborts + 1 ∧ c.Keeps d [R.HIF_LAST] (fun d => { d with hif := {} })) ∧
    (c.rbit R.HIF_CTRL 2 = true →
      Does .hostI2cTimeout s (fun d => d.rd R.HIF_LAST = 9 ∧ d.hif.aborts = c.hif.aborts + 1 ∧ c.Keeps d [R.HIF_LAST] (fun d => { d with hif := {} })))

/-- R925 to R927: JTAG's four instructions, while it is not locked and bank C is good: the bypass bit, the identification code, the cells
captured and loaded, and the pins driven only while every channel domain is OFF. -/
def Parts.Jtag : Prop :=
  ∀ (s : State) (b : Bool) (p q : BitVec 256), s.chip.jtagLocked = false → s.chip.bankGood 2 = true →
    let c := s.chip
    let only (d : Chip) : Prop := c.Keeps d [] (fun d => { d with jtag := {} })
    Does (.jtagBypass b) s (fun d => d.jtag = { c.jtag with bypass := b, driven := none } ∧ only d) ∧
    Does .jtagIdcode s (fun d => d.jtag = { c.jtag with idcode := 0x17608F4B, driven := none } ∧ only d) ∧
    Does (.jtagSamplePreload p q) s (fun d => d.jtag = { c.jtag with captured := p.toNat, boundary := q.toNat, driven := none } ∧ only d) ∧
    (c.channelsOff = true → Does (.jtagExtest p q) s (fun d =>
      d.jtag = { c.jtag with captured := p.toNat, boundary := q.toNat, driven := some q.toNat } ∧ only d)) ∧
    (c.channelsOff = false → Does (.jtagExtest p q) s (fun d => d.jtag = { c.jtag with bypass := q.getLsbD 255, driven := none } ∧ only d))

/-- R888 to R905, R925 to R927: the host's transactions and JTAG. -/
def Obligations.HostPorts : Prop := Parts.HostTransactions ∧ Parts.Jtag

/-! ### Weir queues and rounds (14) -/

/-- R656 to R659, R661, R676, R679: a descriptor of a disabled queue is written by the host or a privileged thread, bits 92 to 0 alone,
with HEAD and TAIL at 0 when it is enabled; disabling a frozen queue drops what it holds. QCMD.RESYNC sets a queue's sequences to
0 and makes a RESYNC due; QCMD.UNBIND frees a group. -/
def Parts.WeirDescriptors : Prop :=
  ∀ (s : State) (w : Writer) (q : Fin 16384) (v : BitVec 93), s.chip.domOn dWEI = true →
    (wHost w || (s.chip.privWriter w && !wWarden w)) = true →
    let c := s.chip
    let r := R.WEI_DESC q
    let keep := fld (c.rd r) 93 3 * 2 ^ 93
    (c.qEn q = false → v.getLsbD 91 = false →
      Does (.weirDescriptorWrite w q v) s (fun d => d.rd r = v.toNat + keep ∧ c.Keeps d [r] id)) ∧
    (c.qEn q = false → v.getLsbD 91 = true → (c.qrec q).pend = false →
      Does (.weirDescriptorWrite w q v) s (fun d => d.rd r = putFld (putFld (v.toNat + keep) 21 12 0) 33 12 0 ∧
        d.qrec q = { c.qrec q with live := true } ∧ (∀ k, k ≠ q.val → d.qrec k = c.qrec k) ∧ c.Keeps d [r] (fun d => { d with weir := {} }))) ∧
    (c.qEn q = true → c.qFrozen q = true → v.getLsbD 91 = false →
      Does (.weirDescriptorWrite w q v) s (fun d => d.rd r % 2 ^ 93 = v.toNat ∧ d.entries q = [] ∧
        d.qrec q = { c.qrec q with live := false, pend := (c.qrec q).pend || ((c.qrec q).sseq != (c.qrec q).rseq) } ∧
        (∀ k, k ≠ q.val → d.entries k = c.entries k ∧ d.qrec k = c.qrec k) ∧ c.Keeps d [r] (fun d => { d with weir := {} }))) ∧
    (c.rd R.WEI_QSEL = q.val → c.qOut q = false →
      Does (.weiQcmdResync w) s (fun d => d.qrec q = { c.qrec q with sseq := 0, rseq := 0, resync := true } ∧
        (∀ k, k ≠ q.val → d.qrec k = c.qrec k) ∧ d.entries q = (c.entries q).map (fun e => { e with old := true }) ∧
        d.mem = c.mem ∧ d.threads = c.threads)) ∧
    Does (.weiQcmdUnbind w) s (fun d => d.grec (c.rd R.WEI_GSEL) = {} ∧ (∀ g, g ≠ c.rd R.WEI_GSEL → d.grec g = c.grec g) ∧
      { d.weir with groups := [] } = { c.weir with groups := [] } ∧ c.Keeps d [] (fun d => { d with weir := {} }))

/-- R660, R666 to R669, R677: frames of the partner at an enabled queue: the expected DATA is stored, with room, and raises RSEQ; an ACK
frees what it acknowledges; a NACK and the retransmission timeout send again; a SKIP of the expected span raises RSEQ behind a gap
marker; an ACK that is due goes to the queue's port. -/
def Parts.WeirFrames : Prop :=
  ∀ (s : State) (q : Fin 16384) (f : Frame) (msg : List Byte) (span : BitVec 16), s.chip.domOn dWEI = true → s.chip.NoSlots →
    let c := s.chip
    let r := c.qrec q
    let n := f.seq.toNat
    let cell := c.qfld q 33 12
    let only (d : Chip) (regs : List Reg) : Prop := (∀ k, k ≠ q.val → d.entries k = c.entries k ∧ d.qrec k = c.qrec k) ∧
      c.Keeps d regs (fun d => { d with weir := {} })
    f.kind = 2 → f.queue.toNat = q.val → fld f.flags.toNat 3 2 = 0 → c.qEn q = true → c.qNode q = f.src.toNat →
    (c.qIn q = true → r.pepoch = f.epoch.toNat → n = r.rseq →
      (f.payload = 0 :: 0 :: msg → c.qFrozen q = false → cellsUsed (c.entries q) + (msg.length + 15) / 16 + 1 ≤ c.qCells q →
        c.rndOfIn q = none →
        Does (.weirDataReceive f) s (fun d =>
          d.entries q = c.entries q ++ [{ kind := .data, seq := n, cell := cell, len := msg.length }] ∧
          (d.qrec q).rseq = (n + 1) % 2 ^ 16 ∧ (∀ i < msg.length, FMap.get 0 d.mem.weir (c.qAddr q cell i) = msg.getD i 0) ∧
          (∀ a, (∀ i < msg.length, a ≠ c.qAddr q cell i) → FMap.get 0 d.mem.weir a = FMap.get 0 c.mem.weir a) ∧
          { d.mem with weir := [] } = { c.mem with weir := [] } ∧ q.val ∈ d.weir.ackDue ∧
          (∀ k, k ≠ q.val → d.entries k = c.entries k ∧ d.qrec k = c.qrec k) ∧
          c.Keeps d [R.WEI_DESC q] (fun d => { d with weir := {}, mem := {} }))) ∧
      (f.payload = 4 :: beBytes 2 span.toNat ++ [1] → 0 < span.toNat → span.toNat < 2 ^ 15 → n < 2 ^ 16 →
        Does (.weirSkipReceive f) s (fun d => (∃ e : WeirEntry, d.entries q = c.entries q ++ [e] ∧ e.kind = .gap 2 span.toNat ∧ e.seq = n) ∧
          (d.qrec q).rseq = (n + span.toNat) % 2 ^ 16 ∧ q.val ∈ d.weir.ackDue ∧ bit (d.rd R.WEI_EVT) 0 = true ∧ c.Rings d ∧
          (∀ k, k ≠ q.val → d.entries k = c.entries k ∧ d.qrec k = c.qrec k) ∧
          c.Keeps d [R.WEI_DESC q, R.WEI_EVT, R.DOORBELL_OVF] (fun d => { d with weir := {}, threads := [] })))) ∧
    (c.qOut q = true →
      (f.payload = [2] → serialAfter 16 n r.rseq = true → serialAfter 16 n r.sseq = false →
        Does (.weirAckReceive f) s (fun d => (d.qrec q).rseq = n ∧
          d.entries q = (c.entries q).filter (fun e => decide (e.kind ≠ .data ∧ e.kind ≠ .fence) || !serialAfter 16 n e.seq) ∧
          only d [R.WEI_DESC q])) ∧
      (f.payload = [3] → serialAfter 16 r.rseq n = false → serialAfter 16 n r.sseq = false →
        Does (.weirNackReceive f) s (fun d => FMap.get 0 d.weir.txNext q = n ∧ d.entries q = c.entries q ∧ d.qrec q = r ∧ only d [])) ∧
      (c.present (c.qNode q) = true →
        Does (.weirRetransmitTimeout q) s (fun d => FMap.get 0 d.weir.txNext q = r.rseq ∧ d.entries q = c.entries q ∧ d.qrec q = r ∧ only d []))) ∧
    (q.val ∈ c.weir.ackDue → 1 ≤ c.qPort q →
      Does (.weirAckSend q) s (fun d => q.val ∉ d.weir.ackDue ∧
        (∃ g : Frame, (d.port (c.qPort q - 1)).origin = (c.port (c.qPort q - 1)).origin ++ [g] ∧ g.kind = 2 ∧ g.payload = [2] ∧
          g.dst.toNat = c.qNode q ∧ g.queue.toNat = c.qChan q ∧ g.seq = BitVec.ofNat 16 r.rseq) ∧
        c.Keeps d [] (fun d => { d with weir := {}, tln := {} })))

/-- R673, R676, R679, R687: GSYNC binds a group at its first use; RESYNC of the partner starts the numbering anew in its epoch; REJOIN
enters the FIFO and an event; a pop of WEI_REJFIFO shows its oldest entry, and 0 when it is empty. -/
def Parts.WeirControl : Prop :=
  ∀ (s : State) (f : Frame) (g : Fin 1024) (st : BitVec 16) (b : Byte) (rd : Reader), s.chip.domOn dWEI = true →
    let c := s.chip
    let q := f.queue.toNat
    let evt (d : Chip) (k : Nat) : Prop := bit (d.rd R.WEI_EVT) k = true ∧ c.Rings d ∧ d.mem = c.mem
    let pops (v : Nat) (l : List (Nat × Nat)) : Prop :=
      Does (.weiRejfifoPop rd) s (fun d => c.Latched d rd R.WEI_REJFIFO v ∧ d.weir = { c.weir with rejFifo := l } ∧
        c.Keeps d [] (fun d => { d with weir := {}, latch := [] }))
    (f.kind = 2 → fld f.flags.toNat 3 2 = 0 →
      (f.payload = 5 :: (beBytes 2 g.val ++ beBytes 2 st.toNat) → g ≠ 0 → (c.grec g).bound = false →
        Does (.weirGsyncReceive f) s (fun d => d.grec g = { node := f.src.toNat, send := false, bound := true, stamp := st.toNat } ∧
          (∀ k, k ≠ g.val → d.grec k = c.grec k) ∧ c.Keeps d [] (fun d => { d with weir := {} }))) ∧
      (f.payload = [6, b] → c.qNode q = f.src.toNat → c.qIn q = true →
        Does (.weirResyncReceive f) s (fun d => d.qrec q = { c.qrec q with sseq := 0, rseq := 0, pepoch := b.toNat, resync := false } ∧
          (∀ k, k ≠ q → d.qrec k = c.qrec k) ∧ evt d 3)) ∧
      (f.payload = 7 :: beBytes 2 st.toNat → c.weir.rejFifo.length < 8 → c.rndOfIn q = none →
        Does (.weirRejoinReceive f) s (fun d => d.weir = { c.weir with rejFifo := c.weir.rejFifo ++ [(q, st.toNat)] } ∧ evt d 1))) ∧
    (c.weir.rejFifo = [] → pops 0 []) ∧
    (∀ e l, c.weir.rejFifo = e :: l → pops (e.1 % 2 ^ 14 + 2 ^ 15 + 2 ^ 16 * e.2) l)

/-- R656 to R661, R673 to R679, R687: descriptors, groups, resynchronisation and the rejoin FIFO. -/
def Obligations.WeirQueues : Prop := Parts.WeirDescriptors ∧ Parts.WeirControl

/-- R681, R682, R686: a round in COLLECT whose window closes goes to COMPUTE with the partners missing marked and its owner's doorbell,
and stores nothing where the descriptor holds no substitute; the expiry of a lone partner's output discards the expired run at its head,
makes its SKIP due and shows NOTAPPLIED. -/
def Parts.Rounds : Prop :=
  ∀ (s : State) (r : Fin 32) (e : WeirEntry) (l : List WeirEntry),
    let c := s.chip
    let q := c.rndOut r 0
    let n := expiredRun (c.wheelTurn (c.rndWheel r)) (e :: l)
    (c.rndEn r = true → c.rd (R.RND_STATE r) = 1 → c.rfld (R.RND_CTRL r) 3 2 = 0 →
      Does (.roundWindowClose r) s (fun d => d.rd (R.RND_STATE r) = 2 ∧
        (∀ i < 16, bit (d.rd (R.RND_MISSING r)) i = (decide (i < c.rndParts r) && !c.rbit (R.RND_PRESENT r) i)) ∧ c.Rings d ∧
        ((c.thr (c.rndOwner r)).doorbells = [] → c.domOn dCPU = true →
          (d.thr (c.rndOwner r)).doorbells = [BitVec.ofNat 8 (c.rd (R.RND_DB r) + 1)]) ∧
        c.Keeps d [R.RND_STATE r, R.RND_MISSING r, R.DOORBELL_OVF] Chip.noThreads)) ∧
    (c.rndEn r = true → c.rndParts r = 1 → c.qEn q = true → c.qOut q = true → c.entries q = e :: l → 0 < n →
      Does (.roundExpiry r) s (fun d => d.entries q = (e :: l).drop n ∧ (d.qrec q).rseq = (e.seq + n) % 2 ^ 16 ∧
        d.weir.skipDue = c.weir.skipDue ++ [(q, e.seq, n, 2)] ∧ d.rbit (R.RND_NOTAPPLIED r) 0 = true ∧ bit (d.rd R.WEI_EVT) 2 = true ∧
        (∀ k, k ≠ q → d.entries k = c.entries k ∧ d.qrec k = c.qrec k) ∧ c.Rings d ∧
        c.Keeps d [R.WEI_DESC q, R.RND_NOTAPPLIED r, R.RND_NARND r, R.WEI_EVT, R.DOORBELL_OVF] (fun d => { d with weir := {}, threads := [] })))

/-- R660, R666 to R669, R677, R681 to R686: frames of Weir queues, and rounds. -/
def Obligations.WeirDelivery : Prop := Parts.WeirFrames ∧ Parts.Rounds

/-! ### Tarnline (15) -/

/-- R700, R707, R710 to R718: what a serving port without Pebble does with a frame: a bad CRC and an unknown type are counted; one out of
order is answered by the old HACK; one to be forwarded waits its store time with HOP raised. Stored and buffered frames start; a HACK
is sent, and one received advances the window; a retransmission marks and repeats the window. -/
def Parts.HopLayer : Prop :=
  ∀ (s : State) (p out : Fin 3) (f : Frame) (next : BitVec 4), s.chip.portOn p = true → s.chip.pebActive p = false →
    let c := s.chip
    let x := c.port p
    let counts (d : Chip) (k : Nat) : Prop := d.rd (R.TLN_CNT k) = c.rd (R.TLN_CNT k) + 1
    let room (k : Nat) : Prop := c.rd (R.TLN_CNT k) < 0xFFFF
    let others (d : Chip) : Prop := ∀ q, q ≠ p.val → d.port q = c.port q
    (room 0 → Does (.frameReceive p f false) s (fun d => counts d 0 ∧ c.Keeps d [R.TLN_CNT 0] id)) ∧
    (x.alive = true → f.kind ≠ 1 →
      (f.hseq ≠ x.rxSeq → PortDoes (.frameReceive p f true) s p { x with hackDue := true }) ∧
      (f.hseq = x.rxSeq → 11 ≤ f.kind.toNat → room 6 →
        Does (.frameReceive p f true) s (fun d => counts d 6 ∧ d.port p = { x with rxSeq := x.rxSeq + 1, hackDue := true } ∧ others d ∧
          c.Keeps d [R.TLN_CNT 6] (fun d => { d with tln := {} }))) ∧
      (f.hseq = x.rxSeq → f.kind = 2 → f.dst.toNat ≠ c.nodeId → f.dst ≠ 0x1FFF → f.hop ≠ 63 → c.route15 p f = some out.val →
        c.portOn out = true → c.bufferFull out = false → c.pmodeOf out = 2 →
        Does (.frameReceive p f true) s (fun d =>
          d.port out = { c.port out with store := (c.port out).store ++ [{ f with hop := f.hop + 1 }] } ∧
          d.port p = { x with rxSeq := x.rxSeq + 1, hackDue := true } ∧ (∀ q, q ≠ p.val → q ≠ out.val → d.port q = c.port q) ∧
          c.Keeps d [] (fun d => { d with tln := {} })))) ∧
    (f ∈ x.store → x.fwd = [] → x.window.length < 8 → PortDoes (.frameForwardStore p f) s p ({ x with store := x.store.erase f }.sending f)) ∧
    (∀ l, x.fwd = f :: l → x.window.length < 8 → PortDoes (.forwardBufferStart p) s p ({ x with fwd := l }.sending f)) ∧
    (x.hackDue = true → Does (.hackSend p) s (fun d => d.port p = { x with hackDue := false, sent := (d.port p).sent } ∧ (∃ g : Frame, (d.port p).sent = (g, false) :: x.sent ∧ g.kind = 1 ∧
      g.seq.toNat = x.rxSeq.toNat ∧ g.payload = []) ∧ others d ∧ c.Keeps d [] (fun d => { d with tln := {} }))) ∧
    (∀ g l, x.window = g :: l → (next - g.hseq).toNat ≤ l.length + 1 → x.slot = none →
      PortDoes (.hackReceive p next) s p { x with window := x.window.drop (next - g.hseq).toNat }) ∧
    (x.window ≠ [] → (∀ g ∈ x.window, g.tag = none) → room 1 →
      let w := x.window.map (fun g => { g with flags := g.flags ||| 4 })
      Does (.hopRetransmit p) s (fun d => counts d 1 ∧ d.port p = { x with window := w, sent := (w.map (fun g => (g, false))).reverse ++ x.sent } ∧
        others d ∧ c.Keeps d [R.TLN_CNT 1] (fun d => { d with tln := {} }))) ∧
    (room 8 → Does (.jabberStop p) s (fun d => counts d 8 ∧ c.Keeps d [R.TLN_CNT 8] id))

/-- R719 to R724, R731, R733, R744: beacons and slots without tags: the head sends a beacon with the next count and a presence segment; a
leaf that is not joined takes nonce and count of the beacon it hears; a contention slot opens, in which a joined node that has been
silent reports its status; a slot ends. -/
def Parts.BeaconsAndSlots : Prop :=
  ∀ (s : State) (p : Fin 3) (f : Frame) (stamp : BitVec 64), s.chip.rbit R.TLN_AUTH 0 = false →
    let c := s.chip
    let x := c.port p
    let n := (c.tln.sfcount + 1) % 2 ^ 32
    (c.headActive = true → c.portOn 1 = true → c.portOn 2 = false → c.pebActive 1 = false → (c.port 1).alive = false → c.tln.presSeg < 8 →
      Does .beaconSend s (fun d => d.tln.sfcount = n ∧ d.rd R.TLN_SFCNT = n ∧ d.tln.presSeg = (c.tln.presSeg + 1) % 8 ∧
        (∃ a b : Frame, (d.port 1).sent = (b, false) :: (a, false) :: (c.port 1).sent ∧ a.kind = 0 ∧ a.dst = 0x1FFF ∧ a.src = 1 ∧
          a.payload = beBytes 4 n ++ beBytes 8 (c.tln.nonceH.getD 0) ++ beBytes 4 0 ++ beBytes 4 c.now ∧
          b.kind = 9 ∧ b.dst = 0x1FFF ∧ b.payload = BitVec.ofNat 8 c.tln.presSeg :: c.pmapSegment c.tln.presSeg) ∧
        c.Keeps d [R.TLN_SFCNT] (fun d => { d with tln := {} }))) ∧
    (c.portOn 0 = true → c.tln.role = roLEAF → c.tstate ≠ tsJOINED → f.kind = 0 → 20 ≤ f.payload.length →
      Does (.beaconReceive 0 f stamp) s (fun d => d.tln.nonceH = some (beNat ((f.payload.drop 4).take 8)) ∧
        d.tln.session = c.sessionKey (beNat ((f.payload.drop 4).take 8)) ∧ d.rd R.TLN_SFCNT = beNat (f.payload.take 4) ∧
        (c.src 2 ≠ 5 → c.Keeps d [R.TLN_SFCNT] (fun d => { d with tln := {} })))) ∧
    (∀ nh e, c.tln.role = roHEAD → c.tln.listening = true → c.domOn dLNK = true → c.drawNonce = some (nh, e) →
      Does .headListenEnd s (fun d => d.nodeId = 1 ∧ d.tstate = tsJOINED ∧ d.headActive = true ∧ d.tln.nonceH = some nh ∧
        d.tln.listening = false ∧ d.mem = c.mem ∧ d.threads = c.threads)) ∧
    (c.portOn p = true → x.origin = [] → c.contentionAll = false →
      (p ≠ 0 → PortDoes (.contentionSlotOpen p) s p { x with slot := some 256 }) ∧
      (p = 0 → c.tstate = tsJOINED → c.headActive = false → c.haltLink = false → c.pebActive 0 = false → x.window.length < 8 →
        (c.tln.spoke = true → PortDoes (.contentionSlotOpen p) s p { x with slot := some 256 }) ∧
        (c.tln.spoke = false → PortDoes (.contentionSlotOpen p) s p ({ x with slot := some 256 }.sending
          { dst := 1, src := BitVec.ofNat 13 c.nodeId, kind := 8, hop := 0, queue := 0, seq := 0, flags := 0
            epoch := BitVec.ofNat 8 c.epoch8, hseq := 0, payload := [0], tag := none })))) ∧
    (x.slotNext = none → PortDoes (.tarnlineSlotEnd p) s p { x with slot := none })

/-- R727 to R730: a node that has heard a beacon sends its JOIN_REQ with a fresh nonce; a relay records one and passes it upward with
its own ID as PARENT, the head puts it before firmware; the head's answer and a passing JOIN_REPLY install the route; the reply with
the outstanding nonce joins the node; join-table entries and answers expire. -/
def Parts.Joining : Prop :=
  ∀ (s : State) (p : Fin 3) (f : Frame) (uid : BitVec 64) (w : Writer) (rd : Reader) (v : BitVec 40),
    let c := s.chip
    let own := FMap.get 0 c.nvm.shadow 0 % 2 ^ 64
    let u := beNat (f.payload.take 8)
    let evt (d : Chip) (k : Nat) : Prop := bit (d.rd R.TLN_EVT) k = true ∧ c.Rings d
    let req : JoinEnt := ⟨u, p, beNat ((f.payload.drop 14).take 8)⟩
    let dropped (i : Nat) : List JoinEnt := c.tln.joinTable.filter (fun e => e.uid != i)
    (∀ nj e, c.tln.nonceH.isSome = true → c.haltLink = false → c.tstate ≠ tsJOINED → c.tln.stopped = false → c.portOn 0 = true →
      c.drawNonce = some (nj, e) → (c.port 0).slot = none →
      Does .joinReqSend s (fun d => d.tstate = tsJOINING ∧ d.tln.nonceJ = some nj ∧ d.tln.attempts = c.tln.attempts + 1 ∧
        (c.tln.attempts = 0 → (d.port 0).alive = true) ∧ d.mem = c.mem ∧ d.threads = c.threads ∧
        ∃ g : Frame, (d.port 0).origin = (c.port 0).origin ++ [g] ∧ g.kind = 5 ∧ g.dst = 1 ∧ g.src = 0 ∧ g.hop = 0 ∧
          g.payload.take 8 = beBytes 8 own ∧ (g.payload.drop 14).take 8 = beBytes 8 nj)) ∧
    (p ≠ 0 → c.portOn p = true → f.kind = 5 → (∀ e ∈ c.tln.joinTable, e.uid ≠ u) → c.tln.joinTable.length < 8 →
      (c.headActive = true → c.macOk f = true → c.tln.joinFifo.length < 8 →
        Does (.joinReqReceive p f) s (fun d => d.tln.joinTable = c.tln.joinTable ++ [req] ∧ evt d 5 ∧
          (∃ e : List Byte, d.tln.joinFifo = c.tln.joinFifo ++ [e] ∧ e.length = 16 ∧ e.headD 0 = 1 ∧ leNat ((e.drop 4).take 8) = u) ∧
          c.Keeps d [R.TLN_EVT, R.DOORBELL_OVF] (fun d => { d with tln := {}, threads := [] }))) ∧
      (c.headActive = false → f.hop = 0 → c.bufferFull 0 = false → c.pmodeOf 0 = 2 →
        Does (.joinReqReceive p f) s (fun d => d.tln.joinTable = c.tln.joinTable ++ [req] ∧
          (d.port 0).store = (c.port 0).store ++ [{ f with hop := 1, payload := f.payload.take 12 ++ beBytes 2 c.nodeId ++ f.payload.drop 14 }] ∧
          c.Keeps d [] (fun d => { d with tln := {} })))) ∧
    (c.portOn p = true → f.kind = 6 → (f.payload.drop 20).headD 0 = 0 →
      let id := beNat ((f.payload.drop 8).take 2) % 2 ^ 13
      (u = own → c.tstate ≠ tsJOINED → c.macOk f = true → c.tln.nonceJ = some (beNat ((f.payload.drop 12).take 8)) →
        (∀ r < 32, c.rndEn r = false) →
        Does (.joinReplyReceive p f) s (fun d => d.nodeId = id ∧ d.tstate = tsJOINED ∧ d.tln = { c.tln with nonceJ := none, attempts := 0 } ∧
          d.rd R.CHG_STRBUD = beNat ((f.payload.drop 10).take 2) % 2 ^ 16 ∧ evt d 0 ∧ d.mem = c.mem)) ∧
      (∀ e, u ≠ own → c.tln.joinTable.find? (fun x => x.uid == u) = some e → f.hop ≠ 63 → c.bufferFull e.port = false → c.pmodeOf e.port = 2 →
        Does (.joinReplyReceive p f) s (fun d => d.tln.joinTable = dropped u ∧ FMap.get 0 d.tln.routes id = e.port + 1 ∧
          (∀ k, k ≠ id → FMap.get 0 d.tln.routes k = FMap.get 0 c.tln.routes k) ∧
          (d.port e.port).store = (c.port e.port).store ++ [{ f with hop := f.hop + 1 }] ∧ c.Keeps d [] (fun d => { d with tln := {} })))) ∧
    Does (.joinTableExpire uid) s (fun d => d.tln = { c.tln with joinTable := dropped uid.toNat } ∧ c.Keeps d [] (fun d => { d with tln := {} })) ∧
    Does .joinAnswerTimeout s (fun d => d.tln = { c.tln with asked := none } ∧ c.Keeps d [] (fun d => { d with tln := {} })) ∧
    (∀ e, c.domOn dLNK = true → c.headActive = true → c.tln.asked = some uid.toNat →
      c.tln.joinTable.find? (fun x => x.uid == uid.toNat) = some e → (c.port e.port).slot = none → v.toNat / 2 ^ 32 = 0 →
      Does (.tlnJreplyWrite w v) s (fun d => d.tln.asked = none ∧ d.tln.joinTable = dropped uid.toNat ∧
        FMap.get 0 d.tln.routes (v.toNat % 2 ^ 13) = e.port + 1 ∧
        (∃ g : Frame, (d.port e.port).origin = (c.port e.port).origin ++ [g] ∧ g.kind = 6 ∧ g.dst = 0 ∧
          g.payload = beBytes 8 uid.toNat ++ beBytes 2 (v.toNat % 2 ^ 13) ++ beBytes 2 (v.toNat / 2 ^ 16 % 2 ^ 16) ++ beBytes 8 e.nonce ++ [0]) ∧
        c.Keeps d [] (fun d => { d with tln := {} }))) ∧
    (c.domOn dLNK = true →
      (c.tln.joinFifo = [] → Does (.tlnJoinfifoPop rd) s (fun d => c.Latched d rd R.TLN_JOINFIFO 0 ∧ d.tln = c.tln ∧
        c.Keeps d [] (fun d => { d with latch := [] }))) ∧
      (∀ e l, c.tln.joinFifo = e :: l → Does (.tlnJoinfifoPop rd) s (fun d => c.Latched d rd R.TLN_JOINFIFO (leNat e) ∧
        d.tln = { c.tln with joinFifo := l, asked := if e.headD 0 = 1 then some (leNat ((e.drop 4).take 8)) else c.tln.asked } ∧
        c.Keeps d [] (fun d => { d with tln := {}, latch := [] }))))

/-- R719 to R731, R744: beacons, slots and joining. -/
def Obligations.LinkString : Prop := Parts.BeaconsAndSlots ∧ Parts.Joining

/-- R731 to R734, R745 to R748: the loss of its beacons, an isolation and a leave take a node out of the string: no ID, no routes, no
presence; an absent or leaving child takes its routes with it; what the head hears of others stands before its firmware; presence
segments are copied; roles and port modes take effect. -/
def Obligations.LinkMembership : Prop :=
  ∀ (s : State) (p : Fin 3) (f : Frame) (w : Writer),
    let c := s.chip
    let evt (d : Chip) (k : Nat) : Prop := bit (d.rd R.TLN_EVT) k = true ∧ c.Rings d
    let out (d : Chip) : Prop := d.nodeId = 0 ∧ d.tstate = tsLISTEN ∧ d.tln.routes = [] ∧ d.tln.joinTable = [] ∧ d.tln.nonceH = none ∧
      (d.port 0).alive = false ∧ (d.port 0).window = [] ∧ (∀ i < 1024, d.rd (R.TLN_PMAP i) = 0) ∧ d.mem = c.mem
    let childless (d : Chip) : Prop := d.tln.routes = c.tln.routes.filter (fun e => e.2 != p.val + 1) ∧
      (d.port p).alive = false ∧ (d.port p).window = [] ∧ (d.port p).fwd = [] ∧ (d.port p).store = [] ∧ evt d 2 ∧ d.mem = c.mem
    let pushed (i : Instr) (k : Nat) : Prop :=
      Does i s (fun d => (∃ e : List Byte, d.tln.joinFifo = c.tln.joinFifo ++ [e] ∧ e.length = 16 ∧ e.headD 0 = BitVec.ofNat 8 k) ∧
        { d.tln with joinFifo := [] } = { c.tln with joinFifo := [] } ∧ evt d 5 ∧
        c.Keeps d [R.TLN_EVT, R.DOORBELL_OVF] (fun d => { d with tln := {}, threads := [] }))
    (c.domOn dLNK = true → c.tstate = tsJOINED → c.headActive = false → Does .beaconLoss s (fun d => out d ∧ evt d 1)) ∧
    (p ≠ 0 → c.domOn dLNK = true → Does (.childAbsent p) s childless) ∧
    (p ≠ 0 → c.portOn p = true → f.kind = 7 → c.macOk f = true → Does (.leaveReceive p f) s childless) ∧
    (c.portOn p = true → c.macOk f = true → c.headActive = true → c.tln.joinFifo.length < 8 → f.payload.headD 0 = 1 →
      (f.kind = 8 → pushed (.statusReceive p f) 3) ∧ (f.kind = 10 → pushed (.noticeReceive p f) 2)) ∧
    (c.portOn 0 = true → c.macOk f = true → f.kind = 9 → c.tln.role = roLEAF →
      Does (.presenceReceive 0 f) s (fun d => (∀ i < 128, d.rd (R.TLN_PMAP (128 * ((f.payload.headD 0).toNat % 8) + i)) = (f.payload.getD (1 + i) 0).toNat) ∧
        (∀ i < 1024, i / 128 ≠ (f.payload.headD 0).toNat % 8 → d.rd (R.TLN_PMAP i) = c.rd (R.TLN_PMAP i)) ∧
        c.Keeps d ((List.range 1024).map R.TLN_PMAP) id)) ∧
    (c.domOn dLNK = true → Does (.tlnCmdJoin w) s (fun d => d.tln = { c.tln with stopped := false } ∧ c.Keeps d [] (fun d => { d with tln := {} }))) ∧
    (c.domOn dLNK = true → Does (.tlnCmdLeave w) s (fun d => out d ∧ d.tln.stopped = true)) ∧
    (c.domOn dLNK = true → c.tstate ≠ tsJOINED → c.headActive = false →
      Does .roleChangeApply s (fun d => d.tln.role = c.rd R.TLN_ROLE ∧ d.tln.pmode = c.rd R.TLN_PMODE ∧
        (c.rd R.TLN_ROLE ≠ c.tln.role → d.tstate = (if c.rd R.TLN_ROLE = 0 then 0 else tsLISTEN) ∧ d.tln.stopped = false ∧
          d.tln.listening = decide (c.rd R.TLN_ROLE = 1)) ∧ c.Keeps d [R.TLN_STATE] (fun d => { d with tln := {} }))) ∧
    (c.portOn p = true → c.rd (R.TLN_CNT 7) < 0xFFFF →
      Does (.portIsolate p) s (fun d => d.rbit R.TLN_STATE (3 + p) = true ∧ d.portOn p = false ∧ d.rd (R.TLN_CNT 7) = c.rd (R.TLN_CNT 7) + 1 ∧
        evt d 3 ∧ (if p = 0 then out d else d.tln.routes = c.tln.routes.filter (fun e => e.2 != p.val + 1)))) ∧
    Does (.portRetry p) s (fun d => d.rbit R.TLN_STATE (3 + p) = false ∧ c.Keeps d [R.TLN_STATE] id) ∧
    (c.haltLink = true → c.domUp dLNK = true → c.tln.nonceH = none → c.tstate ≠ tsJOINED → c.headActive = false →
      Does .otpHaltListenSwitch s (fun d => d.rd R.TLN_PMODE = (if c.rfld R.TLN_PMODE 0 2 = 1 then 2 else 1) ∧ d.tln.pmode = d.rd R.TLN_PMODE))

/-- R735 to R739: an ORDER for this node becomes an order of the string's origin under the epoch it carries; an ORDER_REPLY and the
order's timeout end the order at the head of its queue, and its answer stands at the queue that takes the target's answers. -/
def Parts.StringOrders : Prop :=
  ∀ (s : State) (p : Fin 3) (f : Frame) (q a : Fin 16384) (e : WeirEntry) (l : List WeirEntry),
    let c := s.chip
    let b := f.payload
    let n (i k : Nat) : Nat := beNat ((b.drop i).take k)
    let o : OrderRec := { origin := 0x2000 + f.src.toNat, seq := f.seq.toNat, ap := n 0 1 % 128, value := n 1 2
                          options := n 7 1, reply := .node p f.src.toNat }
    let ends (i : Instr) (ans : List Byte) : Prop :=
      Does i s (fun d => FMap.get none d.tln.orderOut q = none ∧ d.entries q = l ∧ (d.qrec q).rseq = (e.seq + 1) % 2 ^ 16 ∧
        ((∀ k, c.qEn k = true → c.qIn k = true → c.qChan k = 0x3FFF → c.qNode k = c.qNode q → k = a.val) →
          c.qEn a = true → c.qIn a = true → c.qChan a = 0x3FFF → c.qNode a = c.qNode q → cellsUsed (c.entries a) + 2 ≤ c.qCells a →
          ∃ x : WeirEntry, d.entries a = c.entries a ++ [x] ∧ x.kind = .data ∧ d.qBytes a x = ans))
    (c.portOn p = true → f.kind = 3 → c.macOk f = true →
      Does (.orderReceive p f) s (fun d => d.aut = (c.submit o f.epoch.toNat (n 3 4)).aut)) ∧
    (c.NoSlots → c.orderQueue q = true → c.entries q = e :: l →
      (FMap.get none c.tln.orderOut q = some e.seq → ends (.orderTimeout q) [0xFF, 0x61, 0]) ∧
      (c.tln.orderOut = [(q.val, some f.seq.toNat)] → c.qNode q = f.src.toNat → c.portOn p = true → f.kind = 4 → c.macOk f = true → b.length = 3 →
        ends (.orderReplyReceive p f) b))

/-- R700 to R718, R735 to R739: the hop layer, and orders over the string. -/
def Obligations.LinkHops : Prop := Parts.HopLayer ∧ Parts.StringOrders

/-! ### Sensor ports and EVT (19) -/

/-- R911 to R916: the SDI-12 recorder, a command in progress: a command goes out after a break; a timeout repeats it, the third ends it with
a status line; the reply of a plain command ends it, that of a measurement waits, and the data commands follow a service request or the
wait's end; a bus fault aborts; raw mode sends and receives bytes. -/
def Parts.Sdi12 : Prop :=
  ∀ (s : State) (x : SdiCmd) (line : List Byte) (a b : Byte) (brk : Bool) (w : Writer) (rd : Reader), s.chip.sioOn = true →
    let c := s.chip
    let only (d : Chip) (rs : List Reg) : Prop := c.Keeps d rs (fun d => { d with sio := {} })
    let line4 (d : Chip) (st : Nat) (t : List Byte) : Prop :=
      (∃ e : List Byte, d.sio.lines = c.sio.lines ++ [e] ∧ e.length = 84 ∧ e.take 2 = [BitVec.ofNat 8 st, BitVec.ofNat 8 t.length] ∧ (e.drop 2).take t.length = t) ∧
      bit (d.rd R.SIO_EVT) 0 = true ∧ c.Rings d
    let ended (d : Chip) : Prop := d.sio.sdi = none ∧ d.rbit R.SIO_SDICMD 120 = false
    let data0 : List Byte := x.text.take 1 ++ [68, 48, 33]
    (c.sdiRaw = false → c.sio.sdi = none → c.sio.sdiLast = none → (sdiKind c.sdiText).isSome = true →
      Does .sdi12Command s (fun d => d.sio = { c.sio with sdi := some { text := c.sdiText, now := c.sdiText }, sdiSent := (true, c.sdiText) :: c.sio.sdiSent } ∧
        d.rbit R.SIO_SDICMD 120 = true ∧ only d [R.SIO_SDICMD])) ∧
    (c.sio.sdi = some x →
      (x.phase ≠ 1 → x.attempts < 3 →
        Does .sdi12ResponseTimeout s (fun d => d.sio = { c.sio with sdi := some { x with attempts := x.attempts + 1 }, sdiSent := (true, x.now) :: c.sio.sdiSent } ∧ only d [])) ∧
      (c.sio.lines.length < 4 →
        (x.phase ≠ 1 → 3 ≤ x.attempts → Does .sdi12ResponseTimeout s (fun d => line4 d 2 [] ∧ ended d)) ∧
        (Does .sdi12BusFault s (fun d => line4 d 3 [] ∧ ended d ∧ bit (d.rd R.SIO_EVT) 1 = true)) ∧
        (line.length ≤ 82 → x.phase = 0 →
          (sdiKind x.text = some .plain → Does (.sdi12LineReceived line) s (fun d => line4 d 0 line ∧ ended d)) ∧
          (∀ m v r k, sdiKind x.text = some (.measure m v r k) → decimal ((line.drop 4).take m) ≠ 0 → decimal ((line.drop 1).take 3) ≠ 0 →
            Does (.sdi12LineReceived line) s (fun d => line4 d 0 line ∧
              d.sio.sdi = some { x with expect := decimal ((line.drop 4).take m), phase := 1 })))) ∧
      (x.phase = 1 →
        (∀ m r k, sdiKind x.text = some (.measure m true r k) → x.text.head? = some a →
          Does (.sdi12ServiceRequest a) s (fun d => d.sio.sdi = some { x with now := data0, attempts := 1, retries := 0, phase := 2, index := 0 } ∧
            (∃ k, d.sio.sdiSent = (k, data0) :: c.sio.sdiSent) ∧ only d [])) ∧
        Does .sdi12WaitTimeout s (fun d => d.sio.sdi = some { x with now := data0, attempts := 1, retries := 0, phase := 2, index := 0 } ∧
          (∃ k, d.sio.sdiSent = (k, data0) :: c.sio.sdiSent) ∧ only d []))) ∧
    (c.sdiRaw = true →
      Does (.sdi12RawWrite w b brk) s (fun d => d.sio = { c.sio with sdiSent := (brk, if brk then [] else [b]) :: c.sio.sdiSent } ∧ only d [R.SIO_SDIRAW]) ∧
      Does (.sdi12RawReceive b) s (fun d => d.rfld R.SIO_SDIRAW 0 8 = b.toNat ∧ d.rbit R.SIO_SDIRAW 10 = true ∧ c.Keeps d [R.SIO_SDIRAW] id)) ∧
    (∀ e l, c.sio.lines = e :: l → Does (.sioSdilinePop rd) s (fun d => c.Latched d rd R.SIO_SDILINE (leNat e) ∧ d.sio = { c.sio with lines := l } ∧
      c.Keeps d [] (fun d => { d with sio := {}, latch := [] }))) ∧
    (c.sio.lines = [] → Does (.sioSdilinePop rd) s (fun d => c.Latched d rd R.SIO_SDILINE 0 ∧ c.Keeps d [] (fun d => { d with latch := [] })))

/-- R917 to R924, 02 R73, R86: with their bank good, a received byte, a break, a sentence and the ends of transfers stand in their FIFOs
and results, each with its event; a qualifying edge of a pin raises its doorbell and starts the rate limit, within which edges
coalesce into one doorbell at its end; EVT_SET and EVT_CLEAR change the pins of their bits. -/
def Parts.PortsAndPins : Prop :=
  ∀ (s : State) (u i : Fin 2) (p : Fin 16) (b : Byte) (text : List Byte) (tick : BitVec 32) (res : IcResult) (w : Writer) (m : BitVec 8) (up : Bool),
    s.chip.sioOn = true →
    let c := s.chip
    let x := c.sio
    let evt (i : Instr) (y : SioSt) (k : Nat) : Prop :=
      Does i s (fun d => d.sio = y ∧ bit (d.rd R.SIO_EVT) k = true ∧ c.Rings d ∧
        c.Keeps d [R.SIO_EVT, R.DOORBELL_OVF] (fun d => { d with sio := {}, threads := [] }))
    let quiet (i : Instr) (y : SioSt) : Prop := Does i s (fun d => d.sio = y ∧ c.Keeps d [] (fun d => { d with sio := {} }))
    let g := c.rd (R.SIO_GP p)
    let owner := 8 * (g / 2 ^ 9 % 2) + g / 2 ^ 10 % 8
    let rings (i : Instr) (y : SioSt) : Prop :=
      Does i s (fun d => d.sio = y ∧ c.Rings d ∧
        ((c.thr owner).doorbells.length < 8 → (d.thr owner).doorbells = (c.thr owner).doorbells ++ [BitVec.ofNat 8 (g / 2 ^ 16)]) ∧
        (∀ t, t ≠ owner → d.thr t = c.thr t) ∧ c.Keeps d [R.DOORBELL_OVF] (fun d => { d with sio := {}, threads := [] }))
    (c.bankGood 2 = true →
      ((FMap.get [] x.uartRx u).length < 64 → evt (.uartRxFrame u b) { x with uartRx := FMap.set [] x.uartRx u (FMap.get [] x.uartRx u ++ [b]) } (3 + u)) ∧
      quiet (.uartBreak u) { x with uartBreaks := FMap.upd 0 x.uartBreaks u (· + 1) } ∧
      (x.nmea.length < 4 → evt (.nmeaSentence text tick) { x with nmea := x.nmea ++ [{ status := BitVec.ofNat 8 (nmeaStatus text), tick := tick, text := text.take 82 }] } 2) ∧
      (4 ≤ x.nmea.length → quiet (.nmeaSentence text tick) { x with nmeaDropped := x.nmeaDropped + 1 }) ∧
      quiet (.icTransfer i) { x with icBusy := FMap.set false x.icBusy i true, icResult := FMap.set none x.icResult i none } ∧
      quiet .spc0Transfer { x with spcBusy := true, spcData := none }) ∧
    (FMap.get false x.icBusy i = true → evt (.icTransferDone i res text) { x with icBusy := FMap.set false x.icBusy i false, icResult := FMap.set none x.icResult i (some res), icData := FMap.set [] x.icData i (text.take 32) } (5 + i)) ∧
    (x.spcBusy = true → evt (.spc0TransferDone text) { x with spcBusy := false, spcData := some (text.take 64) } 7) ∧
    (c.bankGood 1 = true → c.sup.blanking.contains 1 = false → bit (c.rfld (R.SIO_GP p) 5 2) (if up then 0 else 1) = true →
      (x.gpioLimited.contains p.val = false →
        rings (.gpioEdge p up) { x with gpioIn := putBit x.gpioIn p up, gpioLimited := x.gpioLimited ++ [p.val] }) ∧
      (x.gpioLimited.contains p.val = true → x.gpioHeld.contains p.val = false →
        evt (.gpioEdge p up) { x with gpioIn := putBit x.gpioIn p up, gpioHeld := x.gpioHeld ++ [p.val], gpioCoalesced := FMap.upd 0 x.gpioCoalesced p (· + 1) } 8)) ∧
    (x.gpioHeld.contains p.val = true → rings (.gpioRateLimitExpire p) { x with gpioHeld := x.gpioHeld.filter (· != p.val) }) ∧
    (x.gpioHeld.contains p.val = false → quiet (.gpioRateLimitExpire p) { x with gpioLimited := x.gpioLimited.filter (· != p.val) }) ∧
    Does (.evtSetWrite w m) s (fun d => (∀ k < 8, bit (d.rd R.SIO_EVTOUT) k = (bit (c.rd R.SIO_EVTOUT) k || m.getLsbD k)) ∧ c.Keeps d [R.SIO_EVTOUT] id) ∧
    Does (.evtClearWrite w m) s (fun d => (∀ k < 8, bit (d.rd R.SIO_EVTOUT) k = (bit (c.rd R.SIO_EVTOUT) k && !m.getLsbD k)) ∧
      c.Keeps d [R.SIO_EVTOUT] id)

/-- R911 to R924: SDI-12, UARTs, controllers, GPIO and EVT. -/
def Obligations.SensorPorts : Prop := Parts.Sdi12 ∧ Parts.PortsAndPins

/-! ### Reads and writes of the data map (00, 07, 19) -/

/-- 00 R1012, 19 R908 to R910: a read that touches a latching register takes its value for its kind of reader; a pop of the outbox or of
the order replies shows the oldest entry and removes it, and 0 when there is none; any other read of the host changes nothing. -/
def Parts.LatchingReads : Prop :=
  ∀ (s : State) (rd : Reader) (a : BitVec 24) (n : Nat),
    let c := s.chip
    let may : Prop := ∀ t, rThread rd = some t → ∀ k < 8, c.mayAccess t false (0x800040 + k) = true ∧ c.mayAccess t false (0x806100 + k) = true
    let pops (i : Instr) (r : Reg) (v : Nat) (h : HifSt) : Prop :=
      Does i s (fun d => c.Latched d rd r v ∧ d.hif = ({ c with hif := h }).settle.hif ∧
        c.Keeps d [] (fun d => { d with hif := {}, latch := [] }))
    (c.nvm.flashCorr = [] → may →
      (c.regOn R.SYS_TIME = true → Does (.latchingRead rd 0x800040 4) s (fun d => c.Latched d rd R.SYS_TIME (c.rd R.SYS_TIME) ∧
        c.Keeps d [] (fun d => { d with latch := [] }))) ∧
      (c.regOn R.TICKCNT = true → Does (.latchingRead rd 0x806100 8) s (fun d => c.Latched d rd R.TICKCNT c.phw.tick ∧
        c.Keeps d [] (fun d => { d with latch := [] })))) ∧
    (rHost rd = true → c.nvm.flashCorr = [] → (∀ x ∈ latching, within24 a.toNat n x.addr = false) →
      (∀ i < 16, within24 a.toNat n (0x801110 + i) = false) → Does (.latchingRead rd a n) s (fun d => d = c.settle)) ∧
    (c.hif.outbox = [] → pops (.hifMboutPop rd) R.HIF_MBOUT 0 c.hif) ∧
    (∀ m l, c.hif.outbox = m :: l → pops (.hifMboutPop rd) R.HIF_MBOUT (m.kind.toNat + 256 * m.payload.toNat) { c.hif with outbox := l }) ∧
    (c.hif.replies = [] → pops (.hifOrdrepPop rd) R.HIF_ORDREP 0 c.hif) ∧
    (∀ e l, c.hif.replies = e :: l → pops (.hifOrdrepPop rd) R.HIF_ORDREP (leNat e) { c.hif with replies := l })

/-- 07 R304, R309, 00 R1013, 19 R890, R909, 01 R62: a host write to DMEM lands its bytes and no other; one that starts at an address where
nothing is, or in an actuation point's field, changes nothing but HIF_LAST; a write of SYS_TIME is logged and waits for the second; HIF_MBIN
delivers its message. -/
def Parts.HostWrites : Prop :=
  ∀ (s : State) (h : HostPort) (a : BitVec 24) (data : List Byte) (b : Byte) (v : BitVec 32) (m : BitVec 48),
    let c := s.chip
    let w := hostWriter h
    (c.domOn dCPU = true → a.toNat + data.length ≤ 0x10000 →
      Does (.registerWrite w a data) s (fun d => d.rd R.HIF_LAST = 0 ∧
        (∀ x, FMap.get 0 d.mem.dmem x = if a.toNat ≤ x ∧ x < a.toNat + data.length then data.getD (x - a.toNat) 0 else FMap.get 0 c.mem.dmem x) ∧
        { d.mem with dmem := [] } = { c.mem with dmem := [] } ∧ c.Keeps d [R.HIF_LAST] (fun d => { d with mem := {} }))) ∧
    (region false a.toNat = .unmapped → Does (.registerWrite w a [b]) s (fun d => d.rd R.HIF_LAST = 1 ∧ c.Keeps d [R.HIF_LAST] id)) ∧
    (∀ r, region false a.toNat = .control → regAt a.toNat = some r → r.acc = .ap → c.regOn r = true →
      Does (.registerWrite w a [b]) s (fun d => d.rd R.HIF_LAST = 3 ∧ c.Keeps d [R.HIF_LAST] id)) ∧
    (c.regOn R.SYS_TIME = true → c.exhausted = false → c.entry 0 = none →
      Does (.sysTimeWrite w v) s (fun d => d.phw = { c.phw with sysTime := some v.toNat } ∧ d.rd R.HIF_LAST = 0 ∧
        (∃ e, d.entry 0 = some e ∧ e.origin = wOrigin w ∧ e.object = regObject 0x800040 ∧ e.new = v.toNat) ∧
        c.Keeps d [R.HIF_LAST, R.LED_NEXTSEQ] (fun d => { d with phw := {}, led := {} }))) ∧
    (c.bankGood 0 = true → c.regOn R.HIF_MBIN = true → c.domOn dCPU = true →
      let t := m.toNat % 16
      let msg : Msg := ⟨BitVec.ofNat 8 (m.toNat / 256 % 128 + 128), BitVec.ofNat 32 (m.toNat / 2 ^ 16)⟩
      ((c.thr t).inbox.length < 8 →
        Does (.hifMbinWrite h m) s (fun d => d.thr t = { c.thr t with inbox := (c.thr t).inbox ++ [msg] } ∧ (∀ k, k ≠ t → d.thr k = c.thr k) ∧
          d.rd R.HIF_LAST = 0 ∧ d.rd R.HIF_MBIN = m.toNat ∧ c.Keeps d [R.HIF_LAST, R.HIF_MBIN] Chip.noThreads)) ∧
      (8 ≤ (c.thr t).inbox.length →
        Does (.hifMbinWrite h m) s (fun d => d.rd R.HIF_LAST = 0xB ∧ c.Keeps d [R.HIF_LAST] id)))

/-- 00 R1012, R1013, 07 R304, 19 R890, R908 to R910: reads and writes of the data map. -/
def Obligations.DataMap : Prop := Parts.LatchingReads ∧ Parts.HostWrites
end

