-- ==== Sys2Proof/Laws/FMap.lean ====
section
/-!
SUPPORT. Sparse tables: reading after a write, and the canonical form that every operation keeps.
-/
namespace Sys2Proof.Machine

variable {α : Type}

theorem FMap.find?_insert_self (m : FMap α) (k : Nat) (v : α) : FMap.find? (FMap.insert m k v) k = some v := by
  induction m with
  | nil => simp [FMap.insert, FMap.find?]
  | cons e m ih =>
    unfold FMap.insert
    split
    · simp [FMap.find?]
    · split
      · simp [FMap.find?]
      · rename_i h; simp [FMap.find?, h, ih]

theorem FMap.find?_insert_other (m : FMap α) (k j : Nat) (v : α) (h : j ≠ k) :
    FMap.find? (FMap.insert m k v) j = FMap.find? m j := by
  induction m with
  | nil => simp [FMap.insert, FMap.find?, h]
  | cons e m ih =>
    unfold FMap.insert
    split
    · simp [FMap.find?, h]
    · split
      · rename_i _ h2; subst h2; simp [FMap.find?, h]
      · simp [FMap.find?, ih]

theorem FMap.find?_erase_self (m : FMap α) (k : Nat) : FMap.find? (FMap.erase m k) k = none := by
  induction m with
  | nil => rfl
  | cons e m ih =>
    unfold FMap.erase at ih ⊢
    by_cases h : e.1 = k
    · simp [h, ih]
    · simp [h, FMap.find?, Ne.symm h, ih]

theorem FMap.find?_erase_other (m : FMap α) (k j : Nat) (h : j ≠ k) : FMap.find? (FMap.erase m k) j = FMap.find? m j := by
  induction m with
  | nil => rfl
  | cons e m ih =>
    unfold FMap.erase at ih ⊢
    by_cases h1 : e.1 = k
    · have h2 : ¬ j = e.1 := by omega
      simp [h1, FMap.find?, ih]; simp [h]
    · simp [h1, FMap.find?, ih]

/-- A key reads as what was written to it. -/
@[simp] theorem FMap.get_set_self [DecidableEq α] (d : α) (m : FMap α) (k : Nat) (v : α) : FMap.get d (FMap.set d m k v) k = v := by
  unfold FMap.get FMap.set
  split
  · rename_i h; simp [FMap.find?_erase_self, h]
  · simp [FMap.find?_insert_self]

/-- A write of one key leaves every other key. -/
theorem FMap.get_set_other [DecidableEq α] (d e : α) (m : FMap α) (k j : Nat) (v : α) (h : j ≠ k) :
    FMap.get e (FMap.set d m k v) j = FMap.get e m j := by
  unfold FMap.get FMap.set
  split
  · rw [FMap.find?_erase_other m k j h]
  · rw [FMap.find?_insert_other m k j v h]

/-- The keys of a table, and those after the first, rise. -/
theorem FMap.sorted_iff (m : FMap α) : FMap.sorted m = true ↔ m.Pairwise (fun a b => a.1 < b.1) := by
  induction m with
  | nil => simp [FMap.sorted]
  | cons a m ih =>
    cases m with
    | nil => simp [FMap.sorted]
    | cons b m =>
      simp only [FMap.sorted, Bool.and_eq_true, decide_eq_true_eq, ih, List.pairwise_cons]
      constructor
      · rintro ⟨h, hb, hm⟩
        refine ⟨?_, hb, hm⟩
        intro c hc
        rcases List.mem_cons.1 hc with rfl | hc
        · exact h
        · exact lt_trans h (hb c hc)
      · rintro ⟨h, hb, hm⟩
        exact ⟨h b (by simp), hb, hm⟩

theorem FMap.mem_insert (m : FMap α) (k : Nat) (v : α) (e : Nat × α) (h : e ∈ FMap.insert m k v) : e = (k, v) ∨ e ∈ m := by
  induction m with
  | nil => simp [FMap.insert] at h; exact .inl h
  | cons a m ih =>
    unfold FMap.insert at h
    split at h
    · simpa using h
    · split at h
      · simp at h; rcases h with h | h <;> simp [h]
      · simp at h
        rcases h with h | h
        · simp [h]
        · rcases ih h with h | h <;> simp [h]

theorem FMap.sorted_insert (m : FMap α) (k : Nat) (v : α) (h : FMap.sorted m = true) : FMap.sorted (FMap.insert m k v) = true := by
  rw [FMap.sorted_iff] at h ⊢
  induction m with
  | nil => simp [FMap.insert]
  | cons a m ih =>
    have ha := List.pairwise_cons.1 h
    unfold FMap.insert
    split
    · rename_i hk
      refine List.pairwise_cons.2 ⟨?_, h⟩
      intro b hb
      rcases List.mem_cons.1 hb with rfl | hb
      · exact hk
      · exact lt_trans hk (ha.1 b hb)
    · split
      · rename_i _ hk
        refine List.pairwise_cons.2 ⟨?_, ha.2⟩
        intro b hb
        simpa [hk] using ha.1 b hb
      · refine List.pairwise_cons.2 ⟨?_, ih ha.2⟩
        intro b hb
        rcases FMap.mem_insert m k v b hb with rfl | hb
        · simp; omega
        · exact ha.1 b hb

theorem FMap.sorted_erase (m : FMap α) (k : Nat) (h : FMap.sorted m = true) : FMap.sorted (FMap.erase m k) = true := by
  rw [FMap.sorted_iff] at h ⊢
  exact List.Pairwise.filter _ h

/-- A write keeps the canonical form. -/
theorem FMap.wf_set [DecidableEq α] (d : α) (m : FMap α) (k : Nat) (v : α) (h : FMap.wf d m = true) :
    FMap.wf d (FMap.set d m k v) = true := by
  unfold FMap.wf at h ⊢
  simp only [Bool.and_eq_true, List.all_eq_true, Bool.not_eq_true', decide_eq_false_iff_not] at h ⊢
  unfold FMap.set
  split
  · exact ⟨FMap.sorted_erase m k h.1, fun e he => h.2 e (List.mem_filter.1 he).1⟩
  · rename_i hv
    refine ⟨FMap.sorted_insert m k v h.1, fun e he => ?_⟩
    rcases FMap.mem_insert m k v e he with rfl | he
    · exact hv
    · exact h.2 e he

/-- A write of bytes keeps a memory's canonical form. -/
theorem Memory.wf_writeN (d : Byte) (bs : List Byte) (m : Mem) (a : Nat) (h : Memory.wf d m = true) :
    Memory.wf d (Mem.writeN d m a bs) = true := by
  induction bs generalizing m a with
  | nil => exact h
  | cons b bs ih => exact ih _ _ (FMap.wf_set d m a b h)

/-- Bytes outside a write are unchanged. -/
theorem Mem.get_writeN_other (d e : Byte) (bs : List Byte) (m : Mem) (a j : Nat) (h : j < a ∨ a + bs.length ≤ j) :
    FMap.get e (Mem.writeN d m a bs) j = FMap.get e m j := by
  induction bs generalizing m a with
  | nil => rfl
  | cons b bs ih =>
    simp only [List.length_cons] at h
    rw [Mem.writeN, ih _ _ (by omega), FMap.get_set_other _ _ _ _ _ _ (by omega)]

/-- Bytes read back as they were written. -/
theorem Mem.readN_writeN (d : Byte) (bs : List Byte) (m : Mem) (a : Nat) : Mem.readN d (Mem.writeN d m a bs) a bs.length = bs := by
  induction bs generalizing m a with
  | nil => rfl
  | cons b bs ih =>
    simp only [List.length_cons, Mem.readN, Mem.writeN]
    rw [ih, Mem.get_writeN_other _ _ _ _ _ _ (by omega)]
    simp

/-- The empty memory of reset is canonical. -/
theorem Memory.wf_nil (d : Byte) : Memory.wf d [] = true := rfl

end Sys2Proof.Machine
end

