-- ==== Sys2Proof/Laws/State.lean ====
section
/-!
SUPPORT. The fields of the chip under the named updates, and reading back what an update wrote.
-/
namespace Sys2Proof.Machine

variable (c : Chip)

@[simp] theorem Chip.wr_latch (r : Reg) (v : Nat) : (c.wr r v).latch = c.latch := rfl
@[simp] theorem Chip.wr_mem (r : Reg) (v : Nat) : (c.wr r v).mem = c.mem := rfl
@[simp] theorem Chip.wr_cores (r : Reg) (v : Nat) : (c.wr r v).cores = c.cores := rfl
@[simp] theorem Chip.wr_threads (r : Reg) (v : Nat) : (c.wr r v).threads = c.threads := rfl
@[simp] theorem Chip.wr_wdn (r : Reg) (v : Nat) : (c.wr r v).wdn = c.wdn := rfl
@[simp] theorem Chip.wr_aut (r : Reg) (v : Nat) : (c.wr r v).aut = c.aut := rfl
@[simp] theorem Chip.wr_led (r : Reg) (v : Nat) : (c.wr r v).led = c.led := rfl
@[simp] theorem Chip.wr_weir (r : Reg) (v : Nat) : (c.wr r v).weir = c.weir := rfl
@[simp] theorem Chip.wr_tln (r : Reg) (v : Nat) : (c.wr r v).tln = c.tln := rfl
@[simp] theorem Chip.wr_seq (r : Reg) (v : Nat) : (c.wr r v).seq = c.seq := rfl
@[simp] theorem Chip.wr_chn (r : Reg) (v : Nat) : (c.wr r v).chn = c.chn := rfl
@[simp] theorem Chip.wr_cap (r : Reg) (v : Nat) : (c.wr r v).cap = c.cap := rfl
@[simp] theorem Chip.wr_sup (r : Reg) (v : Nat) : (c.wr r v).sup = c.sup := rfl
@[simp] theorem Chip.wr_chg (r : Reg) (v : Nat) : (c.wr r v).chg = c.chg := rfl
@[simp] theorem Chip.wr_gau (r : Reg) (v : Nat) : (c.wr r v).gau = c.gau := rfl
@[simp] theorem Chip.wr_phw (r : Reg) (v : Nat) : (c.wr r v).phw = c.phw := rfl
@[simp] theorem Chip.wr_nvm (r : Reg) (v : Nat) : (c.wr r v).nvm = c.nvm := rfl
@[simp] theorem Chip.wr_ent (r : Reg) (v : Nat) : (c.wr r v).ent = c.ent := rfl
@[simp] theorem Chip.wr_peb (r : Reg) (v : Nat) : (c.wr r v).peb = c.peb := rfl
@[simp] theorem Chip.wr_hif (r : Reg) (v : Nat) : (c.wr r v).hif = c.hif := rfl
@[simp] theorem Chip.wr_sio (r : Reg) (v : Nat) : (c.wr r v).sio = c.sio := rfl
@[simp] theorem Chip.wr_jtag (r : Reg) (v : Nat) : (c.wr r v).jtag = c.jtag := rfl
@[simp] theorem Chip.wr_mode (r : Reg) (v : Nat) : (c.wr r v).mode = c.mode := rfl
@[simp] theorem Chip.wr_free (r : Reg) (v : Nat) : (c.wr r v).free = c.free := rfl

@[simp] theorem Chip.wbit_latch (r : Reg) (i : Nat) (b : Bool) : (c.wbit r i b).latch = c.latch := rfl
@[simp] theorem Chip.wbit_mem (r : Reg) (i : Nat) (b : Bool) : (c.wbit r i b).mem = c.mem := rfl
@[simp] theorem Chip.wbit_cores (r : Reg) (i : Nat) (b : Bool) : (c.wbit r i b).cores = c.cores := rfl
@[simp] theorem Chip.wbit_threads (r : Reg) (i : Nat) (b : Bool) : (c.wbit r i b).threads = c.threads := rfl
@[simp] theorem Chip.wbit_wdn (r : Reg) (i : Nat) (b : Bool) : (c.wbit r i b).wdn = c.wdn := rfl
@[simp] theorem Chip.wbit_aut (r : Reg) (i : Nat) (b : Bool) : (c.wbit r i b).aut = c.aut := rfl
@[simp] theorem Chip.wbit_led (r : Reg) (i : Nat) (b : Bool) : (c.wbit r i b).led = c.led := rfl
@[simp] theorem Chip.wbit_weir (r : Reg) (i : Nat) (b : Bool) : (c.wbit r i b).weir = c.weir := rfl
@[simp] theorem Chip.wbit_tln (r : Reg) (i : Nat) (b : Bool) : (c.wbit r i b).tln = c.tln := rfl
@[simp] theorem Chip.wbit_seq (r : Reg) (i : Nat) (b : Bool) : (c.wbit r i b).seq = c.seq := rfl
@[simp] theorem Chip.wbit_chn (r : Reg) (i : Nat) (b : Bool) : (c.wbit r i b).chn = c.chn := rfl
@[simp] theorem Chip.wbit_cap (r : Reg) (i : Nat) (b : Bool) : (c.wbit r i b).cap = c.cap := rfl
@[simp] theorem Chip.wbit_sup (r : Reg) (i : Nat) (b : Bool) : (c.wbit r i b).sup = c.sup := rfl
@[simp] theorem Chip.wbit_chg (r : Reg) (i : Nat) (b : Bool) : (c.wbit r i b).chg = c.chg := rfl
@[simp] theorem Chip.wbit_gau (r : Reg) (i : Nat) (b : Bool) : (c.wbit r i b).gau = c.gau := rfl
@[simp] theorem Chip.wbit_phw (r : Reg) (i : Nat) (b : Bool) : (c.wbit r i b).phw = c.phw := rfl
@[simp] theorem Chip.wbit_nvm (r : Reg) (i : Nat) (b : Bool) : (c.wbit r i b).nvm = c.nvm := rfl
@[simp] theorem Chip.wbit_ent (r : Reg) (i : Nat) (b : Bool) : (c.wbit r i b).ent = c.ent := rfl
@[simp] theorem Chip.wbit_peb (r : Reg) (i : Nat) (b : Bool) : (c.wbit r i b).peb = c.peb := rfl
@[simp] theorem Chip.wbit_hif (r : Reg) (i : Nat) (b : Bool) : (c.wbit r i b).hif = c.hif := rfl
@[simp] theorem Chip.wbit_sio (r : Reg) (i : Nat) (b : Bool) : (c.wbit r i b).sio = c.sio := rfl
@[simp] theorem Chip.wbit_jtag (r : Reg) (i : Nat) (b : Bool) : (c.wbit r i b).jtag = c.jtag := rfl
@[simp] theorem Chip.wbit_mode (r : Reg) (i : Nat) (b : Bool) : (c.wbit r i b).mode = c.mode := rfl
@[simp] theorem Chip.wbit_free (r : Reg) (i : Nat) (b : Bool) : (c.wbit r i b).free = c.free := rfl

@[simp] theorem Chip.wfld_latch (r : Reg) (lo w x : Nat) : (c.wfld r lo w x).latch = c.latch := rfl
@[simp] theorem Chip.wfld_mem (r : Reg) (lo w x : Nat) : (c.wfld r lo w x).mem = c.mem := rfl
@[simp] theorem Chip.wfld_cores (r : Reg) (lo w x : Nat) : (c.wfld r lo w x).cores = c.cores := rfl
@[simp] theorem Chip.wfld_threads (r : Reg) (lo w x : Nat) : (c.wfld r lo w x).threads = c.threads := rfl
@[simp] theorem Chip.wfld_wdn (r : Reg) (lo w x : Nat) : (c.wfld r lo w x).wdn = c.wdn := rfl
@[simp] theorem Chip.wfld_aut (r : Reg) (lo w x : Nat) : (c.wfld r lo w x).aut = c.aut := rfl
@[simp] theorem Chip.wfld_led (r : Reg) (lo w x : Nat) : (c.wfld r lo w x).led = c.led := rfl
@[simp] theorem Chip.wfld_weir (r : Reg) (lo w x : Nat) : (c.wfld r lo w x).weir = c.weir := rfl
@[simp] theorem Chip.wfld_tln (r : Reg) (lo w x : Nat) : (c.wfld r lo w x).tln = c.tln := rfl
@[simp] theorem Chip.wfld_seq (r : Reg) (lo w x : Nat) : (c.wfld r lo w x).seq = c.seq := rfl
@[simp] theorem Chip.wfld_chn (r : Reg) (lo w x : Nat) : (c.wfld r lo w x).chn = c.chn := rfl
@[simp] theorem Chip.wfld_cap (r : Reg) (lo w x : Nat) : (c.wfld r lo w x).cap = c.cap := rfl
@[simp] theorem Chip.wfld_sup (r : Reg) (lo w x : Nat) : (c.wfld r lo w x).sup = c.sup := rfl
@[simp] theorem Chip.wfld_chg (r : Reg) (lo w x : Nat) : (c.wfld r lo w x).chg = c.chg := rfl
@[simp] theorem Chip.wfld_gau (r : Reg) (lo w x : Nat) : (c.wfld r lo w x).gau = c.gau := rfl
@[simp] theorem Chip.wfld_phw (r : Reg) (lo w x : Nat) : (c.wfld r lo w x).phw = c.phw := rfl
@[simp] theorem Chip.wfld_nvm (r : Reg) (lo w x : Nat) : (c.wfld r lo w x).nvm = c.nvm := rfl
@[simp] theorem Chip.wfld_ent (r : Reg) (lo w x : Nat) : (c.wfld r lo w x).ent = c.ent := rfl
@[simp] theorem Chip.wfld_peb (r : Reg) (lo w x : Nat) : (c.wfld r lo w x).peb = c.peb := rfl
@[simp] theorem Chip.wfld_hif (r : Reg) (lo w x : Nat) : (c.wfld r lo w x).hif = c.hif := rfl
@[simp] theorem Chip.wfld_sio (r : Reg) (lo w x : Nat) : (c.wfld r lo w x).sio = c.sio := rfl
@[simp] theorem Chip.wfld_jtag (r : Reg) (lo w x : Nat) : (c.wfld r lo w x).jtag = c.jtag := rfl
@[simp] theorem Chip.wfld_mode (r : Reg) (lo w x : Nat) : (c.wfld r lo w x).mode = c.mode := rfl
@[simp] theorem Chip.wfld_free (r : Reg) (lo w x : Nat) : (c.wfld r lo w x).free = c.free := rfl

@[simp] theorem Chip.inc_latch (r : Reg) : (c.inc r).latch = c.latch := rfl
@[simp] theorem Chip.inc_mem (r : Reg) : (c.inc r).mem = c.mem := rfl
@[simp] theorem Chip.inc_cores (r : Reg) : (c.inc r).cores = c.cores := rfl
@[simp] theorem Chip.inc_threads (r : Reg) : (c.inc r).threads = c.threads := rfl
@[simp] theorem Chip.inc_wdn (r : Reg) : (c.inc r).wdn = c.wdn := rfl
@[simp] theorem Chip.inc_aut (r : Reg) : (c.inc r).aut = c.aut := rfl
@[simp] theorem Chip.inc_led (r : Reg) : (c.inc r).led = c.led := rfl
@[simp] theorem Chip.inc_weir (r : Reg) : (c.inc r).weir = c.weir := rfl
@[simp] theorem Chip.inc_tln (r : Reg) : (c.inc r).tln = c.tln := rfl
@[simp] theorem Chip.inc_seq (r : Reg) : (c.inc r).seq = c.seq := rfl
@[simp] theorem Chip.inc_chn (r : Reg) : (c.inc r).chn = c.chn := rfl
@[simp] theorem Chip.inc_cap (r : Reg) : (c.inc r).cap = c.cap := rfl
@[simp] theorem Chip.inc_sup (r : Reg) : (c.inc r).sup = c.sup := rfl
@[simp] theorem Chip.inc_chg (r : Reg) : (c.inc r).chg = c.chg := rfl
@[simp] theorem Chip.inc_gau (r : Reg) : (c.inc r).gau = c.gau := rfl
@[simp] theorem Chip.inc_phw (r : Reg) : (c.inc r).phw = c.phw := rfl
@[simp] theorem Chip.inc_nvm (r : Reg) : (c.inc r).nvm = c.nvm := rfl
@[simp] theorem Chip.inc_ent (r : Reg) : (c.inc r).ent = c.ent := rfl
@[simp] theorem Chip.inc_peb (r : Reg) : (c.inc r).peb = c.peb := rfl
@[simp] theorem Chip.inc_hif (r : Reg) : (c.inc r).hif = c.hif := rfl
@[simp] theorem Chip.inc_sio (r : Reg) : (c.inc r).sio = c.sio := rfl
@[simp] theorem Chip.inc_jtag (r : Reg) : (c.inc r).jtag = c.jtag := rfl
@[simp] theorem Chip.inc_mode (r : Reg) : (c.inc r).mode = c.mode := rfl
@[simp] theorem Chip.inc_free (r : Reg) : (c.inc r).free = c.free := rfl

@[simp] theorem Chip.resetRegs_mem (d : Dom) : (c.resetRegs d).mem = c.mem := rfl
@[simp] theorem Chip.resetRegs_cores (d : Dom) : (c.resetRegs d).cores = c.cores := rfl
@[simp] theorem Chip.resetRegs_threads (d : Dom) : (c.resetRegs d).threads = c.threads := rfl
@[simp] theorem Chip.resetRegs_wdn (d : Dom) : (c.resetRegs d).wdn = c.wdn := rfl
@[simp] theorem Chip.resetRegs_aut (d : Dom) : (c.resetRegs d).aut = c.aut := rfl
@[simp] theorem Chip.resetRegs_led (d : Dom) : (c.resetRegs d).led = c.led := rfl
@[simp] theorem Chip.resetRegs_weir (d : Dom) : (c.resetRegs d).weir = c.weir := rfl
@[simp] theorem Chip.resetRegs_tln (d : Dom) : (c.resetRegs d).tln = c.tln := rfl
@[simp] theorem Chip.resetRegs_seq (d : Dom) : (c.resetRegs d).seq = c.seq := rfl
@[simp] theorem Chip.resetRegs_chn (d : Dom) : (c.resetRegs d).chn = c.chn := rfl
@[simp] theorem Chip.resetRegs_cap (d : Dom) : (c.resetRegs d).cap = c.cap := rfl
@[simp] theorem Chip.resetRegs_sup (d : Dom) : (c.resetRegs d).sup = c.sup := rfl
@[simp] theorem Chip.resetRegs_chg (d : Dom) : (c.resetRegs d).chg = c.chg := rfl
@[simp] theorem Chip.resetRegs_gau (d : Dom) : (c.resetRegs d).gau = c.gau := rfl
@[simp] theorem Chip.resetRegs_phw (d : Dom) : (c.resetRegs d).phw = c.phw := rfl
@[simp] theorem Chip.resetRegs_nvm (d : Dom) : (c.resetRegs d).nvm = c.nvm := rfl
@[simp] theorem Chip.resetRegs_ent (d : Dom) : (c.resetRegs d).ent = c.ent := rfl
@[simp] theorem Chip.resetRegs_peb (d : Dom) : (c.resetRegs d).peb = c.peb := rfl
@[simp] theorem Chip.resetRegs_hif (d : Dom) : (c.resetRegs d).hif = c.hif := rfl
@[simp] theorem Chip.resetRegs_sio (d : Dom) : (c.resetRegs d).sio = c.sio := rfl
@[simp] theorem Chip.resetRegs_jtag (d : Dom) : (c.resetRegs d).jtag = c.jtag := rfl
@[simp] theorem Chip.resetRegs_mode (d : Dom) : (c.resetRegs d).mode = c.mode := rfl
@[simp] theorem Chip.resetRegs_free (d : Dom) : (c.resetRegs d).free = c.free := rfl

@[simp] theorem Chip.setLatch_regs (k : Nat) (r : Reg) (v : Nat) : (c.setLatch k r v).regs = c.regs := rfl
@[simp] theorem Chip.setLatch_mem (k : Nat) (r : Reg) (v : Nat) : (c.setLatch k r v).mem = c.mem := rfl
@[simp] theorem Chip.setLatch_cores (k : Nat) (r : Reg) (v : Nat) : (c.setLatch k r v).cores = c.cores := rfl
@[simp] theorem Chip.setLatch_threads (k : Nat) (r : Reg) (v : Nat) : (c.setLatch k r v).threads = c.threads := rfl
@[simp] theorem Chip.setLatch_wdn (k : Nat) (r : Reg) (v : Nat) : (c.setLatch k r v).wdn = c.wdn := rfl
@[simp] theorem Chip.setLatch_aut (k : Nat) (r : Reg) (v : Nat) : (c.setLatch k r v).aut = c.aut := rfl
@[simp] theorem Chip.setLatch_led (k : Nat) (r : Reg) (v : Nat) : (c.setLatch k r v).led = c.led := rfl
@[simp] theorem Chip.setLatch_weir (k : Nat) (r : Reg) (v : Nat) : (c.setLatch k r v).weir = c.weir := rfl
@[simp] theorem Chip.setLatch_tln (k : Nat) (r : Reg) (v : Nat) : (c.setLatch k r v).tln = c.tln := rfl
@[simp] theorem Chip.setLatch_seq (k : Nat) (r : Reg) (v : Nat) : (c.setLatch k r v).seq = c.seq := rfl
@[simp] theorem Chip.setLatch_chn (k : Nat) (r : Reg) (v : Nat) : (c.setLatch k r v).chn = c.chn := rfl
@[simp] theorem Chip.setLatch_cap (k : Nat) (r : Reg) (v : Nat) : (c.setLatch k r v).cap = c.cap := rfl
@[simp] theorem Chip.setLatch_sup (k : Nat) (r : Reg) (v : Nat) : (c.setLatch k r v).sup = c.sup := rfl
@[simp] theorem Chip.setLatch_chg (k : Nat) (r : Reg) (v : Nat) : (c.setLatch k r v).chg = c.chg := rfl
@[simp] theorem Chip.setLatch_gau (k : Nat) (r : Reg) (v : Nat) : (c.setLatch k r v).gau = c.gau := rfl
@[simp] theorem Chip.setLatch_phw (k : Nat) (r : Reg) (v : Nat) : (c.setLatch k r v).phw = c.phw := rfl
@[simp] theorem Chip.setLatch_nvm (k : Nat) (r : Reg) (v : Nat) : (c.setLatch k r v).nvm = c.nvm := rfl
@[simp] theorem Chip.setLatch_ent (k : Nat) (r : Reg) (v : Nat) : (c.setLatch k r v).ent = c.ent := rfl
@[simp] theorem Chip.setLatch_peb (k : Nat) (r : Reg) (v : Nat) : (c.setLatch k r v).peb = c.peb := rfl
@[simp] theorem Chip.setLatch_hif (k : Nat) (r : Reg) (v : Nat) : (c.setLatch k r v).hif = c.hif := rfl
@[simp] theorem Chip.setLatch_sio (k : Nat) (r : Reg) (v : Nat) : (c.setLatch k r v).sio = c.sio := rfl
@[simp] theorem Chip.setLatch_jtag (k : Nat) (r : Reg) (v : Nat) : (c.setLatch k r v).jtag = c.jtag := rfl
@[simp] theorem Chip.setLatch_mode (k : Nat) (r : Reg) (v : Nat) : (c.setLatch k r v).mode = c.mode := rfl
@[simp] theorem Chip.setLatch_free (k : Nat) (r : Reg) (v : Nat) : (c.setLatch k r v).free = c.free := rfl

@[simp] theorem Chip.setThr_regs (t : Nat) (x : ThreadSt) : (c.setThr t x).regs = c.regs := rfl
@[simp] theorem Chip.setThr_latch (t : Nat) (x : ThreadSt) : (c.setThr t x).latch = c.latch := rfl
@[simp] theorem Chip.setThr_mem (t : Nat) (x : ThreadSt) : (c.setThr t x).mem = c.mem := rfl
@[simp] theorem Chip.setThr_cores (t : Nat) (x : ThreadSt) : (c.setThr t x).cores = c.cores := rfl
@[simp] theorem Chip.setThr_wdn (t : Nat) (x : ThreadSt) : (c.setThr t x).wdn = c.wdn := rfl
@[simp] theorem Chip.setThr_aut (t : Nat) (x : ThreadSt) : (c.setThr t x).aut = c.aut := rfl
@[simp] theorem Chip.setThr_led (t : Nat) (x : ThreadSt) : (c.setThr t x).led = c.led := rfl
@[simp] theorem Chip.setThr_weir (t : Nat) (x : ThreadSt) : (c.setThr t x).weir = c.weir := rfl
@[simp] theorem Chip.setThr_tln (t : Nat) (x : ThreadSt) : (c.setThr t x).tln = c.tln := rfl
@[simp] theorem Chip.setThr_seq (t : Nat) (x : ThreadSt) : (c.setThr t x).seq = c.seq := rfl
@[simp] theorem Chip.setThr_chn (t : Nat) (x : ThreadSt) : (c.setThr t x).chn = c.chn := rfl
@[simp] theorem Chip.setThr_cap (t : Nat) (x : ThreadSt) : (c.setThr t x).cap = c.cap := rfl
@[simp] theorem Chip.setThr_sup (t : Nat) (x : ThreadSt) : (c.setThr t x).sup = c.sup := rfl
@[simp] theorem Chip.setThr_chg (t : Nat) (x : ThreadSt) : (c.setThr t x).chg = c.chg := rfl
@[simp] theorem Chip.setThr_gau (t : Nat) (x : ThreadSt) : (c.setThr t x).gau = c.gau := rfl
@[simp] theorem Chip.setThr_phw (t : Nat) (x : ThreadSt) : (c.setThr t x).phw = c.phw := rfl
@[simp] theorem Chip.setThr_nvm (t : Nat) (x : ThreadSt) : (c.setThr t x).nvm = c.nvm := rfl
@[simp] theorem Chip.setThr_ent (t : Nat) (x : ThreadSt) : (c.setThr t x).ent = c.ent := rfl
@[simp] theorem Chip.setThr_peb (t : Nat) (x : ThreadSt) : (c.setThr t x).peb = c.peb := rfl
@[simp] theorem Chip.setThr_hif (t : Nat) (x : ThreadSt) : (c.setThr t x).hif = c.hif := rfl
@[simp] theorem Chip.setThr_sio (t : Nat) (x : ThreadSt) : (c.setThr t x).sio = c.sio := rfl
@[simp] theorem Chip.setThr_jtag (t : Nat) (x : ThreadSt) : (c.setThr t x).jtag = c.jtag := rfl
@[simp] theorem Chip.setThr_mode (t : Nat) (x : ThreadSt) : (c.setThr t x).mode = c.mode := rfl
@[simp] theorem Chip.setThr_free (t : Nat) (x : ThreadSt) : (c.setThr t x).free = c.free := rfl

@[simp] theorem Chip.updThr_regs (t : Nat) (f : ThreadSt → ThreadSt) : (c.updThr t f).regs = c.regs := rfl
@[simp] theorem Chip.updThr_latch (t : Nat) (f : ThreadSt → ThreadSt) : (c.updThr t f).latch = c.latch := rfl
@[simp] theorem Chip.updThr_mem (t : Nat) (f : ThreadSt → ThreadSt) : (c.updThr t f).mem = c.mem := rfl
@[simp] theorem Chip.updThr_cores (t : Nat) (f : ThreadSt → ThreadSt) : (c.updThr t f).cores = c.cores := rfl
@[simp] theorem Chip.updThr_wdn (t : Nat) (f : ThreadSt → ThreadSt) : (c.updThr t f).wdn = c.wdn := rfl
@[simp] theorem Chip.updThr_aut (t : Nat) (f : ThreadSt → ThreadSt) : (c.updThr t f).aut = c.aut := rfl
@[simp] theorem Chip.updThr_led (t : Nat) (f : ThreadSt → ThreadSt) : (c.updThr t f).led = c.led := rfl
@[simp] theorem Chip.updThr_weir (t : Nat) (f : ThreadSt → ThreadSt) : (c.updThr t f).weir = c.weir := rfl
@[simp] theorem Chip.updThr_tln (t : Nat) (f : ThreadSt → ThreadSt) : (c.updThr t f).tln = c.tln := rfl
@[simp] theorem Chip.updThr_seq (t : Nat) (f : ThreadSt → ThreadSt) : (c.updThr t f).seq = c.seq := rfl
@[simp] theorem Chip.updThr_chn (t : Nat) (f : ThreadSt → ThreadSt) : (c.updThr t f).chn = c.chn := rfl
@[simp] theorem Chip.updThr_cap (t : Nat) (f : ThreadSt → ThreadSt) : (c.updThr t f).cap = c.cap := rfl
@[simp] theorem Chip.updThr_sup (t : Nat) (f : ThreadSt → ThreadSt) : (c.updThr t f).sup = c.sup := rfl
@[simp] theorem Chip.updThr_chg (t : Nat) (f : ThreadSt → ThreadSt) : (c.updThr t f).chg = c.chg := rfl
@[simp] theorem Chip.updThr_gau (t : Nat) (f : ThreadSt → ThreadSt) : (c.updThr t f).gau = c.gau := rfl
@[simp] theorem Chip.updThr_phw (t : Nat) (f : ThreadSt → ThreadSt) : (c.updThr t f).phw = c.phw := rfl
@[simp] theorem Chip.updThr_nvm (t : Nat) (f : ThreadSt → ThreadSt) : (c.updThr t f).nvm = c.nvm := rfl
@[simp] theorem Chip.updThr_ent (t : Nat) (f : ThreadSt → ThreadSt) : (c.updThr t f).ent = c.ent := rfl
@[simp] theorem Chip.updThr_peb (t : Nat) (f : ThreadSt → ThreadSt) : (c.updThr t f).peb = c.peb := rfl
@[simp] theorem Chip.updThr_hif (t : Nat) (f : ThreadSt → ThreadSt) : (c.updThr t f).hif = c.hif := rfl
@[simp] theorem Chip.updThr_sio (t : Nat) (f : ThreadSt → ThreadSt) : (c.updThr t f).sio = c.sio := rfl
@[simp] theorem Chip.updThr_jtag (t : Nat) (f : ThreadSt → ThreadSt) : (c.updThr t f).jtag = c.jtag := rfl
@[simp] theorem Chip.updThr_mode (t : Nat) (f : ThreadSt → ThreadSt) : (c.updThr t f).mode = c.mode := rfl
@[simp] theorem Chip.updThr_free (t : Nat) (f : ThreadSt → ThreadSt) : (c.updThr t f).free = c.free := rfl

@[simp] theorem Chip.setUnit_regs (t u : Nat) (p : UnitSt) : (c.setUnit t u p).regs = c.regs := rfl
@[simp] theorem Chip.setUnit_latch (t u : Nat) (p : UnitSt) : (c.setUnit t u p).latch = c.latch := rfl
@[simp] theorem Chip.setUnit_mem (t u : Nat) (p : UnitSt) : (c.setUnit t u p).mem = c.mem := rfl
@[simp] theorem Chip.setUnit_cores (t u : Nat) (p : UnitSt) : (c.setUnit t u p).cores = c.cores := rfl
@[simp] theorem Chip.setUnit_wdn (t u : Nat) (p : UnitSt) : (c.setUnit t u p).wdn = c.wdn := rfl
@[simp] theorem Chip.setUnit_aut (t u : Nat) (p : UnitSt) : (c.setUnit t u p).aut = c.aut := rfl
@[simp] theorem Chip.setUnit_led (t u : Nat) (p : UnitSt) : (c.setUnit t u p).led = c.led := rfl
@[simp] theorem Chip.setUnit_weir (t u : Nat) (p : UnitSt) : (c.setUnit t u p).weir = c.weir := rfl
@[simp] theorem Chip.setUnit_tln (t u : Nat) (p : UnitSt) : (c.setUnit t u p).tln = c.tln := rfl
@[simp] theorem Chip.setUnit_seq (t u : Nat) (p : UnitSt) : (c.setUnit t u p).seq = c.seq := rfl
@[simp] theorem Chip.setUnit_chn (t u : Nat) (p : UnitSt) : (c.setUnit t u p).chn = c.chn := rfl
@[simp] theorem Chip.setUnit_cap (t u : Nat) (p : UnitSt) : (c.setUnit t u p).cap = c.cap := rfl
@[simp] theorem Chip.setUnit_sup (t u : Nat) (p : UnitSt) : (c.setUnit t u p).sup = c.sup := rfl
@[simp] theorem Chip.setUnit_chg (t u : Nat) (p : UnitSt) : (c.setUnit t u p).chg = c.chg := rfl
@[simp] theorem Chip.setUnit_gau (t u : Nat) (p : UnitSt) : (c.setUnit t u p).gau = c.gau := rfl
@[simp] theorem Chip.setUnit_phw (t u : Nat) (p : UnitSt) : (c.setUnit t u p).phw = c.phw := rfl
@[simp] theorem Chip.setUnit_nvm (t u : Nat) (p : UnitSt) : (c.setUnit t u p).nvm = c.nvm := rfl
@[simp] theorem Chip.setUnit_ent (t u : Nat) (p : UnitSt) : (c.setUnit t u p).ent = c.ent := rfl
@[simp] theorem Chip.setUnit_peb (t u : Nat) (p : UnitSt) : (c.setUnit t u p).peb = c.peb := rfl
@[simp] theorem Chip.setUnit_hif (t u : Nat) (p : UnitSt) : (c.setUnit t u p).hif = c.hif := rfl
@[simp] theorem Chip.setUnit_sio (t u : Nat) (p : UnitSt) : (c.setUnit t u p).sio = c.sio := rfl
@[simp] theorem Chip.setUnit_jtag (t u : Nat) (p : UnitSt) : (c.setUnit t u p).jtag = c.jtag := rfl
@[simp] theorem Chip.setUnit_mode (t u : Nat) (p : UnitSt) : (c.setUnit t u p).mode = c.mode := rfl
@[simp] theorem Chip.setUnit_free (t u : Nat) (p : UnitSt) : (c.setUnit t u p).free = c.free := rfl

@[simp] theorem Chip.updCore_regs (k : Nat) (f : CoreSt → CoreSt) : (c.updCore k f).regs = c.regs := rfl
@[simp] theorem Chip.updCore_latch (k : Nat) (f : CoreSt → CoreSt) : (c.updCore k f).latch = c.latch := rfl
@[simp] theorem Chip.updCore_mem (k : Nat) (f : CoreSt → CoreSt) : (c.updCore k f).mem = c.mem := rfl
@[simp] theorem Chip.updCore_threads (k : Nat) (f : CoreSt → CoreSt) : (c.updCore k f).threads = c.threads := rfl
@[simp] theorem Chip.updCore_wdn (k : Nat) (f : CoreSt → CoreSt) : (c.updCore k f).wdn = c.wdn := rfl
@[simp] theorem Chip.updCore_aut (k : Nat) (f : CoreSt → CoreSt) : (c.updCore k f).aut = c.aut := rfl
@[simp] theorem Chip.updCore_led (k : Nat) (f : CoreSt → CoreSt) : (c.updCore k f).led = c.led := rfl
@[simp] theorem Chip.updCore_weir (k : Nat) (f : CoreSt → CoreSt) : (c.updCore k f).weir = c.weir := rfl
@[simp] theorem Chip.updCore_tln (k : Nat) (f : CoreSt → CoreSt) : (c.updCore k f).tln = c.tln := rfl
@[simp] theorem Chip.updCore_seq (k : Nat) (f : CoreSt → CoreSt) : (c.updCore k f).seq = c.seq := rfl
@[simp] theorem Chip.updCore_chn (k : Nat) (f : CoreSt → CoreSt) : (c.updCore k f).chn = c.chn := rfl
@[simp] theorem Chip.updCore_cap (k : Nat) (f : CoreSt → CoreSt) : (c.updCore k f).cap = c.cap := rfl
@[simp] theorem Chip.updCore_sup (k : Nat) (f : CoreSt → CoreSt) : (c.updCore k f).sup = c.sup := rfl
@[simp] theorem Chip.updCore_chg (k : Nat) (f : CoreSt → CoreSt) : (c.updCore k f).chg = c.chg := rfl
@[simp] theorem Chip.updCore_gau (k : Nat) (f : CoreSt → CoreSt) : (c.updCore k f).gau = c.gau := rfl
@[simp] theorem Chip.updCore_phw (k : Nat) (f : CoreSt → CoreSt) : (c.updCore k f).phw = c.phw := rfl
@[simp] theorem Chip.updCore_nvm (k : Nat) (f : CoreSt → CoreSt) : (c.updCore k f).nvm = c.nvm := rfl
@[simp] theorem Chip.updCore_ent (k : Nat) (f : CoreSt → CoreSt) : (c.updCore k f).ent = c.ent := rfl
@[simp] theorem Chip.updCore_peb (k : Nat) (f : CoreSt → CoreSt) : (c.updCore k f).peb = c.peb := rfl
@[simp] theorem Chip.updCore_hif (k : Nat) (f : CoreSt → CoreSt) : (c.updCore k f).hif = c.hif := rfl
@[simp] theorem Chip.updCore_sio (k : Nat) (f : CoreSt → CoreSt) : (c.updCore k f).sio = c.sio := rfl
@[simp] theorem Chip.updCore_jtag (k : Nat) (f : CoreSt → CoreSt) : (c.updCore k f).jtag = c.jtag := rfl
@[simp] theorem Chip.updCore_mode (k : Nat) (f : CoreSt → CoreSt) : (c.updCore k f).mode = c.mode := rfl
@[simp] theorem Chip.updCore_free (k : Nat) (f : CoreSt → CoreSt) : (c.updCore k f).free = c.free := rfl

@[simp] theorem Chip.setWheel_regs (n : Nat) (w : Wheel) : (c.setWheel n w).regs = c.regs := rfl
@[simp] theorem Chip.setWheel_latch (n : Nat) (w : Wheel) : (c.setWheel n w).latch = c.latch := rfl
@[simp] theorem Chip.setWheel_mem (n : Nat) (w : Wheel) : (c.setWheel n w).mem = c.mem := rfl
@[simp] theorem Chip.setWheel_cores (n : Nat) (w : Wheel) : (c.setWheel n w).cores = c.cores := rfl
@[simp] theorem Chip.setWheel_threads (n : Nat) (w : Wheel) : (c.setWheel n w).threads = c.threads := rfl
@[simp] theorem Chip.setWheel_wdn (n : Nat) (w : Wheel) : (c.setWheel n w).wdn = c.wdn := rfl
@[simp] theorem Chip.setWheel_aut (n : Nat) (w : Wheel) : (c.setWheel n w).aut = c.aut := rfl
@[simp] theorem Chip.setWheel_led (n : Nat) (w : Wheel) : (c.setWheel n w).led = c.led := rfl
@[simp] theorem Chip.setWheel_weir (n : Nat) (w : Wheel) : (c.setWheel n w).weir = c.weir := rfl
@[simp] theorem Chip.setWheel_tln (n : Nat) (w : Wheel) : (c.setWheel n w).tln = c.tln := rfl
@[simp] theorem Chip.setWheel_seq (n : Nat) (w : Wheel) : (c.setWheel n w).seq = c.seq := rfl
@[simp] theorem Chip.setWheel_chn (n : Nat) (w : Wheel) : (c.setWheel n w).chn = c.chn := rfl
@[simp] theorem Chip.setWheel_cap (n : Nat) (w : Wheel) : (c.setWheel n w).cap = c.cap := rfl
@[simp] theorem Chip.setWheel_sup (n : Nat) (w : Wheel) : (c.setWheel n w).sup = c.sup := rfl
@[simp] theorem Chip.setWheel_chg (n : Nat) (w : Wheel) : (c.setWheel n w).chg = c.chg := rfl
@[simp] theorem Chip.setWheel_gau (n : Nat) (w : Wheel) : (c.setWheel n w).gau = c.gau := rfl
@[simp] theorem Chip.setWheel_nvm (n : Nat) (w : Wheel) : (c.setWheel n w).nvm = c.nvm := rfl
@[simp] theorem Chip.setWheel_ent (n : Nat) (w : Wheel) : (c.setWheel n w).ent = c.ent := rfl
@[simp] theorem Chip.setWheel_peb (n : Nat) (w : Wheel) : (c.setWheel n w).peb = c.peb := rfl
@[simp] theorem Chip.setWheel_hif (n : Nat) (w : Wheel) : (c.setWheel n w).hif = c.hif := rfl
@[simp] theorem Chip.setWheel_sio (n : Nat) (w : Wheel) : (c.setWheel n w).sio = c.sio := rfl
@[simp] theorem Chip.setWheel_jtag (n : Nat) (w : Wheel) : (c.setWheel n w).jtag = c.jtag := rfl
@[simp] theorem Chip.setWheel_mode (n : Nat) (w : Wheel) : (c.setWheel n w).mode = c.mode := rfl
@[simp] theorem Chip.setWheel_free (n : Nat) (w : Wheel) : (c.setWheel n w).free = c.free := rfl

@[simp] theorem Chip.setEntry_regs (i : Nat) (e : Option LedEntry) : (c.setEntry i e).regs = c.regs := rfl
@[simp] theorem Chip.setEntry_latch (i : Nat) (e : Option LedEntry) : (c.setEntry i e).latch = c.latch := rfl
@[simp] theorem Chip.setEntry_mem (i : Nat) (e : Option LedEntry) : (c.setEntry i e).mem = c.mem := rfl
@[simp] theorem Chip.setEntry_cores (i : Nat) (e : Option LedEntry) : (c.setEntry i e).cores = c.cores := rfl
@[simp] theorem Chip.setEntry_threads (i : Nat) (e : Option LedEntry) : (c.setEntry i e).threads = c.threads := rfl
@[simp] theorem Chip.setEntry_wdn (i : Nat) (e : Option LedEntry) : (c.setEntry i e).wdn = c.wdn := rfl
@[simp] theorem Chip.setEntry_aut (i : Nat) (e : Option LedEntry) : (c.setEntry i e).aut = c.aut := rfl
@[simp] theorem Chip.setEntry_weir (i : Nat) (e : Option LedEntry) : (c.setEntry i e).weir = c.weir := rfl
@[simp] theorem Chip.setEntry_tln (i : Nat) (e : Option LedEntry) : (c.setEntry i e).tln = c.tln := rfl
@[simp] theorem Chip.setEntry_seq (i : Nat) (e : Option LedEntry) : (c.setEntry i e).seq = c.seq := rfl
@[simp] theorem Chip.setEntry_chn (i : Nat) (e : Option LedEntry) : (c.setEntry i e).chn = c.chn := rfl
@[simp] theorem Chip.setEntry_cap (i : Nat) (e : Option LedEntry) : (c.setEntry i e).cap = c.cap := rfl
@[simp] theorem Chip.setEntry_sup (i : Nat) (e : Option LedEntry) : (c.setEntry i e).sup = c.sup := rfl
@[simp] theorem Chip.setEntry_chg (i : Nat) (e : Option LedEntry) : (c.setEntry i e).chg = c.chg := rfl
@[simp] theorem Chip.setEntry_gau (i : Nat) (e : Option LedEntry) : (c.setEntry i e).gau = c.gau := rfl
@[simp] theorem Chip.setEntry_phw (i : Nat) (e : Option LedEntry) : (c.setEntry i e).phw = c.phw := rfl
@[simp] theorem Chip.setEntry_nvm (i : Nat) (e : Option LedEntry) : (c.setEntry i e).nvm = c.nvm := rfl
@[simp] theorem Chip.setEntry_ent (i : Nat) (e : Option LedEntry) : (c.setEntry i e).ent = c.ent := rfl
@[simp] theorem Chip.setEntry_peb (i : Nat) (e : Option LedEntry) : (c.setEntry i e).peb = c.peb := rfl
@[simp] theorem Chip.setEntry_hif (i : Nat) (e : Option LedEntry) : (c.setEntry i e).hif = c.hif := rfl
@[simp] theorem Chip.setEntry_sio (i : Nat) (e : Option LedEntry) : (c.setEntry i e).sio = c.sio := rfl
@[simp] theorem Chip.setEntry_jtag (i : Nat) (e : Option LedEntry) : (c.setEntry i e).jtag = c.jtag := rfl
@[simp] theorem Chip.setEntry_mode (i : Nat) (e : Option LedEntry) : (c.setEntry i e).mode = c.mode := rfl
@[simp] theorem Chip.setEntry_free (i : Nat) (e : Option LedEntry) : (c.setEntry i e).free = c.free := rfl

@[simp] theorem Chip.setDom_latch (x : Nat) (d : DomSt) : (c.setDom x d).latch = c.latch := rfl
@[simp] theorem Chip.setDom_mem (x : Nat) (d : DomSt) : (c.setDom x d).mem = c.mem := rfl
@[simp] theorem Chip.setDom_cores (x : Nat) (d : DomSt) : (c.setDom x d).cores = c.cores := rfl
@[simp] theorem Chip.setDom_threads (x : Nat) (d : DomSt) : (c.setDom x d).threads = c.threads := rfl
@[simp] theorem Chip.setDom_wdn (x : Nat) (d : DomSt) : (c.setDom x d).wdn = c.wdn := rfl
@[simp] theorem Chip.setDom_aut (x : Nat) (d : DomSt) : (c.setDom x d).aut = c.aut := rfl
@[simp] theorem Chip.setDom_led (x : Nat) (d : DomSt) : (c.setDom x d).led = c.led := rfl
@[simp] theorem Chip.setDom_weir (x : Nat) (d : DomSt) : (c.setDom x d).weir = c.weir := rfl
@[simp] theorem Chip.setDom_tln (x : Nat) (d : DomSt) : (c.setDom x d).tln = c.tln := rfl
@[simp] theorem Chip.setDom_chn (x : Nat) (d : DomSt) : (c.setDom x d).chn = c.chn := rfl
@[simp] theorem Chip.setDom_cap (x : Nat) (d : DomSt) : (c.setDom x d).cap = c.cap := rfl
@[simp] theorem Chip.setDom_sup (x : Nat) (d : DomSt) : (c.setDom x d).sup = c.sup := rfl
@[simp] theorem Chip.setDom_chg (x : Nat) (d : DomSt) : (c.setDom x d).chg = c.chg := rfl
@[simp] theorem Chip.setDom_gau (x : Nat) (d : DomSt) : (c.setDom x d).gau = c.gau := rfl
@[simp] theorem Chip.setDom_phw (x : Nat) (d : DomSt) : (c.setDom x d).phw = c.phw := rfl
@[simp] theorem Chip.setDom_nvm (x : Nat) (d : DomSt) : (c.setDom x d).nvm = c.nvm := rfl
@[simp] theorem Chip.setDom_ent (x : Nat) (d : DomSt) : (c.setDom x d).ent = c.ent := rfl
@[simp] theorem Chip.setDom_peb (x : Nat) (d : DomSt) : (c.setDom x d).peb = c.peb := rfl
@[simp] theorem Chip.setDom_hif (x : Nat) (d : DomSt) : (c.setDom x d).hif = c.hif := rfl
@[simp] theorem Chip.setDom_sio (x : Nat) (d : DomSt) : (c.setDom x d).sio = c.sio := rfl
@[simp] theorem Chip.setDom_jtag (x : Nat) (d : DomSt) : (c.setDom x d).jtag = c.jtag := rfl
@[simp] theorem Chip.setDom_mode (x : Nat) (d : DomSt) : (c.setDom x d).mode = c.mode := rfl
@[simp] theorem Chip.setDom_free (x : Nat) (d : DomSt) : (c.setDom x d).free = c.free := rfl

@[simp] theorem Chip.finish_regs (t u q fl : Nat) (err : Bool) (lat : Nat) : (c.finish t u q fl err lat).regs = c.regs := rfl
@[simp] theorem Chip.finish_latch (t u q fl : Nat) (err : Bool) (lat : Nat) : (c.finish t u q fl err lat).latch = c.latch := rfl
@[simp] theorem Chip.finish_mem (t u q fl : Nat) (err : Bool) (lat : Nat) : (c.finish t u q fl err lat).mem = c.mem := rfl
@[simp] theorem Chip.finish_cores (t u q fl : Nat) (err : Bool) (lat : Nat) : (c.finish t u q fl err lat).cores = c.cores := rfl
@[simp] theorem Chip.finish_wdn (t u q fl : Nat) (err : Bool) (lat : Nat) : (c.finish t u q fl err lat).wdn = c.wdn := rfl
@[simp] theorem Chip.finish_aut (t u q fl : Nat) (err : Bool) (lat : Nat) : (c.finish t u q fl err lat).aut = c.aut := rfl
@[simp] theorem Chip.finish_led (t u q fl : Nat) (err : Bool) (lat : Nat) : (c.finish t u q fl err lat).led = c.led := rfl
@[simp] theorem Chip.finish_weir (t u q fl : Nat) (err : Bool) (lat : Nat) : (c.finish t u q fl err lat).weir = c.weir := rfl
@[simp] theorem Chip.finish_tln (t u q fl : Nat) (err : Bool) (lat : Nat) : (c.finish t u q fl err lat).tln = c.tln := rfl
@[simp] theorem Chip.finish_seq (t u q fl : Nat) (err : Bool) (lat : Nat) : (c.finish t u q fl err lat).seq = c.seq := rfl
@[simp] theorem Chip.finish_chn (t u q fl : Nat) (err : Bool) (lat : Nat) : (c.finish t u q fl err lat).chn = c.chn := rfl
@[simp] theorem Chip.finish_cap (t u q fl : Nat) (err : Bool) (lat : Nat) : (c.finish t u q fl err lat).cap = c.cap := rfl
@[simp] theorem Chip.finish_sup (t u q fl : Nat) (err : Bool) (lat : Nat) : (c.finish t u q fl err lat).sup = c.sup := rfl
@[simp] theorem Chip.finish_chg (t u q fl : Nat) (err : Bool) (lat : Nat) : (c.finish t u q fl err lat).chg = c.chg := rfl
@[simp] theorem Chip.finish_gau (t u q fl : Nat) (err : Bool) (lat : Nat) : (c.finish t u q fl err lat).gau = c.gau := rfl
@[simp] theorem Chip.finish_phw (t u q fl : Nat) (err : Bool) (lat : Nat) : (c.finish t u q fl err lat).phw = c.phw := rfl
@[simp] theorem Chip.finish_nvm (t u q fl : Nat) (err : Bool) (lat : Nat) : (c.finish t u q fl err lat).nvm = c.nvm := rfl
@[simp] theorem Chip.finish_ent (t u q fl : Nat) (err : Bool) (lat : Nat) : (c.finish t u q fl err lat).ent = c.ent := rfl
@[simp] theorem Chip.finish_peb (t u q fl : Nat) (err : Bool) (lat : Nat) : (c.finish t u q fl err lat).peb = c.peb := rfl
@[simp] theorem Chip.finish_hif (t u q fl : Nat) (err : Bool) (lat : Nat) : (c.finish t u q fl err lat).hif = c.hif := rfl
@[simp] theorem Chip.finish_sio (t u q fl : Nat) (err : Bool) (lat : Nat) : (c.finish t u q fl err lat).sio = c.sio := rfl
@[simp] theorem Chip.finish_jtag (t u q fl : Nat) (err : Bool) (lat : Nat) : (c.finish t u q fl err lat).jtag = c.jtag := rfl
@[simp] theorem Chip.finish_mode (t u q fl : Nat) (err : Bool) (lat : Nat) : (c.finish t u q fl err lat).mode = c.mode := rfl
@[simp] theorem Chip.finish_free (t u q fl : Nat) (err : Bool) (lat : Nat) : (c.finish t u q fl err lat).free = c.free := rfl

@[simp] theorem Chip.orFp_regs (t fl : Nat) : (c.orFp t fl).regs = c.regs := rfl
@[simp] theorem Chip.orFp_latch (t fl : Nat) : (c.orFp t fl).latch = c.latch := rfl
@[simp] theorem Chip.orFp_mem (t fl : Nat) : (c.orFp t fl).mem = c.mem := rfl
@[simp] theorem Chip.orFp_cores (t fl : Nat) : (c.orFp t fl).cores = c.cores := rfl
@[simp] theorem Chip.orFp_wdn (t fl : Nat) : (c.orFp t fl).wdn = c.wdn := rfl
@[simp] theorem Chip.orFp_aut (t fl : Nat) : (c.orFp t fl).aut = c.aut := rfl
@[simp] theorem Chip.orFp_led (t fl : Nat) : (c.orFp t fl).led = c.led := rfl
@[simp] theorem Chip.orFp_weir (t fl : Nat) : (c.orFp t fl).weir = c.weir := rfl
@[simp] theorem Chip.orFp_tln (t fl : Nat) : (c.orFp t fl).tln = c.tln := rfl
@[simp] theorem Chip.orFp_seq (t fl : Nat) : (c.orFp t fl).seq = c.seq := rfl
@[simp] theorem Chip.orFp_chn (t fl : Nat) : (c.orFp t fl).chn = c.chn := rfl
@[simp] theorem Chip.orFp_cap (t fl : Nat) : (c.orFp t fl).cap = c.cap := rfl
@[simp] theorem Chip.orFp_sup (t fl : Nat) : (c.orFp t fl).sup = c.sup := rfl
@[simp] theorem Chip.orFp_chg (t fl : Nat) : (c.orFp t fl).chg = c.chg := rfl
@[simp] theorem Chip.orFp_gau (t fl : Nat) : (c.orFp t fl).gau = c.gau := rfl
@[simp] theorem Chip.orFp_phw (t fl : Nat) : (c.orFp t fl).phw = c.phw := rfl
@[simp] theorem Chip.orFp_nvm (t fl : Nat) : (c.orFp t fl).nvm = c.nvm := rfl
@[simp] theorem Chip.orFp_ent (t fl : Nat) : (c.orFp t fl).ent = c.ent := rfl
@[simp] theorem Chip.orFp_peb (t fl : Nat) : (c.orFp t fl).peb = c.peb := rfl
@[simp] theorem Chip.orFp_hif (t fl : Nat) : (c.orFp t fl).hif = c.hif := rfl
@[simp] theorem Chip.orFp_sio (t fl : Nat) : (c.orFp t fl).sio = c.sio := rfl
@[simp] theorem Chip.orFp_jtag (t fl : Nat) : (c.orFp t fl).jtag = c.jtag := rfl
@[simp] theorem Chip.orFp_mode (t fl : Nat) : (c.orFp t fl).mode = c.mode := rfl
@[simp] theorem Chip.orFp_free (t fl : Nat) : (c.orFp t fl).free = c.free := rfl

@[simp] theorem Chip.settle_regs : (c.settle).regs = c.regs := rfl
@[simp] theorem Chip.settle_latch : (c.settle).latch = c.latch := rfl
@[simp] theorem Chip.settle_mem : (c.settle).mem = c.mem := rfl
@[simp] theorem Chip.settle_cores : (c.settle).cores = c.cores := rfl
@[simp] theorem Chip.settle_threads : (c.settle).threads = c.threads := rfl
@[simp] theorem Chip.settle_wdn : (c.settle).wdn = c.wdn := rfl
@[simp] theorem Chip.settle_aut : (c.settle).aut = c.aut := rfl
@[simp] theorem Chip.settle_led : (c.settle).led = c.led := rfl
@[simp] theorem Chip.settle_weir : (c.settle).weir = c.weir := rfl
@[simp] theorem Chip.settle_tln : (c.settle).tln = c.tln := rfl
@[simp] theorem Chip.settle_seq : (c.settle).seq = c.seq := rfl
@[simp] theorem Chip.settle_chn : (c.settle).chn = c.chn := rfl
@[simp] theorem Chip.settle_cap : (c.settle).cap = c.cap := rfl
@[simp] theorem Chip.settle_sup : (c.settle).sup = c.sup := rfl
@[simp] theorem Chip.settle_chg : (c.settle).chg = c.chg := rfl
@[simp] theorem Chip.settle_gau : (c.settle).gau = c.gau := rfl
@[simp] theorem Chip.settle_phw : (c.settle).phw = c.phw := rfl
@[simp] theorem Chip.settle_nvm : (c.settle).nvm = c.nvm := rfl
@[simp] theorem Chip.settle_sio : (c.settle).sio = c.sio := rfl
@[simp] theorem Chip.settle_mode : (c.settle).mode = c.mode := rfl
@[simp] theorem Chip.settle_free : (c.settle).free = c.free := rfl

/-! ### Reading back -/

@[simp] theorem Chip.rd_wr_self (r : Reg) (v : Nat) : (c.wr r v).rd r = v % 256 ^ r.width := FMap.get_set_self _ _ _ _

theorem Chip.rd_wr_other (r q : Reg) (v : Nat) (h : q.addr ≠ r.addr) : (c.wr r v).rd q = c.rd q :=
  FMap.get_set_other _ _ _ _ _ _ h

@[simp] theorem Chip.thr_setThr_self (t : Nat) (x : ThreadSt) : (c.setThr t x).thr t = x := FMap.get_set_self _ _ _ _

theorem Chip.thr_setThr_other (t r : Nat) (x : ThreadSt) (h : r ≠ t) : (c.setThr t x).thr r = c.thr r :=
  FMap.get_set_other _ _ _ _ _ _ h

@[simp] theorem Chip.thr_updThr_self (t : Nat) (f : ThreadSt → ThreadSt) : (c.updThr t f).thr t = f (c.thr t) :=
  FMap.get_set_self _ _ _ _

theorem Chip.thr_updThr_other (t r : Nat) (f : ThreadSt → ThreadSt) (h : r ≠ t) : (c.updThr t f).thr r = c.thr r :=
  FMap.get_set_other _ _ _ _ _ _ h

@[simp] theorem ThreadSt.unit_setUnit_self (x : ThreadSt) (u : Nat) (p : UnitSt) : (x.setUnit u p).unit u = p :=
  FMap.get_set_self _ _ _ _

theorem ThreadSt.unit_setUnit_other (x : ThreadSt) (u v : Nat) (p : UnitSt) (h : v ≠ u) : (x.setUnit u p).unit v = x.unit v :=
  FMap.get_set_other _ _ _ _ _ _ h

@[simp] theorem Chip.thr_setUnit_self (t u : Nat) (p : UnitSt) : (c.setUnit t u p).thr t = (c.thr t).setUnit u p :=
  FMap.get_set_self _ _ _ _

theorem Chip.thr_setUnit_other (t r u : Nat) (p : UnitSt) (h : r ≠ t) : (c.setUnit t u p).thr r = c.thr r :=
  FMap.get_set_other _ _ _ _ _ _ h

@[simp] theorem Chip.unit_setUnit_self (t u : Nat) (p : UnitSt) : (c.setUnit t u p).unit t u = p := by
  simp [Chip.unit]

@[simp] theorem Chip.core_updCore_self (k : Nat) (f : CoreSt → CoreSt) : (c.updCore k f).core k = f (c.core k) :=
  FMap.get_set_self _ _ _ _

theorem Chip.core_updCore_other (k j : Nat) (f : CoreSt → CoreSt) (h : j ≠ k) : (c.updCore k f).core j = c.core j :=
  FMap.get_set_other _ _ _ _ _ _ h

@[simp] theorem Chip.dom_setDom_self (x : Nat) (d : DomSt) : (c.setDom x d).dom x = d := FMap.get_set_self _ _ _ _

theorem Chip.dom_setDom_other (x y : Nat) (d : DomSt) (h : y ≠ x) : (c.setDom x d).dom y = c.dom y :=
  FMap.get_set_other _ _ _ _ _ _ h

@[simp] theorem Chip.wheel_setWheel_self (n : Nat) (w : Wheel) : (c.setWheel n w).wheel n = w := FMap.get_set_self _ _ _ _

@[simp] theorem Chip.entry_setEntry_self (i : Nat) (e : Option LedEntry) : (c.setEntry i e).entry i = e :=
  FMap.get_set_self _ _ _ _

theorem Chip.entry_setEntry_other (i j : Nat) (e : Option LedEntry) (h : j ≠ i) : (c.setEntry i e).entry j = c.entry j :=
  FMap.get_set_other _ _ _ _ _ _ h

/-! ### The level rules leave what they do not name -/

@[simp] theorem Chip.rd_settle (r : Reg) : c.settle.rd r = c.rd r := rfl
@[simp] theorem Chip.thr_settle (t : Nat) : c.settle.thr t = c.thr t := rfl
@[simp] theorem Chip.unit_settle (t u : Nat) : c.settle.unit t u = c.unit t u := rfl
@[simp] theorem Chip.core_settle (k : Nat) : c.settle.core k = c.core k := rfl
@[simp] theorem Chip.dom_settle (x : Nat) : c.settle.dom x = c.dom x := rfl
@[simp] theorem Chip.entry_settle (i : Nat) : c.settle.entry i = c.entry i := rfl
@[simp] theorem Chip.wheel_settle (n : Nat) : c.settle.wheel n = c.wheel n := rfl

/-! ### Fields of numbers -/

theorem fld_lt (v lo w : Nat) : fld v lo w < 2 ^ w := Nat.mod_lt _ (by positivity)

theorem bit_eq_fld (v i : Nat) : bit v i = (fld v i 1 == 1) := by simp [bit, fld]

end Sys2Proof.Machine
end

