-- ==== Sys2Proof/Laws/Lift.lean ====
section
/-!
SUPPORT. What any command can do: change the chip, and leave the queue.
-/
namespace Sys2Proof.Machine

/-- The outcome `o` of a command in state `s` is an effect on the chip alone. -/
def Lifted (o : Out) (s : State) : Prop := ∃ f, o = s.lift f

theorem lifted (s : State) (f : Chip → Chip) : Lifted (s.lift f) s := ⟨f, rfl⟩

/-- Every command is an effect on the chip. -/
theorem exec_lifted (i : Instr) (s : State) : Lifted (exec i s) s := by
  cases i with
  | bundleIssue c k => show Lifted (execBundleIssue c k s) s; unfold execBundleIssue; exact lifted _ _
  | add t u w => show Lifted (execAdd t u w s) s; unfold execAdd; exact lifted _ _
  | adc t u w => show Lifted (execAdc t u w s) s; unfold execAdc; exact lifted _ _
  | sub t u w => show Lifted (execSub t u w s) s; unfold execSub; exact lifted _ _
  | sbc t u w => show Lifted (execSbc t u w s) s; unfold execSbc; exact lifted _ _
  | and t u w => show Lifted (execAnd t u w s) s; unfold execAnd; exact lifted _ _
  | or t u w => show Lifted (execOr t u w s) s; unfold execOr; exact lifted _ _
  | xor t u w => show Lifted (execXor t u w s) s; unfold execXor; exact lifted _ _
  | andn t u w => show Lifted (execAndn t u w s) s; unfold execAndn; exact lifted _ _
  | adds t u w => show Lifted (execAdds t u w s) s; unfold execAdds; exact lifted _ _
  | addus t u w => show Lifted (execAddus t u w s) s; unfold execAddus; exact lifted _ _
  | subs t u w => show Lifted (execSubs t u w s) s; unfold execSubs; exact lifted _ _
  | subus t u w => show Lifted (execSubus t u w s) s; unfold execSubus; exact lifted _ _
  | mins t u w => show Lifted (execMins t u w s) s; unfold execMins; exact lifted _ _
  | minu t u w => show Lifted (execMinu t u w s) s; unfold execMinu; exact lifted _ _
  | maxs t u w => show Lifted (execMaxs t u w s) s; unfold execMaxs; exact lifted _ _
  | maxu t u w => show Lifted (execMaxu t u w s) s; unfold execMaxu; exact lifted _ _
  | not t u w => show Lifted (execNot t u w s) s; unfold execNot; exact lifted _ _
  | neg t u w => show Lifted (execNeg t u w s) s; unfold execNeg; exact lifted _ _
  | abss t u w => show Lifted (execAbss t u w s) s; unfold execAbss; exact lifted _ _
  | pass t u w => show Lifted (execPass t u w s) s; unfold execPass; exact lifted _ _
  | shl t w => show Lifted (execShl t w s) s; unfold execShl; exact lifted _ _
  | shr t w => show Lifted (execShr t w s) s; unfold execShr; exact lifted _ _
  | sar t w => show Lifted (execSar t w s) s; unfold execSar; exact lifted _ _
  | rol t w => show Lifted (execRol t w s) s; unfold execRol; exact lifted _ _
  | ror t w => show Lifted (execRor t w s) s; unfold execRor; exact lifted _ _
  | shls t w => show Lifted (execShls t w s) s; unfold execShls; exact lifted _ _
  | bswap t w => show Lifted (execBswap t w s) s; unfold execBswap; exact lifted _ _
  | cmpEq t w g anded => show Lifted (execCmpEq t w g anded s) s; unfold execCmpEq; exact lifted _ _
  | cmpNe t w g anded => show Lifted (execCmpNe t w g anded s) s; unfold execCmpNe; exact lifted _ _
  | cmpLtu t w g anded => show Lifted (execCmpLtu t w g anded s) s; unfold execCmpLtu; exact lifted _ _
  | cmpGeu t w g anded => show Lifted (execCmpGeu t w g anded s) s; unfold execCmpGeu; exact lifted _ _
  | cmpLts t w g anded => show Lifted (execCmpLts t w g anded s) s; unfold execCmpLts; exact lifted _ _
  | cmpGes t w g anded => show Lifted (execCmpGes t w g anded s) s; unfold execCmpGes; exact lifted _ _
  | cmpTst t w g anded => show Lifted (execCmpTst t w g anded s) s; unfold execCmpTst; exact lifted _ _
  | cmpTstz t w g anded => show Lifted (execCmpTstz t w g anded s) s; unfold execCmpTstz; exact lifted _ _
  | mulu t w => show Lifted (execMulu t w s) s; unfold execMulu; exact lifted _ _
  | muls t w => show Lifted (execMuls t w s) s; unfold execMuls; exact lifted _ _
  | mulhu t w => show Lifted (execMulhu t w s) s; unfold execMulhu; exact lifted _ _
  | mulhs t w => show Lifted (execMulhs t w s) s; unfold execMulhs; exact lifted _ _
  | mulq t w => show Lifted (execMulq t w s) s; unfold execMulq; exact lifted _ _
  | popcnt t w => show Lifted (execPopcnt t w s) s; unfold execPopcnt; exact lifted _ _
  | clz t w => show Lifted (execClz t w s) s; unfold execClz; exact lifted _ _
  | ctz t w => show Lifted (execCtz t w s) s; unfold execCtz; exact lifted _ _
  | brev t w => show Lifted (execBrev t w s) s; unfold execBrev; exact lifted _ _
  | extu t => show Lifted (execExtu t s) s; unfold execExtu; exact lifted _ _
  | exts t => show Lifted (execExts t s) s; unfold execExts; exact lifted _ _
  | ins t => show Lifted (execIns t s) s; unfold execIns; exact lifted _ _
  | fadd t u => show Lifted (execFadd t u s) s; unfold execFadd; exact lifted _ _
  | fsub t u => show Lifted (execFsub t u s) s; unfold execFsub; exact lifted _ _
  | fmul t u => show Lifted (execFmul t u s) s; unfold execFmul; exact lifted _ _
  | fma t => show Lifted (execFma t s) s; unfold execFma; exact lifted _ _
  | fmin t u => show Lifted (execFmin t u s) s; unfold execFmin; exact lifted _ _
  | fmax t u => show Lifted (execFmax t u s) s; unfold execFmax; exact lifted _ _
  | fcmp t u => show Lifted (execFcmp t u s) s; unfold execFcmp; exact lifted _ _
  | fdiv t u => show Lifted (execFdiv t u s) s; unfold execFdiv; exact lifted _ _
  | fsqrt t u => show Lifted (execFsqrt t u s) s; unfold execFsqrt; exact lifted _ _
  | fabs t u => show Lifted (execFabs t u s) s; unfold execFabs; exact lifted _ _
  | fneg t u => show Lifted (execFneg t u s) s; unfold execFneg; exact lifted _ _
  | cvtIntToFloat t u => show Lifted (execCvtIntToFloat t u s) s; unfold execCvtIntToFloat; exact lifted _ _
  | cvtFloatToInt t u => show Lifted (execCvtFloatToInt t u s) s; unfold execCvtFloatToInt; exact lifted _ _
  | cvtUintToFloat t u => show Lifted (execCvtUintToFloat t u s) s; unfold execCvtUintToFloat; exact lifted _ _
  | cvtFloatToUint t u => show Lifted (execCvtFloatToUint t u s) s; unfold execCvtFloatToUint; exact lifted _ _
  | cvtFormat t u => show Lifted (execCvtFormat t u s) s; unfold execCvtFormat; exact lifted _ _
  | ld t w => show Lifted (execLd t w s) s; unfold execLd; exact lifted _ _
  | ldSigned t w => show Lifted (execLdSigned t w s) s; unfold execLdSigned; exact lifted _ _
  | st t w => show Lifted (execSt t w s) s; unfold execSt; exact lifted _ _
  | swap8 t => show Lifted (execSwap8 t s) s; unfold execSwap8; exact lifted _ _
  | crcInit t p => show Lifted (execCrcInit t p s) s; unfold execCrcInit; exact lifted _ _
  | crcByte t p => show Lifted (execCrcByte t p s) s; unfold execCrcByte; exact lifted _ _
  | crcBlock t p => show Lifted (execCrcBlock t p s) s; unfold execCrcBlock; exact lifted _ _
  | crcSeed t p => show Lifted (execCrcSeed t p s) s; unfold execCrcSeed; exact lifted _ _
  | jump t => show Lifted (execJump t s) s; unfold execJump; exact lifted _ _
  | call t => show Lifted (execCall t s) s; unfold execCall; exact lifted _ _
  | ret t => show Lifted (execRet t s) s; unfold execRet; exact lifted _ _
  | eret t => show Lifted (execEret t s) s; unfold execEret; exact lifted _ _
  | wait t => show Lifted (execWait t s) s; unfold execWait; exact lifted _ _
  | yield t => show Lifted (execYield t s) s; unfold execYield; exact lifted _ _
  | spawn t => show Lifted (execSpawn t s) s; unfold execSpawn; exact lifted _ _
  | sync t => show Lifted (execSync t s) s; unfold execSync; exact lifted _ _
  | fence t => show Lifted (execFence t s) s; unfold execFence; exact lifted _ _
  | halt t => show Lifted (execHalt t s) s; unfold execHalt; exact lifted _ _
  | trap t => show Lifted (execTrap t s) s; unfold execTrap; exact lifted _ _
  | tset t => show Lifted (execTset t s) s; unfold execTset; exact lifted _ _
  | tsetabs t => show Lifted (execTsetabs t s) s; unfold execTsetabs; exact lifted _ _
  | tcancel t => show Lifted (execTcancel t s) s; unfold execTcancel; exact lifted _ _
  | tnow t => show Lifted (execTnow t s) s; unfold execTnow; exact lifted _ _
  | tleft t => show Lifted (execTleft t s) s; unfold execTleft; exact lifted _ _
  | tmrExpire t => show Lifted (execTmrExpire t s) s; unfold execTmrExpire; exact lifted _ _
  | rdphase t => show Lifted (execRdphase t s) s; unfold execRdphase; exact lifted _ _
  | rdturn t => show Lifted (execRdturn t s) s; unfold execRdturn; exact lifted _ _
  | rdtick t => show Lifted (execRdtick t s) s; unfold execRdtick; exact lifted _ _
  | rdtickh t => show Lifted (execRdtickh t s) s; unfold execRdtickh; exact lifted _ _
  | mark t => show Lifted (execMark t s) s; unfold execMark; exact lifted _ _
  | setphase t => show Lifted (execSetphase t s) s; unfold execSetphase; exact lifted _ _
  | arm t => show Lifted (execArm t s) s; unfold execArm; exact lifted _ _
  | disarm t => show Lifted (execDisarm t s) s; unfold execDisarm; exact lifted _ _
  | enq t => show Lifted (execEnq t s) s; unfold execEnq; exact lifted _ _
  | deq t => show Lifted (execDeq t s) s; unfold execDeq; exact lifted _ _
  | peek t => show Lifted (execPeek t s) s; unfold execPeek; exact lifted _ _
  | qfence t => show Lifted (execQfence t s) s; unfold execQfence; exact lifted _ _
  | abandon t => show Lifted (execAbandon t s) s; unfold execAbandon; exact lifted _ _
  | freeze t => show Lifted (execFreeze t s) s; unfold execFreeze; exact lifted _ _
  | thaw t => show Lifted (execThaw t s) s; unfold execThaw; exact lifted _ _
  | round t => show Lifted (execRound t s) s; unfold execRound; exact lifted _ _
  | rnd t w => show Lifted (execRnd t w s) s; unfold execRnd; exact lifted _ _
  | sendw t => show Lifted (execSendw t s) s; unfold execSendw; exact lifted _ _
  | sendh t => show Lifted (execSendh t s) s; unfold execSendh; exact lifted _ _
  | recv t => show Lifted (execRecv t s) s; unfold execRecv; exact lifted _ _
  | req t => show Lifted (execReq t s) s; unfold execReq; exact lifted _ _
  | sendc t => show Lifted (execSendc t s) s; unfold execSendc; exact lifted _ _
  | pcmd t => show Lifted (execPcmd t s) s; unfold execPcmd; exact lifted _ _
  | plast t => show Lifted (execPlast t s) s; unfold execPlast; exact lifted _ _
  | ppg t => show Lifted (execPpg t s) s; unfold execPpg; exact lifted _ _
  | phold t => show Lifted (execPhold t s) s; unfold execPhold; exact lifted _ _
  | longOpRetire t u => show Lifted (execLongOpRetire t u s) s; unfold execLongOpRetire; exact lifted _ _
  | exceptionEntry t => show Lifted (execExceptionEntry t s) s; unfold execExceptionEntry; exact lifted _ _
  | threadWake t => show Lifted (execThreadWake t s) s; unfold execThreadWake; exact lifted _ _
  | coreWideCommit c => show Lifted (execCoreWideCommit c s) s; unfold execCoreWideCommit; exact lifted _ _
  | doorbellPop t => show Lifted (execDoorbellPop t s) s; unfold execDoorbellPop; exact lifted _ _
  | thermalPauseStep c dieC => show Lifted (execThermalPauseStep c dieC s) s; unfold execThermalPauseStep; exact lifted _ _
  | adaptiveFreqStep c dieC => show Lifted (execAdaptiveFreqStep c dieC s) s; unfold execAdaptiveFreqStep; exact lifted _ _
  | fillerIssue c => show Lifted (execFillerIssue c s) s; unfold execFillerIssue; exact lifted _ _
  | wardenRollbackDone => show Lifted (execWardenRollbackDone s) s; unfold execWardenRollbackDone; exact lifted _ _
  | wardenCheckpoint => show Lifted (execWardenCheckpoint s) s; unfold execWardenCheckpoint; exact lifted _ _
  | comparatorExercise rails => show Lifted (execComparatorExercise rails s) s; unfold execComparatorExercise; exact lifted _ _
  | exerciseMissing => show Lifted (execExerciseMissing s) s; unfold execExerciseMissing; exact lifted _ _
  | wardenLostTimeout => show Lifted (execWardenLostTimeout s) s; unfold execWardenLostTimeout; exact lifted _ _
  | wdnVerdictWrite v => show Lifted (execWdnVerdictWrite v s) s; unfold execWdnVerdictWrite; exact lifted _ _
  | verdictTimeout h => show Lifted (execVerdictTimeout h s) s; unfold execVerdictTimeout; exact lifted _ _
  | threadApWrite t ap v => show Lifted (execThreadApWrite t ap v s) s; unfold execThreadApWrite; exact lifted _ _
  | arbitrationWindowClose ap => show Lifted (execArbitrationWindowClose ap s) s; unfold execArbitrationWindowClose; exact lifted _ _
  | lockExpire ap => show Lifted (execLockExpire ap s) s; unfold execLockExpire; exact lifted _ _
  | ledgerCommit => show Lifted (execLedgerCommit s) s; unfold execLedgerCommit; exact lifted _ _
  | ledgerEraseDone => show Lifted (execLedgerEraseDone s) s; unfold execLedgerEraseDone; exact lifted _ _
  | seqDelayExpire x => show Lifted (execSeqDelayExpire x s) s; unfold execSeqDelayExpire; exact lifted _ _
  | seqPgHigh x elapsed => show Lifted (execSeqPgHigh x elapsed s) s; unfold execSeqPgHigh; exact lifted _ _
  | seqBlankExpire x => show Lifted (execSeqBlankExpire x s) s; unfold execSeqBlankExpire; exact lifted _ _
  | seqPgTimeout x => show Lifted (execSeqPgTimeout x s) s; unfold execSeqPgTimeout; exact lifted _ _
  | seqOffDelayExpire x => show Lifted (execSeqOffDelayExpire x s) s; unfold execSeqOffDelayExpire; exact lifted _ _
  | pgLoss x => show Lifted (execPgLoss x s) s; unfold execPgLoss; exact lifted _ _
  | faultNExternal => show Lifted (execFaultNExternal s) s; unfold execFaultNExternal; exact lifted _ _
  | faultNHoldEnd => show Lifted (execFaultNHoldEnd s) s; unfold execFaultNHoldEnd; exact lifted _ _
  | restartWaitHighDone => show Lifted (execRestartWaitHighDone s) s; unfold execRestartWaitHighDone; exact lifted _ _
  | restartBackoffExpire => show Lifted (execRestartBackoffExpire s) s; unfold execRestartBackoffExpire; exact lifted _ _
  | restartStable => show Lifted (execRestartStable s) s; unfold execRestartStable; exact lifted _ _
  | latchedLongwaitExpire => show Lifted (execLatchedLongwaitExpire s) s; unfold execLatchedLongwaitExpire; exact lifted _ _
  | seqParityError x inDelay => show Lifted (execSeqParityError x inDelay s) s; unfold execSeqParityError; exact lifted _ _
  | bootRomStart exerciseOk => show Lifted (execBootRomStart exerciseOk s) s; unfold execBootRomStart; exact lifted _ _
  | loadMain t => show Lifted (execLoadMain t s) s; unfold execLoadMain; exact lifted _ _
  | bootRetry => show Lifted (execBootRetry s) s; unfold execBootRetry; exact lifted _ _
  | bootReload => show Lifted (execBootReload s) s; unfold execBootReload; exact lifted _ _
  | otpHaltListenSwitch => show Lifted (execOtpHaltListenSwitch s) s; unfold execOtpHaltListenSwitch; exact lifted _ _
  | softStartEnd n => show Lifted (execSoftStartEnd n s) s; unfold execSoftStartEnd; exact lifted _ _
  | channelPgChange n good => show Lifted (execChannelPgChange n good s) s; unfold execChannelPgChange; exact lifted _ _
  | slewEnd n => show Lifted (execSlewEnd n s) s; unfold execSlewEnd; exact lifted _ _
  | currentLimitEnter n => show Lifted (execCurrentLimitEnter n s) s; unfold execCurrentLimitEnter; exact lifted _ _
  | currentLimitTimeout n => show Lifted (execCurrentLimitTimeout n s) s; unfold execCurrentLimitTimeout; exact lifted _ _
  | shortTrip n => show Lifted (execShortTrip n s) s; unfold execShortTrip; exact lifted _ _
  | ovpTrip n => show Lifted (execOvpTrip n s) s; unfold execOvpTrip; exact lifted _ _
  | ch5ImmediateTrip => show Lifted (execCh5ImmediateTrip s) s; unfold execCh5ImmediateTrip; exact lifted _ _
  | ch5ReverseTrip on => show Lifted (execCh5ReverseTrip on s) s; unfold execCh5ReverseTrip; exact lifted _ _
  | ch3LimitFallback => show Lifted (execCh3LimitFallback s) s; unfold execCh3LimitFallback; exact lifted _ _
  | ch3LimitRestore => show Lifted (execCh3LimitRestore s) s; unfold execCh3LimitRestore; exact lifted _ _
  | ch2PhaseShed => show Lifted (execCh2PhaseShed s) s; unfold execCh2PhaseShed; exact lifted _ _
  | ch2PhaseResume => show Lifted (execCh2PhaseResume s) s; unfold execCh2PhaseResume; exact lifted _ _
  | ch6ReverseFlow on => show Lifted (execCh6ReverseFlow on s) s; unfold execCh6ReverseFlow; exact lifted _ _
  | ch4Bypass on => show Lifted (execCh4Bypass on s) s; unfold execCh4Bypass; exact lifted _ _
  | ch0Dropout on => show Lifted (execCh0Dropout on s) s; unfold execCh0Dropout; exact lifted _ _
  | vsysUndervoltage => show Lifted (execVsysUndervoltage s) s; unfold execVsysUndervoltage; exact lifted _ _
  | capEvaluate pavg => show Lifted (execCapEvaluate pavg s) s; unfold execCapEvaluate; exact lifted _ _
  | millpondPeriod => show Lifted (execMillpondPeriod s) s; unfold execMillpondPeriod; exact lifted _ _
  | millpondRampBegin target => show Lifted (execMillpondRampBegin target s) s; unfold execMillpondRampBegin; exact lifted _ _
  | fillHoldEnd => show Lifted (execFillHoldEnd s) s; unfold execFillHoldEnd; exact lifted _ _
  | fillNoack => show Lifted (execFillNoack s) s; unfold execFillNoack; exact lifted _ _
  | fillAckStuck => show Lifted (execFillAckStuck s) s; unfold execFillAckStuck; exact lifted _ _
  | ch5ShapeRelease => show Lifted (execCh5ShapeRelease s) s; unfold execCh5ShapeRelease; exact lifted _ _
  | govGrantWrite v => show Lifted (execGovGrantWrite v s) s; unfold execGovGrantWrite; exact lifted _ _
  | inputPresent i => show Lifted (execInputPresent i s) s; unfold execInputPresent; exact lifted _ _
  | inputAbsent i => show Lifted (execInputAbsent i s) s; unfold execInputAbsent; exact lifted _ _
  | inputOvervoltage i => show Lifted (execInputOvervoltage i s) s; unfold execInputOvervoltage; exact lifted _ _
  | aonSourceSwitch src => show Lifted (execAonSourceSwitch src s) s; unfold execAonSourceSwitch; exact lifted _ _
  | aonPorEnd faultNHigh => show Lifted (execAonPorEnd faultNHigh s) s; unfold execAonPorEnd; exact lifted _ _
  | aonPorBegin => show Lifted (execAonPorBegin s) s; unfold execAonPorBegin; exact lifted _ _
  | bankGood b => show Lifted (execBankGood b s) s; unfold execBankGood; exact lifted _ _
  | bankLost b => show Lifted (execBankLost b s) s; unfold execBankLost; exact lifted _ _
  | bankEdgeBlankEnd b => show Lifted (execBankEdgeBlankEnd b s) s; unfold execBankEdgeBlankEnd; exact lifted _ _
  | portAttach rp => show Lifted (execPortAttach rp s) s; unfold execPortAttach; exact lifted _ _
  | portDetectionDone bc => show Lifted (execPortDetectionDone bc s) s; unfold execPortDetectionDone; exact lifted _ _
  | rpChange rp => show Lifted (execRpChange rp s) s; unfold execRpChange; exact lifted _ _
  | waveSignatureFound => show Lifted (execWaveSignatureFound s) s; unfold execWaveSignatureFound; exact lifted _ _
  | waveSignatureLost => show Lifted (execWaveSignatureLost s) s; unfold execWaveSignatureLost; exact lifted _ _
  | vocSampleStart => show Lifted (execVocSampleStart s) s; unfold execVocSampleStart; exact lifted _ _
  | vocSampleEnd mv => show Lifted (execVocSampleEnd mv s) s; unfold execVocSampleEnd; exact lifted _ _
  | chgVocnowWrite w => show Lifted (execChgVocnowWrite w s) s; unfold execChgVocnowWrite; exact lifted _ _
  | vbatUvTrip => show Lifted (execVbatUvTrip s) s; unfold execVbatUvTrip; exact lifted _ _
  | vbatOvTrip => show Lifted (execVbatOvTrip s) s; unfold execVbatOvTrip; exact lifted _ _
  | vbatOvRecover => show Lifted (execVbatOvRecover s) s; unfold execVbatOvRecover; exact lifted _ _
  | batteryRemoved => show Lifted (execBatteryRemoved s) s; unfold execBatteryRemoved; exact lifted _ _
  | chargerStart vbat usable => show Lifted (execChargerStart vbat usable s) s; unfold execChargerStart; exact lifted _ _
  | prechargeComplete vbat => show Lifted (execPrechargeComplete vbat s) s; unfold execPrechargeComplete; exact lifted _ _
  | prechargeTimeout => show Lifted (execPrechargeTimeout s) s; unfold execPrechargeTimeout; exact lifted _ _
  | pulseTimeTimeout => show Lifted (execPulseTimeTimeout s) s; unfold execPulseTimeTimeout; exact lifted _ _
  | pulseEnd iend limited => show Lifted (execPulseEnd iend limited s) s; unfold execPulseEnd; exact lifted _ _
  | restPhaseEnd => show Lifted (execRestPhaseEnd s) s; unfold execRestPhaseEnd; exact lifted _ _
  | recharge vbat => show Lifted (execRecharge vbat s) s; unfold execRecharge; exact lifted _ _
  | gatedPhaseBackstop iend limited => show Lifted (execGatedPhaseBackstop iend limited s) s; unfold execGatedPhaseBackstop; exact lifted _ _
  | chargerHold z => show Lifted (execChargerHold z s) s; unfold execChargerHold; exact lifted _ _
  | chargerHoldExit z => show Lifted (execChargerHoldExit z s) s; unfold execChargerHoldExit; exact lifted _ _
  | zoneChange z => show Lifted (execZoneChange z s) s; unfold execZoneChange; exact lifted _ _
  | shipDeferEnd => show Lifted (execShipDeferEnd s) s; unfold execShipDeferEnd; exact lifted _ _
  | shipPowerDown => show Lifted (execShipPowerDown s) s; unfold execShipPowerDown; exact lifted _ _
  | shipWakePress => show Lifted (execShipWakePress s) s; unfold execShipWakePress; exact lifted _ _
  | sinkAttach attached => show Lifted (execSinkAttach attached s) s; unfold execSinkAttach; exact lifted _ _
  | reverseReserveLow bySoc => show Lifted (execReverseReserveLow bySoc s) s; unfold execReverseReserveLow; exact lifted _ _
  | dockLiveChange live => show Lifted (execDockLiveChange live s) s; unfold execDockLiveChange; exact lifted _ _
  | hwThermalTrip above => show Lifted (execHwThermalTrip above s) s; unfold execHwThermalTrip; exact lifted _ _
  | gauSeqgoWrite w seq => show Lifted (execGauSeqgoWrite w seq s) s; unfold execGauSeqgoWrite; exact lifted _ _
  | adcSequenceDone results => show Lifted (execAdcSequenceDone results s) s; unfold execAdcSequenceDone; exact lifted _ _
  | gaugeConversion isNtc v ratioPermille => show Lifted (execGaugeConversion isNtc v ratioPermille s) s; unfold execGaugeConversion; exact lifted _ _
  | restBegin iBefore vBefore vAfter1ms => show Lifted (execRestBegin iBefore vBefore vAfter1ms s) s; unfold execRestBegin; exact lifted _ _
  | restEnd ms ocv endUv beforeUv => show Lifted (execRestEnd ms ocv endUv beforeUv s) s; unfold execRestEnd; exact lifted _ _
  | counterEmpty => show Lifted (execCounterEmpty s) s; unfold execCounterEmpty; exact lifted _ _
  | forcedRestPending vbat => show Lifted (execForcedRestPending vbat s) s; unfold execForcedRestPending; exact lifted _ _
  | forcedRestStart => show Lifted (execForcedRestStart s) s; unfold execForcedRestStart; exact lifted _ _
  | forcedRestEnd valid => show Lifted (execForcedRestEnd valid s) s; unfold execForcedRestEnd; exact lifted _ _
  | gauOcvaddrWrite w v => show Lifted (execGauOcvaddrWrite w v s) s; unfold execGauOcvaddrWrite; exact lifted _ _
  | gauQaccWrite w v => show Lifted (execGauQaccWrite w v s) s; unfold execGauQaccWrite; exact lifted _ _
  | weirDescriptorWrite w q v => show Lifted (execWeirDescriptorWrite w q v s) s; unfold execWeirDescriptorWrite; exact lifted _ _
  | weirRetransmitTimeout q => show Lifted (execWeirRetransmitTimeout q s) s; unfold execWeirRetransmitTimeout; exact lifted _ _
  | weirDataReceive f => show Lifted (execWeirDataReceive f s) s; unfold execWeirDataReceive; exact lifted _ _
  | weirAckReceive f => show Lifted (execWeirAckReceive f s) s; unfold execWeirAckReceive; exact lifted _ _
  | weirNackReceive f => show Lifted (execWeirNackReceive f s) s; unfold execWeirNackReceive; exact lifted _ _
  | weirSkipReceive f => show Lifted (execWeirSkipReceive f s) s; unfold execWeirSkipReceive; exact lifted _ _
  | weirGsyncReceive f => show Lifted (execWeirGsyncReceive f s) s; unfold execWeirGsyncReceive; exact lifted _ _
  | weirResyncReceive f => show Lifted (execWeirResyncReceive f s) s; unfold execWeirResyncReceive; exact lifted _ _
  | weirRejoinReceive f => show Lifted (execWeirRejoinReceive f s) s; unfold execWeirRejoinReceive; exact lifted _ _
  | weirAckSend q => show Lifted (execWeirAckSend q s) s; unfold execWeirAckSend; exact lifted _ _
  | roundWindowClose r => show Lifted (execRoundWindowClose r s) s; unfold execRoundWindowClose; exact lifted _ _
  | roundExpiry r => show Lifted (execRoundExpiry r s) s; unfold execRoundExpiry; exact lifted _ _
  | weiQcmdResync w => show Lifted (execWeiQcmdResync w s) s; unfold execWeiQcmdResync; exact lifted _ _
  | weiQcmdUnbind w => show Lifted (execWeiQcmdUnbind w s) s; unfold execWeiQcmdUnbind; exact lifted _ _
  | weiRejfifoPop r => show Lifted (execWeiRejfifoPop r s) s; unfold execWeiRejfifoPop; exact lifted _ _
  | frameReceive p f crcOk => show Lifted (execFrameReceive p f crcOk s) s; unfold execFrameReceive; exact lifted _ _
  | frameForwardStore p f => show Lifted (execFrameForwardStore p f s) s; unfold execFrameForwardStore; exact lifted _ _
  | forwardBufferStart p => show Lifted (execForwardBufferStart p s) s; unfold execForwardBufferStart; exact lifted _ _
  | hackSend p => show Lifted (execHackSend p s) s; unfold execHackSend; exact lifted _ _
  | hackReceive p next => show Lifted (execHackReceive p next s) s; unfold execHackReceive; exact lifted _ _
  | hopRetransmit p => show Lifted (execHopRetransmit p s) s; unfold execHopRetransmit; exact lifted _ _
  | jabberStop p => show Lifted (execJabberStop p s) s; unfold execJabberStop; exact lifted _ _
  | beaconSend => show Lifted (execBeaconSend s) s; unfold execBeaconSend; exact lifted _ _
  | beaconReceive p f stamp => show Lifted (execBeaconReceive p f stamp s) s; unfold execBeaconReceive; exact lifted _ _
  | headListenEnd => show Lifted (execHeadListenEnd s) s; unfold execHeadListenEnd; exact lifted _ _
  | contentionSlotOpen p => show Lifted (execContentionSlotOpen p s) s; unfold execContentionSlotOpen; exact lifted _ _
  | tarnlineSlotEnd p => show Lifted (execTarnlineSlotEnd p s) s; unfold execTarnlineSlotEnd; exact lifted _ _
  | joinReqSend => show Lifted (execJoinReqSend s) s; unfold execJoinReqSend; exact lifted _ _
  | joinReqReceive p f => show Lifted (execJoinReqReceive p f s) s; unfold execJoinReqReceive; exact lifted _ _
  | joinReplyReceive p f => show Lifted (execJoinReplyReceive p f s) s; unfold execJoinReplyReceive; exact lifted _ _
  | joinTableExpire uid => show Lifted (execJoinTableExpire uid s) s; unfold execJoinTableExpire; exact lifted _ _
  | joinAnswerTimeout => show Lifted (execJoinAnswerTimeout s) s; unfold execJoinAnswerTimeout; exact lifted _ _
  | tlnJreplyWrite w v => show Lifted (execTlnJreplyWrite w v s) s; unfold execTlnJreplyWrite; exact lifted _ _
  | tlnJoinfifoPop r => show Lifted (execTlnJoinfifoPop r s) s; unfold execTlnJoinfifoPop; exact lifted _ _
  | leaveReceive p f => show Lifted (execLeaveReceive p f s) s; unfold execLeaveReceive; exact lifted _ _
  | statusReceive p f => show Lifted (execStatusReceive p f s) s; unfold execStatusReceive; exact lifted _ _
  | presenceReceive p f => show Lifted (execPresenceReceive p f s) s; unfold execPresenceReceive; exact lifted _ _
  | noticeReceive p f => show Lifted (execNoticeReceive p f s) s; unfold execNoticeReceive; exact lifted _ _
  | beaconLoss => show Lifted (execBeaconLoss s) s; unfold execBeaconLoss; exact lifted _ _
  | childAbsent p => show Lifted (execChildAbsent p s) s; unfold execChildAbsent; exact lifted _ _
  | tlnCmdJoin w => show Lifted (execTlnCmdJoin w s) s; unfold execTlnCmdJoin; exact lifted _ _
  | tlnCmdLeave w => show Lifted (execTlnCmdLeave w s) s; unfold execTlnCmdLeave; exact lifted _ _
  | roleChangeApply => show Lifted (execRoleChangeApply s) s; unfold execRoleChangeApply; exact lifted _ _
  | portIsolate p => show Lifted (execPortIsolate p s) s; unfold execPortIsolate; exact lifted _ _
  | portRetry p => show Lifted (execPortRetry p s) s; unfold execPortRetry; exact lifted _ _
  | orderReceive p f => show Lifted (execOrderReceive p f s) s; unfold execOrderReceive; exact lifted _ _
  | orderReplyReceive p f => show Lifted (execOrderReplyReceive p f s) s; unfold execOrderReplyReceive; exact lifted _ _
  | orderTimeout q => show Lifted (execOrderTimeout q s) s; unfold execOrderTimeout; exact lifted _ _
  | nvmOwnWrite w v => show Lifted (execNvmOwnWrite w v s) s; unfold execNvmOwnWrite; exact lifted _ _
  | nvmOwnerTimeout => show Lifted (execNvmOwnerTimeout s) s; unfold execNvmOwnerTimeout; exact lifted _ _
  | program1 w sourceMv => show Lifted (execProgram1 w sourceMv s) s; unfold execProgram1; exact lifted _ _
  | program2 w sourceMv => show Lifted (execProgram2 w sourceMv s) s; unfold execProgram2; exact lifted _ _
  | erase w sourceMv => show Lifted (execErase w sourceMv s) s; unfold execErase; exact lifted _ _
  | otpProgram w sourceMv dieC => show Lifted (execOtpProgram w sourceMv dieC s) s; unfold execOtpProgram; exact lifted _ _
  | otpSeal w sourceMv dieC => show Lifted (execOtpSeal w sourceMv dieC s) s; unfold execOtpSeal; exact lifted _ _
  | arbInc w sourceMv dieC => show Lifted (execArbInc w sourceMv dieC s) s; unfold execArbInc; exact lifted _ _
  | nvmCommandDone verified => show Lifted (execNvmCommandDone verified s) s; unfold execNvmCommandDone; exact lifted _ _
  | eraseSuspend => show Lifted (execEraseSuspend s) s; unfold execEraseSuspend; exact lifted _ _
  | eraseResume => show Lifted (execEraseResume s) s; unfold execEraseResume; exact lifted _ _
  | nvmWplimWrite w v => show Lifted (execNvmWplimWrite w v s) s; unfold execNvmWplimWrite; exact lifted _ _
  | healthTestFailure k => show Lifted (execHealthTestFailure k s) s; unfold execHealthTestFailure; exact lifted _ _
  | entHoldoffEnd => show Lifted (execEntHoldoffEnd s) s; unfold execEntHoldoffEnd; exact lifted _ _
  | entStartupPass entropy nonce => show Lifted (execEntStartupPass entropy nonce s) s; unfold execEntStartupPass; exact lifted _ _
  | drbgReseed entropy => show Lifted (execDrbgReseed entropy s) s; unfold execDrbgReseed; exact lifted _ _
  | entRestartsClear => show Lifted (execEntRestartsClear s) s; unfold execEntRestartsClear; exact lifted _ _
  | lfsrReseed => show Lifted (execLfsrReseed s) s; unfold execLfsrReseed; exact lifted _ _
  | rngStallTimeout t => show Lifted (execRngStallTimeout t s) s; unfold execRngStallTimeout; exact lifted _ _
  | pebUnlockWrite w v => show Lifted (execPebUnlockWrite w v s) s; unfold execPebUnlockWrite; exact lifted _ _
  | pebbleExpire i => show Lifted (execPebbleExpire i s) s; unfold execPebbleExpire; exact lifted _ _
  | pebbleHeldRelease i k => show Lifted (execPebbleHeldRelease i k s) s; unfold execPebbleHeldRelease; exact lifted _ _
  | hostRead h addr len chk => show Lifted (execHostRead h addr len chk s) s; unfold execHostRead; exact lifted _ _
  | hostReadDataReady h => show Lifted (execHostReadDataReady h s) s; unfold execHostReadDataReady; exact lifted _ _
  | hostWrite h addr data chk => show Lifted (execHostWrite h addr data chk s) s; unfold execHostWrite; exact lifted _ _
  | hostStatus h chk => show Lifted (execHostStatus h chk s) s; unfold execHostStatus; exact lifted _ _
  | hostSequencedOrder h o chk => show Lifted (execHostSequencedOrder h o chk s) s; unfold execHostSequencedOrder; exact lifted _ _
  | hostBadCommand h cmd => show Lifted (execHostBadCommand h cmd s) s; unfold execHostBadCommand; exact lifted _ _
  | hostSpiAbort => show Lifted (execHostSpiAbort s) s; unfold execHostSpiAbort; exact lifted _ _
  | hostI2cTimeout => show Lifted (execHostI2cTimeout s) s; unfold execHostI2cTimeout; exact lifted _ _
  | hifMbinWrite h v => show Lifted (execHifMbinWrite h v s) s; unfold execHifMbinWrite; exact lifted _ _
  | hifMboutPop r => show Lifted (execHifMboutPop r s) s; unfold execHifMboutPop; exact lifted _ _
  | hifOrdrepPop r => show Lifted (execHifOrdrepPop r s) s; unfold execHifOrdrepPop; exact lifted _ _
  | sdi12Command => show Lifted (execSdi12Command s) s; unfold execSdi12Command; exact lifted _ _
  | sdi12ResponseTimeout => show Lifted (execSdi12ResponseTimeout s) s; unfold execSdi12ResponseTimeout; exact lifted _ _
  | sdi12LineReceived line => show Lifted (execSdi12LineReceived line s) s; unfold execSdi12LineReceived; exact lifted _ _
  | sdi12ServiceRequest address => show Lifted (execSdi12ServiceRequest address s) s; unfold execSdi12ServiceRequest; exact lifted _ _
  | sdi12WaitTimeout => show Lifted (execSdi12WaitTimeout s) s; unfold execSdi12WaitTimeout; exact lifted _ _
  | sdi12BusFault => show Lifted (execSdi12BusFault s) s; unfold execSdi12BusFault; exact lifted _ _
  | sdi12RawWrite w b brk => show Lifted (execSdi12RawWrite w b brk s) s; unfold execSdi12RawWrite; exact lifted _ _
  | sioSdilinePop r => show Lifted (execSioSdilinePop r s) s; unfold execSioSdilinePop; exact lifted _ _
  | uartRxFrame u b => show Lifted (execUartRxFrame u b s) s; unfold execUartRxFrame; exact lifted _ _
  | uartBreak u => show Lifted (execUartBreak u s) s; unfold execUartBreak; exact lifted _ _
  | nmeaSentence text startTick => show Lifted (execNmeaSentence text startTick s) s; unfold execNmeaSentence; exact lifted _ _
  | icTransfer c => show Lifted (execIcTransfer c s) s; unfold execIcTransfer; exact lifted _ _
  | icTransferDone c res data => show Lifted (execIcTransferDone c res data s) s; unfold execIcTransferDone; exact lifted _ _
  | spc0Transfer => show Lifted (execSpc0Transfer s) s; unfold execSpc0Transfer; exact lifted _ _
  | spc0TransferDone data => show Lifted (execSpc0TransferDone data s) s; unfold execSpc0TransferDone; exact lifted _ _
  | gpioEdge p rising => show Lifted (execGpioEdge p rising s) s; unfold execGpioEdge; exact lifted _ _
  | evtSetWrite w v => show Lifted (execEvtSetWrite w v s) s; unfold execEvtSetWrite; exact lifted _ _
  | evtClearWrite w v => show Lifted (execEvtClearWrite w v s) s; unfold execEvtClearWrite; exact lifted _ _
  | evtPulseEnd p => show Lifted (execEvtPulseEnd p s) s; unfold execEvtPulseEnd; exact lifted _ _
  | jtagBypass tdi => show Lifted (execJtagBypass tdi s) s; unfold execJtagBypass; exact lifted _ _
  | jtagIdcode => show Lifted (execJtagIdcode s) s; unfold execJtagIdcode; exact lifted _ _
  | jtagSamplePreload pins scanIn => show Lifted (execJtagSamplePreload pins scanIn s) s; unfold execJtagSamplePreload; exact lifted _ _
  | jtagExtest pins scanIn => show Lifted (execJtagExtest pins scanIn s) s; unfold execJtagExtest; exact lifted _ _
  | dozeEnter => show Lifted (execDozeEnter s) s; unfold execDozeEnter; exact lifted _ _
  | dozeExit => show Lifted (execDozeExit s) s; unfold execDozeExit; exact lifted _ _
  | hibernateRequest => show Lifted (execHibernateRequest s) s; unfold execHibernateRequest; exact lifted _ _
  | hibernateEnter => show Lifted (execHibernateEnter s) s; unfold execHibernateEnter; exact lifted _ _
  | hibernateWake src faultNHigh => show Lifted (execHibernateWake src faultNHigh s) s; unfold execHibernateWake; exact lifted _ _
  | cklfCrystalSwitch => show Lifted (execCklfCrystalSwitch s) s; unfold execCklfCrystalSwitch; exact lifted _ _
  | cklfRcFallback => show Lifted (execCklfRcFallback s) s; unfold execCklfRcFallback; exact lifted _ _
  | wheelTurnCarry n => show Lifted (execWheelTurnCarry n s) s; unfold execWheelTurnCarry; exact lifted _ _
  | stationSecond => show Lifted (execStationSecond s) s; unfold execStationSecond; exact lifted _ _
  | slotMatch n => show Lifted (execSlotMatch n s) s; unfold execSlotMatch; exact lifted _ _
  | referenceEdge n => show Lifted (execReferenceEdge n s) s; unfold execReferenceEdge; exact lifted _ _
  | wheelLossTimeout n => show Lifted (execWheelLossTimeout n s) s; unfold execWheelLossTimeout; exact lifted _ _
  | holdoverExpire n => show Lifted (execHoldoverExpire n s) s; unfold execHoldoverExpire; exact lifted _ _
  | noisyClear n => show Lifted (execNoisyClear n s) s; unfold execNoisyClear; exact lifted _ _
  | w3CklfEdge => show Lifted (execW3CklfEdge s) s; unfold execW3CklfEdge; exact lifted _ _
  | slotCommit n => show Lifted (execSlotCommit n s) s; unfold execSlotCommit; exact lifted _ _
  | sysTimeWrite w v => show Lifted (execSysTimeWrite w v s) s; unfold execSysTimeWrite; exact lifted _ _
  | latchingRead r addr len => show Lifted (execLatchingRead r addr len s) s; unfold execLatchingRead; exact lifted _ _
  | registerWrite w addr data => show Lifted (execRegisterWrite w addr data s) s; unfold execRegisterWrite; exact lifted _ _
  | counterSample nanovolts => show Lifted (execCounterSample nanovolts s) s; unfold execCounterSample; exact lifted _ _
  | currentLimitExit n => show Lifted (execCurrentLimitExit n s) s; unfold execCurrentLimitExit; exact lifted _ _
  | fillAckEdge asserted => show Lifted (execFillAckEdge asserted s) s; unfold execFillAckEdge; exact lifted _ _
  | boostStop c dieC => show Lifted (execBoostStop c dieC s) s; unfold execBoostStop; exact lifted _ _
  | junctionLimit c dieC => show Lifted (execJunctionLimit c dieC s) s; unfold execJunctionLimit; exact lifted _ _
  | vbatPresent => show Lifted (execVbatPresent s) s; unfold execVbatPresent; exact lifted _ _
  | gpioRateLimitExpire p => show Lifted (execGpioRateLimitExpire p s) s; unfold execGpioRateLimitExpire; exact lifted _ _
  | sdi12RawReceive b => show Lifted (execSdi12RawReceive b s) s; unfold execSdi12RawReceive; exact lifted _ _
  | loopProportionalEnd n => show Lifted (execLoopProportionalEnd n s) s; unfold execLoopProportionalEnd; exact lifted _ _

/-- The level rules hold after they have been applied. -/
theorem Chip.settle_settled (c : Chip) : c.settle.Settled := by
  refine ⟨fun h n hn => ?_, fun h hh => ?_, fun h => ?_, fun h => ?_⟩
  · have hc : c.channelsOff = true := by
      by_contra hc
      simp [Chip.settle, hc] at h
    simp [Chip.channelsOff] at hc
    exact hc n hn
  · simp only [Chip.settle, List.mem_filter] at hh
    exact hh.2
  · by_contra hc
    exact h (if_neg hc)
  · by_contra hc
    exact h (if_neg hc)

end Sys2Proof.Machine
end

