-- ==== Sys2Proof/Laws/Row.lean ====
section
/-!
SUPPORT. What the row of a short operation does: once for every unit.
-/
namespace Sys2Proof.Machine

/-- The row of an operation that completes. -/
theorem Chip.row_short (c d : Chip) (t u code : Nat) (f : Chip → OpRes) (h : c.Free t u) (hf : f (c.selectOp t u code) = (d, none)) :
    c.row t u code f = d := by
  obtain ⟨h1, h2⟩ := h
  unfold Chip.row
  rw [if_neg (by simp [h1]), if_neg (by simp [h2]), hf]

/-- The row of an operation that raises an exception: nothing but what has landed stays, and the exception is pending. -/
theorem Chip.row_trap (c d : Chip) (t u code : Nat) (f : Chip → OpRes) (e : Trap) (h : c.Free t u)
    (hf : f (c.selectOp t u code) = (d, some e)) : c.row t u code f = ((c.selectOp t u code).keepLanded d).raiseNow t u 0 e := by
  obtain ⟨h1, h2⟩ := h
  unfold Chip.row
  rw [if_neg (by simp [h1]), if_neg (by simp [h2]), hf]

@[simp] theorem UnitSt.done_q (s : UnitSt) (q fl : Nat) (e : Bool) (r : Nat) : (s.done q fl e r).q = BitVec.ofNat 32 q := rfl
@[simp] theorem UnitSt.done_fl (s : UnitSt) (q fl : Nat) (e : Bool) (r : Nat) : (s.done q fl e r).fl = BitVec.ofNat 8 fl := rfl
@[simp] theorem UnitSt.done_busy (s : UnitSt) (q fl : Nat) (e : Bool) (r : Nat) : (s.done q fl e r).busy = s.busy := rfl
@[simp] theorem UnitSt.select_a (s : UnitSt) (k : Nat) : (s.select k).a = s.a := rfl
@[simp] theorem UnitSt.select_b (s : UnitSt) (k : Nat) : (s.select k).b = s.b := rfl
@[simp] theorem UnitSt.select_q (s : UnitSt) (k : Nat) : (s.select k).q = s.q := rfl
@[simp] theorem UnitSt.select_fl (s : UnitSt) (k : Nat) : (s.select k).fl = s.fl := rfl
@[simp] theorem UnitSt.select_busy (s : UnitSt) (k : Nat) : (s.select k).busy = s.busy := rfl
@[simp] theorem UnitSt.select_u5 (s : UnitSt) (k : Nat) : (s.select k).u5 = s.u5 := rfl
@[simp] theorem UnitSt.select_u6 (s : UnitSt) (k : Nat) : (s.select k).u6 = s.u6 := rfl

@[simp] theorem Chip.unit_selectOp (c : Chip) (t u k : Nat) : (c.selectOp t u k).unit t u = (c.unit t u).select k := by
  simp [Chip.selectOp]
@[simp] theorem Chip.thr_selectOp (c : Chip) (t u k : Nat) : (c.selectOp t u k).thr t = (c.thr t).setUnit u ((c.unit t u).select k) := by
  simp [Chip.selectOp]
@[simp] theorem Chip.unit_finish (c : Chip) (t u q fl : Nat) (e : Bool) (l : Nat) :
    (c.finish t u q fl e l).unit t u = (c.unit t u).done q fl e ((c.core (coreOf t)).cyc + l) := by
  simp [Chip.finish]
@[simp] theorem Chip.thr_finish (c : Chip) (t u q fl : Nat) (e : Bool) (l : Nat) :
    (c.finish t u q fl e l).thr t = (c.thr t).setUnit u ((c.unit t u).done q fl e ((c.core (coreOf t)).cyc + l)) := by
  simp [Chip.finish]
theorem Chip.thr_finish_other (c : Chip) (t r u q fl : Nat) (e : Bool) (l : Nat) (h : r ≠ t) :
    (c.finish t u q fl e l).thr r = c.thr r := Chip.thr_setUnit_other _ _ _ _ _ h
theorem Chip.thr_select_other (c : Chip) (t r u k : Nat) (h : r ≠ t) : (c.selectOp t u k).thr r = c.thr r :=
  Chip.thr_setUnit_other _ _ _ _ _ h

/-- Nothing but threads changes when only threads change. -/
theorem Chip.sameOutside_threads (c : Chip) (l : FMap ThreadSt) : c.SameOutside { c with threads := l }.settle := by
  refine ⟨rfl, rfl, rfl, rfl, rfl, rfl, rfl, rfl, rfl, rfl, rfl, rfl, rfl, rfl, rfl, rfl, rfl, rfl, rfl, rfl, rfl, rfl, rfl⟩

/-- A unit of a thread written twice: only that unit has changed. -/
theorem Chip.onlyUnit_setUnit_setUnit (c : Chip) (t u : Nat) (p q : UnitSt) :
    c.OnlyUnit ((c.setUnit t u p).setUnit t u q).settle t u := by
  refine ⟨fun r hr => ?_, fun v hv => ?_, ?_⟩
  · rw [Chip.thr_settle, Chip.thr_setUnit_other _ _ _ _ _ hr, Chip.thr_setUnit_other _ _ _ _ _ hr]
  · rw [Chip.unit_settle, Chip.unit, Chip.thr_setUnit_self, Chip.thr_setUnit_self, ThreadSt.unit_setUnit_other _ _ _ _ hv,
      ThreadSt.unit_setUnit_other _ _ _ _ hv]
    rfl
  · rw [Chip.thr_settle, Chip.thr_setUnit_self, Chip.thr_setUnit_self]
    rfl

/-- A command that selects an operation of a unit and finishes it there at once. -/
theorem unitDone_of_finish (s : State) (i : Instr) (t u k q fl : Nat) (err : Bool) (lat : Nat)
    (hb : (s.chip.unit t u).busy = none) (hq : q < 2 ^ 32) (hl : fl < 2 ^ 8)
    (he : exec i s = .next { s with chip := ((s.chip.selectOp t u k).finish t u q fl err lat).settle }) : UnitDone i s t u q fl := by
  refine ⟨_, he, rfl, ?_, ?_, ?_, Chip.onlyUnit_setUnit_setUnit _ _ _ _ _, Chip.sameOutside_threads _ _, rfl⟩
  · rw [Chip.unit_settle, Chip.unit_finish, UnitSt.done_q, BitVec.toNat_ofNat, Nat.mod_eq_of_lt hq]
  · rw [Chip.unit_settle, Chip.unit_finish, UnitSt.done_fl, BitVec.toNat_ofNat, Nat.mod_eq_of_lt hl]
  · rw [Chip.unit_settle, Chip.unit_finish, UnitSt.done_busy, Chip.unit_selectOp, UnitSt.select_busy, hb]

/-- The flags of the integer units fit their byte. -/
theorem intFlags_lt (n r : Nat) (c v s : Bool) : intFlags n r c v s < 2 ^ 8 := by
  unfold intFlags b2n
  split <;> split <;> split <;> split <;> split <;> omega

/-- A width code below 3 gives at most 32 bits. -/
theorem pow_bitsOf_le (w : Fin 3) : 2 ^ bitsOf w.val ≤ 2 ^ 32 :=
  Nat.pow_le_pow_right (by decide) (by revert w; decide)

theorem iRes_val_lt (w : Fin 3) (r : Nat) (c v s : Bool) : (iRes (bitsOf w.val) r c v s).val < 2 ^ 32 :=
  lt_of_lt_of_le (Nat.mod_lt _ (by positivity)) (pow_bitsOf_le w)

end Sys2Proof.Machine
end

