-- ==== Sys2Proof/Tests/Slice0.lean ====
section
/-!
SUPPORT. Tests: ill-formed commands, worked values of the spec, and for each statement with hypotheses a state and operands that
meet them, clause by clause.
-/
namespace Sys2Proof.Tests
set_option Elab.async false
open Sys2Proof Sys2Proof.Machine

/-! ### States to test on -/

/-- Every domain ON with power-good, the three banks good, policy running, the Warden CHECKED. -/
def on : Chip :=
  { seq := { doms := (List.range 13).map (fun x => (x, { state := 4, pg := true, passed := true })) }
    regs := [(R.SYS_SUPPLY.addr, 0x700), (R.WDN_STATUS.addr, 4)] }
def st (c : Chip) : State := ⟨[], c⟩
/-- Operands A and B, u5 and u6 at unit `u` of thread `t`. -/
def ab (t u a b : Nat) (c : Chip := on) : Chip := c.setUnit t u { a := BitVec.ofNat 32 a, b := BitVec.ofNat 32 b, u5 := 4, u6 := 9 }
def th (t : Nat) (f : ThreadSt → ThreadSt) (c : Chip := on) : Chip := c.updThr t f
def busy (t u code a b : Nat) (c : Chip := on) : Chip :=
  c.setUnit t u { busy := some { code := code, a := BitVec.ofNat 32 a, b := BitVec.ofNat 32 b, priv := true } }

/-! ### Ill-formed commands -/

def frame (k : Nat) (payload : List Byte) (dst : Nat := 9) (src : Nat := 5) (hseq : Nat := 0) (hop : Nat := 0) (seq : Nat := 3) : Frame :=
  { dst := BitVec.ofNat 13 dst, src := BitVec.ofNat 13 src, kind := BitVec.ofNat 4 k, hop := BitVec.ofNat 6 hop, queue := 5
    seq := BitVec.ofNat 16 seq, flags := 0, epoch := 0, hseq := BitVec.ofNat 4 hseq, payload := payload, tag := none }

theorem test_wf_refuses_empty_host_write : (Instr.hostWrite .spi 0 [] .ok).wf = false := by decide
theorem test_wf_refuses_known_command : (Instr.hostBadCommand .spi 0x40).wf = false := by decide
theorem test_wf_refuses_three_byte_load : (Instr.latchingRead (.main 0) 0 3).wf = false := by decide
theorem test_wf_refuses_three_byte_store : (Instr.registerWrite (.main 0) 0 [1, 2, 3]).wf = false := by decide
theorem test_wf_refuses_long_frame : (Instr.frameReceive 0 (frame 2 (List.replicate 256 0)) true).wf = false := by decide +kernel
theorem test_wf_refuses_tag_without_mac : (Instr.frameForwardStore 0 { frame 2 [] with tag := some 7 }).wf = false := by decide
theorem test_wf_refuses_wrong_type :
    [Instr.beaconReceive 0 (frame 2 []) 0, .weirDataReceive (frame 3 []), .weirAckReceive (frame 3 []), .weirNackReceive (frame 3 []),
     .weirSkipReceive (frame 3 []), .weirGsyncReceive (frame 3 []), .weirResyncReceive (frame 3 []), .weirRejoinReceive (frame 3 []),
     .joinReqReceive 1 (frame 6 []), .joinReplyReceive 0 (frame 5 []), .leaveReceive 1 (frame 8 []), .statusReceive 1 (frame 7 []),
     .presenceReceive 0 (frame 10 []), .noticeReceive 1 (frame 9 []), .orderReceive 0 (frame 4 []), .orderReplyReceive 0 (frame 3 [])].all
      (fun i => !i.wf) = true := by decide
theorem test_wf_refuses_long_line : (Instr.sdi12LineReceived (List.replicate 83 65)).wf = false := by decide +kernel
theorem test_wf_refuses_long_transfers :
    (Instr.icTransferDone 0 .ok (List.replicate 33 0)).wf = false ∧ (Instr.spc0TransferDone (List.replicate 65 0)).wf = false := by decide +kernel
theorem test_wf_refuses_long_sequence : (Instr.adcSequenceDone (List.replicate 17 0)).wf = false := by decide +kernel
theorem test_wf_refuses_ratio : (Instr.gaugeConversion false 0 1001).wf = false := by decide
theorem test_wf_refuses_held_place : (Instr.pebbleHeldRelease 0 8).wf = false := by decide
theorem test_wf_takes_plain_rows : (Instr.add 0 0 2).wf = true ∧ (Instr.frameReceive 0 (frame 2 [1]) true).wf = true := by decide

/-! ### The queue -/

theorem test_step_takes_the_front : (match step { pending := [.bundleIssue 0 .agree, .ppg 16], chip := on } with
    | .next t => t.pending == [.ppg 16] | _ => false) = true := by decide +kernel
theorem witness_StepRunsFront : (⟨[.ppg 16, .plast 16], on⟩ : State).pending = .ppg 16 :: [.plast 16] := rfl
theorem witness_IdleQueue : (st {}).pending = [] ∧ ((st {}).chip.dom dWRD).state < 4 := by decide +kernel
theorem witness_QueueIsFifo : [Instr.plast 16] <:+ [.ppg 16, .plast 16] := by decide
theorem witness_LevelRulesHold : on.Settled := by unfold Chip.Settled; decide +kernel

/-! ### Integer and floating-point units -/

def alu (a b : Nat) : State := st (ab 0 0 a b)
/-- q and fl of the unit after the row. -/
def after (i : Instr) (s : State) (t u : Nat) : Nat × Nat :=
  match exec i s with | .next d => ((d.chip.unit t u).q.toNat, (d.chip.unit t u).fl.toNat) | _ => (0, 0)

theorem test_add16_wraps : after (.add 0 0 1) (alu 0xFFFF 1) 0 0 = (0, 5) := by decide +kernel
theorem test_sub8_borrows : after (.sub 0 0 0) (alu 0 1) 0 0 = (0xFF, 6) := by decide +kernel
theorem test_add32_overflows : after (.add 0 0 2) (alu 0x7FFFFFFF 1) 0 0 = (0x80000000, 0xA) := by decide +kernel
theorem test_adds8_saturates : after (.adds 0 0 0) (alu 0x7F 1) 0 0 = (0x7F, 0x18) := by decide +kernel
theorem test_bswap32 : (after (.bswap 0 2) (st (ab 0 uSHF 0x12345678 0)) 0 uSHF).1 = 0x78563412 := by decide +kernel
theorem test_mulq16_saturates : (after (.mulq 0 1) (st (ab 0 uMUL 0x8000 0x8000)) 0 uMUL).1 = 0x7FFF := by decide +kernel
theorem test_fadd_half : (after (.fadd 0 .fph) (st (ab 0 uFPH 0x3C00 0x3C00)) 0 uFPH).1 = 0x4000 := by decide +kernel
theorem test_fdiv_half_by_zero : (after (.fdiv 0 .fph) (st (ab 0 uFPH 0x3C00 0x8000)) 0 uFPH).1 = 0xFC00 := by decide +kernel

/-- The check values of the three CRCs over the characters 1 to 9 (05, CRC). -/
theorem test_crc_check_values : (List.range 3).map (fun p =>
    (((List.range 9).foldl (fun a i => crcByte p a (BitVec.ofNat 8 (49 + i))) (crcInit p)) ^^^ crcFinal p) % 2 ^ crcWidth p)
    = [0xF4, 0x29B1, 0xE3069283] := by decide +kernel

/-! ### Hypotheses of the statements about units -/

theorem witness_AluRows : (alu 0xFFFFFFFF 1).chip.Free 0 0 ∧ (alu 0 0).chip.Free 7 1 ∧ on.Free 19 0 := by
  unfold Chip.Free; decide +kernel
theorem witness_Shifts : (ab 0 uSHF 0x80000001 255).Free 0 uSHF := by unfold Chip.Free; decide +kernel
theorem witness_Compares : (ab 0 uCMP 5 5).Free 0 uCMP := by unfold Chip.Free; decide +kernel
theorem witness_Multiplies : ((1 : Fin 3) ≠ 2) ∧ (ab 0 uMUL 0xFFFF 0xFFFF).Free 0 uMUL := by unfold Chip.Free; decide +kernel
theorem witness_BitOperations : (ab 0 uBIT 0xFFFF 3).Free 0 uBIT ∧ fieldLen 4 9 ≠ 0 ∧ fieldLen 32 9 = 0 := by unfold Chip.Free; decide +kernel
theorem witness_FphRows : (ab 0 uFPH 0x7BFF 0x7BFF).Free 0 uFPH := by unfold Chip.Free; decide +kernel
theorem witness_RoundingModes : (-5 : Int) ≤ -2 := by decide
theorem witness_FloatSpecials :
    (0x7C01 / 2 ^ 10 % 2 ^ 5 = 31 ∧ 0x7C01 % 2 ^ 10 ≠ 0) ∧ (0 < 0xBC00 / 2 ^ 10 % 2 ^ 5 ∧ 0xBC00 / 2 ^ 10 % 2 ^ 5 < 31 ∧ 0xBC00 / 2 ^ 15 % 2 = 1) ∧
    (0x8000 / 2 ^ 10 % 2 ^ 5 = 0 ∧ 0x8000 % 2 ^ 10 = 0) ∧ (fpFmt true).fb = 10 ∧ (fpFmt true).eb = 5 := by decide +kernel
theorem witness_CrcRows : (ab 0 uCRC 0x31 0).Free 0 uCRC := by unfold Chip.Free; decide +kernel
theorem witness_LongRows : on.Free 0 uFPS ∧ on.Free 0 uMUL ∧ on.Free 0 uCRC ∧ on.Free 0 uQUE ∧ on.Free 0 uMBX ∧ on.Free 16 uMUL ∧ (on.thr 16).exc = none ∧ on.Free 16 uMBX ∧ on.Free 0 uRNG := by
  unfold Chip.Free; decide +kernel
theorem witness_LongResults :
    let op (k : Nat) : LongOp := { code := k, a := 0xFFFFFFFF, b := 0xFFFFFFFF, priv := true }
    (∀ k ∈ [2, 6, 10, 14, 18], ((busy 0 uMUL k 0xFFFFFFFF 0xFFFFFFFF).unit 0 uMUL).busy = some (op k)) ∧
    ((busy 0 uFPS 0 0xFFFFFFFF 0xFFFFFFFF).unit 0 uFPS).busy = some (op 0) ∧ FpOp.ofCode false 0 = some .fadd ∧
    ((busy 0 uMUL 2 0 0).thr 0).hold = .none := by decide +kernel

/-- A privileged thread 0 with addresses and data at its LSU, STRICT or not. -/
def lsu (a : Nat) (strict : Bool) : Chip := th 0 (fun x => { x with priv := true, lsuMode := if strict then 1 else 0 }) (ab 0 uLSU a 0x89ABCDEF)
theorem witness_LoadsFromDmem : (lsu 0xFFFC true).Free 0 uLSU ∧ (lsu 0xFFFC true).domOn dCPU = true ∧
    0xFFFC + 4 ≤ 0x10000 ∧ 0xFFFC % 4 = 0 ∧ (∀ i < 4, (lsu 0xFFFC true).mayAccess 0 false (0xFFFC + i) = true) := by unfold Chip.Free; decide +kernel
theorem witness_StoresToDmem : (lsu 0xFFFF false).Free 0 uLSU ∧ (lsu 0xFFFF false).domOn dCPU = true ∧
    (∀ i < 1, (lsu 0xFFFF false).mayAccess 0 true (0xFFFF + i) = true) ∧ (lsu 0xFFFF false).mayAccess 0 false 0xFFFF = true := by
  unfold Chip.Free; decide +kernel
theorem witness_LsuExceptions :
    ((lsu 0xFFFD true).Free 0 uLSU ∧ (lsu 0xFFFD true).domOn dCPU = true ∧ ((lsu 0xFFFD true).thr 0).exc = none ∧
      ((lsu 0xFFFD true).thr 0).lsuMode.getLsbD 0 = true ∧ 0xFFFD + 2 ≤ 0x10000 ∧ 0xFFFD % 2 ≠ 0) ∧
    ((ab 0 uLSU 0xFFFF 1).Free 0 uLSU ∧ (ab 0 uLSU 0xFFFF 1).mayAccess 0 false 0xFFFF = false ∧ (ab 0 uLSU 0xFFFF 1).mayAccess 0 true 0xFFFF = false) := by
  unfold Chip.Free; decide +kernel
theorem witness_FarAccessesStart : (lsu 0xFFFD false).Free 0 uLSU ∧ ((lsu 0xFFFD false).unit 0 uLSU).a.toNat % 2 ^ 24 + 4 > 0x10000 ∧
    ((lsu 0x10000 false).unit 0 uLSU).a.toNat % 2 ^ 24 ≥ 0x10000 := by unfold Chip.Free; decide +kernel
/-- An unaligned load in STRICT raises alignment at its address (07). -/
theorem test_strict_load_traps : (match exec (.ld 0 1) (st (lsu 0xFFFD true)) with
    | .next d => ((d.chip.thr 0).exc.map (fun e => (e.cause, e.addr))) | _ => none) = some (6, some 0xFFFD) := by decide +kernel
/-- A 16-bit store puts the least significant byte at the lower address (07). -/
theorem test_store_little_endian : (match exec (.st 0 1) (st (lsu 0x10 false)) with
    | .next d => d.chip.mem.dmem | _ => []) = [(0x10, 0xEF), (0x11, 0xCD)] := by decide +kernel

/-! ### Threads -/

def stack (n : Nat) : List (Index × Bool) := List.replicate n (100, true)
def ctl (a b depth : Nat) (priv : Bool) : Chip := th 0 (fun x => { x with stack := stack depth, priv := priv, pc := 77 }) (ab 0 uCTL a b)
theorem witness_Jumps :
    ((ctl 0 5 7 true).thr 0).stack.length < 8 ∧ ((ctl 1 5 1 true).thr 0).stack = (100, true) :: [] ∧ (ctl 1 5 1 true).isPriv 0 = true ∧
    (((ctl 0 5 8 false).thr 0).exc = none ∧ 8 ≤ ((ctl 0 5 8 false).thr 0).stack.length) ∧ ((ctl 0 5 0 false).thr 0).stack = [] ∧
    (ctl 0 5 0 false).isPriv 0 = false ∧ ((ctl 2 5 1 true).isPriv 0 = true ∧ 2 ≤ ((ctl 2 5 1 true).unit 0 uCTL).a.toNat % 256) := by decide +kernel
def waits (mask : Byte) (bells : List Byte) (run : Run) : Chip := th 0 (fun x => { x with waitmask := mask, doorbells := bells, run := run })
theorem witness_ControlRows :
    (((waits 0 [] .active).thr 0).waitmask = 0 ∧ ((waits 0 [] .active).thr 0).exc = none) ∧
    (((waits 1 [7] .active).thr 0).waitmask ≠ 0 ∧ (waits 1 [7] .active).waitPending 0 ≠ 0) ∧
    (((waits 1 [] .active).thr 0).waitmask ≠ 0 ∧ (waits 1 [] .active).waitPending 0 = 0) ∧
    ((on.thr 0).quiet = true ∧ on.rd R.NVM_OWN ≠ originOf 0) ∧ ((busy 0 uMUL 2 1 1).thr 0).quiet = false := by decide +kernel
theorem witness_WakesAndDoorbells : ((waits 1 [7] .waiting).thr 0).run = .waiting ∧ (waits 1 [7] .waiting).waitPending 0 ≠ 0 ∧
    ((waits 1 [7] .waiting).thr 0).exc = none := by decide +kernel
theorem witness_SpawnStartsThread :
    let b := 7 * 2 ^ 16 + 0x7FFF
    8 * (0 / 8) + b / 2 ^ 16 % 8 = 7 ∧ ((ab 0 uCTL 0 b).thr 7).run = .halted ∧ ((ab 16 uCTL 0 (3 * 2 ^ 16)).thr 19).run = .halted ∧
    (4 * 2 ^ 16) / 2 ^ 18 % 2 ≠ 0 ∧ ((th 7 (fun x => { x with run := .active }) (ab 0 uCTL 0 b)).thr 7).run ≠ .halted := by decide +kernel
def sync (l : FMap (Option Byte)) (h : Hold) : Chip := th 0 (fun x => { x with shadow := l, hold := h })
theorem witness_SyncCommits :
    ((sync [(0xC2, some 3), (0xCE, some 0xFF)] .none).thr 0).regShadow = [] ∧
    ((sync [(0xC2, some 3), (0xCE, some 0xFF)] .none).thr 0).shadow = [(0xC2, some 3), (0xCE, some 0xFF)] ∧
    ((sync [(0xF3, some 0xFF)] .none).thr 0).shadow = [(0xF3, some 0xFF)] ∧
    (let c := sync [(0xF3, some 0xFF)] .sync
     (c.thr 0).shadow = [(0xF3, some 0xFF)] ∧ (c.thr 0).hold = .sync ∧
      ∀ r ∈ threadsOf 0, ((c.unit r uLSU).busy = none ∧ (r ≠ 0 → (c.thr r).hold ≠ .sync))) := by decide +kernel
def clocked (l : List (Nat × Nat)) (boost : Bool) : Chip :=
  { on with cores := [(0, l.foldl (fun k e => k.setCsr e.1 e.2) { held := false, boost := boost })] }
theorem witness_ClockSteps :
    ((clocked [] false).core 0).adaptive = false ∧ ((clocked [(0xF0, 1), (0xF4, 180)] true).core 0).adaptive = true ∧
    ((((clocked [(0xF0, 1), (0xF4, 180)] true).core 0).csrv 0xF3 : Nat) : Int) ≤ 110 ∧ 125 < ((clocked [(0xF0, 1), (0xF4, 180)] true).core 0).csrv 0xF4 := by
  decide +kernel
def raised (depth : Nat) : Chip :=
  th 0 (fun x => { x with exc := some { cause := 5, fu := 0x60, pc := 44, resume := 45, addr := some 0xFFFFFF }, stack := stack depth, run := .active, handler := 0x77 })
theorem witness_ExceptionEntry :
    (∀ n ∈ [7, 8], ((raised n).thr 0).exc = some { cause := 5, fu := 0x60, pc := 44, resume := 45, addr := some 0xFFFFFF } ∧ ((raised n).thr 0).quiet = true) ∧
    0xFFFFFF < 2 ^ 24 ∧ ((raised 7).thr 0).stack.length < 8 ∧
    (8 ≤ ((raised 8).thr 0).stack.length ∧ (raised 8).rd R.NVM_OWN ≠ originOf 0 ∧ (raised 8).rd (R.HIF_DBR 2) % 2 = 0) := by decide +kernel
/-- An exception is entered privileged at HANDLER, with the resume index and the old PRIV on the return stack (07). -/
theorem test_exception_entry : (match exec (.exceptionEntry 0) (st (raised 0)) with
    | .next d => ((d.chip.thr 0).pc, (d.chip.thr 0).priv, (d.chip.thr 0).stack) | _ => (0, false, [])) = (0x77, true, [(45, false)]) := by decide +kernel
theorem witness_Timers : on.Free 0 uTMR ∧ (on.thr 0).deadline = none ∧
    ((th 0 (fun x => { x with deadline := some 9 })).thr 0).deadline = some 9 := by unfold Chip.Free; decide +kernel

/-! ### Phases, wheels, slots -/

def wheels (l : List (Nat × Wheel)) (c : Chip := on) : Chip := { c with phw := { c.phw with wheels := l } }
def tick (n : Nat) (c : Chip := on) : Chip := { c with phw := { c.phw with tick := n } }
def src (n k : Nat) (c : Chip := on) : Chip := c.wfld (R.WHn_CTRL n) 0 3 k
/-- Thread 0 asks its PHS about wheel `n`, slot 255. -/
def phs (n b : Nat) (priv : Bool) (c : Chip := on) : Chip :=
  th 0 (fun x => { x with priv := priv }) (c.setUnit 0 uPHS { a := 0xFF, b := BitVec.ofNat 32 b, u5 := BitVec.ofNat 8 n })
theorem witness_PhaseRows :
    (phs 0 5 true).Free 0 uPHS ∧ (phs 0 5 true).src 0 ≠ 3 ∧ (phs 1 5 true).isPriv 0 = true ∧
    ((phs 3 0xFFFF true (wheels [(3, { frac := 2 ^ 48 - 1, turn := 65535 })])).isPriv 0 = true ∧
      (phs 3 0xFFFF true (wheels [(3, { frac := 2 ^ 48 - 1, turn := 65535 })])).phase 3 < 2 ^ 64) ∧
    (phs 0 5 true).mayAccess 0 true (0x820000 + 16 * 255) = true ∧
    ((phs 0 5 false).mayAccess 0 true (0x820000 + 16 * 255) = false ∧ ((phs 0 5 false).thr 0).exc = none ∧ (phs 0 5 false).isPriv 0 = false) := by
  unfold Chip.Free; decide +kernel
theorem witness_MarkAccepted :
    let c := phs 0 5 true (tick 5 (src 0 3))
    c.Free 0 uPHS ∧ (c.unit 0 uPHS).u5.toNat % 4 = 0 ∧ c.src 0 = 3 ∧ c.loopOn 0 = true ∧ (c.wheel 0).state = 0 ∧ (c.wheel 0).lastEdge = none ∧
    ((c.phw.tick + 2 ^ 32 - (c.unit 0 uPHS).b.toNat % 2 ^ 32) % 2 ^ 32) * c.freqNom 0 ≤ 2 ^ 48 := by unfold Chip.Free; decide +kernel
theorem witness_PhaseTickAdvances :
    let c := wheels [(0, { frac := 2 ^ 48 - 1, turn := 65535 })] (tick (2 ^ 64 - 1) ((on.wr (R.WHn_FREQ_NOM 2) 0).wr (R.WHn_FREQ_NOM 3) 0))
    4 ≤ (c.dom dWRD).state ∧ c.phw.pulses = [] ∧ c.phw.launched = [] ∧ c.phw.slots = [] ∧ c.armedSlots = [] ∧ (∀ e ∈ c.threads, e.2.deadline = none) ∧
    (∀ n ∈ [0, 2, 3], (c.wheel n).step = none) ∧ c.freqNom 2 = 0 ∧ c.freqNom 3 = 0 ∧ c.freqNom 0 ≠ 0 ∧ (c.wheel 0).turn < 2 ^ 16 ∧
    (c.wheel 0).frac < 2 ^ 48 := by decide +kernel
/-- A tick of the idle block moves TICKCNT by one and wraps it at its width (03). -/
theorem test_tick_wraps : (match step (st (tick (2 ^ 64 - 1))) with | .next d => d.chip.phw.tick | _ => 1) = 0 := by decide +kernel
theorem witness_WheelEvents :
    (((wheels [(0, { state := 1 })]).wheel 0).state = 1 ∧ ((wheels [(0, { state := 2 })]).wheel 0).state = 2) ∧
    (((wheels [(0, { state := 3 })]).wheel 0).state = 3 ∧ (wheels [(0, { state := 3 })]).rd (R.WHn_HOLD 0) ≠ 0) ∧
    ((wheels [(0, { state := 4 })]).wheel 0).state = 4 := by decide +kernel
theorem witness_ReferenceEdges :
    (let c := tick 100000 (src 0 1)
     c.src 0 = 1 ∧ c.loopOn 0 = true ∧ (c.wheel 0).state = 0 ∧ (c.wheel 0).lastEdge = none) ∧
    (let c := wheels [(0, { lastEdge := some 99000 })] (tick 100000 (src 0 1))
     c.src 0 = 1 ∧ c.loopOn 0 = true ∧ (c.wheel 0).state = 0 ∧ c.guardOk 0 (c.phw.tick - 200) = false ∧ c.rd (R.WHn_REJCNT 0) < 255) ∧
    ((wheels [(0, { state := 2 })]).wheel 0).state = 2 ∧
    (let c := wheels [(3, { frac := 2 ^ 47 - 5 })]
     c.wrdOn = true ∧ (c.wheel 3).state = 0 ∧ c.rbit (R.WHn_CTRL 3) 3 = true ∧ c.freqNom 3 ≠ 0 ∧
      below (c.phaseError 3 c.phw.tick 0) (c.rd (R.WHn_STEPTHR 3)) = false ∧ c.rbit (R.WHn_CTRL 3) 4 = false) := by decide +kernel
theorem witness_StationTime :
    (4 ≤ (on.dom dWRD).state ∧ on.freqNom 0 ≠ 0 ∧ on.armedSlots = [] ∧ on.phw.launched = [] ∧ (on.wheel 0).frac < 2 ^ 48) ∧
    (on.freqNom 3 ≠ 0 ∧ on.src 2 ≠ 6 ∧ on.phw.sysTime.getD ((on.rd R.SYS_TIME + 1) % 2 ^ 32) < 2 ^ 32) ∧
    (let c := ({} : Chip).wr R.SYS_TIME 0xFFFFFFFF
     (c.dom dWRD).state < 4 ∧ c.phw.sysTime.getD ((c.rd R.SYS_TIME + 1) % 2 ^ 32) < 2 ^ 32) := by decide +kernel
/-- Station time wraps at its width (01). -/
theorem test_station_time_wraps : (match exec .stationSecond (st (({} : Chip).wr R.SYS_TIME 0xFFFFFFFF)) with
    | .next d => d.chip.rd R.SYS_TIME | _ => 1) = 0 := by decide +kernel
theorem witness_SlotCommits :
    (let c := on.setSlotAux 255 { commit := some (0x1F, 0x13), staged := [(4, some 0x11)] }
     c.wrdOn = true ∧ (c.slotAux 255).commit = some (0x1F, 0x13) ∧ (c.slotAux 255).disarm = false ∧ (c.slotAux 255).skipWrite = none) ∧
    (let c : Chip := { on with phw := { on.phw with pulses := [(7, 1)] } }
     FMap.get 0 c.phw.pulses 7 ≠ 0 ∧ c.domOn dCPU = true) := by decide +kernel
def slotted : Chip :=
  wheels [(0, { frac := 5, turn := 9 })]
    ((((on.wr (R.SLOT_B0 255) 9).wr (R.SLOT_B1 255) 4).wr (R.SLOT_B2 255) 3).wr (R.SLOT_B4 255) 0x30005000100001000)
theorem witness_SlotMatchActs :
    let c := slotted
    4 ≤ (c.dom dWRD).state ∧ c.domOn dCPU = true ∧ c.armedSlots = [255] ∧ c.slotEn 255 = true ∧ c.slotWheel 255 = 0 ∧ c.freqNom 0 ≠ 0 ∧
    c.phw.launched = [] ∧ (c.wheel 0).frac < 2 ^ 48 ∧ (c.wheel 0).turn < 2 ^ 16 ∧ (c.wheel 0).back = 0 ∧ (c.slotAux 255).count = 0 ∧
    (c.wheel 0).frac < c.slotAngle 255 * 2 ^ 16 ∧ c.slotClass 255 = 1 ∧ c.rfld (R.SLOT_B0 255) 3 2 = 1 ∧ c.slotArg 255 / 8 % 4 = 0 := by decide +kernel

/-! ### Cap engine, Millpond, channels -/

def capped (limit perf overs relax hold : Nat) (thr : Bool) : Chip :=
  ((on.wr R.CAP_STAT (perf + 8 * b2n thr)).wr R.CAP_LIMIT limit).setCapLevels ⟨perf, thr, false, hold, overs, relax⟩
theorem witness_CapEvaluates :
    let k := (capped 100 7 0 0 0 false).capRules
    on.domUp (dCH 2) = true ∧ (capped 100 7 0 0 0 false).capLevels.cut = false ∧ (capped 0 7 0 0 0 false).capRules.limit = 0 ∧
    (k.limit ≠ 0 ∧ k.limit < 101 ∧ 0 < (capped 100 7 0 0 2 false).capLevels.hold) ∧
    ((capped 100 7 0 0 0 false).capLevels.hold = 0 ∧ k.perfMin < (capped 100 7 0 0 0 false).capLevels.perf) ∧
    ((capped 100 0 0 0 0 false).capLevels.perf ≤ k.perfMin ∧ (capped 100 0 0 0 0 false).capLevels.throttle = false) ∧
    (100 ≤ k.limit ∧ 15 * k.limit < 16 * 100) ∧ (93 ≤ k.limit ∧ 16 * 93 ≤ 15 * k.limit) := by decide +kernel
theorem witness_CapCuts :
    let c := capped 100 0 23 0 0 true
    c.domUp (dCH 2) = true ∧ c.capRules.limit ≠ 0 ∧ c.capRules.limit < 101 ∧ c.capLevels.hold = 0 ∧ c.capLevels.perf ≤ c.capRules.perfMin ∧
    c.capLevels.throttle = true ∧ c.capLevels.cut = false ∧ c.capRules.cutN ≠ 0 ∧ c.capRules.thrN + c.capRules.cutN ≤ c.capLevels.overs + 1 ∧
    c.wdn.inboxHw = [] := by decide +kernel
theorem witness_GrantWrites : on.wrdOn = true ∧ on.exhausted = false ∧ on.entry 0 = none ∧ on.wdnState = 0 ∧
    (((on.wr R.WDN_STATUS 5).wr R.GOV_GRANT 2).wdnState = 1 ∧ ((on.wr R.WDN_STATUS 5).wr R.GOV_GRANT 2).rfld R.GOV_GRANT 0 3 < 7) := by decide +kernel
theorem witness_MillpondEvents :
    (({ on with cap := { on.cap with cores := [(0, { due := some 2 })] } } : Chip).mp 0).due = some 2 ∧
    (let c : Chip := { on.wr (R.MP_PROF 2) (2 ^ 32 * 5) with cap := { on.cap with fillDue := some 2 } }
     c.cap.fillDue = some 2 ∧ c.rbit R.CAP_STAT 3 = false ∧ c.profHold 2 ≠ 0) ∧
    on.unaligned = false ∧ ({ on with cap := { on.cap with ackWait := true } } : Chip).cap.ackWait = true ∧
    ((on.wr R.CAP_STAT 0x40).rbit R.CAP_STAT 6 = true ∧ (on.wr R.CAP_STAT 0x40).rbit R.CAP_STAT 5 = false) ∧
    (on.rbit R.SYS_SUPPLY 8 = true ∧ on.cap.stuck = false) := by decide +kernel
def periodic (m : MpCore) : Chip := { (on.wr R.MP_CTRL 1).wr (R.MP_LEVEL 0) 250 with cap := { on.cap with cores := [(0, m)] } }
theorem witness_MillpondPeriod :
    let c := periodic {}
    (c.mode.power ≠ 1 ∧ c.rbit R.MP_CTRL 0 = true ∧ c.domOn dCPU = true ∧ c.unaligned = false ∧ c.rbit R.CAP_STAT 7 = false) ∧
    ((periodic { rampUp := true, prof := 2 }).mp 0).rampUp = true ∧ ((periodic {}).mp 0).hold = 0 ∧ 0 < ((periodic { hold := 1 }).mp 0).hold := by
  decide +kernel
theorem witness_ChannelEvents :
    (∀ n < 8, on.chOn n = true) ∧ intPg 7 = true ∧ ((on.wr (R.CHn_STAT 6) 1).chStat 6 0 = true) ∧
    (on.chStat 7 2 = false ∧ on.rd (R.CHn_LIMCNT 7) < 255) ∧ (on.wr (R.CHn_MODE 2) 2).rbit (R.CHn_MODE 2) 1 = true ∧
    (({ on with chn := [(6, { dir := 1 })] } : Chip).ch 6).dir ≠ 0 := by decide +kernel

/-! ### Fault shut-off, sequencer, restart engine -/

def stats (v : Nat) : Chip := (List.range 8).foldl (fun c n => c.wr (R.CHn_STAT n) v) on
def doms (d : DomSt) (c : Chip := on) : Chip := { c with seq := { c.seq with doms := (List.range 13).map (fun x => (x, d)) } }
def engine (e : Engine) (c : Chip := {}) : Chip := { c with seq := { c.seq with engine := e } }
theorem witness_ShutOffEffect : (on.dom dWRD).state ≠ 0 := by decide +kernel
theorem witness_TripsShutOff :
    (let c := stats 7
     (∀ n < 8, c.chOn n = true ∧ c.chStat n 2 = true ∧ c.chStat n 0 = true) ∧ c.cap.shaping = false) ∧ (chRange 3).isSome = true ∧
    ((on.wbit R.SYS_SUPPLY 4 true).vbatPres = true ∧ on.chg.fetUv = false ∧ on.chg.fetOv = false) ∧
    ((doms { state := 2 }).dom 12).state = 2 ∧ (((doms { state := 3 }).dom 12).state = 3 ∧ ((doms { state := 3 }).dom 12).pg = false) ∧
    ((on.dom 4).passed = true ∧ 4 ≤ (on.dom 4).state) ∧ on.seq.fnDrive = false ∧
    ((on.wr R.WDN_STATUS 6).wdnLost = true ∧ (on.wr R.WDN_STATUS 6).rd R.WDN_LOSTTO ≠ 0) ∧
    (let c := [7, 8, 9, 11].foldl (fun (c : Chip) x => c.setDom x {}) on
     domains.filter (fun y => [6, 7, 8, 9, 11].contains y && c.domOn y) = [6] ∧ (c.dom 6).passed = true ∧ 4 ≤ (c.dom 6).state) := by decide +kernel
theorem witness_SequencerTimers :
    (let c := (on.wr R.SEQ_EN 0x1FFF).setDom 12 { state := 1 }
     (c.dom 12).state = 1 ∧ c.seqHeld = false ∧ (c.domEnable 12).seqTick.seq.doms = (c.domEnable 12).seq.doms) ∧
    (({} : Chip).setDom 0 { state := 1 }).dom 0 = { state := 1 } ∧
    ((doms { state := 2 }).dom 4).state = 2 ∧
    (let c := (on.wr R.SEQ_EN 0x1FFF).setDom 1 { state := 3, pg := true }
     (c.dom 1).state = 3 ∧ (c.dom 1).pg = true ∧
      (c.setDom 1 { c.dom 1 with state := 4, passed := true }).seqTick.seq.doms = (c.setDom 1 { c.dom 1 with state := 4, passed := true }).seq.doms) ∧
    (let c := (on.wr R.SEQ_EN 0x0FFF).setDom 12 { state := 6 }
     (c.dom 12).state = 6 ∧ c.seqHeld = false ∧ (c.domOff 12).seqTick.seq.doms = (c.domOff 12).seq.doms) ∧
    (((doms { state := 2 }).dom 4).passed = false ∧ ((doms { state := 2 }).dom 4).state = 2) := by decide +kernel
theorem witness_RestartEngine :
    ((engine .waitHigh).seq.engine = .waitHigh ∧ (engine .waitHigh).seq.fnDrive = false ∧ (engine .waitHigh).seq.hot = false ∧
      (engine .waitHigh).seq.direct = false) ∧
    ((engine .backoff).seq.engine = .backoff ∧ (engine .backoff).entry 14 = none) ∧ on.domUp dWRD = true ∧
    ((engine .latched (({} : Chip).wr R.SEQ_LONGWAIT 5)).seq.engine = .latched ∧ (engine .latched (({} : Chip).wr R.SEQ_LONGWAIT 5)).rd R.SEQ_LONGWAIT ≠ 0) ∧
    (on.seq.parBad.contains (2 * 12) = false ∧ domains.all (fun y => (on.dom y).state == 0 || (on.dom y).state == 4) = true ∧ on.entry 14 = none) := by
  decide +kernel
/-- A short trip of CH0 stops everything but WRD's intent and records cause 4 (09 SEQ_FREC). -/
theorem test_short_trip : (match exec (.shortTrip 0) (st (stats 7)) with
    | .next d => (d.chip.rd R.SEQ_EN, d.chip.rfld R.SEQ_FREC 0 8, (d.chip.dom 1).state) | _ => (0, 0, 0)) = (1, 4, 0) := by decide +kernel

/-! ### Issue, the Warden, services -/

/-- A bundle of one move. -/
def oneMove (word : Nat) : Bundle := BitVec.ofNat 64 (word + 2 ^ 36 + 2 ^ 56)
def run (t pc : Nat) (c : Chip) : Chip := th t (fun x => { x with run := .active, pc := BitVec.ofNat 15 pc }) c
def running : Chip :=
  { on with cores := (List.range 3).map (fun k => (k, { held := false }))
            mem := { imem := [(0, oneMove 0x0305), (1, oneMove 0x1F00)], wimem := [(5, oneMove 0x28AC), (6, oneMove 0x0305)] } }
theorem witness_CoreCycles :
    (running.coreRuns 2 = true ∧ running.nextThread 2 = none ∧ running.nextThread 0 = none) ∧
    (let c := ((running.wr R.MP_CTRL 1).wr (R.MP_LEVEL 0) 200).updCore 0 (fun k => { k with cyc := 60 })
     c.coreRuns 0 = true ∧ c.nextThread 0 = none ∧ c.fillerDue 0 = true) ∧
    (let c := run 9 1 running
     c.coreRuns 1 = true ∧ c.nextThread 1 = some 9 ∧ coreOf 9 = 1 ∧ c.fetch 9 = some (oneMove 0x1F00) ∧
      bundleWrong (oneMove 0x1F00).toNat 9 (c.isPriv 9) (c.thr 9).guards = none ∧ bundleMoves (oneMove 0x1F00).toNat = [⟨0, 0, some 0x1F, 0, 0⟩] ∧
      bit (oneMove 0x1F00).toNat 62 = false) := by decide +kernel
theorem witness_MismatchRollsBack :
    let c := (run 18 5 running).setUnit 18 uMBX { op := 2, a := 5, b := 7 }
    let r := c.runBundle 18 (oneMove 0x28AC).toNat
    c.coreRuns 2 = true ∧ c.nextThread 2 = some 18 ∧ c.fetch 18 = some (oneMove 0x28AC) ∧ (r.1.outgoing 18 r.2).1 = true ∧
    (bundleMoves (oneMove 0x28AC).toNat).any (fun m => triggerOf m.dst == some uLSU) = false ∧ c.wdn.mmTimes = [] ∧ c.entry 14 = none ∧
    c.rd R.WDN_MMCNT < 255 := by decide +kernel
theorem witness_WardenChecks : ({ running with wdn := { rollback := true, undo := [(3, [1, 2])] } } : Chip).wdn.rollback = true ∧
    (running.exRuns = true ∧ running.wdn.rollback = false ∧ running.wdnState = 0) := by decide +kernel
/-- The Warden's PWR unit with a command for the point `a`, the number `n` after the last commit 5. -/
def pwr (a n state en : Nat) : Chip := ab 16 uPWR a n (((on.wr R.WDN_LASTCOMMIT 5).wr R.WDN_STATUS (4 + state)).wr R.SEQ_EN en)
theorem witness_PowerUnit :
    ((pwr 0x10001 6 0 1).Free 16 uPWR ∧ (pwr 0x10001 6 0 1).rd R.WDN_LASTCOMMIT < 2 ^ 16 ∧ (pwr 0x10001 6 0 1).wdnState = 0) ∧ (pwr 0 6 2 1).wdnState = 2 ∧
    (((pwr 0 5 0 1).unit 16 uPWR).b.toNat % 2 ^ 16 + 2 ^ 16 - (pwr 0 5 0 1).rd R.WDN_LASTCOMMIT) % 2 ^ 16 = 0 ∧
    (let c := { pwr 0x10000 6 0 3 with seq := { on.seq with frozen := true } }
     c.Free 16 uPWR ∧ c.wdnState = 0 ∧ c.exhausted = false ∧ c.entry 0 = none ∧ c.seqHeld = true ∧ c.rd R.WDN_LASTCOMMIT = 5 ∧
      (c.unit 16 uPWR).a.toNat / 2 ^ 16 % 2 ^ 7 = 1 ∧ (c.unit 16 uPWR).a.toNat % 2 ^ 16 < 2) := by unfold Chip.Free; decide +kernel
def msg : WeirEntry := { kind := .data, seq := 65535, cell := 3, len := 21 }
def queued : Chip :=
  { (busy 0 uQUE 1 0x300EB 20 (th 0 (fun x => { x with priv := true }))).wr (R.WEI_DESC 3) (2 ^ 91 + 2 ^ 13 + 2) with weir := { entries := [(3, [msg])] } }
theorem witness_ServiceRetirements :
    let op (k a b : Nat) : LongOp := { code := k, a := BitVec.ofNat 32 a, b := BitVec.ofNat 32 b, priv := true }
    (((busy 0 uMBX 0 0x91 77).unit 0 uMBX).busy = some (op 0 0x91 77) ∧ on.wdn.inboxSw.length < 32) ∧
    (let c := busy 0 uMBX 0 0x91 77 { on with wdn := { inboxSw := List.replicate 32 ⟨1, 2⟩ } }
     (c.unit 0 uMBX).busy = some (op 0 0x91 77) ∧ 32 ≤ c.wdn.inboxSw.length) ∧
    (let c := busy 0 uMBX 2 0 0 (th 0 (fun x => { x with inbox := [⟨3, 7⟩] }))
     (c.unit 0 uMBX).busy = some (op 2 0 0) ∧ (c.thr 0).inbox = ⟨3, 7⟩ :: []) ∧
    ((busy 0 uMBX 2 0 0).thr 0).inbox = [] ∧
    (((busy 0 uQUE 1 0x300EB 20 (on.setDom dWEI {})).unit 0 uQUE).busy = some (op 1 0x300EB 20) ∧ (on.setDom dWEI {}).domOn dWEI = false) ∧
    (let c := queued
     (c.unit 0 uQUE).busy = some (op 1 0x300EB 20) ∧ c.domOn dWEI = true ∧ 0xEB + 21 ≤ 2 ^ 16 ∧ permFault 0 (op 1 0x300EB 20) true 0xEB 21 = none ∧
      c.queStop 0 3 (!c.qOut 3) = none ∧ c.qFrozen 3 = false ∧ c.entries 3 = msg :: []) ∧
    (let c := { queued with weir := {} }
     c.queStop 0 3 (!c.qOut 3) = none ∧ c.entries 3 = []) ∧
    (((busy 0 uRNG 0 0 0).unit 0 uRNG).busy = some (op 0 0 0) ∧ (op 0 0 0).u5.getLsbD 2 = false ∧ (on.drbgTake 1).isNone = true) := by decide +kernel

/-! ### Authority and Ledger -/

def order : OrderRec := { origin := 3, seq := 9, ap := 10, value := 5 }
def rival : OrderRec := { origin := 0x10, seq := 9, ap := 10, value := 6 }
def contested (l : List OrderRec) : Chip := { on with aut := { arb := [(10, some l)] } }
theorem witness_RequestOpensWindow : apFits 49 1 = true ∧ on.originWin 0x10 = {} ∧ FMap.get none on.aut.arb 49 = none := by decide +kernel
theorem witness_WindowCloses :
    (on.rd (R.AUT_LOCK 10) % 2 = 0 ∧ (on.arbitrate 10 [order, rival]).2 = some order) ∧
    (let c := contested [order]
     FMap.get none c.aut.arb 10 = some [order] ∧ (originClass order.origin).isSome = true ∧ c.rd (R.AUT_LOCK 10) % 2 = 0 ∧ c.exhausted = false ∧
      c.ledRefuses = none ∧ c.entry 0 = none ∧ c.wdnState = 0 ∧ c.policyOn = true ∧ c.wdn.inboxHw = []) := by decide +kernel
def waiting : LedEntry := { origin := 3, object := 10, new := 5, oseq := 9, final := false, order := some order }
theorem witness_VerdictsAndLocks :
    (let c := on.setEntry 13 (some waiting)
     c.entry 13 = some waiting ∧ waiting.order = some order ∧ waiting.dup = none ∧ order.reply = .none ∧ (c.originWin 3).held = [] ∧ c.wrdOn = true ∧
      c.wdn.inboxHw = []) ∧
    (on.wr (R.AUT_LOCK 54) 0x301).rbit (R.AUT_LOCK 54) 0 = true := by decide +kernel
def finished : LedEntry := { waiting with seq := some 77, final := true, order := none }
theorem witness_LedgerCommits :
    (let c := { on with led := { pos := 95, staging := [(4, some finished)] } }
     c.wrdOn = true ∧ c.nextCommit = some (4, finished, 77) ∧ c.led.pos < 96 ∧ c.rd R.LED_UNRECCNT = 0 ∧ c.rd R.LED_REFCNT = 0) ∧
    (({ on with led := { erasing := some 5 } } : Chip).led.erasing = some 5 ∧ on.sealErases 5 < 100000) := by decide +kernel

/-! ### Power path, gauge, supplies, modes, boot -/

def charging (phase mode inputs : Nat) (chg : ChgSt := {}) : Chip :=
  { ((((((on.wr R.SYS_SUPPLY (0x700 + inputs)).wr R.CHG_CHEM 2).wr R.CHG_MODE mode).wr R.CHG_VLOW 3000).wr R.CHG_VREG 4200).wr R.CHG_STATE phase).wfld
      R.CHG_STAT 10 3 2 with chg := chg }
theorem witness_ChargePhases :
    (let c := charging phWAIT 1 0x1F
     c.chgPhase = phWAIT ∧ c.vbatPres = true ∧ c.anyInput = true ∧ 2999 < c.rd R.CHG_VLOW * c.cells ∧ c.rd R.CHG_VLOW * c.cells ≤ 3000 ∧ c.chgMode = 1 ∧
      c.chg.prevDone = false ∧ (charging phWAIT 2 0x1F).chgMode = 2) ∧
    (let c := charging phPRE 2 0x1F
     c.chgPhase = phPRE ∧ (c.rd R.CHG_VLOW + 100) * c.cells ≤ 3100 ∧ c.chgMode = 2) ∧
    (let c := charging phPULSE 1 0x1F
     c.chgPhase = phPULSE ∧ c.phaseMayEnd = true) ∧
    (let c := charging (phPULSE + 0x20) 1 0x1F
     c.chgPhase = phPULSE ∧ c.phaseMayEnd = true ∧ c.chg.counting = true ∧ c.belowIterm 0 = true ∧ c.chgCount = 2) ∧
    (let c := charging phREST 1 0x1F
     c.chgPhase = phREST ∧ c.phaseMayEnd = true) ∧
    (let c := charging phDONE 1 0x1F
     c.chgPhase = phDONE ∧ 4000 < c.rechargeLevel) ∧
    (let c := wheels [(0, { state := 2 })] ((charging phREST 1 0x1F { gated := true }).wr R.CHG_CTRL 1)
     c.chg.gated = true ∧ c.gating = true ∧ c.chg.forced = none ∧ c.chgPhase = phREST) := by decide +kernel
theorem witness_ChargeZones :
    (let c := charging phPULSE 1 0x1F
     c.chgRun = true ∧ c.vbatPres = true ∧ c.anyInput = true ∧ c.rbit R.CHG_CTRL 3 = false ∧ c.rfld R.CHG_STAT 10 3 ≠ 4 ∧ c.chgPhase = phPULSE) ∧
    (let c := (charging phHOLD 1 0x1F).wfld R.CHG_STAT 10 3 0
     c.chgRun = true ∧ c.vbatPres = true ∧ c.anyInput = true ∧ c.rbit R.CHG_CTRL 3 = false ∧ c.rfld R.CHG_STAT 10 3 ≠ 1 ∧ c.chgPhase = phHOLD) := by
  decide +kernel
theorem witness_PowerInputs :
    (let c := charging phPULSE 1 0x1F
     c.inputLive 2 = true ∧ c.inputLive 1 = true ∧ c.inputLive 0 = true ∧ c.inputLive 3 = true ∧ c.chg.vocBusy = false ∧ c.inShip = false ∧
      c.rd R.CHG_VOCPER ≠ 0 ∧ c.wrdOn = true) ∧
    (charging phPULSE 1 0x1F { vocBusy := true }).chg.vocBusy = true ∧
    ((on.wr R.CH6_PATH 1).wr (R.CHn_MODE 6) 4).rpShown = true ∧
    ((on.dom (dCH 6)).state = 4 ∧ on.mode.power < 4 ∧ on.wdn.inboxHw = []) ∧ on.vbatPres = false := by decide +kernel
theorem witness_Measurement :
    let seq (l : List Nat) : Chip := { (on.wr (R.GAU_SEQ_HDR 3) 1).wr (R.GAU_SEQ_CH 3) 7 with gau := { running := some 3, queue := l } }
    on.domOn dAFE = true ∧ on.gau.running = none ∧ ((seq []).gau.running = some 3 ∧ (seq []).gau.queue = [] ∧ (31 : Nat) ≠ 3) ∧
    ((seq [5]).adcEntries 3 = [7] ∧ bit ((seq [5]).rd (R.GAU_SEQ_HDR 3)) 8 = false) ∧ on.qacc ≤ 0 := by decide +kernel
/-- A sample of −1 nV through 1 mΩ (the least GAU_RSNS that counts) takes 1 µA·ms from an empty remainder: the counter falls by one µAh and the
remainder is the rest (13). -/
theorem test_counter_borrows : (match exec (.counterSample (-1)) (st (on.wr R.GAU_RSNS 1000)) with
    | .next d => (d.chip.qacc, d.chip.gau.remainder) | _ => (0, 0)) = (-1, 3600000000 - 1000) := by decide +kernel
theorem witness_Rests :
    let r := on.wr R.GAU_STAT 0x100
    (on.domOn dAFE = true ∧ on.rbit R.GAU_STAT 8 = false) ∧ (r.rbit R.GAU_STAT 8 = true ∧ 0 < r.relaxMs ∧ r.rbit R.CHG_STAT 9 = false) ∧
    (let c := on.wr R.GAU_EVT 1
     2 ≤ c.rd R.GAU_CTRL ∧ c.rbit R.GAU_STAT 3 = false ∧ c.gau.forced = false ∧ c.rbit R.GAU_EVT 0 = true ∧ c.wdn.inboxHw = []) ∧
    (let c := (charging phPULSE 1 0x1F).wr R.GAU_STAT 8
     c.rbit R.GAU_STAT 3 = true ∧ c.gau.forced = false ∧ c.chgPhase = phPULSE) ∧
    (let c : Chip := { (charging phREST 1 0x1F { forced := some phPULSE }).wr R.GAU_STAT 8 with gau := { forced := true } }
     c.gau.forced = true ∧ c.chg.forced = some phPULSE ∧ c.rbit R.GAU_STAT 4 = false) ∧ (on.exhausted = false ∧ on.entry 0 = none) := by decide +kernel
theorem witness_Supplies :
    (on.rbit R.SYS_SUPPLY 3 = false ∧ on.mode.power ≠ 5) ∧ (on.wr R.SYS_SUPPLY 0x708).rbit R.SYS_SUPPLY 3 = true ∧ on.rfld R.SYS_SUPPLY 5 3 ≠ 4 ∧
    (({} : Chip).bankGood 2 = false ∧ on.bankGood 2 = true) := by decide +kernel
theorem witness_AonReset : (on.nvm.cmd = none ∧ on.led.erasing = none) ∧ (({} : Chip).sup.up = false ∧ ({} : Chip).seq.fnDrive = false ∧ ({} : Chip).seq.hot = false) := by
  decide +kernel
def mode (f : ModeSt → ModeSt) (c : Chip) : Chip := { c with mode := f c.mode }
/-- Every domain but WRD is OFF. -/
def alone : Chip := (List.range 12).foldl (fun c x => c.setDom (x + 1) {}) on
theorem witness_PowerModes :
    on.mayDoze = true ∧
    (let c := mode (fun m => { m with power := 1 }) (th 0 (fun x => { x with run := .waiting, waitmask := 1, doorbells := [1] }))
     c.mode.power = 1 ∧ c.dozeWake = true) ∧
    (let c := alone
     c.wrdOn = true ∧ c.wdnState ≠ 2 ∧ c.mode.power = 0 ∧ c.othersOff = true ∧ (∀ i ∈ orderEntries, c.handled i = none) ∧ c.exhausted = false ∧ c.entry 0 = none) ∧
    (let c := mode (fun m => { m with power := 2 }) alone
     c.mode.power = 2 ∧ c.ledSettled = true ∧ c.mode.wakePend = none) ∧
    (let c := (mode (fun m => { m with power := 3 }) {}).wr R.SYS_WAKE 4
     c.mode.power = 3 ∧ c.rbit R.SYS_WAKE 2 = true ∧ c.rd R.SYS_WAKECAUSE = 0 ∧ c.seq.fnDrive = false ∧ c.seq.hot = false) ∧ on.mode.deferred = false ∧
    (let c := mode (fun m => { m with power := 4 }) alone
     c.mode.power = 4 ∧ c.mode.deferred = false ∧ c.othersOff = true) ∧
    (let c := mode (fun m => { m with power := 5 }) {}
     c.mode.power = 5 ∧ c.mode.shipLow = false ∧ c.seq.fnLow = false ∧ c.entry 14 = none) := by decide +kernel

/-- A slot image of 200 bytes: magic, version 1, a main section of one bundle of zeros, entry 5 and no second core; a public key of P-256 and its
signature over the 136 bytes before it, made outside the model. -/
def image : Nat := 0x3c416304d3a6e6f00f2a4a08b386dc85692ee35f5ab4fb06b7e78b566b53574d96c298d84539a1f4a033eb2d817d0377f240a463e5e6bcf847422ce1f2d1176b0000000000000000f551bf376840b6cbce5e316b5733ce2b169e0f7c4aebe78e9b7f1afee242e34f96c298d84539a1f4a033eb2d817d0377f240a463e5e6bcf847422ce1f2d1176b000000000000000000000000000000000000000000000000000000000000000000000000000000000000000000000000ffff000500000008000000014d495146
def imaged : Chip :=
  { on.wr R.WDN_LASTCOMMIT 0xFFFF with
      mem := { flash := ((leBytes 200 image).zipIdx.map (fun e => (0x200000 + e.2, e.1))).filter (fun e => e.2 != 0xFF) } }
theorem witness_Boot :
    (let c := (on.wr R.SYS_BOOT 1).wr R.SYS_RSTREC_FLAGS 2 |> fun c => { c with led := { seqSet := true }, nvm := { shadow := [(8, 1)] } }
     c.stage = 1 ∧ c.domUp dWRD = true ∧ c.rd R.OTP_ALARM = 0 ∧ c.led.seqSet = true ∧ c.led.staging = [] ∧ c.sealsNewest = [] ∧
      c.rbit R.SYS_RSTREC_FLAGS 1 = true ∧ c.devKey = false ∧ c.bootPolicy = 0 ∧ c.slotCheck 0 ≠ 0 ∧ c.slotCheck 1 ≠ 0) ∧
    (let r := imaged.pcmd (65536 * dCPU + 1) (imaged.callerNumber 16)
     imaged.policyOn = true ∧ imaged.wdnState ≠ 2 ∧ imaged.mode.loadMain = none ∧ imaged.bootSlot = some 0 ∧ r.2 = 0 ∧ (r.1.dom dCPU).state = 4 ∧
      r.1.bootSlot = some 0 ∧ r.1.mainHalted = true ∧ r.1.imgEntry 0 1 = 0xFFFF) ∧
    ((on.wr R.SYS_BOOT 3).stage = 3 ∧ on.seq.fnDrive = false ∧ on.seq.fnLow = false ∧ on.seq.hot = false ∧ on.wdn.inboxHw = []) := by decide +kernel
/-- The image passes the whole check of 21 R956, its ECDSA signature among it, where LOAD_MAIN makes the check. -/
theorem witness_Boot_image : (imaged.pcmd (65536 * dCPU + 1) (imaged.callerNumber 16)).1.slotCheck 0 = 0 := by decide +kernel

/-! ### NVM, entropy, Pebble, host, JTAG -/

def nvm (a : Nat) : Chip := (on.wr R.NVM_ADDR a).wr R.NVM_OWN 3
def cmd (k a : Nat) : NvmCmd := { code := k, addr := a, data := List.replicate 32 7 }
theorem witness_NvmCommands :
    (on.wrdOn = true ∧ on.rd R.NVM_OWN = 0 ∧ on.nvm.cmd = none) ∧
    ((nvm 0x3FFFFF).rd R.NVM_OWN = wOrigin .spi ∧ (nvm 0x3FFFFF).exhausted = false ∧ (nvm 0x3FFFFF).entry 0 = none ∧
      (nvm 0x3FFFFF).nvmMayWrite .spi = true ∧ (∀ k ∈ [0x01, 0x02, 0x10], (nvm 0x3FFFFF).nvmRefusal k 2800 25 = none) ∧
      (nvm 0x20).nvmRefusal 0x20 3000 85 = none ∧ (nvm 2).nvmRefusal 0x21 3000 0 = none ∧ (nvm 2).nvmRefusal 0x22 3000 0 = none) ∧
    (∀ k ∈ [0x01, 0x10, 0x20], ({ on with nvm := { cmd := some (cmd k 0x3FFFF0) } } : Chip).nvm.cmd = some (cmd k 0x3FFFF0)) ∧
    ((cmd 1 0x3FFFF0).data.length = 32 ∧ on.ecnt 0x1FF < 20000) ∧ ((on.wr R.NVM_STAT 3).rfld R.NVM_STAT 0 3 = 3 ∧ on.rd R.NVM_SUSCNT < 255) := by decide +kernel
theorem witness_Entropy :
    (let c := on.wr R.ENT_STATE 2
     c.entState = 2 ∧ c.wrdOn = true ∧ c.entRestarts < 3 ∧ c.entry 14 = none ∧ c.rd R.ENT_FAILCNT < 255) ∧
    ((on.wr R.ENT_STATE 3).entState = 3 ∧ (on.wr R.ENT_STATE 3).entRestarts < 3) ∧ ((on.wr R.ENT_STATE 1).entState = 1 ∧ (on.wr R.ENT_STATE 1).entRestarts = 0) := by
  decide +kernel
/-- An unlock that expires at `e`, with its tag. -/
def unlock (e : Nat) : Nat := e + 2 ^ 32 * leNat ((on.pebTag e).map (BitVec.ofNat 8))
theorem witness_Pebble :
    (on.pebJudge (unlock 100) = 1 ∧ on.wrdOn = true ∧ on.exhausted = false ∧ on.entry 0 = none) ∧
    ((on.wr R.PEB_EN 0x1F).rbit R.PEB_EN 4 = true ∧ on.entry 14 = none) ∧
    (let c : Chip := { (on.wr R.PEB_EN 0x1F).wr R.PEB_UNLEXP 100 with peb := { unlocked := true, held := [⟨2, false, .link (frame 2 [1]) false, 0⟩] } }
     c.pebActive 2 = true ∧ c.peb.held = [⟨2, false, .link (frame 2 [1]) false, 0⟩]) := by decide +kernel
def reading (a n : Nat) : Chip := { on with hif := { pendingRead := some (.spi, a, n) } }
theorem witness_HostTransactions :
    (on.bankGood 0 = true ∧ on.hostCheck .spi = false ∧ on.hif.pendingRead = none ∧ on.pebActive (hostPebble .spi) = false) ∧
    ((reading 0x100 256).hif.pendingRead = some (.spi, 0x100, 256) ∧ (reading 0x100 256).readStatus (hostReader .spi) 0x100 256 = 0 ∧
      (reading 0x100 256).readEffects 2 0x100 256 = reading 0x100 256) ∧ (on.wr R.HIF_CTRL 4).rbit R.HIF_CTRL 2 = true := by decide +kernel
theorem witness_Jtag : on.jtagLocked = false ∧ on.bankGood 2 = true ∧ on.channelsOff = false ∧ alone.channelsOff = true := by decide +kernel
/-- The identification code that JTAG shifts out (19 R925). -/
theorem test_idcode : (match exec .jtagIdcode (st on) with | .next d => d.chip.jtag.idcode | _ => 0) = 0x17608F4B := by decide +kernel

/-! ### Weir -/

def desc (port : Nat) (out : Bool) (chan : Nat) (frozen : Bool) (en : Bool := true) (base : Nat := 0x10) : Nat :=
  base + 2 * 2 ^ 13 + 5 * 2 ^ 45 + port * 2 ^ 58 + chan * 2 ^ 60 + (if en then 2 ^ 91 else 0) + (if out then 2 ^ 92 else 0) + (if frozen then 2 ^ 93 else 0)
def q5 (d : Nat) (r : QRec) (l : List WeirEntry) (more : WeirSt := {}) : Chip :=
  { on.wr (R.WEI_DESC 5) d with weir := { more with qrec := FMap.set {} [] 5 r, entries := FMap.set [] [] 5 l } }
def stored : List WeirEntry :=
  [{ kind := .data, seq := 3, cell := 0, len := 20 }, { kind := .fence, seq := 4, cell := 2 }, { kind := .data, seq := 5, cell := 2, len := 16 }]
theorem witness_WeirDescriptors :
    (on.domOn dWEI = true ∧ wHost .spi = true ∧ on.qEn 16383 = false ∧ (0 : BitVec 93).getLsbD 91 = false) ∧
    ((BitVec.allOnes 93).getLsbD 91 = true ∧ (on.qrec 16383).pend = false) ∧
    ((q5 (desc 2 true 9 true) { sseq := 6, rseq := 3 } stored).qEn 5 = true ∧ (q5 (desc 2 true 9 true) { sseq := 6, rseq := 3 } stored).qFrozen 5 = true) ∧
    (((q5 (desc 2 false 9 false) { sseq := 6, rseq := 3 } stored).wr R.WEI_QSEL 5).rd R.WEI_QSEL = 5 ∧
      ((q5 (desc 2 false 9 false) { sseq := 6, rseq := 3 } stored).wr R.WEI_QSEL 5).qOut 5 = false) := by decide +kernel
theorem witness_WeirFrames :
    (let c := q5 (desc 2 false 9 false) { sseq := 65535, rseq := 65535 } []
     c.domOn dWEI = true ∧ c.qEn 5 = true ∧ c.qNode 5 = 5 ∧ c.qIn 5 = true ∧ (c.qrec 5).pepoch = 0 ∧ (c.qrec 5).rseq = 65535 ∧ c.qFrozen 5 = false ∧
      cellsUsed (c.entries 5) + (253 + 15) / 16 + 1 ≤ c.qCells 5 ∧ c.rndOfIn 5 = none) ∧
    on.NoSlots ∧ (fld (frame 2 []).flags.toNat 3 2 = 0 ∧ (frame 2 []).queue.toNat = 5 ∧ (frame 2 []).src.toNat = 5 ∧ (frame 2 [] 9 5 0 0 65535).seq.toNat = 65535) ∧
    (4 :: beBytes 2 0x7FFF ++ [1] = [4, 0x7F, 0xFF, 1] ∧ 0x7FFF < 2 ^ 15) ∧
    (let c := { q5 (desc 2 true 9 false) { sseq := 6, rseq := 3 } stored with
                  weir := { (q5 (desc 2 true 9 false) { sseq := 6, rseq := 3 } stored).weir with ackDue := [5] } }
     let j := (c.wr R.TLN_STATE 3).wr (R.TLN_PMAP 0) 0x20
     c.qOut 5 = true ∧ (serialAfter 16 6 3 = true ∧ serialAfter 16 6 6 = false) ∧ (serialAfter 16 3 3 = false ∧ serialAfter 16 3 6 = false) ∧
      j.present 5 = true ∧ 5 ∈ c.weir.ackDue ∧ 1 ≤ c.qPort 5) := by unfold Chip.NoSlots; decide +kernel
theorem witness_WeirControl :
    (on.domOn dWEI = true ∧ (on.grec 1023).bound = false ∧ on.weir.rejFifo.length < 8 ∧ on.rndOfIn 5 = none ∧ on.weir.rejFifo = []) ∧
    (let c := q5 (desc 2 false 9 false) {} []
     c.qNode 5 = 5 ∧ c.qIn 5 = true) ∧
    (({ on with weir := { rejFifo := [(16383, 7)] } } : Chip).weir.rejFifo = (16383, 7) :: [] ∧ (7 : Byte) :: beBytes 2 65535 = [7, 255, 255]) ∧
    (5 : Byte) :: (beBytes 2 1023 ++ beBytes 2 2) = [5, 3, 255, 0, 2] := by decide +kernel
def round (l : List WeirEntry) : Chip :=
  ((q5 (desc 2 true 9 false) { sseq := 6, rseq := 3 } l).wrs
    [(R.RND_CTRL 31, 1), (R.RND_STATE 31, 1), (R.RND_NPART 31, 1), (R.RND_QIN 31, 4), (R.RND_QOUT 31, 5), (R.RND_DB 31, 7), (R.RND_OWNER 31, 3)])
theorem witness_Rounds :
    ((round []).rndEn 31 = true ∧ (round []).rd (R.RND_STATE 31) = 1 ∧ (round []).rfld (R.RND_CTRL 31) 3 2 = 0) ∧
    (let l := stored.map (fun e => { e with expiry := 5, rtag := some 1 })
     let c := wheels [(0, { turn := 6 })] (round l)
     c.rndEn 31 = true ∧ c.rndParts 31 = 1 ∧ c.rndOut 31 0 = 5 ∧ c.qEn 5 = true ∧ c.qOut 5 = true ∧ c.entries 5 = l ∧
      0 < expiredRun (c.wheelTurn (c.rndWheel 31)) l) := by decide +kernel

/-! ### Tarnline -/

def link (role pmode state : Nat) (f : TlnSt → TlnSt := id) (c : Chip := on) : Chip :=
  { c.wrs [(R.TLN_ROLE, role), (R.TLN_PMODE, pmode), (R.TLN_NODEID, if role = 1 then 1 else 9), (R.TLN_STATE, state)] with
      tln := f { role := role, pmode := pmode, nonceH := some 77, routes := [(20, 2), (21, 3)] } }
def ports (l : List (Nat × PortSt)) (t : TlnSt) : TlnSt := { t with ports := l }
def fA : Frame := frame 2 [2] 20 5 15
theorem witness_HopLayer :
    (let c := link 2 0x2A 3 (ports [(0, { alive := true, rxSeq := 15 })])
     c.portOn 0 = true ∧ c.pebActive 0 = false ∧ c.rd (R.TLN_CNT 0) < 0xFFFF ∧ (c.port 0).alive = true ∧ (frame 2 [2] 20 5 14).hseq ≠ (c.port 0).rxSeq ∧
      fA.hseq = (c.port 0).rxSeq ∧ (11 ≤ (frame 11 [] 9 5 15).kind.toNat ∧ c.rd (R.TLN_CNT 6) < 0xFFFF) ∧
      (fA.kind = 2 ∧ fA.dst.toNat ≠ c.nodeId ∧ fA.dst ≠ 0x1FFF ∧ fA.hop ≠ 63 ∧ c.route15 0 fA = some 1 ∧ c.portOn 1 = true ∧ c.bufferFull 1 = false ∧
        c.pmodeOf 1 = 2)) ∧
    (let c := link 2 0x2A 3 (ports [(1, { store := [fA] })])
     fA ∈ (c.port 1).store ∧ (c.port 1).fwd = [] ∧ (c.port 1).window.length < 8) ∧
    ((link 2 0x2A 3 (ports [(1, { fwd := [fA], hackDue := true })])).port 1).fwd = fA :: [] ∧
    (let c := link 2 0x2A 3 (ports [(1, { alive := true, window := [fA, frame 2 [2] 20] })])
     (c.port 1).window = fA :: [frame 2 [2] 20] ∧ ((1 : BitVec 4) - fA.hseq).toNat ≤ 2 ∧ (c.port 1).slot = none ∧ (∀ g ∈ (c.port 1).window, g.tag = none) ∧
      c.rd (R.TLN_CNT 1) < 0xFFFF) := by decide +kernel
/-- The nonce that the DRBG gives from key and V of ones and twos and a filled buffer. -/
def seeded : Chip := { on with ent := { key := List.replicate 16 1, v := List.replicate 16 2, buffer := [1, 2, 3, 4, 5, 6, 7, 8, 9] } }
theorem witness_BeaconsAndSlots :
    (let c := link 1 0x0A 7
     c.rbit R.TLN_AUTH 0 = false ∧ c.headActive = true ∧ c.portOn 1 = true ∧ c.portOn 2 = false ∧ c.pebActive 1 = false ∧ (c.port 1).alive = false ∧
      c.tln.presSeg < 8) ∧
    (let c := link 3 2 1
     c.portOn 0 = true ∧ c.tln.role = roLEAF ∧ c.tstate ≠ tsJOINED ∧ 20 ≤ (beBytes 4 9 ++ beBytes 8 0x1234 ++ beBytes 4 0 ++ beBytes 4 100).length ∧
      (c.wr (R.WHn_CTRL 2) 0).src 2 ≠ 5) ∧
    (let c := link 1 0x2A 1 (fun t => { t with listening := true }) seeded
     c.tln.role = roHEAD ∧ c.tln.listening = true ∧ c.domOn dLNK = true ∧ c.drawNonce.isSome = true) ∧
    (let c := link 2 0x2A 3 id (wheels [(2, { state := 2 })])
     c.portOn 2 = true ∧ (c.port 2).origin = [] ∧ c.contentionAll = false ∧ c.tstate = tsJOINED ∧ c.headActive = false ∧ c.haltLink = false ∧
      c.pebActive 0 = false ∧ (c.port 0).window.length < 8 ∧ c.tln.spoke = false ∧ (c.port 2).slotNext = none) := by decide +kernel
def joinReq (uid : Nat) : Frame := frame 5 (beBytes 8 uid ++ [0, 0, 0, 0, 0, 0] ++ beBytes 8 0x55) 1 0
def joinReply (uid id nonce : Nat) : Frame := frame 6 (beBytes 8 uid ++ beBytes 2 id ++ beBytes 2 300 ++ beBytes 8 nonce ++ [0]) 0 1
theorem witness_Joining :
    (let c := link 2 0x2A 1 id seeded
     c.tln.nonceH.isSome = true ∧ c.haltLink = false ∧ c.tstate ≠ tsJOINED ∧ c.tln.stopped = false ∧ c.portOn 0 = true ∧ c.drawNonce.isSome = true ∧
      (c.port 0).slot = none) ∧
    (let c := link 1 0x2A 7
     c.portOn 2 = true ∧ (∀ e ∈ c.tln.joinTable, e.uid ≠ 42) ∧ c.tln.joinTable.length < 8 ∧ c.headActive = true ∧ c.macOk (joinReq 42) = true ∧
      c.tln.joinFifo.length < 8) ∧
    (let c := link 2 0x2A 3
     c.headActive = false ∧ (joinReq 42).hop = 0 ∧ c.bufferFull 0 = false ∧ c.pmodeOf 0 = 2) ∧
    (let c := link 3 2 2 (fun t => { t with nonceJ := some 0x66 })
     let f := joinReply 0 0x1FFE 0x66
     c.portOn 0 = true ∧ f.kind = 6 ∧ (f.payload.drop 20).headD 0 = 0 ∧ beNat (f.payload.take 8) = FMap.get 0 c.nvm.shadow 0 % 2 ^ 64 ∧ c.tstate ≠ tsJOINED ∧
      c.macOk f = true ∧ c.tln.nonceJ = some (beNat ((f.payload.drop 12).take 8)) ∧ (∀ r < 32, c.rndEn r = false)) ∧
    (let c := link 2 0x2A 3 (fun t => { t with joinTable := [⟨42, 1, 0x55⟩] })
     let f := joinReply 42 33 0x55
     c.tln.joinTable.find? (fun x => x.uid == 42) = some ⟨42, 1, 0x55⟩ ∧ f.hop ≠ 63 ∧ c.bufferFull 1 = false ∧ c.pmodeOf 1 = 2) ∧
    (let c := link 1 0x2A 7 (fun t => { t with joinTable := [⟨42, 1, 0x55⟩], asked := some 42, joinFifo := [1 :: List.replicate 15 0] })
     c.domOn dLNK = true ∧ c.headActive = true ∧ c.tln.asked = some 42 ∧ (c.port 1).slot = none ∧ (300 * 2 ^ 16 + 0x1FFF) / 2 ^ 32 = 0 ∧
      c.tln.joinFifo = (1 :: List.replicate 15 0) :: []) ∧ on.tln.joinFifo = [] := by decide +kernel
theorem witness_LinkMembership :
    (let c := link 2 0x2A 3
     c.domOn dLNK = true ∧ c.tstate = tsJOINED ∧ c.headActive = false ∧ c.portOn 2 = true ∧ c.macOk (frame 7 []) = true ∧ c.rd (R.TLN_CNT 7) < 0xFFFF) ∧
    (let c := link 1 0x2A 7
     c.portOn 2 = true ∧ c.headActive = true ∧ c.tln.joinFifo.length < 8 ∧ c.macOk (frame 8 [1]) = true ∧ c.macOk (frame 10 [1]) = true ∧
      (frame 8 [1]).payload.headD 0 = 1) ∧
    (let c := link 3 2 3
     c.portOn 0 = true ∧ c.macOk (frame 9 [7]) = true ∧ c.tln.role = roLEAF) ∧
    (let c := link 0 0 0 (fun t => { t with role := 3 })
     c.domOn dLNK = true ∧ c.tstate ≠ tsJOINED ∧ c.headActive = false ∧ c.rd R.TLN_ROLE ≠ c.tln.role) ∧
    (let c := (link 3 1 1 (fun t => { t with nonceH := none })).wr R.SYS_BOOT 0xB
     c.haltLink = true ∧ c.domUp dLNK = true ∧ c.tln.nonceH = none ∧ c.tstate ≠ tsJOINED ∧ c.headActive = false) := by decide +kernel
def head3 : WeirEntry := { kind := .data, seq := 3, cell := 0, len := 9 }
def ordering : Chip :=
  (link 2 0x2A 3 (fun t => { t with orderOut := [(5, some 3)] }) (q5 (desc 1 true 0x3FFF false) { sseq := 5, rseq := 3 } [head3])).wr
    (R.WEI_DESC 6) (desc 1 false 0x3FFF false true 0x40)
theorem witness_StringOrders :
    (let c := ordering
     c.portOn 2 = true ∧ c.macOk (frame 3 [1, 0, 1, 0, 0, 0, 0, 0]) = true ∧ (frame 3 []).kind = 3) ∧
    (let c := ordering
     c.orderQueue 5 = true ∧ c.entries 5 = head3 :: [] ∧ FMap.get none c.tln.orderOut 5 = some head3.seq ∧
      c.tln.orderOut = [(5, some (frame 4 [0, 1, 2]).seq.toNat)] ∧ c.qNode 5 = (frame 4 [0, 1, 2]).src.toNat ∧ c.macOk (frame 4 [0, 1, 2]) = true ∧
      c.qEn 6 = true ∧ c.qIn 6 = true ∧ c.qChan 6 = 0x3FFF ∧ c.qNode 6 = c.qNode 5 ∧ cellsUsed (c.entries 6) + 2 ≤ c.qCells 6) ∧
    ordering.NoSlots := by unfold Chip.NoSlots; decide +kernel
theorem witness_StringOrders_answer : ∀ k, ordering.qEn k = true → ordering.qIn k = true → ordering.qChan k = 0x3FFF → ordering.qNode k = ordering.qNode 5 → k = 6 := by
  intro k h1 h2 _ _
  refine Decidable.byContradiction fun h6 => ?_
  by_cases h5 : k = 5
  · subst h5; exact absurd h2 (by decide +kernel)
  · have h : ordering.rd (R.WEI_DESC k) = 0 := by
      have e : ordering.regs = [(8388624, 1792), (8421376, 2), (8421377, 42), (8421378, 9), (8421382, 3), (8454144, 4),
        (8650832, 7427659124313697921380925456), (8650848, 2475898967172176821784428608)] := by decide +kernel
      simp only [Chip.rd, FMap.get, e, FMap.find?, R.WEI_DESC]
      repeat rw [if_neg (by omega)]
      rfl
    simp [Chip.qEn, Chip.rbit, h, bit] at h1

/-! ### Sensor ports and the data map -/

def text (l : List Nat) : List Byte := l.map (BitVec.ofNat 8)
/-- SIO_SDICMD holding a command text, raw mode or not. -/
def sdi (l : List Nat) (raw : Bool := false) : Chip := (on.wr R.SIO_SDICMD (leNat (text l))).wbit R.SIO_SDICMD 121 raw
def sio (f : SioSt → SioSt) (c : Chip := on) : Chip := { c with sio := f c.sio }
def measure (attempts phase : Nat) : SdiCmd := { text := text [51, 77, 33], now := text [51, 77, 33], attempts := attempts, phase := phase, expect := 2 }
theorem witness_Sdi12 :
    (let c := sdi [51, 77, 33]
     c.sioOn = true ∧ c.sdiRaw = false ∧ c.sio.sdi = none ∧ c.sio.sdiLast = none ∧ (sdiKind c.sdiText).isSome = true ∧ c.sio.lines.length < 4) ∧
    ((measure 2 0).phase ≠ 1 ∧ (measure 2 0).attempts < 3 ∧ 3 ≤ (measure 3 0).attempts) ∧
    (sdiKind (text [51, 33]) = some .plain ∧ sdiKind (measure 1 0).text = some (.measure 1 true false 9)) ∧
    (let l := text [51, 48, 48, 53, 50]
     l.length ≤ 82 ∧ decimal ((l.drop 4).take 1) ≠ 0 ∧ decimal ((l.drop 1).take 3) ≠ 0) ∧
    ((measure 1 1).phase = 1 ∧ (measure 1 1).text.head? = some 51) ∧ (sdi [51, 33] true).sdiRaw = true ∧
    ((sio (fun s => { s with sdi := some (measure 1 0) })).sio.sdi = some (measure 1 0)) ∧
    ((sio (fun s => { s with lines := [List.replicate 84 1] })).sio.lines = List.replicate 84 1 :: []) := by decide +kernel
/-- The reply 30052 of a measurement enters the line FIFO and the engine waits for its two values (19, one pressure measurement). -/
theorem test_sdi_measurement : (match exec (.sdi12LineReceived (text [51, 48, 48, 53, 50])) (st (sio (fun s => { s with sdi := some (measure 1 0) }))) with
    | .next d => (d.chip.sio.sdi.map (fun x => (x.phase, x.expect)), d.chip.sio.lines.length) | _ => (none, 0)) = (some (1, 2), 1) := by decide +kernel
def pin (v : Nat) : Chip := on.wr (R.SIO_GP 15) v
theorem witness_PortsAndPins :
    (on.sioOn = true ∧ on.bankGood 2 = true ∧ (FMap.get [] on.sio.uartRx 1).length < 64 ∧ on.sio.nmea.length < 4) ∧
    4 ≤ (sio (fun s => { s with nmea := List.replicate 4 ⟨0, 0, []⟩ })).sio.nmea.length ∧
    (let c := sio (fun s => { s with icBusy := [(1, true)], spcBusy := true })
     FMap.get false c.sio.icBusy 1 = true ∧ c.sio.spcBusy = true) ∧
    ((pin 0x50760).bankGood 1 = true ∧ (pin 0x50760).sup.blanking.contains 1 = false ∧ bit ((pin 0x50760).rfld (R.SIO_GP 15) 5 2) 0 = true ∧
      bit ((pin 0x50760).rfld (R.SIO_GP 15) 5 2) 1 = true ∧ (pin 0x50760).sio.gpioLimited.contains 15 = false) ∧
    (let c := sio (fun s => { s with gpioLimited := [15] }) (pin 0x50760)
     c.sio.gpioLimited.contains 15 = true ∧ c.sio.gpioHeld.contains 15 = false) ∧
    (sio (fun s => { s with gpioLimited := [15], gpioHeld := [15] }) (pin 0x50760)).sio.gpioHeld.contains 15 = true := by decide +kernel
theorem witness_LatchingReads :
    (on.nvm.flashCorr = [] ∧ (∀ k < 8, (th 0 (fun x => { x with priv := true })).mayAccess 0 false (0x800040 + k) = true ∧
        (th 0 (fun x => { x with priv := true })).mayAccess 0 false (0x806100 + k) = true)) ∧
    (on.regOn R.SYS_TIME = true ∧ on.regOn R.TICKCNT = true) ∧ rHost .spi = true ∧
    ((∀ x ∈ latching, within24 0x100 8 x.addr = false) ∧ (∀ i < 16, within24 0x100 8 (0x801110 + i) = false)) ∧
    (on.hif.outbox = [] ∧ on.hif.replies = []) ∧
    (({ on with hif := { outbox := [⟨255, 0xFFFFFFFF⟩], replies := [[1, 2, 3]] } } : Chip).hif.outbox = ⟨255, 0xFFFFFFFF⟩ :: []) := by decide +kernel
theorem witness_HostWrites :
    (on.domOn dCPU = true ∧ 0xFFF0 + (List.replicate 16 (0 : Byte)).length ≤ 0x10000) ∧ region false 0x500000 = .unmapped ∧
    (region false R.CHG_MODE.addr = .control ∧ regAt R.CHG_MODE.addr = some R.CHG_MODE ∧ R.CHG_MODE.acc = .ap ∧ on.regOn R.CHG_MODE = true) ∧
    (on.regOn R.SYS_TIME = true ∧ on.exhausted = false ∧ on.entry 0 = none) ∧
    (on.bankGood 0 = true ∧ on.regOn R.HIF_MBIN = true ∧ (on.thr 15).inbox.length < 8) ∧
    8 ≤ ((th 15 (fun x => { x with inbox := List.replicate 8 ⟨0, 0⟩ })).thr 15).inbox.length := by decide +kernel

/-! ### Worked examples of the spec -/

/-- 04, encoding two lines: the two bundles as the spec writes them out. -/
theorem test_bundle_of_three_moves : bundleMoves 0x4029052044300341 = [⟨0, 0, some 0x03, 0, 0x41⟩, ⟨1, 2, some 0x04, 0, 0x43⟩, ⟨2, 0, some 0x29, 0, 0x05⟩] := by
  decide +kernel
/-- The long immediate leaves c8 = 0x34, c9 = 0x12 and c10 = 0. -/
theorem test_bundle_long_immediate :
    (let c := { (run 0 0 running) with mem := { imem := [(0, 0x8008001234010000)] } }
     match exec (.bundleIssue 0 .agree) (st (c.updThr 0 (fun x => { x with cells := [(10, 7)] }))) with
     | .next d => (d.chip.thr 0).cells | _ => []) = [(8, 0x34), (9, 0x12)] := by decide +kernel
/-- 07, the worked example of a bus-error: a load of the unmapped gap above the Ledger window, the first long operation on the LSU, retires
with cause 7, unit 0x78, TAG 0x71, its address, and 0 in the result ports. -/
theorem test_unmapped_load : (match exec (.ld 0 0) (st (lsu 0x500000 false)) with
    | .next d =>
      (match exec (.longOpRetire 0 7) d with
       | .next e => ((e.chip.thr 0).exc.map (fun x => (x.cause, x.fu, x.tag, x.addr)), (e.chip.unit 0 uLSU).q) | _ => (none, 1))
    | _ => (none, 1)) = (some (7, 0x78, 0x71, some 0x500000), 0) := by decide +kernel
end Sys2Proof.Tests
end

section
/-!
PROOFS. The short rows of SHF and BIT (05 R218, R219, R224, R225): the rule of a row that finishes in its unit, and what each
operation delivers.
-/
namespace Sys2Proof.Machine

/-! ### Bits of a number -/

theorem bit_eq_decide (v i : Nat) : bit v i = decide (v / 2 ^ i % 2 = 1) := rfl

theorem bit_eq_testBit (v i : Nat) : bit v i = v.testBit i := by
  rw [bit_eq_decide, Nat.testBit_eq_decide_div_mod_eq]

/-- The top bit of a value of `n` bits tells which half of the range it lies in. -/
theorem bit_top {n a : Nat} (hn : 0 < n) (ha : a < 2 ^ n) : bit a (n - 1) = decide (2 ^ (n - 1) ≤ a) := by
  rw [bit_eq_testBit]
  by_cases h : 2 ^ (n - 1) ≤ a
  · rw [decide_eq_true h]
    exact Nat.testBit_of_two_pow_le_and_two_pow_add_one_gt h (by rwa [Nat.sub_add_cancel hn])
  · rw [decide_eq_false h]
    exact Nat.testBit_eq_false_of_lt (by omega)

/-- A number cut at a field of `w` bits from `lo`: what lies above, the field, what lies below. -/
theorem eq_above_fld_below (v lo w : Nat) : v = 2 ^ lo * (2 ^ w * (v / 2 ^ lo / 2 ^ w) + fld v lo w) + v % 2 ^ lo := by
  rw [fld, Nat.div_add_mod, Nat.div_add_mod]

theorem putFld_eq_above_fld_below (v lo w x : Nat) :
    putFld v lo w x = 2 ^ lo * (2 ^ w * (v / 2 ^ lo / 2 ^ w) + x % 2 ^ w) + v % 2 ^ lo := by
  have hcut : v = 2 ^ lo * (2 ^ w * (v / 2 ^ lo / 2 ^ w)) + v % 2 ^ lo + fld v lo w * 2 ^ lo := by
    linarith [eq_above_fld_below v lo w]
  rw [putFld, Nat.sub_eq_of_eq_add hcut]
  ring

/-- The bits of a number in three parts. -/
theorem testBit_above_fld_below {h f l lo w : Nat} (hf : f < 2 ^ w) (hl : l < 2 ^ lo) (i : Nat) :
    (2 ^ lo * (2 ^ w * h + f) + l).testBit i =
      if i < lo then l.testBit i else if i - lo < w then f.testBit (i - lo) else h.testBit (i - lo - w) := by
  rw [Nat.testBit_two_pow_mul_add _ hl, Nat.testBit_two_pow_mul_add _ hf]

/-- The bits of a number after its field of `w` bits from `lo` has been replaced by `x`. -/
theorem bit_putFld (v lo w x i : Nat) :
    bit (putFld v lo w x) i = if lo ≤ i ∧ i < lo + w then bit x (i - lo) else bit v i := by
  have hl : v % 2 ^ lo < 2 ^ lo := Nat.mod_lt _ (by positivity)
  have hx : x % 2 ^ w < 2 ^ w := Nat.mod_lt _ (by positivity)
  have hv : v.testBit i = _ := (congrArg (·.testBit i) (eq_above_fld_below v lo w)).trans (testBit_above_fld_below (fld_lt v lo w) hl i)
  simp only [bit_eq_testBit, putFld_eq_above_fld_below, testBit_above_fld_below hx hl, Nat.testBit_mod_two_pow]
  by_cases hlo : i < lo
  · simp [hlo, Nat.not_le.2 hlo]
  · rw [if_neg hlo]
    by_cases hw : i - lo < w
    · rw [if_pos hw, if_pos (by omega), decide_eq_true hw, Bool.true_and]
    · rw [if_neg hw, if_neg (by omega), hv, if_neg hlo, if_neg hw]

/-! ### The rule of a row that finishes in its unit -/

/-- A row of a free unit whose operation finishes there at once. -/
theorem unitDone_of_row {s : State} {i : Instr} {t u k r fl lat : Nat} {f : Chip → OpRes} (hfree : s.chip.Free t u) (hr : r < 2 ^ 32)
    (hfl : fl < 2 ^ 8) (he : exec i s = s.lift (fun c => c.row t u k f))
    (hf : f (s.chip.selectOp t u k) = ((s.chip.selectOp t u k).finish t u r fl false lat, none)) : UnitDone i s t u r fl := by
  refine unitDone_of_finish s i t u k r fl false lat hfree.2 hr hfl ?_
  rw [he, State.lift, Chip.row_short _ _ _ _ _ _ hfree hf]

/-- SHF runs its operation in one step; only bswap of 8 bits has no result (05 R218). -/
theorem unitDone_of_shfRow {s : State} {i : Instr} {t : Thread} {op : ShfOp} {w : Fin 3} {r fl : Nat} (hfree : s.chip.Free t uSHF)
    (hop : ¬ (op = .bswap ∧ w.val = 0)) (hr : r < 2 ^ bitsOf w) (hfl : fl < 2 ^ 8) (he : exec i s = s.lift (shfRow t op w))
    (hres : shfRes op (bitsOf w) (s.chip.opA t uSHF (bitsOf w)) (s.chip.opB t uSHF 8) = ⟨r, fl⟩) : UnitDone i s t uSHF r fl := by
  refine unitDone_of_row hfree (hr.trans_le (pow_bitsOf_le w)) hfl he (lat := 1) ?_
  have hsel : ¬ (2 < w.val ∨ (op = .bswap ∧ w.val = 0)) := not_or.2 ⟨by omega, hop⟩
  rw [shfOp, if_neg hsel]
  simp only [Chip.unit_selectOp, UnitSt.select_a, UnitSt.select_b, operand]
  rw [Chip.opA, Chip.opB] at hres
  rw [hres]

/-- BIT runs its operation in one step, with Z alone in fl (05 R225). -/
theorem unitDone_of_bitRow {s : State} {i : Instr} {t : Thread} {op : BitOp} {w : Fin 3} {r : Nat} (hfree : s.chip.Free t uBIT)
    (hr : r < 2 ^ 32) (he : exec i s = s.lift (bitRow t op w))
    (hres : bitOpRes op w (s.chip.unit t uBIT).a (s.chip.unit t uBIT).b (s.chip.unit t uBIT).u5.toNat (s.chip.unit t uBIT).u6.toNat =
      bitRes r) : UnitDone i s t uBIT r (b2n (decide (r = 0))) := by
  have hfl : b2n (decide (r = 0)) < 2 ^ 8 := by unfold b2n; split <;> decide
  refine unitDone_of_row hfree hr hfl he (lat := 1) ?_
  rw [bitOp, if_neg (by omega)]
  simp only [Chip.unit_selectOp, UnitSt.select_a, UnitSt.select_b, UnitSt.select_u5, UnitSt.select_u6]
  rw [hres, bitRes, Nat.mod_eq_of_lt hr]
  rfl

end Sys2Proof.Machine
end

section
/-!
PROOFS. What each shift delivers (05 R218, R219), and the obligation on them.
-/
namespace Sys2Proof.Machine

/-! ### Signed values -/

theorem toSigned_of_lt {n a : Nat} (ha : a < 2 ^ n) : toSigned n a = if a < 2 ^ (n - 1) then (a : Int) else a - 2 ^ n := by
  simp [toSigned, Nat.mod_eq_of_lt ha]

theorem ofSigned_lt (n : Nat) (x : Int) : ofSigned n x < 2 ^ n := by
  have hpos : (0 : Int) < 2 ^ n := by positivity
  have h1 := Int.emod_nonneg x hpos.ne'
  have h2 := Int.emod_lt_of_pos x hpos
  unfold ofSigned
  zify
  omega

theorem ofSigned_neg_one (n : Nat) : ofSigned n (-1) = 2 ^ n - 1 := by
  have hpos : (0 : Int) < 2 ^ n := by positivity
  rw [ofSigned, ← Int.add_emod_right, Int.emod_eq_of_lt (by omega) (by omega)]
  zify [Nat.one_le_two_pow]
  omega

theorem ofSigned_zero (n : Nat) : ofSigned n 0 = 0 := by simp [ofSigned]

/-- A signed value of `n` bits shifted right by its width or more leaves its sign alone. -/
theorem toSigned_div_of_le {n a k : Nat} (ha : a < 2 ^ n) (hk : n ≤ k) :
    toSigned n a / 2 ^ k = if 2 ^ (n - 1) ≤ a then -1 else 0 := by
  have hnk : (2 : Int) ^ n ≤ 2 ^ k := pow_le_pow_right₀ (by norm_num) hk
  have ha' : (a : Int) < 2 ^ n := by exact_mod_cast ha
  rw [toSigned_of_lt ha]
  by_cases h : 2 ^ (n - 1) ≤ a
  · rw [if_neg (by omega), if_pos h]
    exact Int.ediv_eq_neg_one_of_neg_of_le (by omega) (by omega)
  · rw [if_pos (by omega), if_neg h]
    exact Int.ediv_eq_zero_of_lt (by omega) (by omega)

/-! ### Byte reversal -/

theorem leBytes_length (m v : Nat) : (leBytes m v).length = m := by
  induction m generalizing v with
  | zero => rfl
  | succ m ih => simp [leBytes, ih]

theorem beNat_lt (l : List Byte) : beNat l < 256 ^ l.length := by
  induction l using List.reverseRecOn with
  | nil => simp [beNat]
  | append_singleton l b ih =>
    have hb : b.toNat < 256 := b.isLt
    have happ : beNat (l ++ [b]) = 256 * beNat l + b.toNat := by simp [beNat]
    rw [happ, List.length_append, List.length_singleton, pow_succ]
    omega

theorem byteSwap_lt (w a : Nat) : byteSwap (bitsOf w) a < 2 ^ bitsOf w := by
  have hpow : (2 : Nat) ^ bitsOf w = 256 ^ 2 ^ w := by rw [bitsOf, pow_mul]; norm_num
  have hbytes : bitsOf w / 8 = 2 ^ w := by simp [bitsOf]
  rw [byteSwap, hpow, hbytes]
  simpa [leBytes_length] using beNat_lt (leBytes (2 ^ w) a)

/-! ### What the shifts deliver -/

theorem iRes_of_lt {n r : Nat} (hr : r < 2 ^ n) (c v s : Bool) : iRes n r c v s = ⟨r, intFlags n r c v s⟩ := by
  rw [iRes, Nat.mod_eq_of_lt hr]

section
variable {n a k : Nat} (hn : 0 < n) (ha : a < 2 ^ n)

theorem shfRes_shl : shfRes .shl n a k =
    ⟨a * 2 ^ k % 2 ^ n, intFlags n (a * 2 ^ k % 2 ^ n) (decide (0 < k ∧ k ≤ n ∧ a / 2 ^ (n - k) % 2 = 1)) false false⟩ := by
  have hval : (if k ≥ n then 0 else a * 2 ^ k) % 2 ^ n = a * 2 ^ k % 2 ^ n := by
    split
    case isTrue hk => rw [Nat.zero_mod, Nat.mod_eq_zero_of_dvd (Dvd.dvd.mul_left (pow_dvd_pow 2 hk) a)]
    case isFalse => rfl
  simp only [shfRes, iRes, hval, bit_eq_decide, Nat.pos_iff_ne_zero, Bool.decide_and, Bool.and_assoc]

include ha in
theorem shfRes_shr : shfRes .shr n a k =
    ⟨a / 2 ^ k, intFlags n (a / 2 ^ k) (decide (0 < k ∧ k ≤ n ∧ a / 2 ^ (k - 1) % 2 = 1)) false false⟩ := by
  have hval : (if k ≥ n then 0 else a / 2 ^ k) = a / 2 ^ k := by
    split
    case isTrue hk => rw [Nat.div_eq_of_lt (ha.trans_le (Nat.pow_le_pow_right two_pos hk))]
    case isFalse => rfl
  have hlt : a / 2 ^ k < 2 ^ n := (Nat.div_le_self _ _).trans_lt ha
  simp only [shfRes, hval, iRes_of_lt hlt, bit_eq_decide, Nat.pos_iff_ne_zero, Bool.decide_and, Bool.and_assoc]

include hn ha in
theorem shfRes_sar : shfRes .sar n a k =
    ⟨ofSigned n (toSigned n a / 2 ^ k), intFlags n (ofSigned n (toSigned n a / 2 ^ k))
      (if n ≤ k then decide (2 ^ (n - 1) ≤ a) else decide (0 < k ∧ a / 2 ^ (k - 1) % 2 = 1)) false false⟩ := by
  by_cases hk : n ≤ k
  · have hsign : (if decide (2 ^ (n - 1) ≤ a) then 2 ^ n - 1 else 0) = ofSigned n (toSigned n a / 2 ^ k) := by
      rw [toSigned_div_of_le ha hk]
      by_cases h : 2 ^ (n - 1) ≤ a
      · simp only [h, decide_true, if_true, ofSigned_neg_one]
      · simp only [h, decide_false, if_false, ofSigned_zero, Bool.false_eq_true]
    simp only [shfRes, ge_iff_le, if_pos hk, bit_top hn ha, hsign, iRes_of_lt (ofSigned_lt _ _)]
  · simp only [shfRes, ge_iff_le, if_neg hk, iRes_of_lt (ofSigned_lt _ _), bit_eq_decide, Nat.pos_iff_ne_zero, Bool.decide_and]

theorem shfRes_rol : let m := k % n
    let r := (a * 2 ^ m + a / 2 ^ (n - m)) % 2 ^ n
    shfRes .rol n a k = ⟨r, intFlags n r (decide (m ≠ 0 ∧ r % 2 = 1)) false false⟩ := by
  intro m r
  have hr : r < 2 ^ n := Nat.mod_lt _ (by positivity)
  have hbit : bit r 0 = decide (r % 2 = 1) := by rw [bit_eq_decide, pow_zero, Nat.div_one]
  rw [Bool.decide_and, ← hbit, ← iRes_of_lt hr]
  rfl

include hn in
theorem shfRes_ror : let m := k % n
    let r := (a / 2 ^ m + a * 2 ^ (n - m)) % 2 ^ n
    shfRes .ror n a k = ⟨r, intFlags n r (decide (m ≠ 0 ∧ 2 ^ (n - 1) ≤ r)) false false⟩ := by
  intro m r
  have hr : r < 2 ^ n := Nat.mod_lt _ (by positivity)
  rw [Bool.decide_and, ← bit_top hn hr, ← iRes_of_lt hr]
  rfl

theorem shfRes_shls : let z := toSigned n a * 2 ^ min k n
    let r := ofSigned n (clampSigned n z)
    shfRes .shls n a k = ⟨r, intFlags n r false (!fitsSigned n z) (!fitsSigned n z)⟩ := by
  intro z r
  have hmin : (if k ≥ n then n else k) = min k n := by split <;> omega
  rw [← iRes_of_lt (ofSigned_lt _ _)]
  simp only [shfRes, satRes, hmin]
  rfl

end

theorem shfRes_bswap (w a k : Nat) : shfRes .bswap (bitsOf w) a k =
    ⟨byteSwap (bitsOf w) a, intFlags (bitsOf w) (byteSwap (bitsOf w) a) false false false⟩ := iRes_of_lt (byteSwap_lt w a) _ _ _

/-- Settles O9: every shift is one row of SHF, with the result that `shfRes` gives for it. -/
theorem shifts : Obligations.Shifts := by
  intro s t w hfree n a k m res
  have hn : 0 < n := by simp [n, bitsOf]
  have ha : a < 2 ^ n := Nat.mod_lt _ (by positivity)
  have row {i : Instr} {op : ShfOp} {r : Nat} {c v f : Bool} (he : exec i s = s.lift (shfRow t op w)) (hop : ¬ (op = .bswap ∧ w.val = 0))
      (hr : r < 2 ^ n) (hres : shfRes op n a k = ⟨r, intFlags n r c v f⟩) : UnitDone i s t uSHF r (intFlags n r c v f) :=
    unitDone_of_shfRow hfree hop hr (intFlags_lt _ _ _ _ _) he hres
  have hmod (x : Nat) : x % 2 ^ n < 2 ^ n := Nat.mod_lt _ (by positivity)
  refine ⟨?_, ?_, ?_, ?_, ?_, ?_, fun hw => ?_⟩
  · exact row (op := .shl) rfl (by simp) (hmod _) shfRes_shl
  · exact row (op := .shr) rfl (by simp) ((Nat.div_le_self _ _).trans_lt ha) (shfRes_shr ha)
  · exact row (op := .sar) rfl (by simp) (ofSigned_lt _ _) (shfRes_sar hn ha)
  · exact row (op := .rol) rfl (by simp) (hmod _) shfRes_rol
  · exact row (op := .ror) rfl (by simp) (hmod _) (shfRes_ror hn)
  · exact row (op := .shls) rfl (by simp) (ofSigned_lt _ _) shfRes_shls
  · exact row (op := .bswap) rfl (fun h => hw (Fin.ext h.2)) (byteSwap_lt _ _) (shfRes_bswap _ _ _)

end Sys2Proof.Machine
end

section
/-!
PROOFS. What the counts, the reversal and the field operations of BIT deliver (05 R224, R225), and the obligation on them.
-/
namespace Sys2Proof.Machine

/-! ### Counts and reversal -/

theorem bit_zero_right (a : Nat) : bit a 0 = decide (a % 2 = 1) := by rw [bit_eq_decide, pow_zero, Nat.div_one]

theorem bit_succ (a i : Nat) : bit a (i + 1) = bit (a / 2) i := by
  rw [bit_eq_testBit, bit_eq_testBit, Nat.testBit_add_one]

theorem popcount_eq_length_filter (n a : Nat) : popcount n a = ((List.range n).filter (fun i => bit a i)).length := by
  induction n generalizing a with
  | zero => rfl
  | succ n ih =>
    have htail : (((List.range n).map Nat.succ).filter (fun i => bit a i)).length = popcount n (a / 2) := by
      simp [List.filter_map, Function.comp_def, bit_succ, ih]
    rw [popcount, List.range_succ_eq_map, List.filter_cons, bit_zero_right, ← htail]
    rcases Nat.mod_two_eq_zero_or_one a with h | h
    · simp [h]
    · simp [h, Nat.add_comm]

theorem popcount_le (n a : Nat) : popcount n a ≤ n := by
  rw [popcount_eq_length_filter]
  simpa using List.length_filter_le (fun i => bit a i) (List.range n)

theorem trailingZeros_zero (n : Nat) : trailingZeros n 0 = n := by
  induction n with
  | zero => rfl
  | succ n ih => simp [trailingZeros, ih, Nat.add_comm]

theorem trailingZeros_le (n a : Nat) : trailingZeros n a ≤ n := by
  induction n generalizing a with
  | zero => exact le_rfl
  | succ n ih =>
    have := ih (a / 2)
    rw [trailingZeros]
    split <;> omega

/-- The count of trailing zeros is the place of the lowest set bit. -/
theorem trailingZeros_of_ne_zero {n a : Nat} (ha : a < 2 ^ n) (h0 : a ≠ 0) :
    a % 2 ^ trailingZeros n a = 0 ∧ a / 2 ^ trailingZeros n a % 2 = 1 := by
  induction n generalizing a with
  | zero => exact absurd (Nat.lt_one_iff.1 ha) h0
  | succ n ih =>
    rw [trailingZeros]
    by_cases hodd : a % 2 = 1
    · rw [if_pos hodd, pow_zero, Nat.mod_one, Nat.div_one]
      exact ⟨rfl, hodd⟩
    · obtain ⟨hmod, hdiv⟩ := ih (a := a / 2) (by rw [pow_succ] at ha; omega) (by omega)
      rw [if_neg hodd, Nat.add_comm, pow_succ', Nat.mod_mul, hmod, ← Nat.div_div_eq_div_mul]
      exact ⟨by omega, hdiv⟩

/-- The count of trailing zeros from the bits. -/
theorem trailingZeros_eq_of_bit {n a z : Nat} (hz : z < n) (hset : bit a z = true) (hlow : ∀ i < z, bit a i = false) :
    trailingZeros n a = z := by
  induction n generalizing a z with
  | zero => omega
  | succ n ih =>
    cases z with
    | zero =>
      rw [bit_zero_right, decide_eq_true_eq] at hset
      rw [trailingZeros, if_pos hset]
    | succ z =>
      have heven : ¬ a % 2 = 1 := by
        rw [← decide_eq_false_iff_not, ← bit_zero_right]
        exact hlow 0 z.succ_pos
      have hhalf : trailingZeros n (a / 2) = z :=
        ih (by omega) (by rw [← bit_succ, hset]) (fun i hi => by rw [← bit_succ, hlow _ (by omega)])
      rw [trailingZeros, if_neg heven, hhalf, Nat.add_comm]

theorem bitReverse_zero (n : Nat) : bitReverse n 0 = 0 := by
  induction n with
  | zero => rfl
  | succ n ih => simp [bitReverse, ih]

theorem bitReverse_lt (n a : Nat) : bitReverse n a < 2 ^ n := by
  induction n generalizing a with
  | zero => exact one_pos
  | succ n ih =>
    have := ih (a / 2)
    rw [bitReverse, pow_succ]
    rcases Nat.mod_two_eq_zero_or_one a with h | h <;> rw [h] <;> omega

theorem bit_bitReverse {n i : Nat} (a : Nat) (hi : i < n) : bit (bitReverse n a) i = bit a (n - 1 - i) := by
  induction n generalizing a with
  | zero => omega
  | succ n ih =>
    have hcut : bit (bitReverse (n + 1) a) i = if i < n then bit (bitReverse n (a / 2)) i else (a % 2).testBit (i - n) := by
      rw [bitReverse, Nat.mul_comm, bit_eq_testBit, bit_eq_testBit, Nat.testBit_two_pow_mul_add _ (bitReverse_lt n _)]
    rw [hcut]
    by_cases hin : i < n
    · rw [if_pos hin, ih _ hin, ← bit_succ]
      congr 1
      omega
    · obtain rfl : i = n := by omega
      rw [if_neg hin, Nat.add_sub_cancel, Nat.sub_self, bit_zero_right, ← bit_eq_testBit, bit_zero_right, Nat.mod_mod]

/-- The leading zeros are the trailing zeros of the reversal: its lowest set bit is the highest of `a`. -/
theorem leadingZeros_eq {n a : Nat} (ha : a < 2 ^ n) : leadingZeros n a = if a = 0 then n else n - 1 - Nat.log2 a := by
  by_cases h0 : a = 0
  · rw [if_pos h0, h0, leadingZeros, bitReverse_zero, trailingZeros_zero]
  · have hlog : Nat.log2 a < n := (Nat.log2_lt h0).2 ha
    rw [if_neg h0, leadingZeros]
    refine trailingZeros_eq_of_bit (by omega) ?_ (fun i hi => ?_)
    · rw [bit_bitReverse a (by omega), show n - 1 - (n - 1 - Nat.log2 a) = Nat.log2 a by omega, bit_eq_testBit, Nat.testBit_log2 h0]
    · rw [bit_bitReverse a (by omega), bit_eq_testBit]
      exact Nat.testBit_eq_false_of_lt ((Nat.log2_lt h0).1 (by omega))

/-! ### Fields -/

theorem fieldLen_le (pos len : Nat) : fieldLen pos len ≤ 32 := by
  simp only [fieldLen]
  split_ifs <;> omega

theorem bitRes_mod (r : Nat) : bitRes (r % 2 ^ 32) = bitRes r := by rw [bitRes, bitRes, Nat.mod_mod]

/-- A field written by ins, an empty one among them. -/
theorem insRes_eq (a b pos len : Nat) : insRes a b pos len = bitRes (putFld a pos (fieldLen pos len) b) := by
  rw [insRes]
  split
  case isTrue h => simp [h, putFld, fld, Nat.mod_one]
  case isFalse => rfl

theorem extsRes_eq (a pos len : Nat) : extsRes a pos len =
    bitRes (if fieldLen pos len = 0 then 0 else ofSigned 32 (toSigned (fieldLen pos len) (fld a pos (fieldLen pos len)))) :=
  (apply_ite bitRes _ _ _).symm

theorem bitsOf_le (w : Fin 3) : bitsOf w.val ≤ 32 := by revert w; decide

/-- Settles O12: every count and field operation is one row of BIT, with the result that `bitOpRes` gives for it. -/
theorem bitOperations : Obligations.BitOperations := by
  intro s t w hfree n a v pos len res
  have ha : a < 2 ^ n := Nat.mod_lt _ (by positivity)
  have hn : n ≤ 32 := bitsOf_le w
  have hsmall (x : Nat) (hx : x ≤ n) : x < 2 ^ 32 := by omega
  have hz : (a = 0 → trailingZeros n a = n) ∧ (a ≠ 0 → a % 2 ^ trailingZeros n a = 0 ∧ a / 2 ^ trailingZeros n a % 2 = 1) :=
    ⟨fun h => by rw [h, trailingZeros_zero], trailingZeros_of_ne_zero ha⟩
  refine ⟨?_, ?_, ⟨trailingZeros n a, ?_, hz⟩, ⟨bitReverse n a, ?_, bitReverse_lt n a, fun i hi => bit_bitReverse a hi⟩, ?_, ?_,
    ⟨putFld v pos len (s.chip.unit t uBIT).b.toNat % 2 ^ 32, ?_, fun i hi => ?_⟩⟩
  · rw [← popcount_eq_length_filter]
    exact unitDone_of_bitRow (op := .popcnt) hfree (hsmall _ (popcount_le n a)) rfl rfl
  · rw [← leadingZeros_eq ha]
    exact unitDone_of_bitRow (op := .clz) hfree (hsmall _ (trailingZeros_le n _)) rfl rfl
  · exact unitDone_of_bitRow (op := .ctz) hfree (hsmall _ (trailingZeros_le n a)) rfl rfl
  · exact unitDone_of_bitRow (op := .brev) hfree ((bitReverse_lt n a).trans_le (pow_bitsOf_le w)) rfl rfl
  · have hfld : fld v pos len < 2 ^ 32 := (fld_lt v pos len).trans_le (Nat.pow_le_pow_right two_pos (fieldLen_le _ _))
    exact unitDone_of_bitRow (op := .extu) hfree hfld rfl rfl
  · have hlt : (if len = 0 then 0 else ofSigned 32 (toSigned len (fld v pos len))) < 2 ^ 32 := by
      split
      · exact Nat.two_pow_pos 32
      · exact ofSigned_lt _ _
    exact unitDone_of_bitRow (op := .exts) hfree hlt rfl (extsRes_eq _ _ _)
  · exact unitDone_of_bitRow (op := .ins) hfree (Nat.mod_lt _ (Nat.two_pow_pos 32)) rfl ((insRes_eq _ _ _ _).trans (bitRes_mod _).symm)
  · rw [← bit_putFld, bit_eq_testBit, bit_eq_testBit, Nat.testBit_mod_two_pow, decide_eq_true hi, Bool.true_and]

end Sys2Proof.Machine
end

section
/-!
PROOFS. The rows of CTL (05 R242 to R245, 07 R343, R344): what a change of one thread leaves alone, the rule of a CTL row that
finishes and of one that raises an exception, what each operation answers, and the obligations on jumps and on spawn.
-/
namespace Sys2Proof.Machine

/-! ### Changes of one thread -/

theorem Chip.onlyThr_selectOp (c : Chip) (t u k : Nat) : c.OnlyThr (c.selectOp t u k) t u id := by
  refine ⟨fun r hr => Chip.thr_select_other c t r u k hr, fun v hv => ?_, ?_⟩
  · rw [Chip.unit, Chip.thr_selectOp, ThreadSt.unit_setUnit_other _ _ _ _ hv, Chip.unit]
  · rw [Chip.thr_selectOp]
    rfl

theorem Chip.OnlyThr.finish {c d : Chip} {t u : Nat} {f : ThreadSt → ThreadSt} (h : c.OnlyThr d t u f) (q fl : Nat) (err : Bool) (lat : Nat) :
    c.OnlyThr (d.finish t u q fl err lat) t u f := by
  obtain ⟨hother, hunit, hself⟩ := h
  refine ⟨fun r hr => ?_, fun v hv => ?_, ?_⟩
  · rw [Chip.thr_finish_other _ _ _ _ _ _ _ _ hr, hother r hr]
  · rw [← hunit v hv, Chip.unit, Chip.thr_finish, ThreadSt.unit_setUnit_other _ _ _ _ hv, Chip.unit]
  · rw [Chip.thr_finish, ← hself]
    rfl

/-- A change of a thread that neither reads nor moves its ports. -/
def PortFree (g : ThreadSt → ThreadSt) : Prop := ∀ x l, g { x with units := l } = { g x with units := l }

theorem portFree_pc (p : Index) : PortFree (fun x => { x with pc := p }) := fun _ _ => rfl

theorem PortFree.units {g : ThreadSt → ThreadSt} (hg : PortFree g) (x : ThreadSt) : (g x).units = x.units := by
  have h := congrArg ThreadSt.units (hg x x.units)
  exact h

theorem PortFree.unit_updThr {g : ThreadSt → ThreadSt} (hg : PortFree g) (c : Chip) (t u : Nat) : (c.updThr t g).unit t u = c.unit t u := by
  rw [Chip.unit, Chip.thr_updThr_self, ThreadSt.unit, hg.units]
  rfl

theorem Chip.OnlyThr.updThr {c d : Chip} {t u : Nat} {f g : ThreadSt → ThreadSt} (h : c.OnlyThr d t u f) (hg : PortFree g) :
    c.OnlyThr (d.updThr t g) t u (fun x => g (f x)) := by
  obtain ⟨hother, hunit, hself⟩ := h
  refine ⟨fun r hr => ?_, fun v hv => ?_, ?_⟩
  · rw [Chip.thr_updThr_other _ _ _ _ hr, hother r hr]
  · rw [hg.unit_updThr, hunit v hv]
  · rw [Chip.thr_updThr_self, ← hg, hself, hg]

/-- Nothing but threads differs between two chips. -/
def Chip.SameButThreads (c d : Chip) : Prop := d = { c with threads := d.threads }

theorem Chip.SameButThreads.sameOutside {c d : Chip} (h : c.SameButThreads d) : c.SameOutside d.settle := by
  rw [h]
  exact Chip.sameOutside_threads c d.threads

theorem Chip.SameButThreads.cores {c d : Chip} (h : c.SameButThreads d) : d.settle.cores = c.cores := by
  rw [h]
  rfl

/-! ### The rules of a CTL row -/

section
variable {c d : Chip} {t : Thread} {code fl : Nat} {err : Bool} {target : Option Index}
  (hop : (c.selectOp t uCTL code).ctlOp t code = { chip := d.finish t uCTL 0 fl err 1, target := target })
include hop

/-- A CTL row whose operation does `d` and finishes leaves its bundle behind. -/
theorem ctlRow_of_finish :
    ctlRow t code c = (d.finish t uCTL 0 fl err 1).updThr t (fun x => { x with pc := target.getD ((c.thr t).pc + 1) }) := by
  rw [ctlRow, hop, Chip.thr_selectOp]
  rfl

theorem ctlRow_unit_self : (ctlRow t code c).unit t uCTL = (d.unit t uCTL).done 0 fl err ((d.core (coreOf t)).cyc + 1) := by
  rw [ctlRow_of_finish hop, (portFree_pc _).unit_updThr, Chip.unit_finish]

theorem ctlRow_thr_self : ∃ l, (ctlRow t code c).thr t = { d.thr t with units := l, pc := target.getD ((c.thr t).pc + 1) } := by
  rw [ctlRow_of_finish hop, Chip.thr_updThr_self, Chip.thr_finish]
  exact ⟨_, rfl⟩

theorem ctlRow_thr_other {r : Nat} (hr : r ≠ t) : (ctlRow t code c).thr r = d.thr r := by
  rw [ctlRow_of_finish hop, Chip.thr_updThr_other _ _ _ _ hr, Chip.thr_finish_other _ _ _ _ _ _ _ _ hr]

theorem ctlRow_sameButThreads (hsame : c.SameButThreads d) : c.SameButThreads (ctlRow t code c) := by
  rw [ctlRow_of_finish hop, hsame]
  rfl

end

theorem threadDone_of_ctlRow {s : State} {i : Instr} {t : Thread} {code fl : Nat} {err : Bool} {target : Option Index} {d : Chip}
    {f : ThreadSt → ThreadSt} (hfl : fl < 2 ^ 8) (he : exec i s = s.lift (ctlRow t code))
    (hop : (s.chip.selectOp t uCTL code).ctlOp t code = { chip := d.finish t uCTL 0 fl err 1, target := target })
    (honly : s.chip.OnlyThr d t uCTL f) (hsame : s.chip.SameButThreads d) :
    ThreadDone i s t uCTL 0 fl (fun x => { f x with pc := target.getD (x.pc + 1) }) := by
  have hrest := ctlRow_sameButThreads hop hsame
  refine ⟨_, he, rfl, ?_, ?_, ?_, hrest.sameOutside, hrest.cores⟩
  · rw [Chip.unit_settle, ctlRow_unit_self hop]
    rfl
  · rw [Chip.unit_settle, ctlRow_unit_self hop, UnitSt.done_fl, BitVec.toNat_ofNat, Nat.mod_eq_of_lt hfl]
  · rw [ctlRow_of_finish hop]
    exact (honly.finish 0 fl err 1).updThr (portFree_pc _)

/-- The exception that a trap `e` of unit `u` in slot 0 makes pending at bundle `pc`. -/
def Trap.exc (e : Trap) (u : Nat) (pc : Index) : Exc :=
  { cause := BitVec.ofNat 8 e.cause, fu := unitBase u, pc := pc, addr := e.addr, resume := pc }

theorem Chip.raiseNow_of_exc_none {c : Chip} {t : Nat} (h : (c.thr t).exc = none) (u : Nat) (e : Trap) :
    c.raiseNow t u 0 e = c.updThr t (fun x => { x with exc := some (e.exc u x.pc) }) := by
  simp only [Chip.raiseNow, Chip.raise, h]
  rfl

theorem traps_of_ctlRow {s : State} {i : Instr} {t : Thread} {code cause : Nat} (hexc : (s.chip.thr t).exc = none) (hcause : cause ≠ 0x0A)
    (he : exec i s = s.lift (ctlRow t code))
    (hop : (s.chip.selectOp t uCTL code).ctlOp t code = { chip := s.chip.selectOp t uCTL code, trap := some ⟨cause, none⟩ }) :
    Traps i s t uCTL cause none := by
  let c := s.chip.selectOp t uCTL code
  let g (x : ThreadSt) : ThreadSt := { x with exc := some (Trap.exc ⟨cause, none⟩ uCTL x.pc) }
  have hg : PortFree g := fun _ _ => rfl
  have hsel : (c.thr t).exc = none := by rw [Chip.thr_selectOp]; exact hexc
  have hrow : ctlRow t code s.chip = c.updThr t g := by
    rw [ctlRow, hop]
    simp only [if_neg hcause]
    exact Chip.raiseNow_of_exc_none hsel uCTL _
  have hthr : (c.updThr t g).thr t = g ((s.chip.thr t).setUnit uCTL ((s.chip.unit t uCTL).select code)) := by
    rw [Chip.thr_updThr_self, Chip.thr_selectOp]
  have hrest : s.chip.SameButThreads (c.updThr t g) := rfl
  refine ⟨_, he, rfl, ?_⟩
  rw [hrow]
  refine ⟨⟨Trap.exc ⟨cause, none⟩ uCTL (s.chip.thr t).pc, ?_, rfl, rfl, rfl, rfl, rfl⟩, ?_, hrest.sameOutside, ?_, hrest.cores⟩
  · rw [Chip.thr_settle, hthr]
    rfl
  · obtain ⟨hother, hunit, hself⟩ := (Chip.onlyThr_selectOp s.chip t uCTL code).updThr hg
    refine ⟨hother, hunit, ?_⟩
    rw [Chip.thr_settle, hthr]
    rfl
  · rw [Chip.unit_settle, hg.unit_updThr, Chip.unit_selectOp]
    rfl

/-! ### What the jumps answer -/

section
variable (c : Chip) (t : Nat)

theorem ctlOp_jump : c.ctlOp t 0x00 =
    { chip := c.finish t uCTL 0 0 false 1, target := some (BitVec.ofNat 15 (c.unit t uCTL).b.toNat) } := rfl

theorem ctlOp_ret : c.ctlOp t 0x02 = c.jumpOp t 0x02 (c.unit t uCTL).a.toNat (c.unit t uCTL).b.toNat := rfl

theorem ctlOp_eret : c.ctlOp t 0x03 = c.jumpOp t 0x03 (c.unit t uCTL).a.toNat (c.unit t uCTL).b.toNat := rfl

theorem ctlOp_call_of_room (h : (c.thr t).stack.length < 8) : c.ctlOp t 0x01 =
    { chip := (c.updThr t (fun x => { x with stack := (x.pc + 1, x.priv) :: x.stack })).finish t uCTL 0 0 false 1
      target := some (BitVec.ofNat 15 (c.unit t uCTL).b.toNat) } :=
  if_neg (Nat.not_le.2 h)

theorem ctlOp_call_of_full (h : 8 ≤ (c.thr t).stack.length) : c.ctlOp t 0x01 = { chip := c, trap := some ⟨9, none⟩ } := if_pos h

theorem ctlOp_ret_of_cons {e : Index × Bool} {l : List (Index × Bool)} (h : (c.thr t).stack = e :: l) : c.ctlOp t 0x02 =
    { chip := (c.updThr t (fun x => { x with stack := l })).finish t uCTL 0 0 false 1, target := some e.1 } := by
  rw [ctlOp_ret]
  simp only [Chip.jumpOp, h]
  rfl

theorem ctlOp_ret_of_nil (h : (c.thr t).stack = []) : c.ctlOp t 0x02 = { chip := c, trap := some ⟨9, none⟩ } := by
  rw [ctlOp_ret]
  simp only [Chip.jumpOp, h]

theorem ctlOp_eret_of_cons {e : Index × Bool} {l : List (Index × Bool)} (hpriv : c.isPriv t = true)
    (ha : (c.unit t uCTL).a.toNat % 256 < 2) (h : (c.thr t).stack = e :: l) : c.ctlOp t 0x03 =
    { chip := (c.updThr t (fun x => { x with stack := l, priv := e.2 })).finish t uCTL 0 0 false 1
      target := some (e.1 + BitVec.ofNat 15 ((c.unit t uCTL).a.toNat % 256)) } := by
  rw [ctlOp_eret]
  simp only [Chip.jumpOp, h, hpriv, if_neg (Nat.not_le.2 ha)]
  rfl

theorem ctlOp_eret_of_unprivileged (hpriv : c.isPriv t = false) : c.ctlOp t 0x03 = { chip := c, trap := some ⟨4, none⟩ } := by
  rw [ctlOp_eret]
  simp [Chip.jumpOp, hpriv]

theorem ctlOp_eret_of_operand (hpriv : c.isPriv t = true) (ha : 2 ≤ (c.unit t uCTL).a.toNat % 256) :
    c.ctlOp t 0x03 = { chip := c, trap := some ⟨3, none⟩ } := by
  rw [ctlOp_eret]
  simp [Chip.jumpOp, hpriv, ha]

end

theorem Chip.stack_selectOp (c : Chip) (t u k : Nat) : ((c.selectOp t u k).thr t).stack = (c.thr t).stack := by
  rw [Chip.thr_selectOp]
  rfl

theorem Chip.isPriv_selectOp (c : Chip) (t u k : Nat) : (c.selectOp t u k).isPriv t = c.isPriv t := by
  rw [Chip.isPriv, Chip.thr_selectOp]
  rfl

/-- Settles O21: each jump is one CTL row that either finishes, with its change of the return stack, or raises its exception. -/
theorem jumps : Obligations.Jumps := by
  intro s t x a target
  have honly (k : Nat) : s.chip.OnlyThr (s.chip.selectOp t uCTL k) t uCTL id := Chip.onlyThr_selectOp _ _ _ _
  refine ⟨?_, fun hroom => ?_, fun e l hstack => ⟨?_, fun hpriv ha => ?_⟩,
    fun hexc => ⟨fun hfull => ?_, fun hnil => ?_, fun hpriv => ?_, fun hpriv ha => ?_⟩⟩
  · refine threadDone_of_ctlRow (by decide) rfl ?_ (honly 0x00) rfl (target := some target) (err := false)
    rw [ctlOp_jump, Chip.unit_selectOp]
    rfl
  · refine threadDone_of_ctlRow (by decide) rfl ?_
      ((honly 0x01).updThr (g := fun x => { x with stack := (x.pc + 1, x.priv) :: x.stack }) (fun _ _ => rfl)) rfl
      (target := some target) (err := false)
    rw [ctlOp_call_of_room _ _ (by rwa [Chip.stack_selectOp]), Chip.unit_selectOp]
    rfl
  · exact threadDone_of_ctlRow (by decide) rfl (ctlOp_ret_of_cons _ _ (by rw [Chip.stack_selectOp, hstack]))
      ((honly 0x02).updThr (g := fun x => { x with stack := l }) (fun _ _ => rfl)) rfl
  · refine threadDone_of_ctlRow (by decide) rfl ?_
      ((honly 0x03).updThr (g := fun x => { x with stack := l, priv := e.2 }) (fun _ _ => rfl)) rfl
      (target := some (e.1 + BitVec.ofNat 15 a)) (err := false)
    rw [ctlOp_eret_of_cons _ _ (by rwa [Chip.isPriv_selectOp]) (by rwa [Chip.unit_selectOp]) (by rw [Chip.stack_selectOp, hstack]),
      Chip.unit_selectOp]
    rfl
  · exact traps_of_ctlRow hexc (by decide) rfl (ctlOp_call_of_full _ _ (by rwa [Chip.stack_selectOp]))
  · exact traps_of_ctlRow hexc (by decide) rfl (ctlOp_ret_of_nil _ _ (by rwa [Chip.stack_selectOp]))
  · exact traps_of_ctlRow hexc (by decide) rfl (ctlOp_eret_of_unprivileged _ _ (by rwa [Chip.isPriv_selectOp]))
  · exact traps_of_ctlRow hexc (by decide) rfl
      (ctlOp_eret_of_operand _ _ (by rwa [Chip.isPriv_selectOp]) (by rwa [Chip.unit_selectOp]))

/-! ### Spawn -/

/-- The thread that a spawn of thread `t` with operand `b` names: of its own core, of the Warden s0 to s3 (05 R245, R260). -/
def spawnTarget (t b : Nat) : Nat := if t < 16 then 8 * (t / 8) + b / 2 ^ 16 % 8 else 16 + b / 2 ^ 16 % 4

/-- The operand names a thread: on the Warden bit 18 must be clear. -/
def SpawnNamed (t b : Nat) : Prop := t < 16 ∨ b / 2 ^ 18 % 2 = 0

theorem spawn_fail_iff (t b : Nat) : (if isWarden t then bit b 18 else false) = true ↔ ¬ SpawnNamed t b := by
  by_cases ht : t < 16
  · simp [isWarden, SpawnNamed, ht]
  · simp [isWarden, SpawnNamed, ht, Nat.not_lt.1 ht, bit_eq_decide]

theorem spawnTarget_eq (t b : Nat) : (if isWarden t then 16 + fld b 16 2 else 8 * coreOf t + fld b 16 3) = spawnTarget t b := by
  by_cases ht : t < 16
  · rw [spawnTarget, if_pos ht, isWarden, if_neg (by simpa using ht)]
    rfl
  · rw [spawnTarget, if_neg ht, isWarden, if_pos (by simpa using ht)]
    rfl

theorem Chip.spawnOp_of_fail (c : Chip) {t b : Nat} (h : ¬ SpawnNamed t b ∨ (c.thr (spawnTarget t b)).run ≠ .halted) :
    c.spawnOp t b = c.finish t uCTL 0 0x80 true 1 := by
  simp only [Chip.spawnOp, spawnTarget_eq]
  rw [if_pos]
  rw [Bool.or_eq_true, spawn_fail_iff, bne_iff_ne]
  exact h

theorem Chip.spawnOp_of_halted (c : Chip) {t b : Nat} (hnamed : SpawnNamed t b) (hrun : (c.thr (spawnTarget t b)).run = .halted) :
    c.spawnOp t b = (c.updThr (spawnTarget t b) (fun x => x.start (BitVec.ofNat 15 b)
      (isWarden t || (bit b 19 && c.isPriv t)))).finish t uCTL 0 0 false 1 := by
  simp only [Chip.spawnOp, spawnTarget_eq]
  rw [if_neg]
  rw [Bool.or_eq_true, spawn_fail_iff, bne_iff_ne]
  exact not_or.2 ⟨not_not.2 hnamed, not_not.2 hrun⟩

theorem ctlOp_spawn (c : Chip) (t : Nat) : c.ctlOp t 0x06 = { chip := c.spawnOp t (c.unit t uCTL).b.toNat } := rfl

theorem Chip.run_selectOp (c : Chip) (t u k n : Nat) : ((c.selectOp t u k).thr n).run = (c.thr n).run := by
  by_cases hn : n = t
  · rw [hn, Chip.thr_selectOp]
    rfl
  · rw [Chip.thr_select_other _ _ _ _ _ hn]

/-- The privilege of a thread that `t` starts (04 R190, 05 R245). -/
theorem spawn_priv (c : Chip) (t b : Nat) : (isWarden t || (bit b 19 && c.isPriv t)) =
    (decide (16 ≤ t) || (decide (b / 2 ^ 19 % 2 = 1) && (c.thr t).priv)) := by
  rw [Chip.isPriv, isWarden, bit_eq_decide]
  cases decide (16 ≤ t) <;> simp

theorem threadDone_spawn_of_fail {s : State} {t : Thread} (h : ¬ SpawnNamed t (s.chip.unit t uCTL).b.toNat ∨
      (s.chip.thr (spawnTarget t (s.chip.unit t uCTL).b.toNat)).run ≠ .halted) :
    ThreadDone (.spawn t) s t uCTL 0 0x80 (fun x => { x with pc := x.pc + 1 }) := by
  refine threadDone_of_ctlRow (by decide) rfl ?_ (Chip.onlyThr_selectOp s.chip t uCTL 0x06) rfl (target := none) (err := true)
  rw [ctlOp_spawn, Chip.unit_selectOp, UnitSt.select_b, Chip.spawnOp_of_fail _ (by rwa [Chip.run_selectOp])]

/-- Settles O23: a spawn is one CTL row, which starts its target when that is named and halted and else shows FAIL. -/
theorem spawnStartsThread : Obligations.SpawnStartsThread := by
  intro s t b n named
  refine ⟨fun hn hnamed hrun => ?_, threadDone_spawn_of_fail⟩
  let c := s.chip.selectOp t uCTL 0x06
  let start (x : ThreadSt) : ThreadSt := x.start (BitVec.ofNat 15 b) (isWarden t || (bit b 19 && c.isPriv t))
  have hop : c.ctlOp t 0x06 = { chip := (c.updThr n start).finish t uCTL 0 0 false 1 } := by
    rw [ctlOp_spawn, Chip.unit_selectOp, UnitSt.select_b, Chip.spawnOp_of_halted _ hnamed (by rw [Chip.run_selectOp]; exact hrun)]
    rfl
  have hrest := ctlRow_sameButThreads hop rfl
  obtain ⟨l, hself⟩ := ctlRow_thr_self hop
  rw [Chip.thr_updThr_other _ _ _ _ (Ne.symm hn), show c.thr t = _ from Chip.thr_selectOp _ _ _ _] at hself
  refine ⟨_, rfl, rfl, ?_, ?_, ?_, ?_, fun r hr hrn => ?_, hrest.sameOutside, hrest.cores⟩
  · rw [Chip.thr_settle, ctlRow_thr_other hop hn, Chip.thr_updThr_self, Chip.thr_select_other _ _ _ _ _ hn, ← spawn_priv,
      ← Chip.isPriv_selectOp]
    rfl
  · rw [Chip.unit_settle, ctlRow_unit_self hop]
    rfl
  · rw [Chip.thr_settle, hself]
    rfl
  · rw [Chip.thr_settle, hself]
    rfl
  · rw [Chip.thr_settle, ctlRow_thr_other hop hr, Chip.thr_updThr_other _ _ _ _ hrn, Chip.thr_select_other _ _ _ _ _ hr]

end Sys2Proof.Machine
end

section
/-!
PROOFS. The queue, the step and the level rules (02 R88, 18 R861, R880, 19 R927): what every command leaves, and the state of reset.
-/
namespace Sys2Proof.Machine

theorem State.lift_eq (s : State) (f : Chip → Chip) : s.lift f = .next { s with chip := (f s.chip).settle } := rfl

theorem step_of_cons {s : State} {i : Instr} {rest : List Instr} (h : s.pending = i :: rest) :
    step s = exec i { s with pending := rest } := by
  simp only [step, h]

theorem step_of_nil {s : State} (h : s.pending = []) : step s = s.lift Chip.phaseTick := by
  simp only [step, h]

/-- What any command can do: the queue stands, and the level rules are the last thing it applies. -/
theorem exec_next (i : Instr) (s : State) : ∃ c : Chip, exec i s = .next { s with chip := c.settle } := by
  obtain ⟨f, hf⟩ := exec_lifted i s
  exact ⟨f s.chip, hf⟩

/-- A command whose effect on the chip is `d` before the level rules. -/
theorem exec_eq_of_lift {i : Instr} {s : State} {f : Chip → Chip} {d : Chip} (he : exec i s = s.lift f) (hd : f s.chip = d) :
    exec i s = .next { s with chip := d.settle } := by
  rw [he, State.lift_eq, hd]

theorem does_of_exec {i : Instr} {s : State} {d : Chip} {P : Chip → Prop} (he : exec i s = .next { s with chip := d.settle })
    (hP : P d.settle) : Does i s P := ⟨_, he, rfl, hP⟩

theorem does_of_lift {i : Instr} {s : State} {f : Chip → Chip} {d : Chip} {P : Chip → Prop} (he : exec i s = s.lift f) (hd : f s.chip = d)
    (hP : P d.settle) : Does i s P := does_of_exec (exec_eq_of_lift he hd) hP

/-- What any step can do: it takes at most the front of the queue, and the level rules are the last thing it applies. -/
theorem step_next (s : State) : ∃ c : Chip, step s = .next ⟨s.pending.tail, c.settle⟩ := by
  cases hq : s.pending with
  | nil => exact ⟨s.chip.phaseTick, by rw [step_of_nil hq, State.lift_eq, hq]; rfl⟩
  | cons i rest =>
    obtain ⟨c, hc⟩ := exec_next i { s with pending := rest }
    exact ⟨c, by rw [step_of_cons hq, hc]; rfl⟩

/-- Settles O4: whatever a step does, it applies the level rules last. -/
theorem levelRulesHold : Obligations.LevelRulesHold := by
  intro s t _ hstep
  obtain ⟨c, hc⟩ := step_next s
  obtain rfl : ⟨_, c.settle⟩ = t := Host.Outcome.next.inj (hc.symm.trans hstep)
  exact c.settle_settled

/-- Settles O1. -/
theorem stepRunsFront : Obligations.StepRunsFront := fun _ _ _ h => step_of_cons h

/-- Settles O2: every command is an effect on the chip. -/
theorem everyCommandCompletes : Obligations.EveryCommandCompletes := by
  intro i s
  obtain ⟨c, hc⟩ := exec_next i s
  exact ⟨_, hc, rfl, trivial⟩

/-- Settles O3: a step leaves the tail of the queue. -/
theorem queueIsFifo : Obligations.QueueIsFifo := by
  intro sent s t hsent hstep
  obtain ⟨c, hc⟩ := step_next s
  obtain rfl : ⟨s.pending.tail, c.settle⟩ = t := Host.Outcome.next.inj (hc.symm.trans hstep)
  exact (List.tail_suffix _).trans hsent

/-- Settles O5: reset is its own state under the level rules. -/
theorem resetKeepsLevelRules : Obligations.ResetKeepsLevelRules :=
  ⟨Chip.settle_settled State.reset.chip, rfl⟩

/-! ### The values of reset -/

/-- At reset no register is listed, so each holds its reset value; and so for threads, domains and cores. -/
theorem reset_rd (r : Reg) : State.reset.chip.rd r = r.reset := rfl
theorem reset_thr (t : Nat) : State.reset.chip.thr t = {} := rfl
theorem reset_dom (x : Nat) : State.reset.chip.dom x = {} := rfl
theorem reset_csrv (k x : Nat) : (State.reset.chip.core k).csrv x = csrReset x := rfl

/-- Settles O6. -/
theorem resetValues : Obligations.ResetValues :=
  ⟨reset_rd _, reset_rd _, reset_rd _, reset_rd _, reset_rd _, reset_rd _, reset_rd _, reset_rd _, reset_rd _,
    fun t _ => congrArg ThreadSt.run (reset_thr t), fun x _ => congrArg DomSt.state (reset_dom x),
    fun k _ => ⟨reset_csrv k 0xF1, reset_csrv k 0xF2, reset_csrv k 0xF3, reset_csrv k 0xF4⟩, rfl, rfl, rfl⟩

end Sys2Proof.Machine
end

section
/-!
PROOFS. The rows of ALU0, ALU1 and MUL (05 R216, R217, R222, R223): what saturation and overflow are, and the obligations on them.
-/
namespace Sys2Proof.Machine

/-! ### Overflow and saturation -/

/-- The least and the greatest signed number of `n` bits. -/
def signedMin (n : Nat) : Int := -(2 ^ (n - 1))
def signedMax (n : Nat) : Int := 2 ^ (n - 1) - 1

/-- The value that saturation narrows `z` to (06 R271). -/
def satSigned (n : Nat) (z : Int) : Int := max (signedMin n) (min (signedMax n) z)

theorem not_fitsSigned (n : Nat) (z : Int) : (!fitsSigned n z) = decide (z < -(2 ^ (n - 1)) ∨ 2 ^ (n - 1) ≤ z) := by
  simp only [fitsSigned, Bool.not_and, Bool.decide_or, ← decide_not, not_le, not_lt]

theorem not_fitsSigned_eq_over (n : Nat) (z : Int) : (!fitsSigned n z) = decide (z < signedMin n ∨ signedMax n < z) := by
  rw [not_fitsSigned, signedMin, signedMax]
  congr 1
  simp only [Int.sub_one_lt_iff]

theorem clampSigned_eq (n : Nat) (z : Int) : clampSigned n z = satSigned n z := by
  have hpos : (0 : Int) < 2 ^ (n - 1) := by positivity
  rw [clampSigned, satSigned, signedMin, signedMax]
  split_ifs <;> omega

theorem satRes_eq (n : Nat) (z : Int) : satRes n z =
    let r := ofSigned n (satSigned n z)
    let overs := decide (z < signedMin n ∨ signedMax n < z)
    ⟨r, intFlags n r false overs overs⟩ := by
  rw [satRes, not_fitsSigned_eq_over, clampSigned_eq]
  exact iRes_of_lt (ofSigned_lt _ _) _ _ _

/-! ### The rows of the ALUs -/

section
variable {s : State} {t : Thread} {u : Fin 2} {w : Fin 3}

/-- A row of a free ALU delivers what `aluRes` gives for its operands, with the carry of the unit's last operation (05 R217). -/
theorem unitDone_of_aluRow {i : Instr} {op : AluOp} {r fl : Nat} (hfree : s.chip.Free t u) (hr : r < 2 ^ bitsOf w) (hfl : fl < 2 ^ 8)
    (he : exec i s = s.lift (aluRow t u op w))
    (hres : aluRes op (bitsOf w) (s.chip.opA t u (bitsOf w)) (s.chip.opB t u (bitsOf w)) ((s.chip.unit t u).fl.getLsbD 2) = ⟨r, fl⟩) :
    UnitDone i s t u r fl := by
  refine unitDone_of_row hfree (hr.trans_le (pow_bitsOf_le w)) hfl he (lat := 1) ?_
  rw [aluOp, if_neg (by omega)]
  simp only [Chip.unit_selectOp, UnitSt.select_a, UnitSt.select_b, UnitSt.select_fl, operand]
  rw [Chip.opA, Chip.opB] at hres
  rw [hres]

end

/-- Settles O7: the four operations are rows of an ALU, with V exactly where the exact result does not fit. -/
theorem aluAddSubtract : Obligations.AluAddSubtract := by
  intro s t u w hfree n a b k x y V
  have hmod (z : Nat) : z % 2 ^ n < 2 ^ n := Nat.mod_lt _ (by positivity)
  have row {i : Instr} {op : AluOp} {r : Nat} {c : Bool} {z : Int} (he : exec i s = s.lift (aluRow t u op w)) (hr : r < 2 ^ n)
      (hres : aluRes op n a b ((s.chip.unit t u).fl.getLsbD 2) = ⟨r, intFlags n r c (!fitsSigned n z) false⟩) :
      UnitDone i s t u r (intFlags n r c (V z) false) := by
    rw [show V z = !fitsSigned n z from (not_fitsSigned n z).symm]
    exact unitDone_of_aluRow hfree hr (intFlags_lt _ _ _ _ _) he hres
  exact ⟨row (op := .add) rfl (hmod _) rfl, row (op := .adc) rfl (hmod _) rfl, row (op := .sub) rfl (hmod _) rfl,
    row (op := .sbc) rfl (hmod _) rfl⟩

/-- The logic rows. -/
theorem aluLogic : Parts.AluLogic := by
  intro s t u w hfree n a b plain
  have ha : a < 2 ^ n := Nat.mod_lt _ (by positivity)
  have hb : b < 2 ^ n := Nat.mod_lt _ (by positivity)
  have row {i : Instr} {op : AluOp} {r : Nat} (he : exec i s = s.lift (aluRow t u op w)) (hr : r < 2 ^ n)
      (hres : aluRes op n a b ((s.chip.unit t u).fl.getLsbD 2) = iRes n r false false false) : plain i r :=
    unitDone_of_aluRow hfree hr (intFlags_lt _ _ _ _ _) he (hres.trans (iRes_of_lt hr _ _ _))
  refine ⟨?_, ?_, ?_, ?_, ?_, ?_, ?_⟩
  · exact row (op := .and) rfl (Nat.and_lt_two_pow a hb) rfl
  · exact row (op := .or) rfl (Nat.or_lt_two_pow ha hb) rfl
  · exact row (op := .xor) rfl (Nat.xor_lt_two_pow ha hb) rfl
  · exact row (op := .andn) rfl (Nat.and_le_left.trans_lt ha) rfl
  · exact row (op := .not) rfl (by omega) rfl
  · exact row (op := .pass) rfl ha rfl
  · exact unitDone_of_aluRow (op := .neg) hfree (Nat.mod_lt _ (by positivity)) (intFlags_lt _ _ _ _ _) rfl rfl

/-- The saturating rows, and those of minimum and maximum. -/
theorem aluSaturateMinMax : Parts.AluSaturateMinMax := by
  intro s t u w hfree n a b x y lo hi sat plain
  have ha : a < 2 ^ n := Nat.mod_lt _ (by positivity)
  have hb : b < 2 ^ n := Nat.mod_lt _ (by positivity)
  have row {i : Instr} {op : AluOp} {r : Nat} {v f : Bool} (he : exec i s = s.lift (aluRow t u op w)) (hr : r < 2 ^ n)
      (hres : aluRes op n a b ((s.chip.unit t u).fl.getLsbD 2) = iRes n r false v f) : UnitDone i s t u r (intFlags n r false v f) :=
    unitDone_of_aluRow hfree hr (intFlags_lt _ _ _ _ _) he (hres.trans (iRes_of_lt hr _ _ _))
  have saturated {i : Instr} {op : AluOp} {z : Int} (he : exec i s = s.lift (aluRow t u op w))
      (hres : aluRes op n a b ((s.chip.unit t u).fl.getLsbD 2) = satRes n z) : sat i z :=
    unitDone_of_aluRow hfree (ofSigned_lt _ _) (intFlags_lt _ _ _ _ _) he (hres.trans (satRes_eq n z))
  refine ⟨saturated (op := .adds) rfl rfl, saturated (op := .subs) rfl rfl, saturated (op := .abss) rfl rfl, ?_, ?_, ?_, ?_, ?_, ?_⟩
  · have hmin : min (2 ^ n - 1) (a + b) = if decide (2 ^ n ≤ a + b) = true then 2 ^ n - 1 else a + b := by
      simp only [decide_eq_true_eq]
      split <;> omega
    exact row (op := .addus) rfl (by omega) (by rw [hmin]; rfl)
  · exact row (op := .subus) rfl (by omega) rfl
  · exact row (op := .mins) rfl (by split <;> assumption) rfl
  · exact row (op := .minu) rfl (by omega) (by rw [min_def]; rfl)
  · exact row (op := .maxs) rfl (by split <;> assumption) rfl
  · exact row (op := .maxu) rfl (by omega) (by rw [max_comm, max_def]; rfl)

/-- Settles O8: each row delivers what its operation gives for the operands, which fits the width. -/
theorem aluLogicAndSaturation : Obligations.AluLogicAndSaturation := ⟨aluLogic, aluSaturateMinMax⟩

/-! ### The rows of MUL -/

/-- A short row of a free MUL delivers what `mulRes` gives for its operands; 32 bits are long (05 R222). -/
theorem unitDone_of_mulRow {s : State} {t : Thread} {w : Fin 3} {i : Instr} {op : MulOp} {r fl : Nat} (hfree : s.chip.Free t uMUL)
    (hw : w ≠ 2) (hr : r < 2 ^ 32) (hfl : fl < 2 ^ 8) (he : exec i s = s.lift (mulRow t op w))
    (hres : mulRes op (bitsOf w) (s.chip.opA t uMUL (bitsOf w)) (s.chip.opB t uMUL (bitsOf w)) = ⟨r, fl⟩) : UnitDone i s t uMUL r fl := by
  have hw' : ¬ w.val = 2 := fun h => hw (Fin.ext h)
  refine unitDone_of_row hfree hr hfl he (lat := w + 2) ?_
  rw [mulOp, if_neg (by omega), if_neg hw']
  simp only [Chip.unit_selectOp, UnitSt.select_a, UnitSt.select_b, mulDone, operand]
  rw [Chip.opA, Chip.opB] at hres
  rw [hres]

/-- Signed numbers of `n` bits lie within their range. -/
theorem toSigned_bounds {n : Nat} (hn : 0 < n) (a : Nat) : -(2 ^ (n - 1)) ≤ toSigned n a ∧ toSigned n a < 2 ^ (n - 1) := by
  have hlt : a % 2 ^ n < 2 ^ n := Nat.mod_lt _ (by positivity)
  have hpow : 2 ^ n = 2 * 2 ^ (n - 1) := by rw [← pow_succ', Nat.sub_add_cancel hn]
  have hpowz : (2 : Int) ^ n = 2 * 2 ^ (n - 1) := by exact_mod_cast hpow
  have hltz : ((a % 2 ^ n : Nat) : Int) < 2 ^ n := by exact_mod_cast hlt
  have hcast : (((2 : Nat) ^ (n - 1) : Nat) : Int) = 2 ^ (n - 1) := by push_cast; rfl
  rw [toSigned]
  split <;> omega

/-- The product that mulq halves is at least the least number's square away from the least number: it saturates upwards only. -/
theorem mulq_ge {n : Nat} (hn : 1 < n) (a b : Nat) :
    signedMin n ≤ (toSigned n a * toSigned n b + 2 ^ (n - 2)) / 2 ^ (n - 1) := by
  obtain ⟨ha, ha'⟩ := toSigned_bounds (by omega : 0 < n) a
  obtain ⟨hb, hb'⟩ := toSigned_bounds (by omega : 0 < n) b
  have hpos : (0 : Int) < 2 ^ (n - 1) := by positivity
  have hhalf : (0 : Int) ≤ 2 ^ (n - 2) := by positivity
  have hprod : -(2 ^ (n - 1) * 2 ^ (n - 1) : Int) ≤ toSigned n a * toSigned n b := by
    rcases le_total 0 (toSigned n b) with h | h <;> nlinarith
  rw [signedMin, Int.le_ediv_iff_mul_le hpos]
  linarith

theorem satSigned_of_ge {n : Nat} {z : Int} (h : signedMin n ≤ z) : satSigned n z = min (2 ^ (n - 1) - 1) z := by
  have hpos : (0 : Int) < 2 ^ (n - 1) := by positivity
  simp only [satSigned, signedMin, signedMax] at h ⊢
  omega

/-- mulq saturates at the top alone. -/
theorem mulRes_mulq {n : Nat} (hn : 1 < n) (a b : Nat) : mulRes .mulq n a b =
    let y := (toSigned n a * toSigned n b + 2 ^ (n - 2)) / 2 ^ (n - 1)
    let r := ofSigned n (min (2 ^ (n - 1) - 1) y)
    ⟨r, intFlags n r false (decide (2 ^ (n - 1) - 1 < y)) (decide (2 ^ (n - 1) - 1 < y))⟩ := by
  have hge := mulq_ge hn a b
  rw [mulRes, satRes_eq, satSigned_of_ge hge]
  simp only [not_lt.2 hge, false_or]
  rfl

/-- Settles O11: the products of 8 and 16 bits are short rows of MUL, with results of at most 32 bits. -/
theorem multiplies : Obligations.Multiplies := by
  intro s t w hw hfree n a b z res
  have hw' : w.val < 2 := by
    have : w.val ≠ 2 := fun h => hw (Fin.ext h)
    omega
  have hn : n ≤ 16 ∧ 1 < n := by
    interval_cases h : w.val <;> simp [n, bitsOf, h]
  have ha : a < 2 ^ n := Nat.mod_lt _ (by positivity)
  have hb : b < 2 ^ n := Nat.mod_lt _ (by positivity)
  have hab : a * b < 2 ^ n * 2 ^ n := Nat.mul_lt_mul'' ha hb
  have h2n : 2 ^ n * 2 ^ n = 2 ^ (2 * n) := by rw [← pow_add, two_mul]
  have hwide {r m : Nat} (hm : m ≤ 32) (hr : r < 2 ^ m) : r < 2 ^ 32 := hr.trans_le (Nat.pow_le_pow_right two_pos hm)
  have hp : (if n = 32 then 32 else 2 * n) = 2 * n := if_neg (by omega)
  have row {i : Instr} {op : MulOp} {m r : Nat} (he : exec i s = s.lift (mulRow t op w)) (hm : m ≤ 32) (hr : r < 2 ^ m)
      (hres : mulRes op n a b = iRes m r false false false) : res i m r :=
    unitDone_of_mulRow hfree hw (hwide hm hr) (intFlags_lt _ _ _ _ _) he (hres.trans (iRes_of_lt hr _ _ _))
  refine ⟨?_, ?_, ?_, ?_, ?_⟩
  · exact row (op := .mulu) rfl (by omega) (by rwa [← h2n]) (by simp only [mulRes, hp])
  · exact row (op := .muls) rfl (by omega) (ofSigned_lt _ _) (by simp only [mulRes, hp]; rfl)
  · exact row (op := .mulhu) rfl (by omega) ((Nat.div_lt_iff_lt_mul (by positivity)).2 hab) rfl
  · exact row (op := .mulhs) rfl (by omega) (ofSigned_lt _ _) rfl
  · exact unitDone_of_mulRow (op := .mulq) hfree hw (hwide (by omega) (ofSigned_lt n _)) (intFlags_lt _ _ _ _ _) rfl (mulRes_mulq hn.2 a b)

end Sys2Proof.Machine
end

section
/-!
PROOFS. Rows that also change their thread: the rule of such a row, and the compares, the CRC rows and the timer rows (05 R220, R221,
R238 to R240, R247, R248).
-/
namespace Sys2Proof.Machine

/-! ### The rule of a row that changes its thread -/

theorem Chip.SameButThreads.setThr {c d : Chip} (h : c.SameButThreads d) (t : Nat) (x : ThreadSt) : c.SameButThreads (d.setThr t x) := by
  have hset : d.setThr t x = { d with threads := (d.setThr t x).threads } := rfl
  rw [Chip.SameButThreads, hset, h]

theorem Chip.SameButThreads.updThr {c d : Chip} (h : c.SameButThreads d) (t : Nat) (g : ThreadSt → ThreadSt) :
    c.SameButThreads (d.updThr t g) := h.setThr t _

theorem Chip.SameButThreads.finish {c d : Chip} (h : c.SameButThreads d) (t u q fl : Nat) (err : Bool) (lat : Nat) :
    c.SameButThreads (d.finish t u q fl err lat) := h.setThr t _

theorem Chip.sameButThreads_selectOp (c : Chip) (t u k : Nat) : c.SameButThreads (c.selectOp t u k) := rfl

theorem exec_of_row {s : State} {i : Instr} {t u k : Nat} {f : Chip → OpRes} {d : Chip} (hfree : s.chip.Free t u)
    (he : exec i s = s.lift (fun c => c.row t u k f)) (hf : f (s.chip.selectOp t u k) = (d, none)) :
    exec i s = .next { s with chip := d.settle } := by
  rw [he, State.lift, Chip.row_short _ _ _ _ _ _ hfree hf]

/-- What a row leaves when its operation ends in `d`: a port state, a changed thread, nothing else. -/
theorem threadDone_of_row {s : State} {i : Instr} {t u k q fl : Nat} {f : Chip → OpRes} {d : Chip} {g : ThreadSt → ThreadSt}
    (hfree : s.chip.Free t u) (he : exec i s = s.lift (fun c => c.row t u k f)) (hf : f (s.chip.selectOp t u k) = (d, none))
    (hq : (d.unit t u).q.toNat = q) (hfl : (d.unit t u).fl.toNat = fl) (honly : s.chip.OnlyThr d t u g) (hsame : s.chip.SameButThreads d) :
    ThreadDone i s t u q fl g := by
  exact ⟨_, exec_of_row hfree he hf, rfl, hq, hfl, honly, hsame.sameOutside, hsame.cores⟩

theorem ofNat_mod_two_pow (n x : Nat) : BitVec.ofNat n (x % 2 ^ n) = BitVec.ofNat n x := by
  apply BitVec.eq_of_toNat_eq
  rw [BitVec.toNat_ofNat, BitVec.toNat_ofNat, Nat.mod_mod]

theorem Chip.finish_mod (c : Chip) (t u q fl : Nat) (err : Bool) (lat : Nat) :
    c.finish t u (q % 2 ^ 32) fl err lat = c.finish t u q fl err lat := by
  rw [Chip.finish, UnitSt.done, ofNat_mod_two_pow]
  rfl

/-- An operation that changes its thread by `g`, and then finishes. -/
theorem threadDone_of_row_finish {s : State} {i : Instr} {t u k q fl lat : Nat} {err : Bool} {f : Chip → OpRes} {g : ThreadSt → ThreadSt}
    (hfree : s.chip.Free t u) (he : exec i s = s.lift (fun c => c.row t u k f)) (hg : PortFree g) (hfl : fl < 2 ^ 8)
    (hf : f (s.chip.selectOp t u k) = (((s.chip.selectOp t u k).updThr t g).finish t u q fl err lat, none)) :
    ThreadDone i s t u (q % 2 ^ 32) fl g := by
  refine threadDone_of_row hfree he hf ?_ ?_ (((Chip.onlyThr_selectOp s.chip t u k).updThr hg).finish q fl err lat)
    (((Chip.sameButThreads_selectOp s.chip t u k).updThr t g).finish t u q fl err lat)
  · rw [Chip.unit_finish, UnitSt.done_q, BitVec.toNat_ofNat]
  · rw [Chip.unit_finish, UnitSt.done_fl, BitVec.toNat_ofNat, Nat.mod_eq_of_lt hfl]

/-! ### Compares -/

theorem getLsbD_ofNat_eq_bit {n i : Nat} (v : Nat) (hi : i < n) : (BitVec.ofNat n v).getLsbD i = bit v i := by
  rw [BitVec.getLsbD_ofNat, bit_eq_testBit, decide_eq_true hi, Bool.true_and]

theorem bit_toNat_eq_getLsbD {n : Nat} (x : BitVec n) (i : Nat) : bit x.toNat i = x.getLsbD i := bit_eq_testBit _ _

theorem bit_putBit (v i j : Nat) (b : Bool) : bit (putBit v i b) j = if j = i then b else bit v j := by
  rw [putBit, bit_putFld]
  by_cases h : j = i
  · subst h
    rw [if_pos ⟨le_rfl, Nat.lt_succ_self j⟩, if_pos rfl, Nat.sub_self]
    cases b <;> rfl
  · rw [if_neg (by omega), if_neg h]

/-- Four guards with guard `g` replaced. -/
def putGuard (guards : BitVec 4) (g : Nat) (v : Bool) : BitVec 4 := BitVec.ofNat 4 (putBit guards.toNat g v)

theorem getLsbD_putGuard (guards : BitVec 4) (g h : Fin 4) (v : Bool) :
    (putGuard guards g v).getLsbD h = if h = g then v else guards.getLsbD h := by
  rw [putGuard, getLsbD_ofNat_eq_bit _ h.isLt, bit_putBit, bit_toNat_eq_getLsbD]
  simp only [Fin.ext_iff]

/-- What a compare with result `r` does to its thread. -/
def ThreadSt.guarded (g : Nat) (anded r : Bool) (x : ThreadSt) : ThreadSt :=
  { x with guards := putGuard x.guards g (if anded then x.guards.getLsbD g && r else r) }

theorem portFree_guarded (g : Nat) (anded r : Bool) : PortFree (ThreadSt.guarded g anded r) := fun _ _ => rfl

theorem cmpOp_eq (t : Nat) (k : CmpCond) (w : Fin 3) (g : Nat) (anded : Bool) (c : Chip) : cmpOp t k w g anded c =
    let a := c.opA t uCMP (bitsOf w)
    let b := c.opB t uCMP (bitsOf w)
    ((c.finish t uCMP (b2n (k.holds (bitsOf w) a b)) (cmpFlags (bitsOf w) a b) false 1).updThr t
      (ThreadSt.guarded g anded (k.holds (bitsOf w) a b)), none) := if_neg (by omega)

theorem cmpFlags_lt (n a b : Nat) : cmpFlags n a b < 2 ^ 8 := by
  unfold cmpFlags b2n
  split <;> split <;> split <;> decide

theorem toNat_ofNat_b2n (n : Nat) (b : Bool) (hn : 0 < n) : (BitVec.ofNat n (b2n b)).toNat = b2n b := by
  rw [BitVec.toNat_ofNat, Nat.mod_eq_of_lt]
  have h2 : 2 ≤ 2 ^ n := Nat.le_self_pow hn.ne' 2
  unfold b2n
  split <;> omega

theorem threadDone_of_cmpRow {s : State} {t : Thread} {i : Instr} {k : CmpCond} {w : Fin 3} {g : Fin 4} {anded : Bool}
    (hfree : s.chip.Free t uCMP) (he : exec i s = s.lift (cmpRow t k w g anded)) :
    let a := s.chip.opA t uCMP (bitsOf w)
    let b := s.chip.opB t uCMP (bitsOf w)
    ThreadDone i s t uCMP (b2n (k.holds (bitsOf w) a b)) (cmpFlags (bitsOf w) a b) (ThreadSt.guarded g anded (k.holds (bitsOf w) a b)) := by
  intro a b
  have hg := portFree_guarded g anded (k.holds (bitsOf w) a b)
  have hop (code : Nat) : cmpOp t k w g anded (s.chip.selectOp t uCMP code) =
      (((s.chip.selectOp t uCMP code).finish t uCMP (b2n (k.holds (bitsOf w) a b)) (cmpFlags (bitsOf w) a b) false 1).updThr t
        (ThreadSt.guarded g anded (k.holds (bitsOf w) a b)), none) := by
    rw [cmpOp_eq, Chip.opA, Chip.opB, Chip.unit_selectOp]
    rfl
  refine threadDone_of_row hfree he (hop _) ?_ ?_ (((Chip.onlyThr_selectOp _ _ _ _).finish _ _ _ _).updThr hg)
    (((Chip.sameButThreads_selectOp _ _ _ _).finish _ _ _ _ _ _).updThr _ _)
  · rw [hg.unit_updThr, Chip.unit_finish, UnitSt.done_q, toNat_ofNat_b2n _ _ (by decide)]
  · rw [hg.unit_updThr, Chip.unit_finish, UnitSt.done_fl, BitVec.toNat_ofNat, Nat.mod_eq_of_lt (cmpFlags_lt _ _ _)]

/-- Settles O10: every compare is a row of CMP with its condition, whose thread changes in the guard alone. -/
theorem compares : Obligations.Compares := by
  intro s t w g anded hfree n a b x y p hp
  have row (k : CmpCond) {i : Instr} {r : Bool} (he : exec i s = s.lift (cmpRow t k w g anded)) (hr : k.holds n a b = r) :
      ThreadDone i s t uCMP (b2n r) (cmpFlags n a b) (ThreadSt.guarded g anded r) := by
    rw [← hr]
    exact threadDone_of_cmpRow hfree he
  have hdone : ThreadDone p.1 s t uCMP (b2n p.2) (cmpFlags n a b) (ThreadSt.guarded g anded p.2) := by
    simp only [List.mem_cons, List.not_mem_nil, or_false] at hp
    obtain rfl | rfl | rfl | rfl | rfl | rfl | rfl | rfl := hp
    · exact row .eq rfl rfl
    · exact row .ne rfl (decide_not).symm
    · exact row .ltu rfl rfl
    · exact row .geu rfl rfl
    · exact row .lts rfl rfl
    · exact row .ges rfl rfl
    · exact row .tst rfl (decide_not).symm
    · exact row .tstz rfl rfl
  obtain ⟨d, he, hpend, hq, hfl, ⟨hother, hunit, hself⟩, hout, hcores⟩ := hdone
  have hguards := congrArg ThreadSt.guards hself
  refine ⟨d, he, hpend, hq, hfl, fun h => ?_, hother, hunit, congrArg (fun x => { x with guards := 0 }) hself, hout, hcores⟩
  exact (congrArg (BitVec.getLsbD · h) hguards).trans (getLsbD_putGuard _ g h _)

/-! ### CRC -/

/-- The CRC unit of a thread: the accumulator. -/
theorem crcAcc_selectOp (c : Chip) (t k : Nat) : ((c.selectOp t uCRC k).thr t).crcAcc = (c.thr t).crcAcc := by
  rw [Chip.thr_selectOp]
  rfl

theorem crcWidth_le (p : Fin 3) : crcWidth p ≤ 32 := by revert p; decide

/-- A short CRC row lands its accumulator and shows the finished value. -/
theorem threadDone_of_crcRow {s : State} {i : Instr} {t : Thread} {f acc : Nat} {p : Fin 3} (hfree : s.chip.Free t uCRC) (hacc : acc < 2 ^ 32)
    (he : exec i s = s.lift (crcRow t f p))
    (hop : crcShort t f p (s.chip.selectOp t uCRC (4 * f + p)) = (crcLand t p acc (s.chip.selectOp t uCRC (4 * f + p)), none)) :
    ThreadDone i s t uCRC ((acc ^^^ crcFinal p) % 2 ^ crcWidth p) 0 (fun x => { x with crcAcc := BitVec.ofNat 32 acc }) := by
  have hdone : crcDone p (acc % 2 ^ 32) = (acc ^^^ crcFinal p) % 2 ^ crcWidth p := by rw [Nat.mod_eq_of_lt hacc, crcDone]
  have hlt : (acc ^^^ crcFinal p) % 2 ^ crcWidth p < 2 ^ 32 :=
    (Nat.mod_lt _ (by positivity)).trans_le (Nat.pow_le_pow_right two_pos (crcWidth_le p))
  have h := threadDone_of_row_finish (lat := 1) (err := false) (q := crcDone p (acc % 2 ^ 32)) (fl := 0)
    (g := fun x => { x with crcAcc := BitVec.ofNat 32 acc }) hfree he (fun _ _ => rfl) (by decide) hop
  rwa [hdone, Nat.mod_eq_of_lt hlt] at h

theorem crcLand_mod (t p acc : Nat) (c : Chip) : crcLand t p (acc % 2 ^ 32) c = crcLand t p acc c := by
  rw [crcLand, crcLand, Nat.mod_mod, ofNat_mod_two_pow]

theorem crcShort_eq (t : Nat) (p : Fin 3) (c : Chip) :
    crcShort t 0 p c = (crcLand t p (crcInit p) c, none) ∧
    crcShort t 1 p c = (crcLand t p (crcByte p (c.thr t).crcAcc.toNat (BitVec.ofNat 8 (c.unit t uCRC).a.toNat)) c, none) ∧
    crcShort t 3 p c = (crcLand t p (c.unit t uCRC).b.toNat c, none) := by
  have hp : ¬ 2 < p.val := by omega
  exact ⟨if_neg hp, if_neg hp, if_neg hp⟩

/-- Settles O15: each short CRC row lands the accumulator that its operation gives. -/
theorem crcRows : Obligations.CrcRows := by
  intro s t p hfree acc v done
  have hinit : crcInit p < 2 ^ 32 := by revert p; decide
  let c (f : Nat) : Chip := s.chip.selectOp t uCRC (4 * f + p)
  refine ⟨threadDone_of_crcRow hfree hinit rfl (crcShort_eq t p _).1, ?_, ?_⟩
  · obtain ⟨-, -, hseed⟩ := crcShort_eq t p (c 3)
    rw [Chip.unit_selectOp] at hseed
    exact threadDone_of_crcRow hfree (BitVec.isLt _) rfl hseed
  · obtain ⟨-, hbyte, -⟩ := crcShort_eq t p (c 1)
    rw [Chip.unit_selectOp, crcAcc_selectOp, ← crcLand_mod] at hbyte
    exact threadDone_of_crcRow hfree (Nat.mod_lt _ (by positivity)) rfl hbyte

/-! ### Timers -/

/-- What setting a deadline `n` ticks ahead of `now` does to a thread (05 R247). -/
def ThreadSt.armed (now n : Nat) (x : ThreadSt) : ThreadSt :=
  if n = 0 then { x with deadline := none, expired := true } else { x with deadline := some (now + n), expired := false }

theorem portFree_armed (now n : Nat) : PortFree (ThreadSt.armed now n) := by
  intro x l
  unfold ThreadSt.armed
  split <;> rfl

theorem tmrFl_armed (now n : Nat) (x : ThreadSt) : (x.armed now n).tmrFl = if n = 0 then 1 else 2 := by
  unfold ThreadSt.armed
  split <;> rfl

theorem aheadOf_eq (now b : Nat) : aheadOf now b =
    if (b + 2 ^ 32 - now % 2 ^ 32) % 2 ^ 32 < 2 ^ 31 then (b + 2 ^ 32 - now % 2 ^ 32) % 2 ^ 32 else 0 := by
  simp only [aheadOf, serialAfter, Bool.and_eq_true, decide_eq_true_eq]
  split_ifs <;> omega

theorem tmrFl_lt (x : ThreadSt) : x.tmrFl < 2 ^ 8 := by
  unfold ThreadSt.tmrFl b2n
  split <;> split <;> decide

/-- What cancelling a deadline does to a thread. -/
def ThreadSt.disarmed (x : ThreadSt) : ThreadSt := { x with deadline := none, expired := false }

section
variable (c : Chip) (t : Nat)

theorem tmrOp_tset : tmrOp t 0 c =
    let d := c.updThr t (ThreadSt.armed c.phw.tick (c.unit t uTMR).b.toNat)
    (d.finish t uTMR 0 (d.thr t).tmrFl false 1, none) := rfl

theorem tmrOp_tsetabs : tmrOp t 1 c =
    let d := c.updThr t (ThreadSt.armed c.phw.tick (aheadOf c.phw.tick (c.unit t uTMR).b.toNat))
    (d.finish t uTMR 0 (d.thr t).tmrFl false 1, none) := rfl

theorem tmrOp_tcancel : tmrOp t 2 c =
    let d := c.updThr t ThreadSt.disarmed
    (d.finish t uTMR 0 (d.thr t).tmrFl false 1, none) := rfl

theorem tmrOp_tnow : tmrOp t 4 c = (c.finish t uTMR (c.phw.tick % 2 ^ 32) (c.thr t).tmrFl false 1, none) := rfl

theorem tmrOp_tleft : tmrOp t 8 c =
    (c.finish t uTMR ((c.thr t).deadline.elim 0 (fun e => e - c.phw.tick)) (c.thr t).tmrFl false 1, none) := by
  cases h : (c.thr t).deadline <;> simp only [tmrOp, h] <;> rfl

end

theorem tmrFl_selectOp (c : Chip) (t k : Nat) : ((c.selectOp t uTMR k).thr t).tmrFl = (c.thr t).tmrFl := by
  rw [Chip.thr_selectOp]
  rfl

theorem PortFree.updThr_tmrFl {g : ThreadSt → ThreadSt} (hg : PortFree g) (c : Chip) (t k : Nat) :
    (((c.selectOp t uTMR k).updThr t g).thr t).tmrFl = (g (c.thr t)).tmrFl := by
  rw [Chip.thr_updThr_self, Chip.thr_selectOp, ThreadSt.setUnit, hg]
  rfl

section
variable {s : State} {t : Thread} {i : Instr} (hfree : s.chip.Free t uTMR)
include hfree

/-- A TMR row that changes its thread by `g` shows the flags that the thread then has. -/
theorem threadDone_of_tmrRow {code : Nat} {g : ThreadSt → ThreadSt} (hg : PortFree g)
    (he : exec i s = s.lift (fun c => c.row t uTMR code (tmrOp t code)))
    (hop : tmrOp t code (s.chip.selectOp t uTMR code) =
      let d := (s.chip.selectOp t uTMR code).updThr t g
      (d.finish t uTMR 0 (d.thr t).tmrFl false 1, none)) :
    ThreadDone i s t uTMR 0 (g (s.chip.thr t)).tmrFl g := by
  simp only [hg.updThr_tmrFl] at hop
  exact threadDone_of_row_finish (q := 0) hfree he hg (tmrFl_lt _) hop

/-- A TMR row that only shows a value. -/
theorem unitDone_of_tmrRow {code q : Nat} (he : exec i s = s.lift (fun c => c.row t uTMR code (tmrOp t code)))
    (hop : tmrOp t code (s.chip.selectOp t uTMR code) =
      ((s.chip.selectOp t uTMR code).finish t uTMR q (s.chip.thr t).tmrFl false 1, none)) :
    UnitDone i s t uTMR (q % 2 ^ 32) (s.chip.thr t).tmrFl := by
  rw [← Chip.finish_mod] at hop
  exact unitDone_of_row hfree (Nat.mod_lt _ (by positivity)) (tmrFl_lt _) he hop

end

/-- Settles O27: the rows of TMR set, clear and read their thread's deadline, and its expiry sets EXP. -/
theorem timers : Obligations.Timers := by
  intro s t hfree x b now fl set
  have harm {i : Instr} {code n : Nat} (he : exec i s = s.lift (fun c => c.row t uTMR code (tmrOp t code)))
      (hop : tmrOp t code (s.chip.selectOp t uTMR code) =
        let d := (s.chip.selectOp t uTMR code).updThr t (ThreadSt.armed now n)
        (d.finish t uTMR 0 (d.thr t).tmrFl false 1, none)) : set i n := by
    have h := threadDone_of_tmrRow hfree (portFree_armed now n) he hop
    rw [tmrFl_armed] at h
    by_cases hn : n = 0
    · subst hn
      exact h
    · have hg : ThreadSt.armed now n = fun x => { x with deadline := some (now + n), expired := false } :=
        funext fun _ => if_neg hn
      rw [if_neg hn, hg] at h
      exact (if_neg hn).mpr h
  have hexpire (hd : x.deadline ≠ none) : (if x.deadline.isSome then { x with deadline := none, expired := true } else x) =
      { x with deadline := none, expired := true } := if_pos (Option.isSome_iff_ne_none.2 hd)
  have hleft := tmrOp_tleft (s.chip.selectOp t uTMR 8) t
  rw [tmrFl_selectOp, Chip.thr_selectOp] at hleft
  refine ⟨harm rfl ?_, ?_, ?_, ?_, fun e he => ?_, fun he => ?_, fun hd => ?_⟩
  · rw [tmrOp_tset, Chip.unit_selectOp]
    rfl
  · rw [← aheadOf_eq]
    refine harm rfl ?_
    rw [tmrOp_tsetabs, Chip.unit_selectOp]
    rfl
  · exact threadDone_of_tmrRow hfree (g := ThreadSt.disarmed) (fun _ _ => rfl) rfl (tmrOp_tcancel _ _)
  · have hnow := tmrOp_tnow (s.chip.selectOp t uTMR 4) t
    rw [tmrFl_selectOp] at hnow
    have h := unitDone_of_tmrRow (i := .tnow t) hfree rfl hnow
    rwa [Nat.mod_mod] at h
  · have h := unitDone_of_tmrRow (i := .tleft t) hfree rfl hleft
    rwa [show ((s.chip.thr t).setUnit uTMR ((s.chip.unit t uTMR).select 8)).deadline = some e from he] at h
  · have h := unitDone_of_tmrRow (i := .tleft t) hfree rfl hleft
    rwa [show ((s.chip.thr t).setUnit uTMR ((s.chip.unit t uTMR).select 8)).deadline = none from he] at h
  · have hsame : s.chip.SameButThreads (s.chip.updThr t (fun x => if x.deadline.isSome then { x with deadline := none, expired := true } else x)) :=
      rfl
    refine ⟨_, rfl, rfl, ?_, fun r hr => ?_, hsame.sameOutside, hsame.cores⟩
    · rw [Chip.thr_settle, Chip.thr_updThr_self]
      exact hexpire hd
    · rw [Chip.thr_settle, Chip.thr_updThr_other _ _ _ _ hr]

end Sys2Proof.Machine
end

section
/-!
PROOFS. The rows that start a long operation (05 R208, R213, R233): what such a row captures and leaves, the rule of a row that raises
an exception, and the obligation on long rows.
-/
namespace Sys2Proof.Machine

/-! ### A row that starts a long operation -/

theorem Chip.OnlyThr.setUnit {c d : Chip} {t u : Nat} {f : ThreadSt → ThreadSt} (h : c.OnlyThr d t u f) (p : UnitSt) :
    c.OnlyThr (d.setUnit t u p) t u f := by
  obtain ⟨hother, hunit, hself⟩ := h
  refine ⟨fun r hr => ?_, fun v hv => ?_, ?_⟩
  · rw [Chip.thr_setUnit_other _ _ _ _ _ hr, hother r hr]
  · rw [← hunit v hv, Chip.unit, Chip.thr_setUnit_self, ThreadSt.unit_setUnit_other _ _ _ _ hv, Chip.unit]
  · rw [Chip.thr_setUnit_self, ← hself]
    rfl

/-- What `f` does to the thread is all that matters of `f`. -/
theorem Chip.OnlyThr.congr {c d : Chip} {t u : Nat} {f g : ThreadSt → ThreadSt} (h : c.OnlyThr d t u f) (hfg : f (c.thr t) = g (c.thr t)) :
    c.OnlyThr d t u g := by
  obtain ⟨hother, hunit, hself⟩ := h
  exact ⟨hother, hunit, by rw [hself, hfg]⟩

/-- The operation that a trigger of unit `u` captures (05 R208, R213). -/
def Chip.captured (c : Chip) (t u code : Nat) (data : List Byte) : LongOp :=
  let x := c.thr t
  let s := x.unit u
  { code := code, a := s.a, b := s.b, fpmode := x.fpmode.toNat, strict := isWarden t || x.lsuMode.getLsbD 0
    priv := c.isPriv t, windows := (List.range 32).map (fun i => (c.core (coreOf t)).csrv (0xD0 + i))
    pc := x.pc, slot := 0, tag := BitVec.ofNat 8 (16 * u + (s.count + 1).toNat), data := data, u5 := s.u5 }

/-- The port state of a unit that has started operation `o`. -/
def UnitSt.started (s : UnitSt) (o : LongOp) : UnitSt := { s with count := s.count + 1, tag := o.tag, busy := some o }

theorem UnitSt.eq_of_started (s : UnitSt) {x : UnitSt} {o : LongOp} {k : Nat} (h : x = (s.select k).started o) :
    x = { s with op := BitVec.ofNat 8 k, count := s.count + 1, tag := o.tag, busy := x.busy } := by
  rw [h]
  rfl

/-- A PRECISE thread waits for its operation (07 R320). -/
def ThreadSt.preciseHold (x : ThreadSt) : ThreadSt := if x.precise.getLsbD 0 then { x with hold := .fence } else x

section
variable (c : Chip) (t u code : Nat) (data : List Byte)

theorem Chip.startLong_of_precise (h : (c.thr t).precise.getLsbD 0 = true) : c.startLong t u code 0 data =
    (c.setUnit t u ((c.unit t u).started (c.captured t u code data))).updThr t (fun x => { x with hold := .fence }) := if_pos h

theorem Chip.startLong_of_imprecise (h : (c.thr t).precise.getLsbD 0 = false) : c.startLong t u code 0 data =
    c.setUnit t u ((c.unit t u).started (c.captured t u code data)) := if_neg (ne_true_of_eq_false h)

theorem Chip.unit_startLong : (c.startLong t u code 0 data).unit t u = (c.unit t u).started (c.captured t u code data) := by
  cases h : (c.thr t).precise.getLsbD 0 with
  | true =>
    have hg : PortFree (fun x => { x with hold := .fence }) := fun _ _ => rfl
    rw [Chip.startLong_of_precise _ _ _ _ _ h, hg.unit_updThr, Chip.unit_setUnit_self]
  | false => rw [Chip.startLong_of_imprecise _ _ _ _ _ h, Chip.unit_setUnit_self]

theorem Chip.onlyThr_startLong (k : Nat) : c.OnlyThr ((c.selectOp t u k).startLong t u code 0 data) t u ThreadSt.preciseHold := by
  have hsel : ((c.selectOp t u k).thr t).precise = (c.thr t).precise := by rw [Chip.thr_selectOp]; rfl
  have hset := (Chip.onlyThr_selectOp c t u k).setUnit
    (((c.selectOp t u k).unit t u).started ((c.selectOp t u k).captured t u code data))
  cases h : (c.thr t).precise.getLsbD 0 with
  | true =>
    rw [Chip.startLong_of_precise _ _ _ _ _ (by rw [hsel, h])]
    have hg : PortFree (fun x => { x with hold := .fence }) := fun _ _ => rfl
    exact (hset.updThr hg).congr (if_pos h).symm
  | false =>
    rw [Chip.startLong_of_imprecise _ _ _ _ _ (by rw [hsel, h])]
    exact hset.congr (if_neg (ne_true_of_eq_false h)).symm

theorem Chip.SameButThreads.startLong {c d : Chip} (h : c.SameButThreads d) : c.SameButThreads (d.startLong t u code 0 data) := by
  cases hp : (d.thr t).precise.getLsbD 0 with
  | true =>
    rw [Chip.startLong_of_precise _ _ _ _ _ hp]
    exact (h.setThr t _).updThr t _
  | false =>
    rw [Chip.startLong_of_imprecise _ _ _ _ _ hp]
    exact h.setThr t _

end

/-- The parts of a thread that a trigger captures, with the op register selected. -/
theorem Chip.captured_selectOp (c : Chip) (t u k code : Nat) (data : List Byte) :
    (c.selectOp t u k).captured t u code data = c.captured t u code data := by
  have hunit : ((c.selectOp t u k).thr t).unit u = (c.unit t u).select k := Chip.unit_selectOp c t u k
  simp only [Chip.captured, hunit, Chip.isPriv_selectOp]
  rw [Chip.thr_selectOp]
  rfl

/-- The divider of a core that a long division holds is no part of what a row is asked to keep. -/
def Chip.SameCores (c d : Chip) : Prop := ∀ k, { d.core k with fpsFree := 0 } = { c.core k with fpsFree := 0 }

theorem Chip.SameCores.refl (c : Chip) : c.SameCores c := fun _ => rfl

theorem Chip.sameCores_fpsFree (c : Chip) (k : Nat) (n : CoreSt → Nat) : c.SameCores (c.updCore k (fun x => { x with fpsFree := n x })) := by
  intro j
  by_cases h : j = k
  · rw [h, Chip.core_updCore_self]
  · rw [Chip.core_updCore_other _ _ _ _ h]

/-- A row of a free unit that starts a long operation; `d` may differ from the start in the cores' dividers. -/
theorem longStarts_of_row {s : State} {i : Instr} {t u code : Nat} {data : List Byte} {f : Chip → OpRes} {cores : FMap CoreSt}
    (hfree : s.chip.Free t u) (he : exec i s = s.lift (fun c => c.row t u code f))
    (hcores : s.chip.SameCores { s.chip with cores := cores })
    (hf : f (s.chip.selectOp t u code) = ({ (s.chip.selectOp t u code).startLong t u code 0 data with cores := cores }, none)) :
    LongStarts i s t u code data := by
  let c := s.chip.selectOp t u code
  let d := c.startLong t u code 0 data
  have hsame : s.chip.SameButThreads d := (Chip.sameButThreads_selectOp s.chip t u code).startLong t u code data
  have hunit : d.unit t u = ((s.chip.unit t u).select code).started (s.chip.captured t u code data) := by
    rw [Chip.unit_startLong, Chip.captured_selectOp, Chip.unit_selectOp]
  have hout : s.chip.SameOutside { d with cores := cores }.settle := by
    rw [hsame]
    refine ⟨rfl, rfl, rfl, rfl, rfl, rfl, rfl, rfl, rfl, rfl, rfl, rfl, rfl, rfl, rfl, rfl, rfl, rfl, rfl, rfl, rfl, rfl, rfl⟩
  refine ⟨_, exec_of_row hfree he hf, rfl, ⟨s.chip.captured t u code data, ?_, rfl, rfl, rfl, rfl, rfl, rfl, rfl, rfl⟩, ?_,
    Chip.onlyThr_startLong s.chip t u code data code, hout, hcores⟩
  · exact congrArg UnitSt.busy hunit
  · exact (s.chip.unit t u).eq_of_started hunit

/-- A row that does no more than start a long operation. -/
theorem longStarts_of_startLong {s : State} {i : Instr} {t u code : Nat} {data : List Byte} {f : Chip → OpRes}
    (hfree : s.chip.Free t u) (he : exec i s = s.lift (fun c => c.row t u code f))
    (hf : f (s.chip.selectOp t u code) = ((s.chip.selectOp t u code).startLong t u code 0 data, none)) : LongStarts i s t u code data := by
  have hcores : ((s.chip.selectOp t u code).startLong t u code 0 data).cores = s.chip.cores :=
    ((Chip.sameButThreads_selectOp s.chip t u code).startLong t u code data).cores
  exact longStarts_of_row hfree he (Chip.SameCores.refl _) (hf.trans (by rw [← hcores]))

/-! ### A row that raises an exception -/

theorem Chip.keepLanded_self (c : Chip) : c.keepLanded c = c := rfl

/-- A row of a free unit whose operation raises an exception and has done nothing. -/
theorem traps_of_row {s : State} {i : Instr} {t u k cause : Nat} {addr : Option Nat} {f : Chip → OpRes} (hfree : s.chip.Free t u)
    (hexc : (s.chip.thr t).exc = none) (he : exec i s = s.lift (fun c => c.row t u k f))
    (hf : f (s.chip.selectOp t u k) = (s.chip.selectOp t u k, some ⟨cause, addr⟩)) : Traps i s t u cause addr := by
  let c := s.chip.selectOp t u k
  let g (x : ThreadSt) : ThreadSt := { x with exc := some (Trap.exc ⟨cause, addr⟩ u x.pc) }
  have hg : PortFree g := fun _ _ => rfl
  have hsel : (c.thr t).exc = none := by rw [Chip.thr_selectOp]; exact hexc
  have hrow : exec i s = .next { s with chip := (c.updThr t g).settle } := by
    rw [he, State.lift, Chip.row_trap _ _ _ _ _ _ _ hfree hf, Chip.keepLanded_self, Chip.raiseNow_of_exc_none hsel]
  have hthr : (c.updThr t g).thr t = g ((s.chip.thr t).setUnit u ((s.chip.unit t u).select k)) := by
    rw [Chip.thr_updThr_self, Chip.thr_selectOp]
  have hsame : s.chip.SameButThreads (c.updThr t g) := (Chip.sameButThreads_selectOp s.chip t u k).updThr t g
  refine ⟨_, hrow, rfl, ⟨Trap.exc ⟨cause, addr⟩ u (s.chip.thr t).pc, ?_, rfl, rfl, rfl, rfl, rfl⟩, ?_, hsame.sameOutside, ?_, hsame.cores⟩
  · rw [Chip.thr_settle, hthr]
    rfl
  · obtain ⟨hother, hunit, -⟩ := (Chip.onlyThr_selectOp s.chip t u k).updThr hg
    refine ⟨hother, hunit, ?_⟩
    rw [Chip.thr_settle, hthr]
    rfl
  · rw [Chip.unit_settle, hg.unit_updThr, Chip.unit_selectOp]
    rfl

/-! ### The long rows of each unit -/

theorem longStarts_of_fpsRow {s : State} {i : Instr} {t : Thread} {op : FpOp} (hfree : s.chip.Free t uFPS)
    (he : exec i s = s.lift (fpRow t .fps op)) : LongStarts i s t uFPS op.code [] := by
  by_cases hop : op = .fdiv ∨ op = .fsqrt
  · have hf : fpsOp t op 0 (s.chip.selectOp t uFPS op.code) =
        (((s.chip.selectOp t uFPS op.code).startLong t uFPS op.code 0 []).updCore (coreOf t) (fun k => { k with fpsFree := k.cyc + 13 }), none) := by
      rw [fpsOp, if_pos hop]
    have hcores : ((s.chip.selectOp t uFPS op.code).startLong t uFPS op.code 0 []).cores = s.chip.cores :=
      ((Chip.sameButThreads_selectOp s.chip t uFPS op.code).startLong t uFPS op.code []).cores
    refine longStarts_of_row hfree he (Chip.sameCores_fpsFree s.chip (coreOf t) (fun k => k.cyc + 13)) (hf.trans ?_)
    rw [Chip.updCore, Chip.core, hcores]
    rfl
  · exact longStarts_of_startLong hfree he (by rw [fpsOp, if_neg hop])

theorem longStarts_of_mulRow {s : State} {i : Instr} {t : Thread} {op : MulOp} (hfree : s.chip.Free t uMUL) (ht : t.val < 16)
    (he : exec i s = s.lift (mulRow t op 2)) : LongStarts i s t uMUL (4 * op.code + 2) [] :=
  longStarts_of_startLong hfree he (by simp [mulOp, isWarden, ht])

/-- A 32-bit product is no operation of the Warden (05 R260). -/
theorem traps_of_mulRow {s : State} {i : Instr} {t : Thread} {op : MulOp} (hfree : s.chip.Free t uMUL) (ht : 16 ≤ t.val)
    (hexc : (s.chip.thr t).exc = none) (he : exec i s = s.lift (mulRow t op 2)) : Traps i s t uMUL 3 none :=
  traps_of_row hfree hexc he (by simp [mulOp, isWarden, ht, illegalOp])

theorem longStarts_of_queRow {s : State} {i : Instr} {t : Thread} {code : Nat} (hfree : s.chip.Free t uQUE) (hcode : code ≠ 0)
    (hdef : (queUnary code).isNone = false) (he : exec i s = s.lift (queRow t code)) : LongStarts i s t uQUE code [] :=
  longStarts_of_startLong hfree he (by simp [queOp, hdef, hcode])

theorem longStarts_of_mbxRow {s : State} {i : Instr} {t : Thread} {code : Nat} (hfree : s.chip.Free t uMBX)
    (hdef : (mbxUnary (isWarden t) code).isNone = false) (he : exec i s = s.lift (mbxRow t code)) : LongStarts i s t uMBX code [] :=
  longStarts_of_startLong hfree he (by simp [mbxOp, hdef])

/-- Every row of a long operation starts it. -/
theorem longRows : Parts.LongRows := by
  intro s t
  refine ⟨fun hfree p hp => ?_, fun hfree p hp => ?_, fun hfree p => ?_, fun hfree p hp => ?_, fun hfree => ?_, fun hfree => ?_,
    fun hfree w => ?_⟩
  · simp only [List.mem_cons, List.not_mem_nil, or_false] at hp
    obtain rfl | rfl | rfl | rfl | rfl | rfl | rfl | rfl | rfl | rfl | rfl | rfl | rfl | rfl | rfl := hp
    · exact longStarts_of_fpsRow (op := .fadd) hfree rfl
    · exact longStarts_of_fpsRow (op := .fsub) hfree rfl
    · exact longStarts_of_fpsRow (op := .fmul) hfree rfl
    · exact longStarts_of_fpsRow (op := .fmin) hfree rfl
    · exact longStarts_of_fpsRow (op := .fmax) hfree rfl
    · exact longStarts_of_fpsRow (op := .fcmp) hfree rfl
    · exact longStarts_of_fpsRow (op := .fdiv) hfree rfl
    · exact longStarts_of_fpsRow (op := .fsqrt) hfree rfl
    · exact longStarts_of_fpsRow (op := .fabs) hfree rfl
    · exact longStarts_of_fpsRow (op := .fneg) hfree rfl
    · exact longStarts_of_fpsRow (op := .cvtFI) hfree rfl
    · exact longStarts_of_fpsRow (op := .cvtIF) hfree rfl
    · exact longStarts_of_fpsRow (op := .cvtFU) hfree rfl
    · exact longStarts_of_fpsRow (op := .cvtUF) hfree rfl
    · exact longStarts_of_fpsRow (op := .cvtFF) hfree rfl
  · have row {i : Instr} (op : MulOp) (he : exec i s = s.lift (mulRow t op 2)) :
        (t.val < 16 → LongStarts i s t uMUL (4 * op.code + 2) []) ∧ (16 ≤ t.val → (s.chip.thr t).exc = none → Traps i s t uMUL 3 none) :=
      ⟨fun ht => longStarts_of_mulRow hfree ht he, fun ht hexc => traps_of_mulRow hfree ht hexc he⟩
    simp only [List.mem_cons, List.not_mem_nil, or_false] at hp
    obtain rfl | rfl | rfl | rfl | rfl := hp
    · exact row .mulu rfl
    · exact row .muls rfl
    · exact row .mulhu rfl
    · exact row .mulhs rfl
    · exact row .mulq rfl
  · exact longStarts_of_startLong hfree rfl (if_neg (by omega))
  · simp only [List.mem_cons, List.not_mem_nil, or_false] at hp
    obtain rfl | rfl | rfl | rfl | rfl | rfl | rfl := hp
    · exact longStarts_of_queRow (code := 0x01) hfree (by decide) rfl rfl
    · exact longStarts_of_queRow (code := 0x02) hfree (by decide) rfl rfl
    · exact longStarts_of_queRow (code := 0x04) hfree (by decide) rfl rfl
    · exact longStarts_of_queRow (code := 0x05) hfree (by decide) rfl rfl
    · exact longStarts_of_queRow (code := 0x08) hfree (by decide) rfl rfl
    · exact longStarts_of_queRow (code := 0x10) hfree (by decide) rfl rfl
    · exact longStarts_of_queRow (code := 0x80) hfree (by decide) rfl rfl
  · intro v
    refine longStarts_of_startLong hfree rfl ?_
    simp only [queOp, Chip.unit_selectOp, UnitSt.select_a, UnitSt.select_b]
    rfl
  · have hboth (code : Nat) (h : code = 1 ∨ code = 2 ∨ code = 4) : (mbxUnary (isWarden t) code).isNone = false := by
      rcases h with rfl | rfl | rfl <;> rfl
    refine ⟨longStarts_of_mbxRow hfree (hboth 1 (by simp)) rfl, longStarts_of_mbxRow hfree (hboth 2 (by simp)) rfl,
      longStarts_of_mbxRow hfree (hboth 4 (by simp)) rfl, ?_⟩
    split
    · next ht => exact longStarts_of_mbxRow hfree (by simp [isWarden, mbxUnary, ht]) rfl
    · next ht => exact longStarts_of_mbxRow hfree (by simp [isWarden, mbxUnary, Nat.not_lt.1 ht]) rfl
  · exact longStarts_of_startLong hfree rfl (if_neg (by omega))

/-! ### Accesses that are not wholly within DMEM -/

theorem mem_addrs {a n x : Nat} : x ∈ addrs a n ↔ ∃ i < n, (a + i) % 2 ^ 24 = x := by
  simp [addrs]

/-- The DMEM of the main cores is the 64 KiB from address 0 (07 R303). -/
theorem region_dmem_iff (a : Nat) : region false a = .dmem ↔ a < 0x10000 := by
  unfold region
  simp only [Nat.ble_eq, Nat.blt_eq, Bool.and_eq_true, Bool.false_eq_true, if_false]
  constructor
  · intro h
    split_ifs at h
    omega
  · intro h
    rw [if_neg (by omega), if_neg (by omega), if_neg (by omega), if_pos h]

theorem inDmem_iff {t : Nat} (ht : t < 16) (a : Nat) : inDmem t a = true ↔ a < 0x10000 := by
  have hw : isWarden t = false := by simp [isWarden, ht]
  rw [inDmem, hw, ← region_dmem_iff, beq_iff_eq]
  rfl

/-- An access of a main-core thread is short exactly when it ends within DMEM (05 R233). -/
theorem lsuShort_iff {t a n : Nat} (ht : t < 16) (ha : a < 2 ^ 24) (hn : 0 < n) (hn4 : n ≤ 4) : lsuShort t a n = true ↔ a + n ≤ 0x10000 := by
  rw [lsuShort, List.all_eq_true]
  constructor
  · intro h
    have hfirst := (inDmem_iff ht _).1 (h (a % 2 ^ 24) (mem_addrs.2 ⟨0, hn, rfl⟩))
    have hlast := (inDmem_iff ht _).1 (h ((a + (n - 1)) % 2 ^ 24) (mem_addrs.2 ⟨n - 1, by omega, rfl⟩))
    omega
  · intro h x hx
    obtain ⟨i, hi, rfl⟩ := mem_addrs.1 hx
    exact (inDmem_iff ht _).2 (by omega)

theorem undoRoom_main (c : Chip) {t : Nat} (ht : t < 16) : c.undoRoom t = c := if_neg (by simp [isWarden, ht])

theorem exec_lsuRow {s : State} {t : Thread} {i : Instr} {code : Nat} (ht : t.val < 16) (he : exec i s = s.lift (lsuRow t code)) :
    exec i s = s.lift (fun c => c.row t uLSU code (lsuOp t code 0)) := by
  rw [he, State.lift, State.lift, lsuRow, undoRoom_main _ ht]

theorem longStarts_of_lsuRow {s : State} {t : Thread} {i : Instr} {code n : Nat} {kind : LsuKind} (ht : t.val < 16)
    (hfree : s.chip.Free t uLSU) (hkind : lsuKind code = some (kind, n)) (hn : 0 < n) (hn4 : n ≤ 4)
    (hfar : 0x10000 < (s.chip.unit t uLSU).a.toNat % 2 ^ 24 + n) (he : exec i s = s.lift (lsuRow t code)) : LongStarts i s t uLSU code [] := by
  refine longStarts_of_startLong hfree (exec_lsuRow ht he) ?_
  have ha : ((s.chip.selectOp t uLSU code).capture t uLSU code 0).a = (s.chip.unit t uLSU).a := by
    have hsel := congrArg UnitSt.a (Chip.unit_selectOp s.chip t uLSU code)
    exact hsel
  have hshort : ¬ lsuShort t ((s.chip.unit t uLSU).a.toNat % 2 ^ 24) n = true := by
    rw [lsuShort_iff ht (Nat.mod_lt _ (by positivity)) hn hn4]
    omega
  simp only [lsuOp, hkind, ha, if_neg hshort]

/-- A far access starts a long operation. -/
theorem farAccessesStart : Parts.FarAccessesStart := by
  intro s t w ht hfree n a
  have hn : 0 < n ∧ n ≤ 4 := by
    revert n
    revert w
    decide
  have hload : ∀ w : Fin 3, lsuKind w = some (.load false, 2 ^ w.val) := by decide
  have hstore : ∀ w : Fin 3, lsuKind (8 + w) = some (.store, 2 ^ w.val) := by decide
  have hsigned : ∀ x : Fin 2, lsuKind (4 + x) = some (.load true, 2 ^ x.val) := by decide
  refine ⟨fun hfar => ⟨?_, ?_, fun x hx => ?_⟩, fun hfar => ?_⟩
  · exact longStarts_of_lsuRow ht hfree (hload w) hn.1 hn.2 hfar rfl
  · exact longStarts_of_lsuRow ht hfree (hstore w) hn.1 hn.2 hfar rfl
  · have hxn : 2 ^ x.val = n := by rw [hx]
    exact longStarts_of_lsuRow ht hfree (hsigned x) (by omega) (by omega) (by omega) rfl
  · exact longStarts_of_lsuRow ht hfree (n := 1) (kind := .swap) rfl (by decide) (by decide) (Nat.lt_succ_of_le hfar) rfl

/-- Settles O20: the rows of long operations, and the accesses beyond DMEM. -/
theorem longRowsStart : Obligations.LongRowsStart := ⟨longRows, farAccessesStart⟩

end Sys2Proof.Machine
end

section
/-!
PROOFS. The short rows of FPH (05 R226, R227), the retirement of products and of FPS operations (07 R317), and where LSU rows raise
exceptions (05 R236).
-/
namespace Sys2Proof.Machine

/-! ### FPH -/

/-- FPFLAGS after an operation with flags `fl` (04 R158). -/
def ThreadSt.orFlags (fl : Nat) (x : ThreadSt) : ThreadSt := { x with fpflags := BitVec.ofNat 8 (x.fpflags.toNat ||| fl) }

theorem portFree_orFlags (fl : Nat) : PortFree (ThreadSt.orFlags fl) := fun _ _ => rfl

theorem Chip.orFp_eq_updThr (c : Chip) (t fl : Nat) : c.orFp t fl = c.updThr t (ThreadSt.orFlags fl) := rfl

/-- The thread and the port after an FPH operation of result `r`. -/
def Chip.fphDone (c : Chip) (t : Nat) (op : FpOp) (r : FRes) : Chip :=
  (c.finish t uFPH r.val r.fl.toNat (r.fl.nv || r.fl.dz) (fphLatency op)).orFp t r.fl.toNat

theorem fphOp_selectOp (c : Chip) (t k : Nat) (op : FpOp) : fphOp t op (c.selectOp t uFPH k) =
    let r := fpRes true op (c.thr t).fpmode.toNat (c.unit t uFPH).a.toNat (c.unit t uFPH).b.toNat
    let d := (c.selectOp t uFPH k).fphDone t op r
    (if op = .fdiv ∨ op = .fsqrt then d.updCore (coreOf t) (fun k => { k with fphFree := k.cyc + 6 }) else d, none) := by
  have hunit : ((c.selectOp t uFPH k).thr t).unit uFPH = (c.unit t uFPH).select k := Chip.unit_selectOp c t uFPH k
  have hmode : ((c.selectOp t uFPH k).thr t).fpmode = (c.thr t).fpmode := by rw [Chip.thr_selectOp]; rfl
  rw [fphOp, hunit, hmode]
  rfl

section
variable (c : Chip) (t k : Nat) (op : FpOp) (r : FRes)

theorem Chip.onlyThr_fphDone : c.OnlyThr ((c.selectOp t uFPH k).fphDone t op r) t uFPH (ThreadSt.orFlags r.fl.toNat) := by
  rw [Chip.fphDone, Chip.orFp_eq_updThr]
  exact ((Chip.onlyThr_selectOp c t uFPH k).finish _ _ _ _).updThr (portFree_orFlags _)

theorem Chip.sameButThreads_fphDone : c.SameButThreads ((c.selectOp t uFPH k).fphDone t op r) :=
  ((Chip.sameButThreads_selectOp c t uFPH k).finish t uFPH r.val r.fl.toNat (r.fl.nv || r.fl.dz) (fphLatency op)).updThr t
    (ThreadSt.orFlags r.fl.toNat)

theorem Chip.unit_fphDone : ((c.selectOp t uFPH k).fphDone t op r).unit t uFPH = ((c.unit t uFPH).select k).done r.val r.fl.toNat
    (r.fl.nv || r.fl.dz) ((c.core (coreOf t)).cyc + fphLatency op) := by
  rw [Chip.fphDone, Chip.orFp_eq_updThr, (portFree_orFlags _).unit_updThr, Chip.unit_finish, Chip.unit_selectOp]
  rfl

end

theorem Chip.core_of_cores {c d : Chip} (h : d.cores = c.cores) (k : Nat) : d.core k = c.core k := by
  rw [Chip.core, h, Chip.core]

theorem Chip.onlyCore_updCore {c d : Chip} (h : d.cores = c.cores) (k : Nat) (f : CoreSt → CoreSt) : c.OnlyCore (d.updCore k f).settle k f := by
  refine ⟨fun j hj => ?_, ?_⟩
  · rw [Chip.core_settle, Chip.core_updCore_other _ _ _ _ hj, Chip.core_of_cores h]
  · rw [Chip.core_settle, Chip.core_updCore_self, Chip.core_of_cores h]

theorem Chip.onlyCore_refl {c d : Chip} (h : d.cores = c.cores) (k : Nat) : c.OnlyCore d.settle k id :=
  ⟨fun j _ => Chip.core_of_cores h j, Chip.core_of_cores h k⟩

theorem Chip.sameOutside_settle_of_cores (c : Chip) (l : FMap ThreadSt) (k : FMap CoreSt) :
    c.SameOutside { c with threads := l, cores := k }.settle := by
  refine ⟨rfl, rfl, rfl, rfl, rfl, rfl, rfl, rfl, rfl, rfl, rfl, rfl, rfl, rfl, rfl, rfl, rfl, rfl, rfl, rfl, rfl, rfl, rfl⟩

theorem Chip.OnlyThr.settle {c d : Chip} {t u : Nat} {f : ThreadSt → ThreadSt} (h : c.OnlyThr d t u f) : c.OnlyThr d.settle t u f := h

theorem Chip.OnlyThr.updCore {c d : Chip} {t u : Nat} {f : ThreadSt → ThreadSt} (h : c.OnlyThr d t u f) (k : Nat) (g : CoreSt → CoreSt) :
    c.OnlyThr (d.updCore k g) t u f := h

/-- What an FPH row leaves, `d` being the chip before the divider of the core is held. -/
theorem does_of_fph_done {s : State} {i : Instr} {t : Thread} {op : FpOp} {r : FRes} {d : Chip}
    (he : exec i s = .next { s with chip := (if op = .fdiv ∨ op = .fsqrt then d.updCore (coreOf t) (fun k => { k with fphFree := k.cyc + 6 }) else d).settle })
    (hq : (d.unit t uFPH).q = BitVec.ofNat 32 r.val) (hfl : (d.unit t uFPH).fl = BitVec.ofNat 8 r.fl.toNat)
    (honly : s.chip.OnlyThr d t uFPH (ThreadSt.orFlags r.fl.toNat)) (hsame : s.chip.SameButThreads d) :
    Does i s (fun d =>
      (d.unit t uFPH).q = BitVec.ofNat 32 r.val ∧ (d.unit t uFPH).fl = BitVec.ofNat 8 r.fl.toNat ∧
      s.chip.OnlyThr d t uFPH (ThreadSt.orFlags r.fl.toNat) ∧ s.chip.SameOutside d ∧
      s.chip.OnlyCore d (coreOf t) (fun k => if op = .fdiv ∨ op = .fsqrt then { k with fphFree := k.cyc + 6 } else k)) := by
  by_cases hdiv : op = .fdiv ∨ op = .fsqrt
  · simp only [if_pos hdiv] at he ⊢
    have hcores : d.cores = s.chip.cores := hsame.cores
    have hout : s.chip.SameOutside (d.updCore (coreOf t) (fun k => { k with fphFree := k.cyc + 6 })).settle := by
      rw [hsame]
      exact Chip.sameOutside_settle_of_cores _ _ _
    exact does_of_exec he ⟨hq, hfl, (honly.updCore _ _).settle, hout, Chip.onlyCore_updCore hcores _ _⟩
  · simp only [if_neg hdiv] at he ⊢
    exact does_of_exec he ⟨hq, hfl, honly.settle, hsame.sameOutside, Chip.onlyCore_refl hsame.cores _⟩

/-- An FPH row: the result of its operation, and the core's divider held where the operation divides (05 R214). -/
theorem does_of_fphRow {s : State} {i : Instr} {t : Thread} {op : FpOp} (hfree : s.chip.Free t uFPH)
    (he : exec i s = s.lift (fpRow t .fph op)) :
    let r := fpRes true op (s.chip.thr t).fpmode.toNat (s.chip.unit t uFPH).a.toNat (s.chip.unit t uFPH).b.toNat
    Does i s (fun d =>
      (d.unit t uFPH).q = BitVec.ofNat 32 r.val ∧ (d.unit t uFPH).fl = BitVec.ofNat 8 r.fl.toNat ∧
      s.chip.OnlyThr d t uFPH (ThreadSt.orFlags r.fl.toNat) ∧ s.chip.SameOutside d ∧
      s.chip.OnlyCore d (coreOf t) (fun k => if op = .fdiv ∨ op = .fsqrt then { k with fphFree := k.cyc + 6 } else k)) := by
  intro r
  exact does_of_fph_done (exec_of_row hfree he (fphOp_selectOp s.chip t op.code op))
    (congrArg UnitSt.q (Chip.unit_fphDone s.chip t op.code op r)) (congrArg UnitSt.fl (Chip.unit_fphDone s.chip t op.code op r))
    (Chip.onlyThr_fphDone _ _ _ _ _) (Chip.sameButThreads_fphDone _ _ _ _ _)

/-- Settles O13: every FPH row is a row of its operation. -/
theorem fphRows : Obligations.FphRows := by
  intro s t hfree x v p hp
  simp only [List.mem_cons, List.not_mem_nil, or_false] at hp
  obtain rfl | rfl | rfl | rfl | rfl | rfl | rfl | rfl | rfl | rfl | rfl | rfl | rfl | rfl | rfl | rfl := hp
  · exact does_of_fphRow (op := .fadd) hfree rfl
  · exact does_of_fphRow (op := .fsub) hfree rfl
  · exact does_of_fphRow (op := .fmul) hfree rfl
  · exact does_of_fphRow (op := .fma) hfree rfl
  · exact does_of_fphRow (op := .fmin) hfree rfl
  · exact does_of_fphRow (op := .fmax) hfree rfl
  · exact does_of_fphRow (op := .fcmp) hfree rfl
  · exact does_of_fphRow (op := .fdiv) hfree rfl
  · exact does_of_fphRow (op := .fsqrt) hfree rfl
  · exact does_of_fphRow (op := .fabs) hfree rfl
  · exact does_of_fphRow (op := .fneg) hfree rfl
  · exact does_of_fphRow (op := .cvtFI) hfree rfl
  · exact does_of_fphRow (op := .cvtIF) hfree rfl
  · exact does_of_fphRow (op := .cvtFU) hfree rfl
  · exact does_of_fphRow (op := .cvtUF) hfree rfl
  · exact does_of_fphRow (op := .cvtFF) hfree rfl

/-! ### Retirement -/

theorem Chip.OnlyThr.refl (c : Chip) (t u : Nat) : c.OnlyThr c t u id := ⟨fun _ _ => rfl, fun _ _ => rfl, rfl⟩

theorem Chip.retireSaved_main (c : Chip) {t : Nat} (ht : t < 16) (u : Nat) (op : LongOp) (x : UnitSt) : c.retireSaved t u op x = c :=
  if_neg (by simp [isWarden, ht])

/-- A thread that nothing holds goes on when an operation retires. -/
theorem Chip.holdEnds_of_none (c : Chip) {t : Nat} (h : (c.thr t).hold = .none) : c.holdEnds t = c := by
  have h1 : ((c.thr t).hold == .fence) = false := by rw [h]; rfl
  have h2 : ((c.thr t).hold == .halt) = false := by rw [h]; rfl
  simp only [Chip.holdEnds, h1, h2, Bool.false_and, Bool.false_eq_true, if_false, ite_self]

/-- The retirement of an operation of a main-core thread that no hold stops, with result `r` and no exception, not of QUE. -/
theorem retireWith_of_free {t u : Nat} {op : LongOp} {r : Ret} (ht : t < 16) (hu : u ≠ uQUE) (htrap : r.trap = none)
    (hhold : (r.chip.thr t).hold = .none) : retireWith t u op r = r.chip.setUnit t u ((r.chip.unit t u).retired u r) := by
  have hset : ((r.chip.setUnit t u ((r.chip.unit t u).retired u r)).thr t).hold = .none := by
    rw [Chip.thr_setUnit_self]
    exact hhold
  simp only [retireWith, Chip.retireSaved_main _ ht, hu, false_and, if_false, htrap]
  exact Chip.holdEnds_of_none _ hset

theorem UnitSt.retired_of_done (x : UnitSt) (u : Nat) {r : Ret} (h : r.trap = none) : x.retired u r =
    { x with busy := none, q := BitVec.ofNat 32 r.q, fl := BitVec.ofNat 8 r.fl, src6 := BitVec.ofNat 8 r.src6, err := longErr u r.q r.fl } := by
  rw [UnitSt.retired, h]
  rfl

/-- An operation that delivers a result and changes its thread by `f` alone. -/
theorem does_of_retire {s : State} {t : Thread} {u : Fin 16} {op : LongOp} {r : Ret} {f : ThreadSt → ThreadSt}
    (ht : t.val < 16) (hu : u.val ≠ uQUE) (hbusy : (s.chip.unit t u).busy = some op) (hdo : s.chip.longDo t u op = some r)
    (htrap : r.trap = none) (hhold : (r.chip.thr t).hold = .none) (honly : s.chip.OnlyThr r.chip t u f) (hsame : s.chip.SameButThreads r.chip) :
    Does (.longOpRetire t u) s (fun d => (d.unit t u).q = BitVec.ofNat 32 r.q ∧ (d.unit t u).fl = BitVec.ofNat 8 r.fl ∧
      (d.unit t u).busy = none ∧ s.chip.OnlyThr d t u f ∧ s.chip.SameOutside d ∧ d.cores = s.chip.cores) := by
  obtain ⟨d, hd⟩ : ∃ d, d = r.chip.setUnit t u ((r.chip.unit t u).retired u r) := ⟨_, rfl⟩
  have hret : s.chip.retire t u = d := by
    rw [Chip.retire, hbusy, hd]
    simp only [hdo]
    exact retireWith_of_free ht hu htrap hhold
  have hunit : d.unit t u = (r.chip.unit t u).retired u r := by rw [hd, Chip.unit_setUnit_self]
  have honly' : s.chip.OnlyThr d t u f := by rw [hd]; exact honly.setUnit _
  have hsame' : s.chip.SameButThreads d := by rw [hd]; exact hsame.setThr t _
  have hparts : (d.unit t u).q = BitVec.ofNat 32 r.q ∧ (d.unit t u).fl = BitVec.ofNat 8 r.fl ∧ (d.unit t u).busy = none := by
    rw [hunit, UnitSt.retired_of_done _ _ htrap]
    exact ⟨rfl, rfl, rfl⟩
  obtain ⟨hq, hfl, hnone⟩ := hparts
  exact does_of_exec (exec_eq_of_lift (f := fun c => c.retire t u) rfl hret) ⟨hq, hfl, hnone, honly'.settle, hsame'.sameOutside, hsame'.cores⟩

theorem toSigned_emod (n a : Nat) : toSigned n a % 2 ^ n = (a : Int) % 2 ^ n := by
  rw [toSigned]
  split
  · push_cast
    exact Int.emod_emod_of_dvd _ dvd_rfl
  · push_cast
    rw [Int.sub_emod_right]
    exact Int.emod_emod_of_dvd _ dvd_rfl

/-- The low half of a signed product is that of the unsigned one. -/
theorem ofSigned_mul (n a b : Nat) : ofSigned n (toSigned n a * toSigned n b) = a * b % 2 ^ n := by
  rw [ofSigned, Int.mul_emod, toSigned_emod, toSigned_emod, ← Int.mul_emod]
  exact_mod_cast Int.toNat_natCast (a * b % 2 ^ n)

theorem Chip.longDo_mul (c : Chip) (t : Nat) (op : LongOp) : c.longDo t uMUL op = some (c.mulDo op) := rfl
theorem Chip.longDo_fps (c : Chip) (t : Nat) (op : LongOp) : c.longDo t uFPS op = some (c.fpsDo t op) := rfl

theorem Chip.mulDo_of_code (c : Chip) {op : LongOp} {o : MulOp} (hcode : MulOp.ofCode (op.code / 4) = some o) (hw : op.code % 4 = 2) :
    c.mulDo op = { chip := c, q := (mulRes o 32 op.a.toNat op.b.toNat).val, fl := (mulRes o 32 op.a.toNat op.b.toNat).fl } := by
  have hword (x : Word) : operand x 32 = x.toNat := Nat.mod_eq_of_lt x.isLt
  have hdone : mulDone o 2 op.a op.b = mulRes o 32 op.a.toNat op.b.toNat := by
    rw [mulDone, show bitsOf 2 = 32 from rfl, hword, hword]
  simp only [Chip.mulDo, hcode, hw, hdone]

theorem Chip.fpsDo_of_code (c : Chip) (t : Nat) {op : LongOp} {o : FpOp} (hcode : FpOp.ofCode false op.code = some o) :
    c.fpsDo t op = let r := fpRes false o op.fpmode op.a.toNat op.b.toNat
      { chip := c.orFp t r.fl.toNat, q := r.val, fl := r.fl.toNat } := by
  simp only [Chip.fpsDo, hcode]

/-- Settles O16: the retirement of a product or of an FPS operation delivers what `mulRes` or `fpRes` gives for the operands captured. -/
theorem longResults : Obligations.LongResults := by
  intro s t op hhold ht a b free
  have ha : a < 2 ^ 32 := op.a.isLt
  have hb : b < 2 ^ 32 := op.b.isLt
  refine ⟨fun hbusy => ?_, fun hbusy o hcode => ?_⟩
  · have product {o : MulOp} {r fl : Nat} (hcode : MulOp.ofCode (op.code / 4) = some o) (hw : op.code % 4 = 2)
        (hres : mulRes o 32 a b = ⟨r, fl⟩) : free 4 r fl id := by
      have hdo : s.chip.longDo t (4 : Fin 16) op = some { chip := s.chip, q := r, fl := fl } := by
        refine (Chip.longDo_mul s.chip t op).trans ?_
        rw [Chip.mulDo_of_code _ hcode hw, hres]
      exact does_of_retire ht (by decide) hbusy hdo rfl hhold (Chip.OnlyThr.refl _ _ _) rfl
    have hab : a * b < 2 ^ 32 * 2 ^ 32 := Nat.mul_lt_mul'' ha hb
    intro z
    refine ⟨fun h => ?_, fun h => ?_, fun h => ?_, fun h => ?_, fun h => ?_⟩
    · exact product (o := .mulu) (by rw [h]; rfl) (by rw [h]) rfl
    · refine product (o := .muls) (by rw [h]; rfl) (by rw [h]) ?_
      rw [← ofSigned_mul 32 a b]
      exact iRes_of_lt (ofSigned_lt _ _) _ _ _
    · exact product (o := .mulhu) (by rw [h]; rfl) (by rw [h]) (iRes_of_lt (by omega) _ _ _)
    · exact product (o := .mulhs) (by rw [h]; rfl) (by rw [h]) (iRes_of_lt (ofSigned_lt _ _) _ _ _)
    · exact product (o := .mulq) (by rw [h]; rfl) (by rw [h]) (mulRes_mulq (by decide) a b)
  · have hdo := (Chip.longDo_fps s.chip t op).trans (congrArg some (Chip.fpsDo_of_code s.chip t hcode))
    refine does_of_retire (u := 6) ht (by decide) hbusy hdo rfl ?_ ((Chip.OnlyThr.refl _ _ _).updThr (portFree_orFlags _)) rfl
    refine (congrArg ThreadSt.hold (Chip.thr_updThr_self s.chip t (ThreadSt.orFlags _))).trans hhold

end Sys2Proof.Machine
end

section
/-!
PROOFS. Where LSU rows raise exceptions (05 R236), and why loads and swaps are not stated for every state: a listed correction of a
granule below the flash is counted when DMEM at its addresses is read.
-/
namespace Sys2Proof.Machine

/-! ### LSU exceptions -/

section
variable {s : State} {t : Thread} (ht : t.val < 16)
include ht

/-- The windows that an access captures are those in force (04 R185). -/
theorem permFault_capture (c : Chip) (code : Nat) (write : Bool) (a n : Nat) : permFault t (c.capture t uLSU code 0) write a n =
    ((addrs a n).find? (fun x => !c.mayAccess t write x)).map (fun x => ⟨5, some x⟩) := by
  have hw : isWarden t = false := by simp [isWarden, ht]
  simp only [permFault, Chip.mayAccess, Chip.windows, hw]
  rfl

/-- An access whose first byte is not permitted faults there. -/
theorem permFault_of_first (c : Chip) (code : Nat) {write : Bool} {a n : Nat} (ha : a < 2 ^ 24) (hn : 0 < n)
    (h : c.mayAccess t write a = false) : permFault t (c.capture t uLSU code 0) write a n = some ⟨5, some a⟩ := by
  obtain ⟨m, rfl⟩ := Nat.exists_eq_succ_of_ne_zero hn.ne'
  rw [permFault_capture ht, addrs, List.range_succ_eq_map, List.map_cons, Nat.add_zero, Nat.mod_eq_of_lt ha, List.find?_cons, h]
  rfl

/-- An LSU row within DMEM whose operation raises an exception and has done nothing. -/
theorem traps_of_lsuRow {i : Instr} {code n cause : Nat} {kind : LsuKind} {addr : Option Nat} (hfree : s.chip.Free t uLSU)
    (hexc : (s.chip.thr t).exc = none) (hkind : lsuKind code = some (kind, n)) (hn : 0 < n) (hn4 : n ≤ 4)
    (hnear : (s.chip.unit t uLSU).a.toNat % 2 ^ 24 + n ≤ 0x10000) (he : exec i s = s.lift (lsuRow t code))
    (hdo : let c := s.chip.selectOp t uLSU code
      let r := c.lsuDo t (c.capture t uLSU code 0) (c.unit t uLSU).q.toNat
      r.chip = c ∧ r.trap = some ⟨cause, addr⟩) : Traps i s t uLSU cause addr := by
  refine traps_of_row hfree hexc (exec_lsuRow ht he) ?_
  obtain ⟨hchip, htrap⟩ := hdo
  have ha : ((s.chip.selectOp t uLSU code).capture t uLSU code 0).a = (s.chip.unit t uLSU).a := by
    have hsel := congrArg UnitSt.a (Chip.unit_selectOp s.chip t uLSU code)
    exact hsel
  have hshort : lsuShort t ((s.chip.unit t uLSU).a.toNat % 2 ^ 24) n = true := (lsuShort_iff ht (Nat.mod_lt _ (by positivity)) hn hn4).2 hnear
  simp only [lsuOp, hkind, ha, if_pos hshort, htrap, hchip]

end

theorem Chip.mayAccess_selectOp (c : Chip) (t u k : Nat) (write : Bool) (a : Nat) :
    (c.selectOp t u k).mayAccess t write a = c.mayAccess t write a := by
  rw [Chip.mayAccess, Chip.isPriv_selectOp]
  rfl

theorem Chip.capture_selectOp_a (c : Chip) (t k : Nat) : ((c.selectOp t uLSU k).capture t uLSU k 0).a = (c.unit t uLSU).a := by
  have hsel := congrArg UnitSt.a (Chip.unit_selectOp c t uLSU k)
  exact hsel

section
variable (c : Chip) (t : Nat) (op : LongOp) (q n : Nat)

/-- In STRICT an unaligned access raises alignment. -/
theorem Chip.lsuDo_of_unaligned {kind : LsuKind} (hkind : lsuKind op.code = some (kind, n)) (hswap : kind ≠ .swap) (hstrict : op.strict = true)
    (hmis : op.a.toNat % 2 ^ 24 % n ≠ 0) : (c.lsuDo t op q).chip = c ∧ (c.lsuDo t op q).trap = some ⟨6, some (op.a.toNat % 2 ^ 24)⟩ := by
  have hcond : op.strict = true ∧ op.a.toNat % 2 ^ 24 % n ≠ 0 := ⟨hstrict, hmis⟩
  cases kind with
  | load signed => simp only [Chip.lsuDo, hkind, if_pos hcond, and_self]
  | store => simp only [Chip.lsuDo, hkind, if_pos hcond, and_self]
  | swap => exact absurd rfl hswap

/-- An aligned access is one part. -/
theorem lsuParts_of_aligned {a n : Nat} (hn : n = 1 ∨ n = 2 ∨ n = 4) (h : a % n = 0) : lsuParts a n = [(a, n)] := by
  rw [lsuParts, if_pos]
  rcases hn with rfl | rfl | rfl <;> omega

theorem Chip.lsuDo_load_of_fault {e : Trap} {signed : Bool} (hkind : lsuKind op.code = some (.load signed, n)) (hn : n = 1 ∨ n = 2 ∨ n = 4)
    (hal : op.a.toNat % 2 ^ 24 % n = 0) (hfault : permFault t op false (op.a.toNat % 2 ^ 24) n = some e) :
    (c.lsuDo t op q).chip = c ∧ (c.lsuDo t op q).trap = some e := by
  have hcond : ¬ (op.strict = true ∧ op.a.toNat % 2 ^ 24 % n ≠ 0) := fun h => h.2 hal
  have hall : c.loadAll t op [(op.a.toNat % 2 ^ 24, n)] [] = (c, [], some e) := by
    simp only [Chip.loadAll, Chip.loadPart, hfault]
  simp only [Chip.lsuDo, hkind, if_neg hcond, lsuParts_of_aligned hn hal, hall, and_self]

theorem Chip.lsuDo_store_of_fault {e : Trap} (hkind : lsuKind op.code = some (.store, n)) (hn : n = 1 ∨ n = 2 ∨ n = 4)
    (hal : op.a.toNat % 2 ^ 24 % n = 0) (hfault : permFault t op true (op.a.toNat % 2 ^ 24) n = some e) :
    (c.lsuDo t op q).chip = c ∧ (c.lsuDo t op q).trap = some e := by
  have hcond : ¬ (op.strict = true ∧ op.a.toNat % 2 ^ 24 % n ≠ 0) := fun h => h.2 hal
  have hlen : ((leBytes n op.b.toNat).take n).length = n := by rw [List.length_take, leBytes_length, min_self]
  have hall : c.storeParts t op [(op.a.toNat % 2 ^ 24, n)] (leBytes n op.b.toNat) = (c, some e) := by
    simp only [Chip.storeParts, Chip.storePart, hlen, hfault]
  simp only [Chip.lsuDo, hkind, if_neg hcond, lsuParts_of_aligned hn hal, hall, and_self]

theorem Chip.lsuDo_swap_of_fault {e : Trap} {n : Nat} (hkind : lsuKind op.code = some (.swap, n))
    (hfault : permFault t op true (op.a.toNat % 2 ^ 24) 1 = some e) : (c.lsuDo t op q).chip = c ∧ (c.lsuDo t op q).trap = some e := by
  simp only [Chip.lsuDo, hkind, Chip.swapByte, hfault, and_self]

end

theorem lsuKind_load (w : Fin 3) : lsuKind w = some (.load false, 2 ^ w.val) := by revert w; decide
theorem lsuKind_store (w : Fin 3) : lsuKind (8 + w) = some (.store, 2 ^ w.val) := by revert w; decide
theorem size_cases (w : Fin 3) : 2 ^ w.val = 1 ∨ 2 ^ w.val = 2 ∨ 2 ^ w.val = 4 := by revert w; decide

/-- Settles O19: alignment is judged before anything else, and permission at the first byte before any access. -/
theorem lsuExceptions : Obligations.LsuExceptions := by
  intro s t w ht hfree hdom hexc n a hnear
  have hsize := size_cases w
  have ha : a < 2 ^ 24 := Nat.mod_lt _ (by positivity)
  have hn : 0 < n := by positivity
  have hn4 : n ≤ 4 := by omega
  have hstrict {code : Nat} (h : (s.chip.thr t).lsuMode.getLsbD 0 = true) :
      ((s.chip.selectOp t uLSU code).capture t uLSU code 0).strict = true := by
    have hmode : ((s.chip.selectOp t uLSU code).thr t).lsuMode = (s.chip.thr t).lsuMode := by rw [Chip.thr_selectOp]; rfl
    simp only [Chip.capture, hmode, h, Bool.or_true]
  have hop (code : Nat) : ((s.chip.selectOp t uLSU code).capture t uLSU code 0).a = (s.chip.unit t uLSU).a := Chip.capture_selectOp_a _ _ _
  have hperm {code m : Nat} {write : Bool} (hm : 0 < m) (h : s.chip.mayAccess t write a = false) :
      permFault t ((s.chip.selectOp t uLSU code).capture t uLSU code 0) write
        (((s.chip.selectOp t uLSU code).capture t uLSU code 0).a.toNat % 2 ^ 24) m = some ⟨5, some a⟩ := by
    rw [hop]
    exact permFault_of_first ht _ _ ha hm (by rw [Chip.mayAccess_selectOp, h])
  have unaligned {i : Instr} {code : Nat} {kind : LsuKind} (hkind : lsuKind code = some (kind, n)) (hswap : kind ≠ .swap)
      (he : exec i s = s.lift (lsuRow t code)) (h : (s.chip.thr t).lsuMode.getLsbD 0 = true) (hmis : a % n ≠ 0) :
      Traps i s t uLSU 6 (some a) := by
    refine traps_of_lsuRow ht hfree hexc hkind hn hn4 hnear he ?_
    have hdo := Chip.lsuDo_of_unaligned (s.chip.selectOp t uLSU code) t ((s.chip.selectOp t uLSU code).capture t uLSU code 0)
      ((s.chip.selectOp t uLSU code).unit t uLSU).q.toNat n hkind hswap (hstrict h) (by rw [hop]; exact hmis)
    rwa [hop] at hdo
  refine ⟨fun h hmis => ⟨unaligned (lsuKind_load w) (by decide) rfl h hmis, unaligned (lsuKind_store w) (by decide) rfl h hmis⟩,
    fun hal h => ?_, fun hal h => ?_, fun h1 h => ?_⟩
  · exact traps_of_lsuRow ht hfree hexc (lsuKind_load w) hn hn4 hnear rfl
      (Chip.lsuDo_load_of_fault _ _ _ _ _ (lsuKind_load w) hsize (by rw [hop]; exact hal) (hperm hn h))
  · exact traps_of_lsuRow ht hfree hexc (lsuKind_store w) hn hn4 hnear rfl
      (Chip.lsuDo_store_of_fault _ _ _ _ _ (lsuKind_store w) hsize (by rw [hop]; exact hal) (hperm hn h))
  · exact traps_of_lsuRow ht hfree hexc (kind := .swap) (n := 1) rfl one_pos (by decide) (h1 ▸ hnear) rfl
      (Chip.lsuDo_swap_of_fault _ _ _ _ rfl (hperm one_pos h))

/-! ### Loads and swaps of DMEM where a granule below the flash lists a correction -/

/-- WRD and CPU on, thread 0 privileged with address 0 at its LSU, and a correctable granule listed at address 0, where no flash is.
No command lists granules; the statements quantify over every state. -/
def lowGranule : State :=
  ⟨[], { seq := { doms := [(dWRD, { state := 4 }), (dCPU, { state := 4 })] }
         nvm := { flashCorr := [0] }
         threads := [(0, { priv := true })] }⟩

theorem lowGranule_free : lowGranule.chip.Free 0 uLSU := by unfold Chip.Free; decide
theorem lowGranule_on : lowGranule.chip.domOn dCPU = true := by decide
theorem lowGranule_access (write : Bool) :
    let a := (lowGranule.chip.unit (0 : Thread) uLSU).a.toNat % 2 ^ 24
    a + 2 ^ (0 : Fin 3).val ≤ 0x10000 ∧ (∀ i < 2 ^ (0 : Fin 3).val, lowGranule.chip.mayAccess (0 : Thread) write (a + i) = true) ∧
      a % 2 ^ (0 : Fin 3).val = 0 := by
  revert write
  decide

/-- A command that counts a correction in that state does not leave the registers. -/
theorem regs_ne_of_count {i : Instr} {d : State} (hd : exec i lowGranule = .next d)
    (hcount : (match exec i lowGranule with | .next d => d.chip.regs | _ => []) ≠ lowGranule.chip.regs) :
    d.chip.regs ≠ lowGranule.chip.regs := by
  rw [hd] at hcount
  exact hcount

/-- Refutes O17: the load of DMEM byte 0 counts the correction of the listed granule in NVM_CORRCNT. -/
theorem not_loadsFromDmem : ¬ Obligations.LoadsFromDmem := by
  intro h
  obtain ⟨hnear, hload, hal⟩ := lowGranule_access false
  obtain ⟨⟨d, hd, -, -, -, -, -, hout, -⟩, -⟩ :=
    h lowGranule 0 0 (by decide) lowGranule_free lowGranule_on hnear hload (fun _ => hal)
  exact regs_ne_of_count hd (by decide +kernel) hout.1

/-- Refutes O18: the swap of DMEM byte 0 reads it and counts the correction of the listed granule in NVM_CORRCNT. -/
theorem not_storesToDmem : ¬ Obligations.StoresToDmem := by
  intro h
  obtain ⟨hnear, hstore, hal⟩ := lowGranule_access true
  obtain ⟨-, hload, -⟩ := lowGranule_access false
  obtain ⟨-, hswap⟩ := h lowGranule 0 0 (by decide) lowGranule_free lowGranule_on hnear hstore (fun _ => hal)
  obtain ⟨d, hd, -, ⟨-, -, -, -, hout, -⟩, -⟩ := hswap (hload 0 (by decide)) rfl
  exact regs_ne_of_count hd (by decide +kernel) hout.1

end Sys2Proof.Machine
end

section
/-!
PROOFS. The rows of CTL that do not jump, the wake of a thread and the pop of a doorbell (05 R244, R246, 07 R320).
-/
namespace Sys2Proof.Machine

/-! ### A thread's outstanding operations -/

/-- An entry replaced by one that a test cannot tell from what its key read before leaves the test of all entries as it was. -/
theorem FMap.all_insert {α : Type} (d : α) (m : FMap α) (k : Nat) (v : α) (p : α → Bool) (hd : p d = true)
    (hv : p v = p (FMap.get d m k)) : (FMap.insert m k v).all (fun e => p e.2) = m.all (fun e => p e.2) := by
  induction m with
  | nil =>
    have hnil : p v = true := hv.trans hd
    simp [FMap.insert, hnil]
  | cons e m ih =>
    have hget : FMap.get d (e :: m) k = if k = e.1 then e.2 else FMap.get d m k := by
      simp only [FMap.get, FMap.find?]
      split
      · rw [Option.getD_some]
      · rfl
    rw [hget] at hv
    unfold FMap.insert
    split
    case isTrue hlt =>
      rw [if_neg (by omega)] at hv
      have hall : (e :: m).all (fun e => p e.2) = true → p v = true := by
        intro h
        rw [hv]
        unfold FMap.get
        cases hf : FMap.find? m k with
        | none => exact hd
        | some w =>
          have hmem : ∀ l : FMap α, FMap.find? l k = some w → ∃ a, (a, w) ∈ l := by
            intro l
            induction l with
            | nil => intro h; exact absurd h (by simp [FMap.find?])
            | cons a l ihl =>
              intro h
              unfold FMap.find? at h
              split at h
              · exact ⟨a.1, by simp [← Option.some.inj h]⟩
              · obtain ⟨b, hb⟩ := ihl h
                exact ⟨b, List.mem_cons_of_mem _ hb⟩
          obtain ⟨a, ha⟩ := hmem m hf
          exact List.all_eq_true.1 h _ (List.mem_cons_of_mem _ ha)
      rw [List.all_cons]
      cases hb : (e :: m).all (fun e => p e.2) with
      | false => rw [Bool.and_false]
      | true => rw [hall hb, Bool.and_self]
    case isFalse hlt =>
      split
      case isTrue heq =>
        rw [if_pos heq] at hv
        rw [List.all_cons, List.all_cons, hv]
      case isFalse hne =>
        rw [if_neg hne] at hv
        rw [List.all_cons, List.all_cons, ih hv]

theorem ThreadSt.quiet_setUnit (x : ThreadSt) {u : Nat} {p : UnitSt} (hp : p ≠ {}) (hbusy : p.busy = (x.unit u).busy) :
    (x.setUnit u p).quiet = x.quiet := by
  have hset : FMap.set {} x.units u p = FMap.insert x.units u p := if_neg hp
  rw [ThreadSt.quiet, ThreadSt.setUnit, hset]
  have hnone : p.busy.isNone = (FMap.get ({} : UnitSt) x.units u).busy.isNone := congrArg Option.isNone hbusy
  exact FMap.all_insert {} x.units u p (fun q => q.busy.isNone) rfl hnone

/-- An op register that selects an operation of code 1 to 255 is not that of reset. -/
theorem UnitSt.select_ne_default (p : UnitSt) {k : Nat} (h0 : k ≠ 0) (hk : k < 256) : p.select k ≠ {} := by
  intro h
  have hop := congrArg (fun q : UnitSt => q.op.toNat) h
  simp only [UnitSt.select, BitVec.toNat_ofNat, Nat.mod_eq_of_lt hk] at hop
  exact h0 hop

theorem Chip.quiet_selectOp (c : Chip) (t u : Nat) {k : Nat} (h0 : k ≠ 0) (hk : k < 256) :
    ((c.selectOp t u k).thr t).quiet = (c.thr t).quiet := by
  rw [Chip.thr_selectOp]
  exact ThreadSt.quiet_setUnit _ (UnitSt.select_ne_default _ h0 hk) rfl

/-- A result that is readable only after a cycle is not that of reset. -/
theorem UnitSt.done_ne_default (p : UnitSt) (q fl : Nat) (err : Bool) (n : Nat) : p.done q fl err (n + 1) ≠ {} := by
  intro h
  have hready : max p.readyAt (n + 1) = 0 := congrArg UnitSt.readyAt h
  omega

theorem Chip.quiet_finish (c : Chip) (t u q fl : Nat) (err : Bool) (lat : Nat) :
    ((c.finish t u q fl err (lat + 1)).thr t).quiet = (c.thr t).quiet := by
  rw [Chip.thr_finish]
  exact ThreadSt.quiet_setUnit _ (UnitSt.done_ne_default _ _ _ _ _) rfl

/-! ### The rules of CTL rows that do more than finish -/

theorem Chip.waitPending_selectOp (c : Chip) (t : Nat) {k : Nat} (h0 : k ≠ 0) (hk : k < 256) :
    (c.selectOp t uCTL k).waitPending t = c.waitPending t := by
  have hq := Chip.quiet_selectOp c t uCTL h0 hk
  have hin : (c.selectOp t uCTL k).inboxOf t = c.inboxOf t := by
    rw [Chip.inboxOf, Chip.thr_selectOp]
    rfl
  simp only [Chip.waitPending, hq, hin]
  rw [Chip.thr_selectOp]
  rfl

section
variable {s : State} {i : Instr} {t : Thread} {code : Nat} {d : Chip} {target : Option Index} {f : ThreadSt → ThreadSt}
  (he : exec i s = s.lift (ctlRow t code))
  (hop : (s.chip.selectOp t uCTL code).ctlOp t code = { chip := d, target := target })
  (honly : s.chip.OnlyThr d t uCTL f) (hsame : s.chip.SameButThreads d)
include he hop honly hsame

/-- A CTL row whose operation answers `d`: the thread is changed by `f` and leaves its bundle behind. -/
theorem does_of_ctlRow {P : Chip → Prop}
    (hP : ∀ e : Chip, s.chip.OnlyThr e t uCTL (fun x => { f x with pc := target.getD (x.pc + 1) }) → s.chip.SameOutside e →
      e.cores = s.chip.cores → e.unit t uCTL = d.unit t uCTL → P e) : Does i s P := by
  have hrow : ctlRow t code s.chip = d.updThr t (fun x => { x with pc := target.getD ((s.chip.thr t).pc + 1) }) := by
    rw [ctlRow, hop, Chip.thr_selectOp]
    rfl
  have hsame' := hsame.updThr t (fun x => { x with pc := target.getD ((s.chip.thr t).pc + 1) })
  have honly' := (honly.updThr (portFree_pc (target.getD ((s.chip.thr t).pc + 1))))
  exact does_of_exec (exec_eq_of_lift he hrow) (hP _ (honly'.congr rfl).settle hsame'.sameOutside hsame'.cores
    ((portFree_pc _).unit_updThr d t uCTL))

theorem threadDone_of_ctlOp {q fl : Nat} (hq : (d.unit t uCTL).q.toNat = q) (hfl : (d.unit t uCTL).fl.toNat = fl) :
    ThreadDone i s t uCTL q fl (fun x => { f x with pc := target.getD (x.pc + 1) }) :=
  does_of_ctlRow he hop honly hsame (fun e h hout hcores hunit => ⟨by rw [hunit, hq], by rw [hunit, hfl], h, hout, hcores⟩)

end

/-! ### What the operations answer -/

/-- A wait that ends. -/
def ThreadSt.woken (m : Nat) (x : ThreadSt) : ThreadSt := { x with run := .active, queDone := if bit m 2 then false else x.queDone }

theorem portFree_woken (m : Nat) : PortFree (ThreadSt.woken m) := fun _ _ => rfl

theorem ThreadSt.woken_eq (m : Nat) (x : ThreadSt) : x.woken m = { x with run := .active, queDone := x.queDone && !bit m 2 } := by
  rw [ThreadSt.woken]
  cases bit m 2 <;> simp

theorem Chip.wakeNow_eq (c : Chip) (t m : Nat) : c.wakeNow t m = (c.finish t uCTL 0 (m % 32) false 1).updThr t (ThreadSt.woken m) := rfl

/-- A thread that a CTL operation of code 1 to 255 has selected. -/
theorem Chip.waitmask_selectOp (c : Chip) (t k : Nat) : ((c.selectOp t uCTL k).thr t).waitmask = (c.thr t).waitmask := by
  rw [Chip.thr_selectOp]
  rfl

section
variable (c : Chip) (t : Nat)

theorem ctlOp_wait : c.ctlOp t 0x04 = c.waitOp t := rfl

theorem waitOp_of_empty (h : (c.thr t).waitmask = 0) : c.waitOp t = { chip := c, trap := some ⟨3, none⟩ } := if_pos h

theorem waitOp_of_pending (h : (c.thr t).waitmask ≠ 0) (hm : c.waitPending t ≠ 0) :
    c.waitOp t = { chip := c.wakeNow t (c.waitPending t) } := by
  rw [Chip.waitOp, if_neg h, if_pos hm]

theorem waitOp_of_none (h : (c.thr t).waitmask ≠ 0) (hm : c.waitPending t = 0) :
    c.waitOp t = { chip := c.updThr t (fun x => { x with run := .waiting, holdPc := x.pc }) } := by
  rw [Chip.waitOp, if_neg h, if_neg (not_not.2 hm)]

theorem ctlOp_yield : c.ctlOp t 0x05 =
    let a := (c.unit t uCTL).a.toNat % 256
    { chip := (c.finish t uCTL 0 0 false 1).updThr t (fun x => { x with notBefore := (c.core (coreOf t)).cyc + 1 + (if a = 0 then 4 else a) }) } :=
  rfl

theorem ctlOp_fence : c.ctlOp t 0x10 =
    { chip := if (c.thr t).quiet then c.finish t uCTL 0 0 false 1
              else (c.finish t uCTL 0 0 false 1).updThr t (fun x => { x with hold := .fence }) } := by
  have hq := Chip.quiet_finish c t uCTL 0 0 false 0
  rw [Nat.zero_add] at hq
  rw [← hq]
  rfl

theorem ctlOp_halt : c.ctlOp t 0x80 = { chip := (c.finish t uCTL 0 0 false 1).haltOp t } := rfl

theorem haltOp_finish (h : (c.thr t).quiet = true) : (c.finish t uCTL 0 0 false 1).haltOp t = (c.finish t uCTL 0 0 false 1).haltThread t := by
  have hq := Chip.quiet_finish c t uCTL 0 0 false 0
  rw [h] at hq
  exact if_pos hq

theorem haltOp_finish_of_busy (h : (c.thr t).quiet = false) : (c.finish t uCTL 0 0 false 1).haltOp t =
    (c.finish t uCTL 0 0 false 1).updThr t (fun x => { x with hold := .halt, holdPc := x.pc }) := by
  have hq := Chip.quiet_finish c t uCTL 0 0 false 0
  rw [h] at hq
  exact if_neg (ne_true_of_eq_false hq)

theorem nvmReleaseThread_of_other (h : c.rd R.NVM_OWN ≠ originOf t) : c.nvmReleaseThread t = c := by
  rw [Chip.nvmReleaseThread, if_neg]
  simp [h]

/-- A halted thread keeps nothing of its shadows; an NVM interface that it does not own stands. -/
theorem haltThread_of_other (h : c.rd R.NVM_OWN ≠ originOf t) :
    c.haltThread t = c.updThr t (fun x => { x with run := .halted, hold := .none, shadow := [], regShadow := [] }) :=
  nvmReleaseThread_of_other _ _ h

theorem trapNow_of_exc_none (h : (c.thr t).exc = none) : c.trapNow t 0 = c.updThr t (fun x => { x with
    exc := some { cause := 0x0A, fu := unitBase uCTL, tag := BitVec.ofNat 8 ((c.unit t uCTL).a.toNat), pc := x.pc, resume := x.pc + 1 } }) := by
  simp only [Chip.trapNow, Chip.raise, h]
  rfl

end

theorem unit_finish_updThr {g : ThreadSt → ThreadSt} (hg : PortFree g) (c : Chip) (t : Nat) {fl : Nat} (hfl : fl < 2 ^ 8) :
    (((c.finish t uCTL 0 fl false 1).updThr t g).unit t uCTL).q.toNat = 0 ∧ (((c.finish t uCTL 0 fl false 1).updThr t g).unit t uCTL).fl.toNat = fl := by
  rw [hg.unit_updThr, Chip.unit_finish, UnitSt.done_q, UnitSt.done_fl, BitVec.toNat_ofNat, BitVec.toNat_ofNat, Nat.mod_eq_of_lt hfl]
  exact ⟨rfl, rfl⟩

/-- A CTL row that finishes and then changes its thread by `g`. -/
theorem threadDone_of_ctl_finish {s : State} {i : Instr} {t : Thread} {code fl : Nat} {g : ThreadSt → ThreadSt} (hg : PortFree g)
    (hfl : fl < 2 ^ 8) (he : exec i s = s.lift (ctlRow t code))
    (hop : (s.chip.selectOp t uCTL code).ctlOp t code = { chip := ((s.chip.selectOp t uCTL code).finish t uCTL 0 fl false 1).updThr t g }) :
    ThreadDone i s t uCTL 0 fl (fun x => { g x with pc := x.pc + 1 }) := by
  obtain ⟨hq, hf⟩ := unit_finish_updThr hg (s.chip.selectOp t uCTL code) t hfl
  exact threadDone_of_ctlOp he hop (((Chip.onlyThr_selectOp _ _ _ _).finish _ _ _ _).updThr hg)
    (((Chip.sameButThreads_selectOp _ _ _ _).finish _ _ _ _ _ _).updThr _ _) hq hf

theorem waitPending_and_lt (c : Chip) (t : Nat) : c.waitPending t % 32 < 2 ^ 8 := by omega

/-- The rows of CTL that do not jump. -/
theorem controlRows : Parts.ControlRows := by
  intro s t x m a keep
  have hm : (s.chip.selectOp t uCTL 0x04).waitPending t = m := Chip.waitPending_selectOp _ _ (by decide) (by decide)
  have hmask : ((s.chip.selectOp t uCTL 0x04).thr t).waitmask = x.waitmask := Chip.waitmask_selectOp _ _ _
  have hbusy (k : Nat) : ((s.chip.selectOp t uCTL k).unit t uCTL).busy = (s.chip.unit t uCTL).busy := by
    rw [Chip.unit_selectOp, UnitSt.select_busy]
  have hquiet (k : Nat) (h0 : k ≠ 0) (hk : k < 256) : ((s.chip.selectOp t uCTL k).thr t).quiet = x.quiet :=
    Chip.quiet_selectOp _ _ _ h0 hk
  refine ⟨fun h hexc => ?_, fun h hp => ?_, fun h hp => ?_, ?_, ?_, fun hq hown => ?_, fun hq => ?_, fun hexc => ?_⟩
  · exact traps_of_ctlRow hexc (by decide) rfl (waitOp_of_empty _ _ (hmask.trans h))
  · have hop := waitOp_of_pending (s.chip.selectOp t uCTL 0x04) t (by rwa [hmask]) (by rwa [hm])
    rw [hm, Chip.wakeNow_eq] at hop
    have hdone := threadDone_of_ctl_finish (i := .wait t) (portFree_woken m) (waitPending_and_lt s.chip t) rfl hop
    simpa only [ThreadSt.woken_eq] using hdone
  · have hg : PortFree (fun x => { x with run := .waiting, holdPc := x.pc }) := fun _ _ => rfl
    have hop := waitOp_of_none (s.chip.selectOp t uCTL 0x04) t (by rwa [hmask]) (by rwa [hm])
    refine does_of_ctlRow (i := .wait t) (code := 0x04) rfl hop (((Chip.onlyThr_selectOp s.chip t uCTL 0x04).updThr hg).congr
      (g := fun x => { x with run := .waiting, holdPc := x.pc }) rfl)
      ((Chip.sameButThreads_selectOp _ _ _ _).updThr _ _) (fun e honly hout hcores hunit => ⟨honly, hout, hcores, ?_⟩)
    rw [hunit, hg.unit_updThr, hbusy]
  · refine threadDone_of_ctl_finish (g := fun x => { x with notBefore := (s.chip.core (coreOf t)).cyc + 1 + (if a = 0 then 4 else a) })
      (fun _ _ => rfl) (by decide) rfl ?_
    rw [ctlOp_yield, Chip.unit_selectOp]
    rfl
  · cases hq : x.quiet with
    | true =>
      have hop := ctlOp_fence (s.chip.selectOp t uCTL 0x10) t
      rw [hquiet _ (by decide) (by decide), hq, if_pos rfl] at hop
      have hdone := threadDone_of_ctlRow (i := .fence t) (by decide) rfl hop (Chip.onlyThr_selectOp _ _ _ _) (Chip.sameButThreads_selectOp _ _ _ _)
      obtain ⟨d, he, hpend, hr, hfl, honly, hrest⟩ := hdone
      exact ⟨d, he, hpend, hr, hfl, honly.congr (by simp only [if_pos (show (s.chip.thr t).quiet = true from hq)]; rfl), hrest⟩
    | false =>
      have hop := ctlOp_fence (s.chip.selectOp t uCTL 0x10) t
      rw [hquiet _ (by decide) (by decide), hq, if_neg (by decide)] at hop
      have hdone := threadDone_of_ctl_finish (i := .fence t) (fun _ _ => rfl) (by decide) rfl hop
      obtain ⟨d, he, hpend, hr, hfl, honly, hrest⟩ := hdone
      exact ⟨d, he, hpend, hr, hfl, honly.congr (by simp only [if_neg (show ¬ (s.chip.thr t).quiet = true from ne_true_of_eq_false hq)]), hrest⟩
  · refine threadDone_of_ctl_finish (g := fun x => { x with run := .halted, hold := .none, shadow := [], regShadow := [] })
      (fun _ _ => rfl) (by decide) rfl ?_
    have hown' : ((s.chip.selectOp t uCTL 0x80).finish t uCTL 0 0 false 1).rd R.NVM_OWN ≠ originOf t := hown
    rw [ctlOp_halt, haltOp_finish _ _ (by rw [hquiet _ (by decide) (by decide), hq]), haltThread_of_other _ _ hown']
  · refine threadDone_of_ctl_finish (g := fun x => { x with hold := .halt, holdPc := x.pc }) (fun _ _ => rfl) (by decide) rfl ?_
    rw [ctlOp_halt, haltOp_finish_of_busy _ _ (by rw [hquiet _ (by decide) (by decide), hq])]
  · let e : Exc := { cause := 0x0A, fu := unitBase uCTL, tag := BitVec.ofNat 8 (s.chip.unit t uCTL).a.toNat, pc := x.pc, resume := x.pc + 1 }
    have hg : PortFree (fun y => { y with exc := some e }) := fun _ _ => rfl
    have hexc' : ((s.chip.selectOp t uCTL 0xFF).thr t).exc = none := by rw [Chip.thr_selectOp]; exact hexc
    have hrow : ctlRow t 0xFF s.chip = (s.chip.selectOp t uCTL 0xFF).updThr t (fun y => { y with exc := some e }) := by
      have htrap : ctlRow t 0xFF s.chip = (s.chip.selectOp t uCTL 0xFF).trapNow t 0 := rfl
      rw [htrap, trapNow_of_exc_none _ _ hexc', Chip.unit_selectOp, Chip.updThr, Chip.updThr, Chip.thr_selectOp]
      rfl
    have honly := (Chip.onlyThr_selectOp s.chip t uCTL 0xFF).updThr hg
    have hsame : s.chip.SameButThreads _ := (Chip.sameButThreads_selectOp s.chip t uCTL 0xFF).updThr t (fun y => { y with exc := some e })
    have hthr : (((s.chip.selectOp t uCTL 0xFF).updThr t (fun y => { y with exc := some e })).thr t).exc = some e := by
      rw [Chip.thr_updThr_self]
    have hb : (((s.chip.selectOp t uCTL 0xFF).updThr t (fun y => { y with exc := some e })).unit t uCTL).busy = (s.chip.unit t uCTL).busy := by
      rw [hg.unit_updThr, hbusy]
    generalize (s.chip.selectOp t uCTL 0xFF).updThr t (fun y => { y with exc := some e }) = d at hrow honly hsame hthr hb
    refine does_of_exec (exec_eq_of_lift rfl hrow) ⟨hthr, (honly.congr ?_).settle, hsame.sameOutside, hsame.cores, hb⟩
    rw [Chip.thr_settle, hthr]
    rfl

/-- The wake of a waiting thread, and the pop of a doorbell. -/
theorem wakesAndDoorbells : Parts.WakesAndDoorbells := by
  intro s t x m
  refine ⟨fun hrun hm hexc => ?_, ?_⟩
  · have hwake : (if (s.chip.thr t).run == .waiting && s.chip.waitPending t != 0 && (s.chip.thr t).exc.isNone
        then s.chip.wakeNow t (s.chip.waitPending t) else s.chip) = s.chip.wakeNow t m := by
      rw [if_pos]
      have hrun' : ((s.chip.thr t).run == Run.waiting) = true := beq_iff_eq.2 hrun
      have hm' : (s.chip.waitPending t != 0) = true := bne_iff_ne.2 hm
      have hexc' : (s.chip.thr t).exc.isNone = true := Option.isNone_iff_eq_none.2 hexc
      rw [hrun', hm', hexc']
      rfl
    have honly := ((Chip.OnlyThr.refl s.chip t uCTL).finish 0 (m % 32) false 1).updThr (portFree_woken m)
    have hsame0 : s.chip.SameButThreads s.chip := rfl
    have hsame := (hsame0.finish t uCTL 0 (m % 32) false 1).updThr t (ThreadSt.woken m)
    obtain ⟨hq, hfl⟩ := unit_finish_updThr (portFree_woken m) s.chip t (waitPending_and_lt s.chip t)
    have hd := Chip.wakeNow_eq s.chip t m
    generalize (s.chip.finish t uCTL 0 (m % 32) false 1).updThr t (ThreadSt.woken m) = d at hd honly hsame hq hfl
    exact does_of_exec (exec_eq_of_lift rfl (hwake.trans hd)) ⟨hq, hfl, (honly.congr (ThreadSt.woken_eq _ _)).settle, hsame.sameOutside, hsame.cores⟩
  · have hsame : s.chip.SameButThreads (s.chip.updThr t (fun x => { x with doorbells := x.doorbells.tail })) := rfl
    refine does_of_lift (f := fun c => c.updThr t (fun x => { x with doorbells := x.doorbells.tail })) rfl rfl
      ⟨?_, ?_, fun r hr => ?_, hsame.sameOutside, hsame.cores⟩
    · rw [Chip.thr_settle, Chip.thr_updThr_self, List.drop_one]
    · rw [Chip.thr_settle, Chip.thr_updThr_self]
    · rw [Chip.thr_settle, Chip.thr_updThr_other _ _ _ _ hr]

/-- Settles O22. -/
theorem threadControl : Obligations.ThreadControl := ⟨controlRows, wakesAndDoorbells⟩

end Sys2Proof.Machine
end

section
/-!
PROOFS. What a command leaves alone, step by step: registers written, events raised, entries staged, and the level rules at its end.
-/
namespace Sys2Proof.Machine

/-! ### Changes before the level rules apply -/

/-- `Chip.Keeps` without the level rules: what the operations inside a command have changed so far. -/
def Chip.Moved (c d : Chip) (rs : List Reg) (blank : Chip → Chip) : Prop :=
  (∀ r : Reg, (∀ x ∈ rs, r.addr ≠ x.addr) → d.rd r = c.rd r) ∧ blank { d with regs := [] } = blank { c with regs := [] }

section
variable {c d e : Chip} {rs : List Reg} {blank : Chip → Chip}

theorem Chip.Moved.refl (c : Chip) (rs : List Reg) (blank : Chip → Chip) : c.Moved c rs blank := ⟨fun _ _ => rfl, rfl⟩

theorem Chip.Moved.trans (h : c.Moved d rs blank) (h' : d.Moved e rs blank) : c.Moved e rs blank :=
  ⟨fun r hr => (h'.1 r hr).trans (h.1 r hr), h'.2.trans h.2⟩

/-- A change outside the registers that the blank hides. -/
theorem Chip.Moved.put (h : c.Moved d rs blank) (hregs : e.regs = d.regs) (hblank : blank { e with regs := [] } = blank { d with regs := [] }) :
    c.Moved e rs blank :=
  ⟨fun r hr => (congrArg (fun m => FMap.get r.reset m r.addr) hregs).trans (h.1 r hr), hblank.trans h.2⟩

theorem Chip.Moved.wr (h : c.Moved d rs blank) {r : Reg} (hr : r ∈ rs) (v : Nat) : c.Moved (d.wr r v) rs blank :=
  ⟨fun q hq => (Chip.rd_wr_other d r q v (hq r hr)).trans (h.1 q hq), h.2⟩

theorem Chip.Moved.wbit (h : c.Moved d rs blank) {r : Reg} (hr : r ∈ rs) (i : Nat) (b : Bool) : c.Moved (d.wbit r i b) rs blank := h.wr hr _

theorem Chip.Moved.wfld (h : c.Moved d rs blank) {r : Reg} (hr : r ∈ rs) (lo w x : Nat) : c.Moved (d.wfld r lo w x) rs blank := h.wr hr _

theorem Chip.Moved.inc (h : c.Moved d rs blank) {r : Reg} (hr : r ∈ rs) : c.Moved (d.inc r) rs blank := h.wr hr _

/-- What neither the registers nor the blank hide has not changed. -/
theorem Chip.Moved.field (h : c.Moved d rs blank) {α : Type} {f : Chip → α} (hf : ∀ x : Chip, f (blank { x with regs := [] }) = f x) : f d = f c := by
  rw [← hf d, h.2, hf c]

theorem Chip.Moved.mono {rs' : List Reg} (h : c.Moved d rs blank) (hrs : ∀ x ∈ rs, x ∈ rs') : c.Moved d rs' blank :=
  ⟨fun r hr => h.1 r (fun x hx => hr x (hrs x hx)), h.2⟩

theorem Chip.Moved.ite (p : Prop) [Decidable p] (hd : p → c.Moved d rs blank) (he : ¬ p → c.Moved e rs blank) :
    c.Moved (if p then d else e) rs blank := by
  split
  · exact hd ‹_›
  · exact he ‹_›

end

/-! ### The level rules (19 R927, 18 R880, 02 R88, 18 R861) -/

/-- The registers that the level rules read. -/
def levelRegs : List Reg := [R.PEB_EN, R.OTP_SECT, R.WDN_STATUS, R.SYS_SUPPLY, R.ENT_STATE]

/-- What the level rules read, and what they act on, is the same in `d`. -/
structure Chip.SameLevels (c d : Chip) : Prop where
  jtag : d.jtag = c.jtag
  peb : d.peb = c.peb
  hif : d.hif = c.hif
  ent : d.ent = c.ent
  doms : d.seq.doms = c.seq.doms
  shadow : d.nvm.shadow = c.nvm.shadow
  power : d.mode.power = c.mode.power
  regs : ∀ r ∈ levelRegs, d.rd r = c.rd r

/-- The four parts of the machine on which the level rules act, replaced. -/
def Chip.putLevels (x : Chip) (j : JtagSt) (p : PebSt) (h : HifSt) (e : EntSt) : Chip := { x with jtag := j, peb := p, hif := h, ent := e }

section
variable {c d : Chip}

theorem Chip.SameLevels.channelsOff (h : c.SameLevels d) : d.channelsOff = c.channelsOff := by
  unfold Chip.channelsOff Chip.dom
  rw [h.doms]

theorem Chip.SameLevels.bankGood (h : c.SameLevels d) : d.bankGood 0 = c.bankGood 0 := by
  unfold Chip.bankGood Chip.rbit
  rw [h.regs R.SYS_SUPPLY (by decide)]

theorem Chip.SameLevels.entState (h : c.SameLevels d) : d.entState = c.entState := by
  unfold Chip.entState Chip.rfld
  rw [h.regs R.ENT_STATE (by decide)]

theorem Chip.SameLevels.pebActive (h : c.SameLevels d) (i : Nat) : d.pebActive i = c.pebActive i := by
  unfold Chip.pebActive Chip.pebUnlocked Chip.fuseUnlock Chip.fieldDebugBlown Chip.policyFailed Chip.policyOn Chip.wrdOn Chip.domOn Chip.dom
    Chip.rbit Chip.rfld
  rw [h.regs R.PEB_EN (by decide), h.regs R.OTP_SECT (by decide), h.regs R.WDN_STATUS (by decide), h.doms, h.shadow, h.power, h.peb]

theorem Chip.SameLevels.settle_eq (h : c.SameLevels d) :
    d.settle = d.putLevels c.settle.jtag c.settle.peb c.settle.hif c.settle.ent := by
  unfold Chip.settle Chip.putLevels
  simp only [h.channelsOff, h.bankGood, h.entState, h.pebActive, h.jtag, h.peb, h.hif, h.ent]

end

/-- A blank that hides nothing of the level rules. -/
structure LevelBlank (blank : Chip → Chip) : Prop where
  put : ∀ x j p h e, blank (x.putLevels j p h e) = (blank x).putLevels j p h e
  jtag : ∀ x, (blank x).jtag = x.jtag
  peb : ∀ x, (blank x).peb = x.peb
  hif : ∀ x, (blank x).hif = x.hif
  ent : ∀ x, (blank x).ent = x.ent
  doms : ∀ x, (blank x).seq.doms = x.seq.doms
  shadow : ∀ x, (blank x).nvm.shadow = x.nvm.shadow
  power : ∀ x, (blank x).mode.power = x.mode.power

section
variable {c d : Chip} {rs : List Reg} {blank : Chip → Chip}

/-- The level rules at the end of a command, where the blank commutes with what they replace. -/
theorem Chip.Moved.keeps_of_sameLevels (h : c.Moved d rs blank) (hl : c.SameLevels d) {f : Chip → Chip}
    (hput : ∀ x : Chip, blank (x.putLevels c.settle.jtag c.settle.peb c.settle.hif c.settle.ent) = f (blank x)) : c.Keeps d.settle rs blank := by
  refine ⟨h.1, ?_⟩
  have hd : { d.settle with regs := [] } = Chip.putLevels { d with regs := [] } c.settle.jtag c.settle.peb c.settle.hif c.settle.ent := by
    rw [hl.settle_eq]
    rfl
  have hc : { c.settle with regs := [] } = Chip.putLevels { c with regs := [] } c.settle.jtag c.settle.peb c.settle.hif c.settle.ent := rfl
  rw [hd, hc, hput, hput, h.2]

theorem Chip.Moved.sameLevels (h : c.Moved d rs blank) (hrs : ∀ r ∈ levelRegs, ∀ x ∈ rs, r.addr ≠ x.addr) (hb : LevelBlank blank) :
    c.SameLevels d where
  jtag := by simpa only [hb.jtag] using congrArg Chip.jtag h.2
  peb := by simpa only [hb.peb] using congrArg Chip.peb h.2
  hif := by simpa only [hb.hif] using congrArg Chip.hif h.2
  ent := by simpa only [hb.ent] using congrArg Chip.ent h.2
  doms := by simpa only [hb.doms] using congrArg (fun x => x.seq.doms) h.2
  shadow := by simpa only [hb.shadow] using congrArg (fun x => x.nvm.shadow) h.2
  power := by simpa only [hb.power] using congrArg (fun x => x.mode.power) h.2
  regs := fun r hr => h.1 r (hrs r hr)

/-- The level rules at the end of a command that changes nothing they read. -/
theorem Chip.Moved.keeps (h : c.Moved d rs blank) (hrs : ∀ r ∈ levelRegs, ∀ x ∈ rs, r.addr ≠ x.addr) (hb : LevelBlank blank) :
    c.Keeps d.settle rs blank := h.keeps_of_sameLevels (h.sameLevels hrs hb)
    (f := (·.putLevels c.settle.jtag c.settle.peb c.settle.hif c.settle.ent)) (fun x => hb.put x _ _ _ _)

end

theorem levelBlank_noThreads : LevelBlank Chip.noThreads :=
  ⟨fun _ _ _ _ _ => rfl, fun _ => rfl, fun _ => rfl, fun _ => rfl, fun _ => rfl, fun _ => rfl, fun _ => rfl, fun _ => rfl⟩

/-! ### Doorbells and event bits (19 R905 to R907) -/

theorem Chip.Rings.refl (c : Chip) : c.Rings c := fun _ => rfl

theorem Chip.Rings.trans {c d e : Chip} (h : c.Rings d) (h' : d.Rings e) : c.Rings e := fun t => (h' t).trans (h t)

theorem Chip.Rings.of_threads {c d : Chip} (h : d.threads = c.threads) : c.Rings d := by
  intro t
  unfold Chip.thr
  rw [h]

/-- A doorbell does nothing while CPU is off, joins its thread's queue, or is lost and shown (03 R121). -/
theorem Chip.doorbell_cases (c : Chip) (t : Nat) (b : Byte) : (c.doorbell t b).1 = c ∨
    (c.doorbell t b).1 = c.updThr t (fun x => { x with doorbells := x.doorbells ++ [b] }) ∨ (c.doorbell t b).1 = c.wbit R.DOORBELL_OVF t true := by
  simp only [Chip.doorbell]
  split
  · exact .inl rfl
  · split
    · exact .inr (.inl rfl)
    · exact .inr (.inr rfl)

/-- A doorbell changes registers and threads at most. -/
theorem Chip.doorbell_eq (c : Chip) (t : Nat) (b : Byte) : (c.doorbell t b).1 = { c with regs := (c.doorbell t b).1.regs, threads := (c.doorbell t b).1.threads } := by
  rcases c.doorbell_cases t b with h | h | h <;> rw [h] <;> rfl

theorem Chip.rd_doorbell (c : Chip) (t : Nat) (b : Byte) {q : Reg} (hq : q.addr ≠ R.DOORBELL_OVF.addr) : (c.doorbell t b).1.rd q = c.rd q := by
  rcases c.doorbell_cases t b with h | h | h <;> rw [h]
  · rfl
  · exact Chip.rd_wr_other _ _ _ _ hq

theorem Chip.rings_doorbell (c : Chip) (t : Nat) (b : Byte) : c.Rings (c.doorbell t b).1 := by
  rcases c.doorbell_cases t b with h | h | h <;> rw [h]
  · exact Chip.Rings.refl c
  · intro r
    by_cases hr : r = t
    · subst hr
      rw [Chip.thr_updThr_self]
    · rw [Chip.thr_updThr_other _ _ _ _ hr]
  · exact Chip.Rings.refl c

theorem Chip.route_eq (c : Chip) (k : Nat) : c.route k = { c with regs := (c.route k).regs, threads := (c.route k).threads } := by
  simp only [Chip.route]
  split
  · exact Chip.doorbell_eq _ _ _
  · rfl

theorem Chip.rd_route (c : Chip) (k : Nat) {q : Reg} (hq : q.addr ≠ R.DOORBELL_OVF.addr) : (c.route k).rd q = c.rd q := by
  simp only [Chip.route]
  split
  · exact Chip.rd_doorbell _ _ _ hq
  · rfl

theorem Chip.rings_route (c : Chip) (k : Nat) : c.Rings (c.route k) := by
  simp only [Chip.route]
  split
  · exact Chip.rings_doorbell _ _ _
  · exact Chip.Rings.refl c

/-- An event changes registers and threads at most. -/
theorem Chip.event_eq (c : Chip) (k : Nat) (r : Reg) (bits : Nat) :
    c.event k r bits = { c with regs := (c.event k r bits).regs, threads := (c.event k r bits).threads } := by
  simp only [Chip.event]
  split
  · rfl
  · exact Chip.route_eq (c.wr r _) k

theorem Chip.rd_event_other (c : Chip) (k : Nat) (r : Reg) (bits : Nat) {q : Reg} (hq : q.addr ≠ r.addr) (hovf : q.addr ≠ R.DOORBELL_OVF.addr) :
    (c.event k r bits).rd q = c.rd q := by
  simp only [Chip.event]
  split
  · rfl
  · rw [Chip.rd_route _ _ hovf, Chip.rd_wr_other _ _ _ _ hq]

theorem Chip.rings_event (c : Chip) (k : Nat) (r : Reg) (bits : Nat) : c.Rings (c.event k r bits) := by
  simp only [Chip.event]
  split
  · exact Chip.Rings.refl c
  · exact (Chip.rings_route (c.wr r _) k)

theorem Chip.rd_event_self (c : Chip) (k : Nat) (r : Reg) (bits : Nat) (hovf : r.addr ≠ R.DOORBELL_OVF.addr) :
    (c.event k r bits).rd r = if c.rd r ||| bits = c.rd r then c.rd r else (c.rd r ||| bits) % 256 ^ r.width := by
  simp only [Chip.event]
  split
  · rfl
  · rw [Chip.rd_route _ _ hovf, Chip.rd_wr_self]

theorem bit_mod_256_pow {w i : Nat} (v : Nat) (hi : i < 8 * w) : bit (v % 256 ^ w) i = bit v i := by
  rw [bit_eq_testBit, bit_eq_testBit, show (256 : Nat) = 2 ^ 8 from rfl, ← pow_mul, Nat.testBit_mod_two_pow, decide_eq_true hi, Bool.true_and]

/-- A bit of an event's register after the event. -/
theorem Chip.rbit_event (c : Chip) (k : Nat) (r : Reg) (bits : Nat) {i : Nat} (hi : i < 8 * r.width) (hovf : r.addr ≠ R.DOORBELL_OVF.addr) :
    (c.event k r bits).rbit r i = (c.rbit r i || bit bits i) := by
  have hor : bit (c.rd r ||| bits) i = (bit (c.rd r) i || bit bits i) := by simp only [bit_eq_testBit, Nat.testBit_or]
  rw [Chip.rbit, Chip.rd_event_self _ _ _ _ hovf, Chip.rbit, ← hor]
  split
  case isTrue h => rw [h]
  case isFalse h => exact bit_mod_256_pow _ hi

section
variable {c d : Chip} {rs : List Reg} {blank : Chip → Chip}

theorem Chip.Moved.doorbell (h : c.Moved d rs blank) (hovf : R.DOORBELL_OVF ∈ rs) (hb : ∀ (x : Chip) l, blank { x with threads := l } = blank x)
    (t : Nat) (b : Byte) : c.Moved (d.doorbell t b).1 rs blank := by
  refine h.trans ⟨fun q hq => Chip.rd_doorbell _ _ _ (hq _ hovf), ?_⟩
  rw [Chip.doorbell_eq]
  exact hb { d with regs := [] } _

theorem Chip.Moved.route (h : c.Moved d rs blank) (hovf : R.DOORBELL_OVF ∈ rs) (hb : ∀ (x : Chip) l, blank { x with threads := l } = blank x)
    (k : Nat) : c.Moved (d.route k) rs blank := by
  refine h.trans ⟨fun q hq => Chip.rd_route _ _ (hq _ hovf), ?_⟩
  rw [Chip.route_eq]
  exact hb { d with regs := [] } _

theorem Chip.Moved.event (h : c.Moved d rs blank) {r : Reg} (hr : r ∈ rs) (hovf : R.DOORBELL_OVF ∈ rs)
    (hb : ∀ (x : Chip) l, blank { x with threads := l } = blank x) (k bits : Nat) : c.Moved (d.event k r bits) rs blank := by
  refine h.trans ⟨fun q hq => Chip.rd_event_other _ _ _ _ (hq r hr) (hq _ hovf), ?_⟩
  rw [Chip.event_eq]
  exact hb { d with regs := [] } _

end

/-! ### Staging of hardware actions (16 R776 to R779) -/

/-- Staging moves the sequence register and the Ledger's own state at most. -/
theorem Chip.putEntry_eq (c : Chip) (i : Nat) (e : LedEntry) :
    c.putEntry i e = { c with regs := (c.putEntry i e).regs, led := (c.putEntry i e).led } := by
  simp only [Chip.putEntry]
  split <;> rfl

theorem Chip.rd_putEntry (c : Chip) (i : Nat) (e : LedEntry) {q : Reg} (hq : q.addr ≠ R.LED_NEXTSEQ.addr) : (c.putEntry i e).rd q = c.rd q := by
  simp only [Chip.putEntry]
  split
  · exact Chip.rd_wr_other _ _ _ _ hq
  · rfl

/-- An entry in staging keeps what it says of the action. -/
theorem Chip.entry_putEntry_self (c : Chip) (i : Nat) (e : LedEntry) :
    ∃ f, (c.putEntry i e).entry i = some f ∧ f.object = e.object ∧ f.old = e.old ∧ f.new = e.new ∧ f.cause = e.cause ∧ f.outcome = e.outcome ∧
      f.origin = e.origin ∧ f.oseq = e.oseq := by
  refine ⟨_, Chip.entry_setEntry_self _ _ _, rfl, rfl, rfl, rfl, rfl, rfl, rfl⟩

theorem Chip.stageHwAs_cases (c : Chip) (origin object old new cause : Nat) :
    (∃ i e, c.stageHwAs origin object old new cause = c.putEntry i e) ∨ c.stageHwAs origin object old new cause = c.inc R.LED_UNRECCNT := by
  unfold Chip.stageHwAs
  split
  · exact .inl ⟨_, _, rfl⟩
  · split
    · exact .inl ⟨_, _, rfl⟩
    · exact .inr rfl

theorem Chip.stageHw_eq_stageHwAs (c : Chip) (object old new cause : Nat) :
    c.stageHw object old new cause = c.stageHwAs ({} : LedEntry).origin object old new cause := rfl

theorem Chip.freeEntry_14 {c : Chip} (h : c.entry 14 = none) : c.freeEntry [14, 15] = some 14 := by
  rw [Chip.freeEntry, List.find?_cons_of_pos (by rw [h]; rfl)]

/-- With the reserved entry 14 free, the action stands there. -/
theorem Chip.recorded_stageHw {c : Chip} (h : c.entry 14 = none) (object old new cause : Nat) :
    (c.stageHw object old new cause).Recorded object old new cause := by
  unfold Chip.stageHw
  rw [Chip.freeEntry_14 h]
  obtain ⟨f, hf, hobject, hold, hnew, hcause, houtcome, _, _⟩ := c.entry_putEntry_self 14 { object := object, old := old, new := new, outcome := 5, cause := cause }
  exact ⟨f, hf, hobject, hold, hnew, hcause, houtcome⟩

theorem Chip.stageHwAs_eq (c : Chip) (origin object old new cause : Nat) : c.stageHwAs origin object old new cause =
    { c with regs := (c.stageHwAs origin object old new cause).regs, led := (c.stageHwAs origin object old new cause).led } := by
  rcases c.stageHwAs_cases origin object old new cause with ⟨i, e, h⟩ | h <;> rw [h]
  · exact Chip.putEntry_eq c i e
  · rfl

theorem Chip.rd_stageHwAs (c : Chip) (origin object old new cause : Nat) {q : Reg} (hseq : q.addr ≠ R.LED_NEXTSEQ.addr)
    (hcnt : q.addr ≠ R.LED_UNRECCNT.addr) : (c.stageHwAs origin object old new cause).rd q = c.rd q := by
  rcases c.stageHwAs_cases origin object old new cause with ⟨i, e, h⟩ | h <;> rw [h]
  · exact Chip.rd_putEntry c i e hseq
  · exact Chip.rd_wr_other _ _ _ _ hcnt

theorem Chip.stageHw_eq (c : Chip) (object old new cause : Nat) : c.stageHw object old new cause =
    { c with regs := (c.stageHw object old new cause).regs, led := (c.stageHw object old new cause).led } :=
  Chip.stageHwAs_eq c _ _ _ _ _

theorem Chip.rd_stageHw (c : Chip) (object old new cause : Nat) {q : Reg} (hseq : q.addr ≠ R.LED_NEXTSEQ.addr)
    (hcnt : q.addr ≠ R.LED_UNRECCNT.addr) : (c.stageHw object old new cause).rd q = c.rd q :=
  Chip.rd_stageHwAs c _ _ _ _ _ hseq hcnt

theorem Chip.Moved.putEntry {c d : Chip} {rs : List Reg} {blank : Chip → Chip} (h : c.Moved d rs blank) (hseq : R.LED_NEXTSEQ ∈ rs)
    (hb : ∀ (x : Chip) l, blank { x with led := l } = blank x) (i : Nat) (e : LedEntry) : c.Moved (d.putEntry i e) rs blank := by
  refine h.trans ⟨fun q hq => Chip.rd_putEntry _ _ _ (hq _ hseq), ?_⟩
  rw [Chip.putEntry_eq]
  exact hb { d with regs := [] } _

theorem Chip.Moved.stageHwAs {c d : Chip} {rs : List Reg} {blank : Chip → Chip} (h : c.Moved d rs blank) (hseq : R.LED_NEXTSEQ ∈ rs)
    (hcnt : R.LED_UNRECCNT ∈ rs) (hb : ∀ (x : Chip) l, blank { x with led := l } = blank x) (origin object old new cause : Nat) :
    c.Moved (d.stageHwAs origin object old new cause) rs blank := by
  refine h.trans ⟨fun q hq => Chip.rd_stageHwAs _ _ _ _ _ _ (hq _ hseq) (hq _ hcnt), ?_⟩
  rw [Chip.stageHwAs_eq]
  exact hb { d with regs := [] } _

theorem Chip.Moved.stageHw {c d : Chip} {rs : List Reg} {blank : Chip → Chip} (h : c.Moved d rs blank) (hseq : R.LED_NEXTSEQ ∈ rs)
    (hcnt : R.LED_UNRECCNT ∈ rs) (hb : ∀ (x : Chip) l, blank { x with led := l } = blank x) (object old new cause : Nat) :
    c.Moved (d.stageHw object old new cause) rs blank := h.stageHwAs hseq hcnt hb _ _ _ _ _

/-- With the order entry 0 free and the sequence not exhausted a logged write stands there (16 R1014). -/
theorem Chip.stageWrite_of_free {c : Chip} (hdead : c.exhausted = false) (h : c.entry 0 = none) (e : LedEntry) : c.stageWrite e = (c.putEntry 0 e, true) := by
  have hfree : c.freeEntry orderEntries = some 0 := by rw [Chip.freeEntry, orderEntries, List.find?_cons_of_pos (by rw [h]; rfl)]
  rw [Chip.stageWrite, hdead, if_neg Bool.false_ne_true, hfree]

/-! ### Messages of the FQ7608 to the Warden (08 R387, R388) -/

theorem Chip.toWarden_eq (c : Chip) (m : Msg) : c.toWarden m = { c with wdn := (c.toWarden m).wdn } := by
  simp only [Chip.toWarden]
  split
  · rfl
  · split
    · rfl
    · split <;> rfl

/-- A message to an empty inbox. -/
theorem Chip.toWarden_of_empty {c : Chip} (h : c.wdn.inboxHw = []) (m : Msg) : c.toWarden m = { c with wdn := { c.wdn with inboxHw := [m] } } := by
  simp [Chip.toWarden, h]

theorem Chip.Moved.toWarden {c d : Chip} {rs : List Reg} {blank : Chip → Chip} (h : c.Moved d rs blank)
    (hb : ∀ (x : Chip) l, blank { x with wdn := l } = blank x) (m : Msg) : c.Moved (d.toWarden m) rs blank := by
  rw [Chip.toWarden_eq]
  exact h.put rfl (hb { d with regs := [] } _)

end Sys2Proof.Machine
end

section
/-!
PROOFS. Exception entry (04 R191 to R193, 07 R335 to R342).
-/
namespace Sys2Proof.Machine

/-- With its doorbell route disabled an event changes no thread. -/
theorem Chip.threads_event_of_silent {c : Chip} {k : Nat} {r : Reg} (bits : Nat) (hroute : c.rd (R.HIF_DBR k) % 2 = 0)
    (hr : (R.HIF_DBR k).addr ≠ r.addr) : (c.event k r bits).threads = c.threads := by
  simp only [Chip.event]
  split
  · rfl
  · have hoff : bit ((c.wr r (c.rd r ||| bits)).rd (R.HIF_DBR k)) 0 = false := by
      rw [Chip.rd_wr_other _ _ _ _ hr, bit_zero_right, hroute]
      rfl
    rw [Chip.route, hoff]
    rfl

theorem Chip.Moved.event_of_silent {c d : Chip} {rs : List Reg} {blank : Chip → Chip} (h : c.Moved d rs blank) {k : Nat} {r : Reg} (hr : r ∈ rs)
    (hroute : d.rd (R.HIF_DBR k) % 2 = 0) (hne : (R.HIF_DBR k).addr ≠ r.addr) (bits : Nat) : c.Moved (d.event k r bits) rs blank := by
  simp only [Chip.event]
  split
  · exact h
  · have hoff : bit ((d.wr r (d.rd r ||| bits)).rd (R.HIF_DBR k)) 0 = false := by
      rw [Chip.rd_wr_other _ _ _ _ hne, bit_zero_right, hroute]
      rfl
    rw [Chip.route, hoff]
    exact h.wr hr _

/-- The registers of exception entry are none that the level rules read. -/
theorem exceptionRegs_not_level {t : Nat} (ht : t < 16) :
    ∀ r ∈ levelRegs, ∀ x ∈ [R.CORE_EXCADDR (t / 8) (t % 8), R.CORE_DFAULT], r.addr ≠ x.addr := by
  intro r hr x hx
  have hlow : r.addr < 0x811000 := by revert r; decide
  have hhigh : 0x811000 ≤ x.addr := by
    rcases List.mem_cons.1 hx with rfl | hx
    · simp only [R.CORE_EXCADDR]
      omega
    · rw [List.mem_singleton.1 hx]
      decide
  omega

theorem exceptionAddr_lt {t : Nat} (ht : t < 16) : (R.CORE_EXCADDR (t / 8) (t % 8)).addr < R.CORE_DFAULT.addr := by
  simp only [R.CORE_EXCADDR, R.CORE_DFAULT]
  omega

section
variable {c : Chip} {t : Nat} {e : Exc} {a : Nat} (ht : t < 16) (hexc : (c.thr t).exc = some e) (haddr : e.addr = some a)
  (ha : a < 2 ^ 24) (hquiet : (c.thr t).quiet = true)
include ht hexc haddr ha hquiet

/-- An exception with room on the return stack. -/
theorem Chip.enter_of_room (hroom : (c.thr t).stack.length < 8) : c.enter t =
    (c.wr (R.CORE_EXCADDR (t / 8) (t % 8)) a).setThr t { (c.thr t).record e e.cause with
      stack := (e.resume, (c.thr t).priv) :: (c.thr t).stack, priv := true, pc := (c.thr t).handler, run := .active, hold := .none,
      exc := none, notBefore := (c.core (coreOf t)).cyc + 1 } := by
  simp only [Chip.enter, hexc, hquiet, Chip.excAddr, haddr, isWarden, Nat.not_le.2 ht, Nat.not_le.2 hroom, decide_false, Nat.mod_eq_of_lt ha,
    Bool.not_true, Bool.false_eq_true, if_false]
  rfl

/-- A double fault: the records as they are, cause 9, halted, and shown in CORE_DFAULT. -/
theorem Chip.enter_of_full (hfull : 8 ≤ (c.thr t).stack.length) : c.enter t =
    (((c.wr (R.CORE_EXCADDR (t / 8) (t % 8)) a).setThr t { (c.thr t).record e 9 with exc := none }).haltThread t).event 2 R.CORE_DFAULT (2 ^ t) := by
  simp only [Chip.enter, hexc, hquiet, Chip.excAddr, haddr, isWarden, Nat.not_le.2 ht, hfull, decide_false, Nat.mod_eq_of_lt ha,
    Bool.not_true, Bool.false_eq_true, if_false, if_true]

end

/-- Settles O26. -/
theorem exceptionEntry : Obligations.ExceptionEntry := by
  intro s t e a ht hexc haddr ha hquiet x excaddr
  have hexec : exec (.exceptionEntry t) s = s.lift (fun c => c.enter t.val) := rfl
  have hwidth : a % 256 ^ excaddr.width = a := Nat.mod_eq_of_lt (lt_trans ha (by simp only [excaddr, R.CORE_EXCADDR]; norm_num))
  have hmoved : s.chip.Moved (s.chip.wr excaddr a) [excaddr] Chip.noThreads := (Chip.Moved.refl _ _ _).wr (by simp) a
  refine ⟨fun hroom => ?_, fun hfull hown hroute => ?_⟩
  · refine does_of_lift hexec (Chip.enter_of_room ht hexc haddr ha hquiet hroom) ⟨?_, ?_, ?_, fun r hr => ?_⟩
    · rw [Chip.thr_settle, Chip.thr_setThr_self]
      rfl
    · exact (Chip.rd_wr_self _ _ _).trans hwidth
    · exact (hmoved.put rfl rfl).keeps (fun r hr x hx => exceptionRegs_not_level ht r hr x (by simp [List.mem_singleton.1 hx, excaddr]))
        levelBlank_noThreads
    · rw [Chip.thr_settle, Chip.thr_setThr_other _ _ _ _ hr]
      rfl
  · let y : ThreadSt := { x.record e 9 with exc := none }
    have hown' : ((s.chip.wr excaddr a).setThr t y).rd R.NVM_OWN ≠ originOf t := by
      have hrd : ((s.chip.wr excaddr a).setThr t y).rd R.NVM_OWN = s.chip.rd R.NVM_OWN := Chip.rd_wr_other _ _ _ _ (by
        simp only [R.NVM_OWN, excaddr, R.CORE_EXCADDR]; omega)
      rwa [hrd]
    have henter := Chip.enter_of_full ht hexc haddr ha hquiet hfull
    rw [haltThread_of_other _ _ hown'] at henter
    have hroute' : ((s.chip.wr excaddr a).rd (R.HIF_DBR 2)) % 2 = 0 := by
      rw [Chip.rd_wr_other _ _ _ _ (by simp only [R.HIF_DBR, excaddr, R.CORE_EXCADDR]; omega)]
      exact hroute
    let z : ThreadSt := { y with run := .halted, hold := .none, shadow := [], regShadow := [] }
    let d : Chip := ((s.chip.wr excaddr a).setThr t y).updThr t (fun x => { x with run := .halted, hold := .none, shadow := [], regShadow := [] })
    have hz : d.thr t = z := by rw [Chip.thr_updThr_self, Chip.thr_setThr_self]
    have hother (r : Nat) (hr : r ≠ t.val) : d.thr r = s.chip.thr r := by
      rw [Chip.thr_updThr_other _ _ _ _ hr, Chip.thr_setThr_other _ _ _ _ hr]
      rfl
    have hmoved' : s.chip.Moved d [excaddr, R.CORE_DFAULT] Chip.noThreads :=
      ((Chip.Moved.refl _ _ _).wr (by simp) a).put rfl rfl
    have hthreads : (d.event 2 R.CORE_DFAULT (2 ^ t.val)).threads = d.threads := Chip.threads_event_of_silent _ hroute' (by decide)
    have hthr (r : Nat) : (d.event 2 R.CORE_DFAULT (2 ^ t.val)).thr r = d.thr r := by rw [Chip.thr, hthreads]; rfl
    have hlt : excaddr.addr < R.CORE_DFAULT.addr := exceptionAddr_lt ht
    have hdbr : (R.DOORBELL_OVF).addr < excaddr.addr := by simp only [R.DOORBELL_OVF, excaddr, R.CORE_EXCADDR]; omega
    have heq : (d.event 2 R.CORE_DFAULT (2 ^ t.val)).rd excaddr = a := by
      rw [Chip.rd_event_other _ _ _ _ hlt.ne hdbr.ne']
      exact (Chip.rd_wr_self _ _ _).trans hwidth
    have hkeeps := (hmoved'.event_of_silent (r := R.CORE_DFAULT) (by simp) hroute' (by decide) (2 ^ t.val)).keeps
      (exceptionRegs_not_level ht) levelBlank_noThreads
    have hbit : (d.event 2 R.CORE_DFAULT (2 ^ t.val)).rbit R.CORE_DFAULT t = true := by
      rw [Chip.rbit_event _ _ _ _ (by simp only [R.CORE_DFAULT]; omega) (by decide), bit_eq_testBit (2 ^ t.val), Nat.testBit_two_pow_self, Bool.or_true]
    generalize d.event 2 R.CORE_DFAULT (2 ^ t.val) = d' at *
    refine does_of_lift hexec henter ⟨?_, ?_, ?_, ?_, ?_, hbit, heq, hkeeps, fun r hr => ?_⟩
    all_goals rw [Chip.thr_settle, hthr]
    · exact congrArg ThreadSt.run hz
    · exact congrArg ThreadSt.excCause hz
    · exact congrArg ThreadSt.excPc hz
    · exact congrArg ThreadSt.exc hz
    · rw [hz]
      rfl
    · exact hother r hr

end Sys2Proof.Machine
end

section
/-!
PROOFS. The tick of CK_PHASE and the states of the phase wheels (03 R94 to R112, R1016).
-/
namespace Sys2Proof.Machine

theorem levelBlank_phw : LevelBlank (fun d => { d with phw := {} }) :=
  ⟨fun _ _ _ _ _ => rfl, fun _ => rfl, fun _ => rfl, fun _ => rfl, fun _ => rfl, fun _ => rfl, fun _ => rfl, fun _ => rfl⟩

theorem Chip.wheel_setWheel_other (c : Chip) (n k : Nat) (w : Wheel) (h : k ≠ n) : (c.setWheel n w).wheel k = c.wheel k :=
  FMap.get_set_other _ _ _ _ _ _ h

/-! ### A tick with nothing due -/

theorem Chip.pulseTick_of_nil {c : Chip} (h : c.phw.pulses = []) : c.pulseTick = c := by rw [Chip.pulseTick, h]; rfl

theorem Chip.runLaunched_of_nil {c : Chip} (h : c.phw.launched = []) : c.runLaunched = c := by
  have hsame : { c with phw := { c.phw with launched := [] } } = c := by rw [← h]
  simp only [Chip.runLaunched, h, List.foldl_nil, hsame]

theorem Chip.slotsSpan_of_nil {c : Chip} (h : c.armedSlots = []) (n : Nat) (caught : Bool) (p len : Nat) : c.slotsSpan n caught p len = c := by
  rw [Chip.slotsSpan, h]
  exact ite_self c

theorem Chip.armedSlots_of_regs {c d : Chip} (h : d.regs = c.regs) : d.armedSlots = c.armedSlots := by rw [Chip.armedSlots, h, Chip.armedSlots]

/-- With no slot armed a wheel's phase passes in silence: only its mark moves. -/
theorem Chip.passSlots_of_nil {c : Chip} (h : c.armedSlots = []) (n : Nat) (caught : Bool) (p d : Nat) :
    c.passSlots n caught p d = c.setWheel n { c.wheel n with back := (c.wheel n).back - min d (c.wheel n).back } :=
  Chip.slotsSpan_of_nil (c := c.setWheel n _) ((Chip.armedSlots_of_regs rfl).trans h) _ _ _ _

/-- The phase of a wheel `d` further on, with no slot armed. -/
def Wheel.forward (w : Wheel) (d : Nat) : Wheel :=
  { w with frac := (w.turn * 2 ^ 48 + w.frac + d) % 2 ^ 48, turn := (w.turn * 2 ^ 48 + w.frac + d) / 2 ^ 48 % 2 ^ 16
           back := w.back - min d w.back }

/-- A wheel of a chip replaced twice. -/
theorem Chip.setWheel_setWheel (c : Chip) (n : Nat) (v w : Wheel) :
    (∀ k, ((c.setWheel n v).setWheel n w).wheel k = if k = n then w else c.wheel k) ∧
      ∃ ws, (c.setWheel n v).setWheel n w = { c with phw := { c.phw with wheels := ws } } := by
  refine ⟨fun k => ?_, _, rfl⟩
  split
  case isTrue hk => rw [hk, Chip.wheel_setWheel_self]
  case isFalse hk => rw [Chip.wheel_setWheel_other _ _ _ _ hk, Chip.wheel_setWheel_other _ _ _ _ hk]

theorem Chip.passSlots_putPhase {c : Chip} (h : c.armedSlots = []) (n p d : Nat) (caught : Bool) :
    (c.putPhase n (p + d)).passSlots n caught p d = (c.putPhase n (p + d)).setWheel n
      { (c.wheel n) with frac := (p + d) % 2 ^ 48, turn := (p + d) / 2 ^ 48 % 2 ^ 16, back := (c.wheel n).back - min d (c.wheel n).back } := by
  have harm : (c.putPhase n (p + d)).armedSlots = [] := (Chip.armedSlots_of_regs (c := c) rfl).trans h
  rw [Chip.passSlots_of_nil harm, Chip.putPhase, Chip.wheel_setWheel_self]

theorem Chip.wheelForward_of_nil {c : Chip} (h : c.armedSlots = []) {n : Nat} (hn : n ≠ 3) (d : Nat) (caught : Bool) :
    (∀ k, (c.wheelForward n d caught).wheel k = if k = n then (c.wheel n).forward d else c.wheel k) ∧
      ∃ ws, c.wheelForward n d caught = { c with phw := { c.phw with wheels := ws } } := by
  have heq : c.wheelForward n d caught =
      (c.putPhase n ((c.wheel n).turn * 2 ^ 48 + (c.wheel n).frac + d)).setWheel n ((c.wheel n).forward d) := by
    simp only [Chip.wheelForward, if_neg hn]
    rw [Chip.passSlots_putPhase h, Wheel.forward]
  rw [heq, Chip.putPhase]
  exact Chip.setWheel_setWheel c n _ _

theorem Wheel.forward_phase (w : Wheel) (d : Nat) :
    (w.forward d).turn * 2 ^ 48 + (w.forward d).frac = (w.turn * 2 ^ 48 + w.frac + d) % 2 ^ 64 := by
  have h : (2 : Nat) ^ 64 = 2 ^ 48 * 2 ^ 16 := by norm_num
  rw [h, Nat.mod_mul]
  simp only [Wheel.forward]
  ring

/-- A halted wheel without a step due stands. -/
theorem Chip.wheelTick_of_halted {c : Chip} {n : Nat} (hstep : (c.wheel n).step = none) (hnom : c.freqNom n = 0) : c.wheelTick n = c := by
  simp only [Chip.wheelTick, hstep, hnom, if_true]

theorem Chip.wheelTick_of_word {c : Chip} {n : Nat} (hstep : (c.wheel n).step = none) (hnom : c.freqNom n ≠ 0) :
    c.wheelTick n = c.wheelForward n (c.word n) false := by
  simp only [Chip.wheelTick, hstep, if_neg hnom, -Nat.reducePow]

theorem Chip.slotCommits_of_nil {c : Chip} (h : c.phw.slots = []) : c.slotCommits = c := by rw [Chip.slotCommits, h]; rfl

theorem Chip.tmrTicks_of_none {c : Chip} (h : ∀ e ∈ c.threads, e.2.deadline = none) : c.tmrTicks = c := by
  have hnil : c.threads.filter (fun e => e.2.deadline.isSome) = [] := List.filter_eq_nil_iff.2 (fun e he => by rw [h e he]; decide)
  rw [Chip.tmrTicks, hnil]
  rfl

/-- A tick moves nothing while WRD is not ON. -/
theorem idleQueue : Parts.IdleQueue := by
  intro s hq
  refine ⟨_, (step_of_nil hq).trans (State.lift_eq _ _), hq, fun hoff => ?_⟩
  exact congrArg Chip.settle (if_pos hoff)

/-- What a tick does beside TICKCNT, with wheel 0 alone running and nothing due. -/
theorem Chip.tick_of_quiet {c : Chip} (hpulses : c.phw.pulses = []) (hlaunched : c.phw.launched = []) (hslots : c.phw.slots = [])
    (harmed : c.armedSlots = []) (hthreads : ∀ e ∈ c.threads, e.2.deadline = none) (hstep0 : (c.wheel 0).step = none)
    (hstep2 : (c.wheel 2).step = none) (hstep3 : (c.wheel 3).step = none) (hnom0 : c.freqNom 0 ≠ 0) (hnom2 : c.freqNom 2 = 0)
    (hnom3 : c.freqNom 3 = 0) :
    ∃ ws, ((((c.pulseTick.runLaunched).wheelTick 0).wheelTick 2).wheelTick 3).slotCommits.tmrTicks = { c with phw := { c.phw with wheels := ws } } ∧
      Chip.wheel { c with phw := { c.phw with wheels := ws } } 0 = (c.wheel 0).forward (c.word 0) := by
  obtain ⟨hwheels, ws, hforward⟩ := Chip.wheelForward_of_nil harmed (n := 0) (by decide) (c.word 0) false
  refine ⟨ws, ?_, by rw [← hforward, hwheels 0, if_pos rfl]⟩
  have hother (k : Nat) (hk : k ≠ 0) : (c.wheelForward 0 (c.word 0) false).wheel k = c.wheel k := by rw [hwheels k, if_neg hk]
  have h0 := Chip.wheelTick_of_word hstep0 hnom0
  rw [hforward] at h0 hother
  generalize hd : { c with phw := { c.phw with wheels := ws } } = d at h0 hother
  have hnom (k : Nat) : d.freqNom k = c.freqNom k := by rw [← hd]; rfl
  have h2 : d.wheelTick 2 = d := Chip.wheelTick_of_halted (by rw [hother 2 (by decide), hstep2]) (by rw [hnom, hnom2])
  have h3 : d.wheelTick 3 = d := Chip.wheelTick_of_halted (by rw [hother 3 (by decide), hstep3]) (by rw [hnom, hnom3])
  have hcommits : d.slotCommits = d := Chip.slotCommits_of_nil (by rw [← hd]; exact hslots)
  have hticks : d.tmrTicks = d := Chip.tmrTicks_of_none (by rw [← hd]; exact hthreads)
  rw [Chip.pulseTick_of_nil hpulses, Chip.runLaunched_of_nil hlaunched, h0, h2, h3, hcommits, hticks]

/-- A tick with nothing due: TICKCNT and wheel 0. -/
theorem phaseTickAdvances : Parts.PhaseTickAdvances := by
  intro s hq hon c w hpulses hlaunched hslots harmed hthreads hsteps hnom2 hnom3 hnom0 _ _
  generalize htk : (c.phw.tick + 1) % 2 ^ 64 = tick
  let c1 : Chip := { c with phw := { c.phw with tick := tick } }
  have hwheel (k : Nat) : c1.wheel k = c.wheel k := rfl
  have hstep (k : Nat) (hk : k ∈ [0, 2, 3]) : (c1.wheel k).step = none := (congrArg Wheel.step (hwheel k)).trans (hsteps k hk)
  obtain ⟨ws, htick, hzero⟩ := Chip.tick_of_quiet (c := c1) hpulses hlaunched hslots ((Chip.armedSlots_of_regs rfl).trans harmed) hthreads
    (hstep 0 (by simp)) (hstep 2 (by simp)) (hstep 3 (by simp)) hnom0 hnom2 hnom3
  have hdef : c.phaseTick = { c1 with phw := { c1.phw with wheels := ws } } := by
    rw [Chip.phaseTick, if_neg (Nat.not_lt.2 hon), htk]
    exact htick
  have hnext : step s = .next { s with chip := Chip.settle { c1 with phw := { c1.phw with wheels := ws } } } := by
    rw [step_of_nil hq, State.lift_eq, hdef]
  refine ⟨_, hnext, rfl, ?_, ((Chip.Moved.refl c [] _).put rfl rfl).keeps (by simp) levelBlank_phw⟩
  have hword : c1.word 0 = c.word 0 := rfl
  rw [Chip.wheel_settle, hzero, Wheel.forward_phase, hword]
  rfl

/-- Settles O29. -/
theorem idleStepTicks : Obligations.IdleStepTicks := ⟨idleQueue, phaseTickAdvances⟩

/-! ### Millpond's alignment follows the wheels (11 R528, R537, R538) -/

theorem Chip.Moved.alignSettle {c d : Chip} {rs : List Reg} {blank : Chip → Chip} (h : c.Moved d rs blank) (hstat : R.CAP_STAT ∈ rs)
    (hb : ∀ (x : Chip) l, blank { x with cap := l } = blank x) : c.Moved d.alignSettle rs blank := by
  unfold Chip.alignSettle
  refine Chip.Moved.wbit ?_ hstat _ _
  exact Chip.Moved.ite _ (fun _ => h.put rfl (hb { d with regs := [] } _)) (fun _ => h)

theorem Chip.Moved.fillSettle {c d : Chip} {rs : List Reg} {blank : Chip → Chip} (h : c.Moved d rs blank) (hstat : R.CAP_STAT ∈ rs)
    (hevt : R.CAP_EVT ∈ rs) (hb : ∀ (x : Chip) l, blank { x with cap := l } = blank x) : c.Moved d.fillSettle rs blank := by
  have ha := h.alignSettle hstat hb
  simp only [Chip.fillSettle]
  generalize d.alignSettle = e at ha
  refine Chip.Moved.ite _ (fun _ => ha) (fun _ => Chip.Moved.ite _ (fun _ => ha.wbit hstat _ _) (fun _ => ?_))
  refine Chip.Moved.ite _ (fun _ => (ha.wbit hstat _ _).wbit hevt _ _) (fun _ => (ha.wbit hstat _ _).put rfl ?_)
  exact hb { e with regs := [] } _

/-- What the alignment moves: two registers and Millpond's own state. -/
theorem Chip.moved_fillSettle (c : Chip) : c.Moved c.fillSettle [R.CAP_STAT, R.CAP_EVT] (fun x => { x with cap := {} }) :=
  (Chip.Moved.refl c _ _).fillSettle (by simp) (by simp) (fun _ _ => rfl)

theorem Chip.phw_fillSettle (c : Chip) : c.fillSettle.phw = c.phw :=
  (congrArg Chip.phw c.moved_fillSettle.2 : _)

theorem Chip.threads_fillSettle (c : Chip) : c.fillSettle.threads = c.threads :=
  (congrArg Chip.threads c.moved_fillSettle.2 : _)

/-! ### The change of a wheel's state -/

/-- The registers in which a change of wheel `n`'s state shows. -/
def wheelStateRegs (n : Nat) : List Reg := [R.WHn_STATE_CHG n, R.WHn_STATE_CHG 1, R.DOORBELL_OVF, R.CAP_STAT, R.CAP_EVT]

/-- Blanks the wheels, Millpond and the threads. -/
def Chip.noWheels (d : Chip) : Chip := { d with phw := {}, cap := {}, threads := [] }

theorem levelBlank_noWheels : LevelBlank Chip.noWheels :=
  ⟨fun _ _ _ _ _ => rfl, fun _ => rfl, fun _ => rfl, fun _ => rfl, fun _ => rfl, fun _ => rfl, fun _ => rfl, fun _ => rfl⟩

theorem wheelStateChg_ne_ovf (n : Fin 4) : (R.WHn_STATE_CHG n).addr ≠ R.DOORBELL_OVF.addr := by revert n; decide

theorem wheelStateChg_ne_cap (n : Fin 4) : ∀ x ∈ [R.CAP_STAT, R.CAP_EVT], (R.WHn_STATE_CHG n).addr ≠ x.addr := by
  revert n; decide

theorem wheelStateRegs_not_level (n : Fin 4) : ∀ r ∈ levelRegs, ∀ x ∈ wheelStateRegs n, r.addr ≠ x.addr := by revert n; decide

theorem Chip.phw_event (c : Chip) (k : Nat) (r : Reg) (bits : Nat) : (c.event k r bits).phw = c.phw := by rw [Chip.event_eq]

/-- A wheel that changes its state: its record, its event, and what follows the wheels. -/
theorem Chip.setWheelState_of_ne {c : Chip} {n : Fin 4} {st : Nat} (h : (c.wheel n).state ≠ st) :
    let d := c.setWheelState n st
    d.phw = (c.setWheel n { c.wheel n with state := st }).phw ∧ bit (d.rd (R.WHn_STATE_CHG n)) 0 = true ∧ c.Rings d ∧
      c.Moved d (wheelStateRegs n) Chip.noWheels := by
  have hne := wheelStateChg_ne_ovf n
  let e : Chip := (c.setWheel n { c.wheel n with state := st }).event 1 (R.WHn_STATE_CHG n) 1
  let f : Chip := if n.val = 3 then e.event 1 (R.WHn_STATE_CHG 1) 1 else e
  have hdef : c.setWheelState n st = f.fillSettle := by
    simp only [Chip.setWheelState, if_neg h]
    rfl
  have he : c.Moved e (wheelStateRegs n) Chip.noWheels := by
    have h0 : c.Moved (c.setWheel n { c.wheel n with state := st }) (wheelStateRegs n) Chip.noWheels := (Chip.Moved.refl c _ _).put rfl rfl
    exact h0.event (by simp [wheelStateRegs]) (by simp [wheelStateRegs]) (fun _ _ => rfl) 1 1
  have hebit : e.rbit (R.WHn_STATE_CHG n) 0 = true := by
    rw [Chip.rbit_event _ _ _ _ (by simp [R.WHn_STATE_CHG]) hne]
    exact Bool.or_true _
  have hephw : e.phw = (c.setWheel n { c.wheel n with state := st }).phw := Chip.phw_event _ _ _ _
  have hering : c.Rings e := (Chip.Rings.of_threads rfl).trans (Chip.rings_event _ _ _ _)
  have hf : f.phw = e.phw ∧ f.rbit (R.WHn_STATE_CHG n) 0 = true ∧ c.Rings f ∧ c.Moved f (wheelStateRegs n) Chip.noWheels := by
    by_cases hn : n.val = 3
    · have heq : f = e.event 1 (R.WHn_STATE_CHG 1) 1 := if_pos hn
      rw [heq]
      refine ⟨Chip.phw_event _ _ _ _, ?_, hering.trans (Chip.rings_event _ _ _ _), he.event (by simp [wheelStateRegs])
        (by simp [wheelStateRegs]) (fun _ _ => rfl) 1 1⟩
      rw [Chip.rbit, Chip.rd_event_other _ _ _ _ (by rw [hn]; decide) hne]
      exact hebit
    · have heq : f = e := if_neg hn
      rw [heq]
      exact ⟨rfl, hebit, hering, he⟩
  obtain ⟨hfphw, hfbit, hfring, hfmoved⟩ := hf
  rw [hdef]
  refine ⟨(Chip.phw_fillSettle f).trans (hfphw.trans hephw), ?_, hfring.trans (Chip.Rings.of_threads (Chip.threads_fillSettle f)),
    hfmoved.fillSettle (by simp [wheelStateRegs]) (by simp [wheelStateRegs]) (fun _ _ => rfl)⟩
  rw [f.moved_fillSettle.1 _ (wheelStateChg_ne_cap n)]
  exact hfbit

section
variable {s : State} {i : Instr} {n : Fin 4} {w : Wheel} {st : Nat}
  (he : exec i s = .next { s with chip := ((s.chip.setWheel n w).setWheelState n st).settle }) (hst : w.state ≠ st)
include he hst

/-- A command that puts wheel `n` at `w` and then into another state. -/
theorem does_of_setWheelState : Does i s (fun d => d.wheel n = { w with state := st } ∧ (∀ k, k ≠ n.val → d.wheel k = s.chip.wheel k) ∧
    { d.phw with wheels := [] } = { s.chip.phw with wheels := [] } ∧ bit (d.rd (R.WHn_STATE_CHG n)) 0 = true ∧ s.chip.Rings d ∧
    s.chip.Keeps d (wheelStateRegs n) Chip.noWheels) := by
  have hw : (s.chip.setWheel n w).wheel n = w := Chip.wheel_setWheel_self _ _ _
  obtain ⟨hphw, hbit, hrings, hmoved⟩ := Chip.setWheelState_of_ne (c := s.chip.setWheel n w) (n := n) (st := st) (by rwa [hw])
  have hwheel (k : Nat) : ((s.chip.setWheel n w).setWheelState n st).wheel k =
      ((s.chip.setWheel n w).setWheel n { w with state := st }).wheel k := by
    rw [Chip.wheel, hphw, hw]
    rfl
  refine does_of_exec he ⟨?_, fun k hk => ?_, ?_, hbit, (Chip.Rings.of_threads rfl).trans hrings, ?_⟩
  · rw [Chip.wheel_settle, hwheel, Chip.wheel_setWheel_self]
  · rw [Chip.wheel_settle, hwheel, Chip.wheel_setWheel_other _ _ _ _ hk, Chip.wheel_setWheel_other _ _ _ _ hk]
  · rw [Chip.settle_phw, hphw]
    rfl
  · exact (((Chip.Moved.refl s.chip _ _).put rfl rfl).trans hmoved).keeps (wheelStateRegs_not_level n) levelBlank_noWheels

end

/-- Settles O30. -/
theorem wheelEvents : Obligations.WheelEvents := by
  intro s n c w m goes
  refine ⟨fun h => ?_, fun h hhold => ?_, fun h => ?_⟩
  · have hne : w.state ≠ whHOLDOVER := by rcases h with h | h <;> rw [h] <;> decide
    exact does_of_setWheelState (w := { w with freq := some m, base := some m }) (exec_eq_of_lift
      (f := fun c => if (c.wheel n).state = whACQUIRE ∨ (c.wheel n).state = whLOCKED then c.toMean n whHOLDOVER else c) rfl (if_pos h)) hne
  · have hne : w.state ≠ whFREE := by rw [h]; decide
    exact does_of_setWheelState (w := { w with freq := none, base := none, seedWord := none, lastEdge := none, acqEdges := 0, inTol := 0, outliers := 0, words := [], rejects := [] })
      (exec_eq_of_lift (f := fun c => if (c.wheel n).state = whHOLDOVER ∧ c.rd (R.WHn_HOLD n) ≠ 0 then c.toFree n else c) rfl (if_pos ⟨h, hhold⟩)) hne
  · have hne : w.state ≠ whACQUIRE := by rw [h]; decide
    exact does_of_setWheelState (w := { w with acqEdges := 0, inTol := 0, outliers := 0, rejects := [] })
      (exec_eq_of_lift (f := fun c =>
        let w := c.wheel n
        if w.state = whNOISY then (c.setWheel n { w with acqEdges := 0, inTol := 0, outliers := 0, rejects := [] }).setWheelState n whACQUIRE else c)
        rfl (if_pos h)) hne

end Sys2Proof.Machine
end

section
/-!
PROOFS. Station time (03 R98, 01 R45, R62, 16 R772).
-/
namespace Sys2Proof.Machine

/-! ### The second of every lock (16 R772) -/

/-- One lock's second. -/
def Chip.lockStep (c : Chip) (ap : Nat) : Chip :=
  let v := c.rd (R.AUT_LOCK ap)
  if bit v 0 && decide (1 < v / 256) then c.wr (R.AUT_LOCK ap) (v - 256) else c

theorem Chip.lockSecond_eq_foldl (c : Chip) : c.lockSecond = (List.range 55).foldl Chip.lockStep c := rfl

/-- A register below the slots' leaves no slot armed when it is written. -/
theorem Chip.armedSlots_wr {c : Chip} (h : c.armedSlots = []) {r : Reg} (hr : r.addr < 0x820000) (v : Nat) : (c.wr r v).armedSlots = [] := by
  rw [Chip.armedSlots, List.filterMap_eq_nil_iff] at h ⊢
  intro e he
  have hmem : e = (r.addr, v % 256 ^ r.width) ∨ e ∈ c.regs := by
    simp only [Chip.wr, FMap.set] at he
    split at he
    · exact .inr (List.mem_filter.1 he).1
    · exact FMap.mem_insert _ _ _ _ he
  rcases hmem with rfl | hmem
  · exact if_neg (fun h => absurd h.1 (Nat.not_le.2 hr))
  · exact h e hmem

theorem Chip.lockStep_cases (c : Chip) (ap : Nat) : c.lockStep ap = c ∨ ∃ v, c.lockStep ap = c.wr (R.AUT_LOCK ap) v := by
  simp only [Chip.lockStep]
  split
  · exact .inr ⟨_, rfl⟩
  · exact .inl rfl

theorem Chip.rd_lockStep_self (c : Chip) (ap : Nat) : (c.lockStep ap).rd (R.AUT_LOCK ap) =
    if c.rd (R.AUT_LOCK ap) % 2 = 1 ∧ 1 < c.rd (R.AUT_LOCK ap) / 256 then (c.rd (R.AUT_LOCK ap) - 256) % 2 ^ 32 else c.rd (R.AUT_LOCK ap) := by
  have hcond : (bit (c.rd (R.AUT_LOCK ap)) 0 && decide (1 < c.rd (R.AUT_LOCK ap) / 256)) = true ↔
      c.rd (R.AUT_LOCK ap) % 2 = 1 ∧ 1 < c.rd (R.AUT_LOCK ap) / 256 := by
    rw [bit_zero_right, Bool.and_eq_true, decide_eq_true_iff, decide_eq_true_iff]
  simp only [Chip.lockStep, hcond]
  split
  · exact Chip.rd_wr_self _ _ _
  · rfl

/-- The locks counted down: registers alone move, and each lock by its own second. -/
structure Chip.LocksDown (c d : Chip) (n : Nat) : Prop where
  eq : d = { c with regs := d.regs }
  armed : c.armedSlots = [] → d.armedSlots = []
  other : ∀ r : Reg, (∀ ap < n, r.addr ≠ (R.AUT_LOCK ap).addr) → d.rd r = c.rd r
  counted : ∀ ap < n, d.rd (R.AUT_LOCK ap) =
    if c.rd (R.AUT_LOCK ap) % 2 = 1 ∧ 1 < c.rd (R.AUT_LOCK ap) / 256 then (c.rd (R.AUT_LOCK ap) - 256) % 2 ^ 32 else c.rd (R.AUT_LOCK ap)

theorem autLock_addr_ne {m n : Nat} (h : m ≠ n) : (R.AUT_LOCK m).addr ≠ (R.AUT_LOCK n).addr := by
  simp only [R.AUT_LOCK]
  omega

theorem Chip.LocksDown.succ {c d : Chip} {n : Nat} (hn : n < 55) (h : c.LocksDown d n) : c.LocksDown (d.lockStep n) (n + 1) := by
  have hlow : (R.AUT_LOCK n).addr < 0x820000 := by
    simp only [R.AUT_LOCK]
    omega
  have hother (r : Reg) (hr : r.addr ≠ (R.AUT_LOCK n).addr) : (d.lockStep n).rd r = d.rd r := by
    rcases d.lockStep_cases n with hs | ⟨v, hs⟩ <;> rw [hs]
    exact Chip.rd_wr_other _ _ _ _ hr
  refine ⟨?_, fun hc => ?_, fun r hr => ?_, fun ap hap => ?_⟩
  · have hd := h.eq
    rcases d.lockStep_cases n with hs | ⟨v, hs⟩ <;> rw [hs]
    · exact hd
    · rw [hd]
      rfl
  · rcases d.lockStep_cases n with hs | ⟨v, hs⟩ <;> rw [hs]
    · exact h.armed hc
    · exact Chip.armedSlots_wr (h.armed hc) hlow v
  · rw [hother r (hr n (by omega)), h.other r (fun ap hap => hr ap (by omega))]
  · by_cases heq : ap = n
    · rw [heq, Chip.rd_lockStep_self, h.other _ (fun ap hap => autLock_addr_ne (by omega))]
    · rw [hother _ (autLock_addr_ne heq), h.counted ap (by omega)]

theorem Chip.locksDown_lockSecond (c : Chip) : c.LocksDown c.lockSecond 55 := by
  have h (n : Nat) (hn : n ≤ 55) : c.LocksDown ((List.range n).foldl Chip.lockStep c) n := by
    induction n with
    | zero => exact ⟨rfl, id, fun _ _ => rfl, fun ap hap => absurd hap (Nat.not_lt_zero ap)⟩
    | succ n ih =>
      rw [List.range_succ, List.foldl_append]
      exact (ih (by omega)).succ hn
  exact h 55 (le_refl 55)

/-! ### One second -/

/-- What the seconds counter comes to. -/
def Chip.nextSecond (c : Chip) : Nat := c.phw.sysTime.getD ((c.rd R.SYS_TIME + 1) % 2 ^ 32)

/-- The registers that a second moves. -/
def secondRegs : List Reg := R.SYS_TIME :: (List.range 55).map R.AUT_LOCK

/-- A second has passed: station time is `next`, the locks have counted down, and of the rest registers and the written second
alone have moved. -/
structure Chip.SecondPassed (c d : Chip) : Prop where
  eq : d = { c with regs := d.regs, phw := { c.phw with sysTime := none } }
  armed : c.armedSlots = [] → d.armedSlots = []
  time : d.rd R.SYS_TIME = c.nextSecond
  other : ∀ r : Reg, (∀ x ∈ secondRegs, r.addr ≠ x.addr) → d.rd r = c.rd r
  counted : ∀ ap < 55, d.rd (R.AUT_LOCK ap) =
    if c.rd (R.AUT_LOCK ap) % 2 = 1 ∧ 1 < c.rd (R.AUT_LOCK ap) / 256 then (c.rd (R.AUT_LOCK ap) - 256) % 2 ^ 32 else c.rd (R.AUT_LOCK ap)

theorem sysTime_ne_autLock (ap : Nat) : R.SYS_TIME.addr ≠ (R.AUT_LOCK ap).addr := by
  simp only [R.SYS_TIME, R.AUT_LOCK]
  omega

/-- The increment, or the written value in its place (01 R62). -/
theorem Chip.secondUp_eq (c : Chip) : c.secondUp.1 =
    ({ c with phw := { c.phw with sysTime := none } }.wr R.SYS_TIME (c.phw.sysTime.getD (c.rd R.SYS_TIME + 1))).lockSecond := by
  unfold Chip.secondUp
  split
  case h_1 v hv => rw [hv, Option.getD_some]
  case h_2 hv =>
    have hsame : { c with phw := { c.phw with sysTime := none } } = c := by rw [← hv]
    rw [hv, Option.getD_none, hsame]

theorem Chip.secondPassed_secondUp {c : Chip} (hnext : c.nextSecond < 2 ^ 32) : c.SecondPassed c.secondUp.1 := by
  rw [Chip.secondUp_eq]
  generalize hd : ({ c with phw := { c.phw with sysTime := none } }.wr R.SYS_TIME (c.phw.sysTime.getD (c.rd R.SYS_TIME + 1))) = d
  have hrd (r : Reg) (hr : r.addr ≠ R.SYS_TIME.addr) : d.rd r = c.rd r := by
    rw [← hd, Chip.rd_wr_other _ _ _ _ hr]
    rfl
  have htime : d.rd R.SYS_TIME = c.nextSecond := by
    rw [← hd, Chip.rd_wr_self]
    rw [Chip.nextSecond] at hnext ⊢
    cases hv : c.phw.sysTime with
    | none => rfl
    | some v =>
      rw [hv, Option.getD_some] at hnext
      exact Nat.mod_eq_of_lt hnext
  have hlocks := d.locksDown_lockSecond
  refine ⟨?_, fun h => hlocks.armed ?_, ?_, fun r hr => ?_, fun ap hap => ?_⟩
  · rw [hlocks.eq, ← hd]
    rfl
  · rw [← hd]
    exact Chip.armedSlots_wr ((Chip.armedSlots_of_regs rfl).trans h) (by decide) _
  · rw [hlocks.other _ (fun ap _ => sysTime_ne_autLock ap), htime]
  · have hlock (ap : Nat) (hap : ap < 55) : r.addr ≠ (R.AUT_LOCK ap).addr :=
      hr _ (List.mem_cons_of_mem _ (List.mem_map.2 ⟨ap, List.mem_range.2 hap, rfl⟩))
    rw [hlocks.other _ hlock, hrd _ (hr _ (List.mem_cons_self ..))]
  · rw [hlocks.counted ap hap, hrd _ (sysTime_ne_autLock ap).symm]

theorem secondRegs_not_level : ∀ r ∈ levelRegs, ∀ x ∈ secondRegs, r.addr ≠ x.addr := by decide

theorem Chip.SecondPassed.moved {c d : Chip} (h : c.SecondPassed d) : c.Moved d secondRegs (fun d => { d with phw := {} }) := by
  refine ⟨h.other, ?_⟩
  rw [h.eq]

/-! ### W1 follows W3 (03 R96) -/

theorem Chip.moveW1_of_nil {c : Chip} (h : c.armedSlots = []) (old : Nat) (jumped : Bool) :
    c.moveW1 old jumped = c ∨ ∃ w, c.moveW1 old jumped = c.setWheel 1 w := by
  simp only [Chip.moveW1]
  split
  · exact .inl rfl
  · split
    · exact .inr ⟨_, Chip.passSlots_of_nil h _ _ _ _⟩
    · exact .inr ⟨_, rfl⟩

/-- A wheel on its next carry. -/
theorem Wheel.forward_carry {w : Wheel} (h : w.frac < 2 ^ 48) :
    (w.forward (2 ^ 48 - w.frac)).frac = 0 ∧ (w.forward (2 ^ 48 - w.frac)).turn = (w.turn + 1) % 2 ^ 16 := by
  have hsum : w.turn * 2 ^ 48 + w.frac + (2 ^ 48 - w.frac) = (w.turn + 1) * 2 ^ 48 := by omega
  simp only [Wheel.forward, hsum]
  exact ⟨Nat.mul_mod_left _ _, by rw [Nat.mul_div_cancel _ (by norm_num)]⟩

theorem Wheel.carries_eq_one {w : Wheel} (h : w.frac < 2 ^ 48) :
    (w.turn * 2 ^ 48 + w.frac + (2 ^ 48 - w.frac)) / 2 ^ 48 - (w.turn * 2 ^ 48 + w.frac) / 2 ^ 48 = 1 := by omega

/-- A command that takes a wheel on to its next carry with no slot armed (03 R94). -/
theorem Chip.toCarry_of_nil {c : Chip} {n : Nat} (hn : n ≠ 1) (hon : 4 ≤ (c.dom dWRD).state) (hnom : c.freqNom n ≠ 0) :
    c.toCarry n = (c.wheelForward n (2 ^ 48 - (c.wheel n).frac) false).runLaunched :=
  if_neg (by simp only [hn, Nat.not_lt.2 hon, hnom, or_self, not_false_eq_true])

/-- W3's carry, up to what follows W2: its own phase, the second, and W1. -/
def Chip.carryThree (c : Chip) : Chip :=
  let d := (c.putPhase 3 ((c.wheel 3).turn * 2 ^ 48 + (c.wheel 3).frac + (2 ^ 48 - (c.wheel 3).frac))).setWheel 3
    ((c.wheel 3).forward (2 ^ 48 - (c.wheel 3).frac))
  d.secondUp.1.moveW1 (c.phase 1) d.secondUp.2

theorem Chip.wheelForward_three {c : Chip} (harmed : c.armedSlots = []) (hfrac : (c.wheel 3).frac < 2 ^ 48) (hsrc : c.carryThree.src 2 ≠ 6) :
    c.wheelForward 3 (2 ^ 48 - (c.wheel 3).frac) false = c.carryThree := by
  have hpass := Chip.passSlots_putPhase harmed 3 ((c.wheel 3).turn * 2 ^ 48 + (c.wheel 3).frac) (2 ^ 48 - (c.wheel 3).frac) false
  have hone := Wheel.carries_eq_one hfrac
  have hsix : (c.carryThree.src 2 == 6) = false := beq_eq_false_iff_ne.2 hsrc
  rw [Chip.carryThree, Wheel.forward] at hsix ⊢
  simp only [Chip.wheelForward, hpass, hone, if_true, Chip.secondsUp, Bool.or_false, Bool.false_or]
  rw [hsix, Bool.and_false, if_neg Bool.false_ne_true]

/-- What W3's carry leaves. -/
theorem Chip.carryThree_spec {c : Chip} (harmed : c.armedSlots = []) (hnext : c.nextSecond < 2 ^ 32) :
    c.carryThree.wheel 3 = (c.wheel 3).forward (2 ^ 48 - (c.wheel 3).frac) ∧ c.carryThree.rd R.SYS_TIME = c.nextSecond ∧
      (∀ ap < 55, c.carryThree.rd (R.AUT_LOCK ap) = if c.rd (R.AUT_LOCK ap) % 2 = 1 ∧ 1 < c.rd (R.AUT_LOCK ap) / 256
        then (c.rd (R.AUT_LOCK ap) - 256) % 2 ^ 32 else c.rd (R.AUT_LOCK ap)) ∧
      c.Moved c.carryThree secondRegs (fun d => { d with phw := {} }) ∧ c.carryThree.phw.launched = c.phw.launched := by
  obtain ⟨d, hd⟩ : ∃ d, d = (c.putPhase 3 ((c.wheel 3).turn * 2 ^ 48 + (c.wheel 3).frac + (2 ^ 48 - (c.wheel 3).frac))).setWheel 3
    ((c.wheel 3).forward (2 ^ 48 - (c.wheel 3).frac)) := ⟨_, rfl⟩
  have hcarry : c.carryThree = d.secondUp.1.moveW1 (c.phase 1) d.secondUp.2 := by rw [hd, Chip.carryThree]
  have hthree : d.wheel 3 = (c.wheel 3).forward (2 ^ 48 - (c.wheel 3).frac) := by rw [hd, Chip.wheel_setWheel_self]
  obtain ⟨ws, hws⟩ : ∃ ws, d = { c with phw := { c.phw with wheels := ws } } := by
    rw [hd, Chip.putPhase]
    exact (Chip.setWheel_setWheel c 3 _ _).2
  have hregs : d.regs = c.regs := by rw [hws]
  have hpassed : d.SecondPassed d.secondUp.1 := Chip.secondPassed_secondUp (by rw [hws]; exact hnext)
  have harmed' := hpassed.armed ((Chip.armedSlots_of_regs hregs).trans harmed)
  have hnext' : d.nextSecond = c.nextSecond := by rw [hws]; rfl
  have hrd (r : Reg) : d.rd r = c.rd r := by rw [Chip.rd, hregs]; rfl
  have hw1 := Chip.moveW1_of_nil harmed' (c.phase 1) d.secondUp.2
  rw [← hcarry] at hw1
  have hlaunched : d.secondUp.1.phw.launched = c.phw.launched := by rw [hpassed.eq, hws]
  have hwheel : d.secondUp.1.wheel 3 = d.wheel 3 := by rw [hpassed.eq]; rfl
  have hmoved : c.Moved d.secondUp.1 secondRegs (fun d => { d with phw := {} }) :=
    Chip.Moved.trans ((Chip.Moved.refl c _ _).put hregs (by rw [hws])) hpassed.moved
  have htime := hpassed.time
  have hcounted := hpassed.counted
  generalize d.secondUp.1 = e at *
  rcases hw1 with h | ⟨w, h⟩ <;> rw [h]
  · exact ⟨hwheel.trans hthree, htime.trans hnext', fun ap hap => by rw [hcounted ap hap, hrd], hmoved, hlaunched⟩
  · refine ⟨?_, htime.trans hnext', fun ap hap => ?_, hmoved.put rfl rfl, hlaunched⟩
    · rw [Chip.wheel_setWheel_other _ _ _ _ (by decide), hwheel, hthree]
    · exact (hcounted ap hap).trans (by rw [hrd])

/-- Settles O32. -/
theorem stationTime : Obligations.StationTime := by
  intro s n c w next locks counted
  refine ⟨fun h1 h3 hon hnom harmed hlaunched hfrac => ?_, fun hn hon hnom harmed hlaunched hfrac hsrc hnext => ?_, fun hoff hnext => ?_⟩
  · have hn1 : n.val ≠ 1 := fun h => h1 (Fin.ext h)
    have hn3 : n.val ≠ 3 := fun h => h3 (Fin.ext h)
    obtain ⟨hwheels, ws, hforward⟩ := Chip.wheelForward_of_nil harmed hn3 (2 ^ 48 - w.frac) false
    have hcarry := Chip.toCarry_of_nil hn1 hon hnom
    rw [hforward] at hcarry hwheels
    rw [Chip.runLaunched_of_nil (by exact hlaunched)] at hcarry
    have hself := hwheels n
    rw [if_pos rfl] at hself
    obtain ⟨hfrac0, hturn⟩ := Wheel.forward_carry hfrac
    refine does_of_lift (i := .wheelTurnCarry n) (f := fun c => c.toCarry n.val) rfl hcarry ⟨?_, ?_, fun k hk => ?_, ?_⟩
    · rw [Chip.wheel_settle, hself]
      exact hfrac0
    · rw [Chip.wheel_settle, hself]
      exact hturn
    · rw [Chip.wheel_settle, hwheels k, if_neg hk]
    · exact ((Chip.Moved.refl c [] _).put rfl rfl).keeps (by simp) levelBlank_phw
  · have hn3 : n.val = 3 := congrArg Fin.val hn
    have hw : w = c.wheel 3 := congrArg c.wheel hn3
    rw [hw] at hfrac ⊢
    obtain ⟨hthree, htime, hcounted, hmoved, hlaunched'⟩ := Chip.carryThree_spec harmed hnext
    have hsrc' : c.carryThree.src 2 ≠ 6 := by
      have hctrl : c.carryThree.rd (R.WHn_CTRL 2) = c.rd (R.WHn_CTRL 2) := hmoved.1 _ (by decide)
      rw [Chip.src, Chip.rfld, hctrl]
      exact hsrc
    have hcarry := Chip.toCarry_of_nil (c := c) (n := 3) (by decide) hon hnom
    rw [Chip.wheelForward_three harmed hfrac hsrc', Chip.runLaunched_of_nil (hlaunched'.trans hlaunched), ← hn3] at hcarry
    obtain ⟨hfrac0, hturn⟩ := Wheel.forward_carry hfrac
    rw [← hthree] at hfrac0 hturn
    generalize c.carryThree = d at *
    refine does_of_lift (i := .wheelTurnCarry n) (f := fun c => c.toCarry n.val) rfl hcarry ⟨?_, ?_, ?_, fun ap hap => ?_,
      hmoved.keeps secondRegs_not_level levelBlank_phw⟩
    · rw [Chip.wheel_settle, hfrac0]
    · rw [Chip.wheel_settle, hturn]
    · rw [Chip.rd_settle]
      exact htime
    · rw [Chip.rd_settle]
      exact hcounted ap hap
  · have hpassed : c.SecondPassed c.secondUp.1 := Chip.secondPassed_secondUp hnext
    have hphw : c.secondUp.1.phw = { c.phw with sysTime := none } := by rw [hpassed.eq]
    exact does_of_lift (i := .stationSecond) (f := fun c => if (c.dom dWRD).state < 4 then c.secondUp.1 else c) rfl (if_pos hoff)
      ⟨hpassed.time, hphw, hpassed.counted, hpassed.moved.keeps secondRegs_not_level levelBlank_phw⟩

end Sys2Proof.Machine
end

section
/-!
PROOFS. Phase slots: commits, the match of a slot and its action, the end of an EVT pulse (03 R115 to R130).
-/
namespace Sys2Proof.Machine

/-! ### Commits (R116, R130) -/

theorem slotRegs_not_level (n : Fin 256) : ∀ r ∈ levelRegs, ∀ x ∈ [R.SLOT_B0 n, R.SLOT_B1 n, R.SLOT_B2 n, R.SLOT_B4 n], r.addr ≠ x.addr := by
  intro r hr x hx
  have hlow : r.addr < 0x820000 := by revert r; decide
  have hhigh : 0x820000 ≤ x.addr := by
    simp only [List.mem_cons, List.not_mem_nil, or_false] at hx
    rcases hx with rfl | rfl | rfl | rfl <;> simp only [R.SLOT_B0, R.SLOT_B1, R.SLOT_B2, R.SLOT_B4] <;> omega
  omega

theorem leNat_lt (l : List Byte) : leNat l < 256 ^ l.length := by
  induction l with
  | nil => simp [leNat]
  | cons b l ih =>
    rw [leNat, List.length_cons, pow_succ]
    have := b.isLt
    omega

theorem Chip.slotAux_setSlotAux_self (c : Chip) (n : Nat) (x : SlotAux) : (c.setSlotAux n x).slotAux n = x := FMap.get_set_self _ _ _ _

theorem Chip.slotAux_setSlotAux_other (c : Chip) (n m : Nat) (x : SlotAux) (h : m ≠ n) : (c.setSlotAux n x).slotAux m = c.slotAux m :=
  FMap.get_set_other _ _ _ _ _ _ h

/-- Bytes 1 to 15 of the entry that a commit writes, and byte 0. -/
def Chip.commitRegs (c : Chip) (n : Nat) (b : Byte) : Chip :=
  (((c.wr (R.SLOT_B1 n) ((c.stagedByte n 1).toNat % 64)).wr (R.SLOT_B2 n) ((c.stagedByte n 2).toNat % 8 + 8 * (c.rd (R.SLOT_B2 n) / 8 % 2))).wr (R.SLOT_B4 n)
    (leNat ((List.range 11).map (fun i => c.stagedByte n (4 + i))))).wr (R.SLOT_B0 n) (b.toNat % 32)

section
variable (c : Chip) (n : Nat) (b : Byte)

theorem Chip.rd_commitRegs_B0 : (c.commitRegs n b).rd (R.SLOT_B0 n) = b.toNat % 32 := by
  rw [Chip.commitRegs, Chip.rd_wr_self]
  exact Nat.mod_eq_of_lt (by simp only [R.SLOT_B0]; omega)

theorem Chip.rd_commitRegs_B1 : (c.commitRegs n b).rd (R.SLOT_B1 n) = (c.stagedByte n 1).toNat % 64 := by
  rw [Chip.commitRegs, Chip.rd_wr_other _ _ _ _ (by simp [R.SLOT_B0, R.SLOT_B1]), Chip.rd_wr_other _ _ _ _ (by simp [R.SLOT_B4, R.SLOT_B1]),
    Chip.rd_wr_other _ _ _ _ (by simp [R.SLOT_B2, R.SLOT_B1]), Chip.rd_wr_self]
  exact Nat.mod_eq_of_lt (by simp only [R.SLOT_B1]; omega)

theorem Chip.rd_commitRegs_B2 : (c.commitRegs n b).rd (R.SLOT_B2 n) % 8 = (c.stagedByte n 2).toNat % 8 := by
  rw [Chip.commitRegs, Chip.rd_wr_other _ _ _ _ (by simp [R.SLOT_B0, R.SLOT_B2]), Chip.rd_wr_other _ _ _ _ (by simp [R.SLOT_B4, R.SLOT_B2]),
    Chip.rd_wr_self]
  simp only [R.SLOT_B2]
  omega

theorem Chip.rd_commitRegs_B4 : (c.commitRegs n b).rd (R.SLOT_B4 n) = leNat ((List.range 11).map (fun i => c.stagedByte n (4 + i))) := by
  rw [Chip.commitRegs, Chip.rd_wr_other _ _ _ _ (by simp [R.SLOT_B0, R.SLOT_B4]), Chip.rd_wr_self]
  refine Nat.mod_eq_of_lt (lt_of_lt_of_eq (leNat_lt _) ?_)
  rw [List.length_map, List.length_range]
  rfl

theorem Chip.moved_commitRegs (blank : Chip → Chip) :
    c.Moved (c.commitRegs n b) [R.SLOT_B0 n, R.SLOT_B1 n, R.SLOT_B2 n, R.SLOT_B4 n] blank :=
  ((((Chip.Moved.refl c _ _).wr (by simp) _).wr (by simp) _).wr (by simp) _).wr (by simp) _

end

/-- What is due on slot `n` at a tick when a commit alone is due. -/
theorem Chip.slotCommit_of_commit {c : Chip} {n : Nat} {b : Byte} {o : Nat} (hcommit : (c.slotAux n).commit = some (b, o))
    (hdisarm : (c.slotAux n).disarm = false) (hskip : (c.slotAux n).skipWrite = none) :
    ∃ x y : SlotAux, c.slotCommit n = ((c.commitRegs n b).setSlotAux n x).setSlotAux n y ∧ y.staged = [] ∧ y.commit = none ∧
      (b.toNat % 2 = 1 → y.origin = o) := by
  simp only [Chip.slotCommit, hcommit, hdisarm, hskip, Bool.false_eq_true, if_false, Chip.slotCommitWith, Chip.slotAux_setSlotAux_self]
  refine ⟨_, _, rfl, rfl, rfl, fun h => ?_⟩
  rw [h]
  rfl

/-! ### EVT pins (R122) -/

theorem Chip.rbit_wr {r : Reg} (c : Chip) (v : Nat) {i : Nat} (hi : i < 8 * r.width) : (c.wr r v).rbit r i = bit v i := by
  rw [Chip.rbit, Chip.rd_wr_self, bit_mod_256_pow _ hi]

theorem Chip.rbit_wbit {r : Reg} (c : Chip) (i : Nat) (b : Bool) {j : Nat} (hj : j < 8 * r.width) :
    (c.wbit r i b).rbit r j = if j = i then b else c.rbit r j := by
  rw [Chip.wbit, Chip.rbit_wr _ _ hj, bit_putBit]
  rfl

theorem Chip.pulseEnd_eq {c : Chip} {p : Nat} (hp : FMap.get 0 c.phw.pulses p ≠ 0) (hcpu : c.domOn dCPU = true) : c.pulseEnd p =
    { c.wbit R.SIO_EVTOUT p false with phw := { c.phw with pulses := FMap.set 0 c.phw.pulses p 0 } } := by
  rw [Chip.pulseEnd, if_neg hp, Chip.evtSet, if_pos hcpu]
  rfl

theorem levelBlank_slots : LevelBlank (fun d => { d with phw := { d.phw with slots := [] } }) :=
  ⟨fun _ _ _ _ _ => rfl, fun _ => rfl, fun _ => rfl, fun _ => rfl, fun _ => rfl, fun _ => rfl, fun _ => rfl, fun _ => rfl⟩

theorem levelBlank_pulses : LevelBlank (fun d => { d with phw := { d.phw with pulses := [] } }) :=
  ⟨fun _ _ _ _ _ => rfl, fun _ => rfl, fun _ => rfl, fun _ => rfl, fun _ => rfl, fun _ => rfl, fun _ => rfl, fun _ => rfl⟩

theorem slotCommits : Parts.SlotCommits := by
  intro s n p b o c x
  refine ⟨fun hon hcommit hdisarm hskip => ?_, fun hp hcpu => ?_⟩
  · obtain ⟨y, z, heq, hstaged, hnone, horigin⟩ := Chip.slotCommit_of_commit hcommit hdisarm hskip
    have hmoved := c.moved_commitRegs n b (fun d => { d with phw := { d.phw with slots := [] } })
    have h0 := c.rd_commitRegs_B0 n b
    have h1 := c.rd_commitRegs_B1 n b
    have h2 := c.rd_commitRegs_B2 n b
    have h4 := c.rd_commitRegs_B4 n b
    have haux (m : Nat) : (c.commitRegs n b).slotAux m = c.slotAux m := rfl
    generalize c.commitRegs n b = d at heq hmoved h0 h1 h2 h4 haux
    have hdo : (if c.wrdOn then c.slotCommit n.val else c) = (d.setSlotAux n y).setSlotAux n z := by rw [if_pos hon, heq]
    have hz : ((d.setSlotAux n y).setSlotAux n z).slotAux n = z := Chip.slotAux_setSlotAux_self _ _ _
    have hother (m : Nat) (hm : m ≠ n.val) : ((d.setSlotAux n y).setSlotAux n z).slotAux m = c.slotAux m :=
      (Chip.slotAux_setSlotAux_other _ _ _ _ hm).trans ((Chip.slotAux_setSlotAux_other _ _ _ _ hm).trans (haux m))
    have hmoved' : c.Moved ((d.setSlotAux n y).setSlotAux n z) _ _ := hmoved.put rfl rfl
    have hrd (r : Reg) : ((d.setSlotAux n y).setSlotAux n z).rd r = d.rd r := rfl
    generalize (d.setSlotAux n y).setSlotAux n z = e at hdo hz hother hmoved' hrd
    refine does_of_lift (i := .slotCommit n) (f := fun c => if c.wrdOn then c.slotCommit n.val else c) rfl hdo
      ⟨?_, ?_, ?_, ?_, ?_, ?_, fun hb => ?_, hother, hmoved'.keeps (slotRegs_not_level n) levelBlank_slots⟩
    · rw [Chip.rd_settle, hrd, h0]
    · rw [Chip.rd_settle, hrd, h1]
    · rw [Chip.rd_settle, hrd, h4]
    · rw [Chip.rd_settle, hrd, h2]
    · exact (congrArg SlotAux.staged hz).trans hstaged
    · exact (congrArg SlotAux.commit hz).trans hnone
    · exact (congrArg SlotAux.origin hz).trans (horigin hb)
  · have hp8 : p.val < 8 * R.SIO_EVTOUT.width := p.isLt
    have hmoved : c.Moved (c.wbit R.SIO_EVTOUT p false) [R.SIO_EVTOUT] (fun d => { d with phw := { d.phw with pulses := [] } }) :=
      (Chip.Moved.refl c _ _).wbit (by simp) _ _
    refine does_of_lift (i := .evtPulseEnd p) (f := fun c => c.pulseEnd p.val) rfl (Chip.pulseEnd_eq hp hcpu)
      ⟨?_, fun q hq hne => ?_, ?_, (hmoved.put rfl rfl).keeps (by decide) levelBlank_pulses⟩
    · exact (c.rbit_wbit p false hp8).trans (if_pos rfl)
    · exact (c.rbit_wbit p false hq).trans (if_neg hne)
    · exact FMap.get_set_self 0 c.phw.pulses p 0

/-! ### The match of a slot and its action (R115, R119, R122) -/

/-- The chip after a slot of class 1 has set its pin (R122). -/
def Chip.pinSet (c : Chip) (pin : Nat) : Chip := { c with phw := { c.phw with pulses := FMap.set 0 c.phw.pulses pin 0 } }.wbit R.SIO_EVTOUT pin true

/-- A launched slot of class 1 whose operation sets its pin. -/
theorem Chip.slotAct_set {c : Chip} {n pin st : Nat} (hcpu : c.domOn dCPU = true) (hclass : c.slotClass n = 1)
    (hpin : c.slotArg n % 8 = pin) (hop : c.slotArg n / 8 % 4 = 0) :
    c.slotAct (n, st, false) =
      let e := (c.pinSet pin).wr (R.SLOT_B2 n) (c.slotEnergy n + 8 * b2n false)
      if e.rbit (R.SLOT_B0 n) 1 then e.wbit (R.SLOT_B0 n) 0 false else e := by
  have hpin' : fld (c.slotArg n) 0 3 = pin := by rw [← hpin, fld, pow_zero, Nat.div_one]; rfl
  have hop' : fld (c.slotArg n) 3 2 = 0 := hop
  have hset : c.evtPin pin 0 (fld (c.slotArg n) 8 16) = c.pinSet pin := by
    have hcpu' : Chip.domOn { c with phw := { c.phw with pulses := FMap.set 0 c.phw.pulses pin 0 } } dCPU = true := hcpu
    simp only [Chip.evtPin, Chip.evtSet, hcpu', if_true]
    rfl
  simp only [Chip.slotAct, Chip.slotDo, hclass, hpin', hop', hset, if_true]

/-- What such an action leaves. -/
theorem Chip.slotAct_set_spec {c : Chip} {n pin st : Nat} (hn : n < 256) (hpin8 : pin < 8) (hcpu : c.domOn dCPU = true) (hclass : c.slotClass n = 1)
    (hpin : c.slotArg n % 8 = pin) (hop : c.slotArg n / 8 % 4 = 0) (hen : c.slotEn n = true) :
    let d := c.slotAct (n, st, false)
    bit (d.rd R.SIO_EVTOUT) pin = true ∧ d.rbit (R.SLOT_B0 n) 0 = !c.rbit (R.SLOT_B0 n) 1 ∧ d.phw = (c.pinSet pin).phw ∧
      c.Moved d [R.SIO_EVTOUT, R.SLOT_B0 n, R.SLOT_B2 n] (fun d => { d with phw := {} }) := by
  rw [Chip.slotAct_set hcpu hclass hpin hop]
  have hevt0 : R.SIO_EVTOUT.addr ≠ (R.SLOT_B0 n).addr := by simp only [R.SIO_EVTOUT, R.SLOT_B0]; omega
  have hevt2 : R.SIO_EVTOUT.addr ≠ (R.SLOT_B2 n).addr := by simp only [R.SIO_EVTOUT, R.SLOT_B2]; omega
  have h02 : (R.SLOT_B0 n).addr ≠ (R.SLOT_B2 n).addr := by simp only [R.SLOT_B0, R.SLOT_B2]; omega
  have hmoved : c.Moved ((c.pinSet pin).wr (R.SLOT_B2 n) (c.slotEnergy n + 8 * b2n false)) [R.SIO_EVTOUT, R.SLOT_B0 n, R.SLOT_B2 n]
      (fun d => { d with phw := {} }) := by
    have hpulses : c.Moved { c with phw := { c.phw with pulses := FMap.set 0 c.phw.pulses pin 0 } } [R.SIO_EVTOUT, R.SLOT_B0 n, R.SLOT_B2 n]
      (fun d => { d with phw := {} }) := (Chip.Moved.refl c _ _).put rfl rfl
    exact (hpulses.wbit (by simp) pin true).wr (by simp) _
  have hbit : ((c.pinSet pin).wr (R.SLOT_B2 n) (c.slotEnergy n + 8 * b2n false)).rbit R.SIO_EVTOUT pin = true := by
    rw [Chip.rbit, Chip.rd_wr_other _ _ _ _ hevt2]
    exact (Chip.rbit_wbit _ pin true hpin8).trans (if_pos rfl)
  have hzero (i : Nat) : ((c.pinSet pin).wr (R.SLOT_B2 n) (c.slotEnergy n + 8 * b2n false)).rbit (R.SLOT_B0 n) i = c.rbit (R.SLOT_B0 n) i := by
    rw [Chip.rbit, Chip.rd_wr_other _ _ _ _ h02]
    exact congrArg (bit · i) (Chip.rd_wr_other _ _ _ _ hevt0.symm)
  have hphw : ((c.pinSet pin).wr (R.SLOT_B2 n) (c.slotEnergy n + 8 * b2n false)).phw = (c.pinSet pin).phw := rfl
  generalize (c.pinSet pin).wr (R.SLOT_B2 n) (c.slotEnergy n + 8 * b2n false) = e at *
  simp only [hzero]
  cases hone : c.rbit (R.SLOT_B0 n) 1 with
  | true =>
    rw [if_pos rfl]
    refine ⟨?_, (e.rbit_wbit 0 false (by simp [R.SLOT_B0])).trans (if_pos rfl), hphw, hmoved.wbit (by simp) _ _⟩
    rw [Chip.wbit, Chip.rd_wr_other _ _ _ _ hevt0]
    exact hbit
  | false =>
    rw [if_neg Bool.false_ne_true]
    exact ⟨hbit, (hzero 0).trans hen, hphw, hmoved⟩

theorem span_end {turn frac a : Nat} (h : frac < a) : turn * 2 ^ 48 + frac + (a - frac) = turn * 2 ^ 48 + a := by omega

theorem span_turn {turn a : Nat} (h : a < 2 ^ 48) : (turn * 2 ^ 48 + a) / 2 ^ 48 = turn := by omega

theorem span_frac {turn a : Nat} (h : a < 2 ^ 48) : (turn * 2 ^ 48 + a) % 2 ^ 48 = a := by omega

theorem span_start {turn frac a : Nat} (hfrac : frac < a) (ha : a < 2 ^ 48) :
    (turn * 2 ^ 48 + frac) / 2 ^ 48 + 0 ≤ turn ∧ turn * 2 ^ 48 + frac < turn * 2 ^ 48 + a := by omega

/-- A span that ends on the slot's angle `a` in turn `k` crosses it there. -/
theorem Chip.slotCross_end {c : Chip} {n p len k a : Nat} (ha : c.slotAngle n * 2 ^ 16 = a) (hend : p + len = k * 2 ^ 48 + a)
    (hcount : (c.slotAux n).count = 0) (hstart : p / 2 ^ 48 + 0 ≤ k ∧ p < k * 2 ^ 48 + a) : c.slotCross n p len = some k := by
  rw [← hcount] at hstart
  rw [Chip.slotCross, ha, hend, Nat.add_sub_cancel, Nat.mul_div_cancel _ (by norm_num), if_neg (Nat.not_lt.2 (Nat.le_add_left _ _)), if_pos hstart]

theorem Chip.slotSpan_of_cross {c : Chip} {n p len k : Nat} (h : c.slotCross n p len = some k) (hk : (p + len) / 2 ^ 48 = k) :
    c.slotSpan false p len n = (c.setSlotAux n { c.slotAux n with count := c.slotDiv n }).slotMatch n false := by
  rw [Chip.slotSpan, h]
  simp only [hk, Bool.false_eq_true, if_false, Nat.add_sub_cancel_left, -Nat.reducePow]

/-- The slot's passage on the span from a wheel's phase to its angle: its divider is reloaded and it is matched. -/
theorem Chip.slotSpan_angle {c : Chip} {n turn frac a : Nat} (ha : c.slotAngle n * 2 ^ 16 = a) (hfrac : frac < a) (hlt : a < 2 ^ 48)
    (hcount : (c.slotAux n).count = 0) : c.slotSpan false (turn * 2 ^ 48 + frac) (a - frac) n =
      (c.setSlotAux n { c.slotAux n with count := c.slotDiv n }).slotMatch n false :=
  Chip.slotSpan_of_cross (Chip.slotCross_end ha (span_end hfrac) hcount (span_start hfrac hlt)) (by rw [span_end hfrac, span_turn hlt])

/-- A slot of class 1 whose DEGRADE lets it fire always (R118). -/
theorem Chip.slotMatch_always {c : Chip} {n : Nat} (hclass : c.slotClass n = 1) (hdegrade : c.rfld (R.SLOT_B0 n) 3 2 = 1) :
    ∃ st, c.slotMatch n false = { c with phw := { c.phw with launched := c.phw.launched ++ [(n, st, false)] } } := by
  refine ⟨c.wheelState (c.slotWheel n), ?_⟩
  simp only [Chip.slotMatch, hclass, hdegrade, slotFires]
  rfl

theorem Chip.passSlots_of_front {c : Chip} {n : Nat} (hback : (c.wheel n).back = 0) (caught : Bool) (p d : Nat) :
    c.passSlots n caught p d = (c.setWheel n (c.wheel n)).slotsSpan n caught p d := by
  have hsame : { c.wheel n with back := 0 } = c.wheel n := by rw [← hback]
  simp only [Chip.passSlots, hback, Nat.min_zero, Nat.sub_zero, Nat.add_zero, hsame]

theorem Chip.slotsSpan_of_one {c : Chip} {n m len : Nat} (harmed : c.armedSlots = [n]) (hwheel : c.slotWheel n = m) (hlen : len ≠ 0)
    (caught : Bool) (p : Nat) : c.slotsSpan m caught p len = c.slotSpan caught p len n := by
  rw [Chip.slotsSpan, if_neg hlen, harmed, List.filter_cons_of_pos (by simp [hwheel])]
  rfl

/-- Wheel 0 goes on to the angle `a` of the only armed slot. -/
theorem Chip.wheelForward_angle {c : Chip} {n a : Nat} (harmed : c.armedSlots = [n]) (hwheel : c.slotWheel n = 0) (ha : c.slotAngle n * 2 ^ 16 = a)
    (hfrac : (c.wheel 0).frac < a) (hlt : a < 2 ^ 48) (hback : (c.wheel 0).back = 0) (hcount : (c.slotAux n).count = 0)
    (hclass : c.slotClass n = 1) (hdegrade : c.rfld (R.SLOT_B0 n) 3 2 = 1) (hlaunched : c.phw.launched = []) :
    ∃ ws st, c.wheelForward 0 (a - (c.wheel 0).frac) false = { c with phw := { c.phw with
        wheels := ws, slots := FMap.set {} c.phw.slots n { c.slotAux n with count := c.slotDiv n }, launched := [(n, st, false)] } } ∧
      (FMap.get ({} : Wheel) ws 0).frac = a := by
  have hend : (c.wheel 0).turn * 2 ^ 48 + (c.wheel 0).frac + (a - (c.wheel 0).frac) = (c.wheel 0).turn * 2 ^ 48 + a := span_end hfrac
  obtain ⟨w, hw⟩ : ∃ w : Wheel, w = { c.wheel 0 with frac := a, turn := (c.wheel 0).turn % 2 ^ 16 } := ⟨_, rfl⟩
  have hput : c.putPhase 0 ((c.wheel 0).turn * 2 ^ 48 + (c.wheel 0).frac + (a - (c.wheel 0).frac)) = c.setWheel 0 w := by
    rw [hend, Chip.putPhase, span_frac hlt, span_turn hlt, hw]
  have hforward : c.wheelForward 0 (a - (c.wheel 0).frac) false =
      (c.setWheel 0 w).passSlots 0 false ((c.wheel 0).turn * 2 ^ 48 + (c.wheel 0).frac) (a - (c.wheel 0).frac) := by
    rw [← hput]
    rfl
  have hself : (c.setWheel 0 w).wheel 0 = w := Chip.wheel_setWheel_self _ _ _
  obtain ⟨hwheels, ws, hws⟩ := Chip.setWheel_setWheel c 0 w w
  rw [Chip.passSlots_of_front (by rw [hself, hw, hback]), hself, hws] at hforward
  have hfw : (FMap.get ({} : Wheel) ws 0).frac = a := by
    have h0 := hwheels 0
    rw [hws, if_pos rfl] at h0
    exact (congrArg Wheel.frac h0).trans (congrArg Wheel.frac hw)
  generalize hd : { c with phw := { c.phw with wheels := ws } } = d at hforward
  have hrd (r : Reg) : d.rd r = c.rd r := by rw [← hd]; rfl
  have harmed' : d.armedSlots = [n] := (Chip.armedSlots_of_regs (by rw [← hd])).trans harmed
  have haux : d.slotAux n = c.slotAux n := by rw [← hd]; rfl
  have hlen : a - (c.wheel 0).frac ≠ 0 := Nat.sub_ne_zero_of_lt hfrac
  rw [Chip.slotsSpan_of_one harmed' (by rw [Chip.slotWheel, Chip.rfld, hrd]; exact hwheel) hlen,
    Chip.slotSpan_angle (by rw [Chip.slotAngle, Chip.rfld, hrd]; exact ha) hfrac hlt (by rw [haux]; exact hcount)] at hforward
  have hclass' : (d.setSlotAux n { d.slotAux n with count := d.slotDiv n }).slotClass n = 1 := by rw [← hd]; exact hclass
  have hdegrade' : (d.setSlotAux n { d.slotAux n with count := d.slotDiv n }).rfld (R.SLOT_B0 n) 3 2 = 1 := by rw [← hd]; exact hdegrade
  obtain ⟨st, hst⟩ := Chip.slotMatch_always hclass' hdegrade'
  refine ⟨ws, st, (hforward.trans hst).trans ?_, hfw⟩
  have hdiv : d.slotDiv n = c.slotDiv n := by rw [← hd]; rfl
  have hlaunched' : d.phw.launched = [] := by rw [← hd]; exact hlaunched
  rw [haux, hdiv, Chip.setSlotAux, hlaunched', List.nil_append, ← hd]

theorem Chip.runLaunched_of_one {c : Chip} {l : Nat × Nat × Bool} (h : c.phw.launched = [l]) :
    c.runLaunched = Chip.slotAct { c with phw := { c.phw with launched := [] } } l := by
  simp only [Chip.runLaunched, h, List.foldl_cons, List.foldl_nil, launchInsert]

theorem angle_ahead {a f : Nat} (h : f < a) (ha : a < 2 ^ 48) : (a + 2 ^ 48 - f) % 2 ^ 48 = a - f := by omega

/-- A slot's angle ahead of its wheel in the same turn. -/
theorem Chip.toAngle_of_ahead {c : Chip} {n a : Nat} (hen : c.slotEn n = true) (hon : 4 ≤ (c.dom dWRD).state) (hwheel : c.slotWheel n = 0)
    (hnom : c.freqNom 0 ≠ 0) (ha : c.slotAngle n * 2 ^ 16 = a) (hfrac : (c.wheel 0).frac < a) (hlt : a < 2 ^ 48) :
    c.toAngle n = (c.wheelForward 0 (a - (c.wheel 0).frac) false).runLaunched := by
  have hrun : ¬ ((!c.slotEn n) = true ∨ (c.dom dWRD).state < 4) := by
    rw [hen]
    exact fun h => h.elim (fun h => absurd h (by decide)) (fun h => absurd h (Nat.not_lt.2 hon))
  rw [Chip.toAngle, if_neg hrun, hwheel, if_neg (by decide), if_neg hnom, ha, angle_ahead hfrac hlt]
  simp only [if_neg (Nat.sub_ne_zero_of_lt hfrac)]

theorem slotMatchRegs_not_level (n : Fin 256) : ∀ r ∈ levelRegs, ∀ x ∈ [R.SIO_EVTOUT, R.SLOT_B0 n, R.SLOT_B2 n], r.addr ≠ x.addr := by
  intro r hr x hx
  rcases List.mem_cons.1 hx with rfl | hx
  · revert r
    decide
  · refine slotRegs_not_level n r hr x ?_
    simp only [List.mem_cons, List.not_mem_nil, or_false] at hx ⊢
    rcases hx with rfl | rfl <;> simp

theorem slotMatchActs : Parts.SlotMatchActs := by
  intro s n pin c arg hon hcpu harmed hen hwheel hnom hlaunched hfrac48 hturn hback hcount hfrac hclass hdegrade hpin hop
  have hangle : c.slotAngle n < 2 ^ 32 := fld_lt _ _ _
  obtain ⟨a, ha⟩ : ∃ a, c.slotAngle n * 2 ^ 16 = a := ⟨_, rfl⟩
  have hlt : a < 2 ^ 48 := by omega
  rw [ha] at hfrac ⊢
  obtain ⟨ws, st, hforward, hfw⟩ := Chip.wheelForward_angle harmed hwheel ha hfrac hlt hback hcount hclass hdegrade hlaunched
  have hto := Chip.toAngle_of_ahead hen hon hwheel hnom ha hfrac hlt
  rw [hforward, Chip.runLaunched_of_one (l := (n.val, st, false)) rfl] at hto
  let e : Chip := { c with phw := { c.phw with
    wheels := ws, slots := FMap.set {} c.phw.slots n { c.slotAux n with count := c.slotDiv n }, launched := [] } }
  obtain ⟨hbit, hshot, hphw, hmoved⟩ := Chip.slotAct_set_spec (c := e) (st := st) n.isLt pin.isLt hcpu hclass hpin hop hen
  have hfrac' : ((e.slotAct (n.val, st, false)).wheel 0).frac = a := by
    rw [Chip.wheel, hphw]
    exact hfw
  have haux : ((e.slotAct (n.val, st, false)).slotAux n).count = c.slotDiv n := by
    rw [Chip.slotAux, hphw]
    exact congrArg SlotAux.count (FMap.get_set_self _ _ _ _)
  have hput : c.Moved e [R.SIO_EVTOUT, R.SLOT_B0 n, R.SLOT_B2 n] (fun d => { d with phw := {} }) := (Chip.Moved.refl c _ _).put rfl rfl
  have hkeeps := (hput.trans hmoved).keeps (slotMatchRegs_not_level n) levelBlank_phw
  have hto' : c.toAngle n = e.slotAct (n.val, st, false) := hto
  generalize e.slotAct (n.val, st, false) = d at *
  refine does_of_lift (i := .slotMatch n) (f := fun c => c.toAngle n.val) rfl hto' ⟨?_, ?_, ?_, ?_, hkeeps⟩
  · rw [Chip.rd_settle, hbit]
  · rw [Chip.wheel_settle, hfrac']
  · exact hshot
  · exact haux

/-- Settles O33. -/
theorem phaseSlots : Obligations.PhaseSlots := ⟨slotCommits, slotMatchActs⟩

end Sys2Proof.Machine
end

section
/-!
PROOFS. Millpond: its ramps, FILL and the core levels (11 R522 to R532, R536 to R538).
-/
namespace Sys2Proof.Machine

theorem levelBlank_cap : LevelBlank (fun d => { d with cap := {} }) :=
  ⟨fun _ _ _ _ _ => rfl, fun _ => rfl, fun _ => rfl, fun _ => rfl, fun _ => rfl, fun _ => rfl, fun _ => rfl, fun _ => rfl⟩

/-! ### FILL and the alignment -/

theorem Chip.unaligned_congr {c d : Chip} (hctrl : d.rd R.MP_CTRL = c.rd R.MP_CTRL) (hphw : d.phw = c.phw) : d.unaligned = c.unaligned := by
  unfold Chip.unaligned Chip.wheelState Chip.wheel Chip.rfld Chip.rbit
  rw [hctrl, hphw]

/-- The ramps that the alignment leaves: none ends but with UNALIGNED. -/
theorem Chip.alignSettle_eq (c : Chip) : ∃ ms, c.alignSettle = { c with cap := { c.cap with cores := ms } }.wbit R.CAP_STAT 7 c.unaligned ∧
    (c.rbit R.CAP_STAT 7 = false → ms = c.cap.cores) := by
  unfold Chip.alignSettle
  by_cases h : (c.rbit R.CAP_STAT 7 && !c.unaligned) = true
  · refine ⟨_, by simp only [if_pos h]; rfl, fun hn => ?_⟩
    rw [hn, Bool.false_and] at h
    exact absurd h (by decide)
  · exact ⟨c.cap.cores, by simp only [if_neg h], fun _ => rfl⟩

theorem Chip.fillWanted_alignSettle (c : Chip) : c.alignSettle.fillWanted =
    (c.domUp (dCH 2) && !c.rbit R.CAP_STAT 3 && (c.cap.fillHold || (c.unaligned && c.rd (R.CAP_DROOP 0) == 2))) := by
  obtain ⟨ms, h, _⟩ := c.alignSettle_eq
  have hun : c.alignSettle.unaligned = c.unaligned := by
    rw [h]
    exact Chip.unaligned_congr (Chip.rd_wr_other _ _ _ _ (by decide)) rfl
  have hthree : c.alignSettle.rbit R.CAP_STAT 3 = c.rbit R.CAP_STAT 3 := by
    rw [h, Chip.rbit_wbit _ _ _ (by decide), if_neg (by decide)]
    rfl
  have hdroop : c.alignSettle.rd (R.CAP_DROOP 0) = c.rd (R.CAP_DROOP 0) := by
    rw [h]
    exact Chip.rd_wr_other _ _ _ _ (by decide)
  have hup : c.alignSettle.domUp (dCH 2) = c.domUp (dCH 2) := by
    rw [h]
    rfl
  have hhold : c.alignSettle.cap.fillHold = c.cap.fillHold := by
    rw [h]
    rfl
  rw [Chip.fillWanted, hun, hthree, hdroop, hup, hhold]

/-- The settling of FILL after that of the alignment: nothing, its end, or a new assertion. -/
theorem Chip.fillSettle_cases (c : Chip) : let d := c.alignSettle
    (d.fillWanted = d.rbit R.CAP_STAT 5 ∧ c.fillSettle = d) ∨ (d.fillWanted = false ∧ c.fillSettle = d.wbit R.CAP_STAT 5 false) ∨
      (d.fillWanted = true ∧ (c.fillSettle = (d.wbit R.CAP_STAT 5 true).wbit R.CAP_EVT 3 true ∨
        ∃ a, c.fillSettle = { d.wbit R.CAP_STAT 5 true with cap := { d.cap with ackWait := a } })) := by
  simp only [Chip.fillSettle]
  generalize c.alignSettle = d
  by_cases hsame : d.fillWanted = d.rbit R.CAP_STAT 5
  · exact .inl ⟨hsame, if_pos hsame⟩
  · rw [if_neg hsame]
    cases hfive : d.rbit R.CAP_STAT 5 with
    | true =>
      rw [hfive] at hsame
      exact .inr (.inl ⟨Bool.eq_false_iff.2 hsame, if_pos rfl⟩)
    | false =>
      rw [hfive] at hsame
      refine .inr (.inr ⟨eq_true_of_ne_false hsame, ?_⟩)
      rw [if_neg Bool.false_ne_true]
      split
      · exact .inl rfl
      · exact .inr ⟨_, rfl⟩

/-- Of Millpond's own state the settling of FILL moves the cores' records and the wait for FILL_ACK at most; CAP_STAT shows FILL. -/
theorem Chip.fillSettle_spec (c : Chip) : ∃ ms a, c.fillSettle.cap = { c.cap with cores := ms, ackWait := a } ∧
    (c.rbit R.CAP_STAT 7 = false → ms = c.cap.cores) ∧ c.fillSettle.rbit R.CAP_STAT 5 = c.alignSettle.fillWanted := by
  obtain ⟨ms, halign, hms⟩ := c.alignSettle_eq
  have hcap : c.alignSettle.cap = { c.cap with cores := ms } := by rw [halign]; rfl
  have hcases := c.fillSettle_cases
  generalize c.alignSettle = d at hcap hcases
  have hset (b : Bool) : (d.wbit R.CAP_STAT 5 b).rbit R.CAP_STAT 5 = b := by rw [Chip.rbit_wbit _ _ _ (by decide), if_pos rfl]
  rcases hcases with ⟨hw, h⟩ | ⟨hw, h⟩ | ⟨hw, h | ⟨a, h⟩⟩ <;> rw [h, hw]
  · exact ⟨ms, c.cap.ackWait, hcap, hms, rfl⟩
  · exact ⟨ms, c.cap.ackWait, hcap, hms, hset false⟩
  · refine ⟨ms, c.cap.ackWait, hcap, hms, ?_⟩
    rw [Chip.rbit, Chip.wbit, Chip.rd_wr_other _ _ _ _ (by decide)]
    exact hset true
  · exact ⟨ms, a, by rw [hcap], hms, hset true⟩

/-- When FILL is not to be asserted, settling leaves the events alone. -/
theorem Chip.moved_fillSettle_off {c : Chip} (hoff : c.alignSettle.fillWanted = false) :
    c.Moved c.fillSettle [R.CAP_STAT] (fun d => { d with cap := {} }) := by
  have halign : c.Moved c.alignSettle [R.CAP_STAT] (fun d => { d with cap := {} }) := (Chip.Moved.refl c _ _).alignSettle (by simp) (fun _ _ => rfl)
  rcases c.fillSettle_cases with ⟨_, h⟩ | ⟨_, h⟩ | ⟨hw, _⟩
  · rwa [h]
  · rw [h]
    exact halign.wbit (by simp) _ _
  · exact absurd (hoff.symm.trans hw) Bool.false_ne_true

/-! ### The events of Millpond -/

theorem Chip.mp_setMp_self (c : Chip) (k : Nat) (m : MpCore) : (c.setMp k m).mp k = m := FMap.get_set_self _ _ _ _

theorem Chip.mp_setMp_other (c : Chip) (k j : Nat) (m : MpCore) (h : j ≠ k) : (c.setMp k m).mp j = c.mp j := FMap.get_set_other _ _ _ _ _ _ h

theorem capStat_not_level : ∀ r ∈ levelRegs, ∀ x ∈ [R.CAP_STAT, R.CAP_EVT], r.addr ≠ x.addr := by decide

section
variable {c d : Chip}

theorem Chip.Moved.keepsCap {rs : List Reg} (h : c.Moved d rs (fun d => { d with cap := {} })) (hrs : ∀ x ∈ rs, x ∈ [R.CAP_STAT, R.CAP_EVT]) :
    c.Keeps d.settle rs (fun d => { d with cap := {} }) := h.keeps (fun r hr x hx => capStat_not_level r hr x (hrs x hx)) levelBlank_cap

end

/-- An edge of FILL_ACK (R531, R532). -/
def Chip.fillAck (asserted : Bool) (c : Chip) : Chip :=
  if asserted && !c.rbit R.SYS_SUPPLY 8 then c
  else
    let c := c.wbit R.CAP_STAT 6 asserted
    if asserted then (if c.cap.stuck then c else { c with cap := { c.cap with ackWait := false } })
    else { c with cap := { c.cap with stuck := false } }

theorem Chip.fillAck_true {c : Chip} (hbank : c.rbit R.SYS_SUPPLY 8 = true) (hstuck : c.cap.stuck = false) :
    c.fillAck true = { c.wbit R.CAP_STAT 6 true with cap := { c.cap with ackWait := false } } := by
  simp only [Chip.fillAck, hbank, Bool.not_true, Bool.and_false, Bool.false_eq_true, if_false, if_true, Chip.wbit_cap, hstuck]

theorem Chip.fillAck_false (c : Chip) : c.fillAck false = { c.wbit R.CAP_STAT 6 false with cap := { c.cap with stuck := false } } := by
  simp only [Chip.fillAck, Bool.false_and, Bool.false_eq_true, if_false, Chip.wbit_cap]

/-- A command that shows a bit of CAP_STAT or CAP_EVT and changes Millpond's own state. -/
theorem does_of_capBit {s : State} {i : Instr} {f : Chip → Chip} {r : Reg} {k : Nat} {b : Bool} {v : CapSt} (he : exec i s = s.lift f)
    (hr : r ∈ [R.CAP_STAT, R.CAP_EVT]) (hk : k < 8) (hd : f s.chip = { s.chip.wbit r k b with cap := v }) :
    Does i s (fun d => d.rbit r k = b ∧ d.cap = v ∧ s.chip.Keeps d [r] (fun d => { d with cap := {} })) := by
  have hwidth : r.width = 1 := by
    simp only [List.mem_cons, List.not_mem_nil, or_false] at hr
    rcases hr with rfl | rfl <;> rfl
  have hbit : (s.chip.wbit r k b).rbit r k = b := by rw [Chip.rbit_wbit _ _ _ (by omega), if_pos rfl]
  have hmoved : s.chip.Moved (s.chip.wbit r k b) [r] (fun d => { d with cap := {} }) := (Chip.Moved.refl s.chip _ _).wbit (by simp) k b
  generalize s.chip.wbit r k b = e at *
  have hput : s.chip.Moved { e with cap := v } [r] (fun d => { d with cap := {} }) := hmoved.put rfl rfl
  exact does_of_lift he hd ⟨hbit, rfl, hput.keepsCap (by simpa using hr)⟩

theorem millpondEvents : Parts.MillpondEvents := by
  intro s k p c onlyCap
  refine ⟨fun hdue => ?_, fun hdue hthr hhold => ?_, fun hun => ?_, fun hack => ?_, fun hsix hfive => ?_, fun hbank hstuck => ?_, ?_, ?_⟩
  · have hk : k.val ≠ 2 := by omega
    have hbegin : c.rampBegin k = c.setMp k { c.mp k with due := none, rampUp := true, hold := 0, prof := p } := by
      rw [Chip.rampBegin, if_neg hk, hdue]
    refine does_of_lift (i := .millpondRampBegin ⟨k.val, by omega⟩) (f := fun c => c.rampBegin k) rfl hbegin
      ⟨Chip.mp_setMp_self _ _ _, fun j hj => Chip.mp_setMp_other _ _ _ _ hj, rfl, ((Chip.Moved.refl c _ _).put rfl rfl).keepsCap (by simp)⟩
  · have hbegin : c.rampBegin 2 = Chip.fillSettle { c with cap := { c.cap with fillDue := none, fillHold := true } } := by
      have hthr' : Chip.rbit { c with cap := { c.cap with fillDue := none } } R.CAP_STAT 3 = false := hthr
      have hhold' : Chip.profHold { c with cap := { c.cap with fillDue := none } } p ≠ 0 := hhold
      simp only [Chip.rampBegin, if_true, hdue, hthr', Bool.false_eq_true, if_false, if_neg hhold']
    have hput : c.Moved { c with cap := { c.cap with fillDue := none, fillHold := true } } [R.CAP_STAT, R.CAP_EVT] (fun d => { d with cap := {} }) :=
      (Chip.Moved.refl c _ _).put rfl rfl
    have hmoved := hput.fillSettle (by simp) (by simp) (fun _ _ => rfl)
    obtain ⟨ms, a, hcap, _, hfill⟩ := Chip.fillSettle_spec { c with cap := { c.cap with fillDue := none, fillHold := true } }
    rw [Chip.fillWanted_alignSettle] at hfill
    generalize Chip.fillSettle { c with cap := { c.cap with fillDue := none, fillHold := true } } = d at *
    refine does_of_lift (i := .millpondRampBegin 2) (f := fun c => c.rampBegin 2) rfl hbegin ⟨?_, ?_, fun hup => ?_, hmoved.keepsCap (by simp)⟩
    · rw [Chip.settle_cap, hcap]
    · rw [Chip.settle_cap, hcap]
    · have hup' : Chip.domUp { c with cap := { c.cap with fillDue := none, fillHold := true } } (dCH 2) = true := hup
      have hthr' : Chip.rbit { c with cap := { c.cap with fillDue := none, fillHold := true } } R.CAP_STAT 3 = false := hthr
      exact hfill.trans (by rw [hup', hthr']; rfl)
  · have hun' : Chip.unaligned { c with cap := { c.cap with fillHold := false } } = false := hun
    have hoff : (Chip.alignSettle { c with cap := { c.cap with fillHold := false } }).fillWanted = false := by
      rw [Chip.fillWanted_alignSettle, hun', Bool.false_and, Bool.or_false, Bool.and_false]
    have hput : c.Moved { c with cap := { c.cap with fillHold := false } } [R.CAP_STAT] (fun d => { d with cap := {} }) := (Chip.Moved.refl c _ _).put rfl rfl
    have hmoved := hput.trans (Chip.moved_fillSettle_off hoff)
    obtain ⟨ms, a, hcap, _, hfill⟩ := Chip.fillSettle_spec { c with cap := { c.cap with fillHold := false } }
    rw [hoff] at hfill
    have hexec : exec .fillHoldEnd s = s.lift (fun c => Chip.fillSettle { c with cap := { c.cap with fillHold := false } }) := rfl
    refine does_of_lift hexec rfl ⟨?_, hfill, hmoved.keepsCap (by simp)⟩
    rw [Chip.settle_cap, hcap]
  · exact does_of_capBit (i := .fillNoack) (f := fun c => if c.cap.ackWait then { c.wbit R.CAP_EVT 3 true with cap := { c.cap with ackWait := false } } else c)
      rfl (by simp) (by decide) (if_pos hack)
  · exact does_of_capBit (i := .fillAckStuck) (f := fun c => if c.rbit R.CAP_STAT 6 && !c.rbit R.CAP_STAT 5
      then { c.wbit R.CAP_EVT 4 true with cap := { c.cap with stuck := true } } else c) rfl (by simp) (by decide) (if_pos (by rw [hsix, hfive]; rfl))
  · exact does_of_capBit (i := .fillAckEdge true) (f := Chip.fillAck true) rfl (by simp) (by decide) (Chip.fillAck_true hbank hstuck)
  · exact does_of_capBit (i := .fillAckEdge false) (f := Chip.fillAck false) rfl (by simp) (by decide) (Chip.fillAck_false c)
  · have hmoved : c.Moved { c with cap := { c.cap with shaping := false } } [] (fun d => { d with cap := {} }) := (Chip.Moved.refl c _ _).put rfl rfl
    have hkeeps := hmoved.keepsCap (by simp)
    have hcap : Chip.cap { c with cap := { c.cap with shaping := false } } = { c.cap with shaping := false } := rfl
    have hdo : (fun c : Chip => { c with cap := { c.cap with shaping := false } }) c = { c with cap := { c.cap with shaping := false } } := rfl
    generalize { c with cap := { c.cap with shaping := false } } = d at hkeeps hcap hdo
    have hexec : exec .ch5ShapeRelease s = s.lift (fun c => { c with cap := { c.cap with shaping := false } }) := rfl
    exact does_of_lift hexec hdo ⟨hcap, hkeeps⟩

/-! ### A period boundary (R522) -/

/-- The level, the ramp and the hold of core `k` after an aligned period. -/
def Chip.periodStep (c : Chip) (k : Nat) : Nat × Bool × Nat :=
  let m := c.mp k
  levelStep false m.rampUp m.hold (c.rd (R.MP_LEVEL k)) (c.profByte m.prof 0) (c.profByte m.prof 1) (c.profByte m.prof 2) (c.rd R.MP_FLOOR)
    (c.profHold m.prof)

/-- What is left of core `k`'s record after an aligned period. -/
def Chip.periodRecord (c : Chip) (k : Nat) : MpCore :=
  { c.mp k with rampUp := (c.periodStep k).2.1, hold := (c.periodStep k).2.2, real := 0, filler := 0, start := (c.core k).cyc }

theorem Chip.mpPeriod_eq {c : Chip} (hcpu : c.domOn dCPU = true) (hun : c.unaligned = false) (k : Nat) :
    c.mpPeriod k = (c.wr (R.MP_LEVEL k) (max (c.periodStep k).1 (c.realShare k))).setMp k (c.periodRecord k) := by
  simp only [Chip.mpPeriod, hun, hcpu, if_true, Bool.false_eq_true, if_false]
  rfl

theorem levelStep_ramp (hold lvl top up dn floor hold0 : Nat) :
    (levelStep false true hold lvl top up dn floor hold0).1 = min top (lvl + max 1 up) := by
  simp only [levelStep, Bool.false_eq_true, if_false, if_true]
  split <;> rfl

theorem levelStep_fall (lvl top up dn floor hold0 : Nat) :
    (levelStep false false 0 lvl top up dn floor hold0).1 = max floor (lvl - max 1 dn) := rfl

theorem levelStep_hold {hold : Nat} (h : 0 < hold) (lvl top up dn floor hold0 : Nat) :
    levelStep false false hold lvl top up dn floor hold0 = (lvl, false, hold - 1) := by
  simp only [levelStep, Bool.false_eq_true, if_false, if_pos h]

/-- The period of one core: its level and its record. -/
structure Chip.CorePeriod (c d : Chip) (k : Nat) : Prop where
  level : d.rd (R.MP_LEVEL k) = max (c.periodStep k).1 (c.realShare k) % 256
  record : d.mp k = c.periodRecord k
  other : ∀ j, j ≠ k → d.mp j = c.mp j
  moved : c.Moved d [R.MP_LEVEL k] (fun d => { d with cap := {} })

theorem Chip.corePeriod_mpPeriod {c : Chip} (hcpu : c.domOn dCPU = true) (hun : c.unaligned = false) (k : Nat) : c.CorePeriod (c.mpPeriod k) k := by
  rw [Chip.mpPeriod_eq hcpu hun]
  have hlevel : (c.wr (R.MP_LEVEL k) (max (c.periodStep k).1 (c.realShare k))).rd (R.MP_LEVEL k) = max (c.periodStep k).1 (c.realShare k) % 256 :=
    Chip.rd_wr_self _ _ _
  have hmoved : c.Moved (c.wr (R.MP_LEVEL k) (max (c.periodStep k).1 (c.realShare k))) [R.MP_LEVEL k] (fun d => { d with cap := {} }) :=
    (Chip.Moved.refl c _ _).wr (by simp) _
  have hmp (j : Nat) : (c.wr (R.MP_LEVEL k) (max (c.periodStep k).1 (c.realShare k))).mp j = c.mp j := rfl
  generalize c.wr (R.MP_LEVEL k) (max (c.periodStep k).1 (c.realShare k)) = d at *
  exact ⟨hlevel, Chip.mp_setMp_self _ _ _, fun j hj => (Chip.mp_setMp_other _ _ _ _ hj).trans (hmp j), hmoved.put rfl rfl⟩

section
variable {c d : Chip} {k j : Nat}

theorem Chip.CorePeriod.domOn (h : c.CorePeriod d k) (x : Nat) : d.domOn x = c.domOn x := by
  have hseq : d.seq = c.seq := (congrArg Chip.seq h.moved.2 : _)
  rw [Chip.domOn, Chip.dom, hseq]
  rfl

theorem Chip.CorePeriod.core (h : c.CorePeriod d k) (x : Nat) : d.core x = c.core x :=
  Chip.core_of_cores (congrArg Chip.cores h.moved.2 : _) x

theorem Chip.CorePeriod.rd (h : c.CorePeriod d k) {r : Reg} (hr : r.addr ≠ (R.MP_LEVEL k).addr) : d.rd r = c.rd r :=
  h.moved.1 r (fun x hx => by rwa [List.mem_singleton.1 hx])

theorem Chip.CorePeriod.unaligned (h : c.CorePeriod d k) : d.unaligned = c.unaligned :=
  Chip.unaligned_congr (h.rd (by simp only [R.MP_CTRL, R.MP_LEVEL]; omega)) (congrArg Chip.phw h.moved.2 : _)

theorem Chip.CorePeriod.realShare (h : c.CorePeriod d k) (hj : j ≠ k) : d.realShare j = c.realShare j := by
  rw [Chip.realShare, h.other j hj, h.core, Chip.realShare]

/-- One core's period leaves what the other's works on. -/
theorem Chip.CorePeriod.periodStep (h : c.CorePeriod d k) (hj : j ≠ k) (hk : k < 2) : d.periodStep j = c.periodStep j := by
  have hlevel : d.rd (R.MP_LEVEL j) = c.rd (R.MP_LEVEL j) := h.rd (by simp only [R.MP_LEVEL]; omega)
  have hfloor : d.rd R.MP_FLOOR = c.rd R.MP_FLOOR := h.rd (by simp only [R.MP_LEVEL, R.MP_FLOOR]; omega)
  have hprof (p : Nat) : d.rd (R.MP_PROF p) = c.rd (R.MP_PROF p) := h.rd (by simp only [R.MP_LEVEL, R.MP_PROF]; omega)
  simp only [Chip.periodStep, Chip.profByte, Chip.profHold, Chip.rfld, h.other j hj, hlevel, hfloor, hprof]

theorem Chip.CorePeriod.periodRecord (h : c.CorePeriod d k) (hj : j ≠ k) (hk : k < 2) : d.periodRecord j = c.periodRecord j := by
  rw [Chip.periodRecord, h.other j hj, h.periodStep hj hk, h.core, Chip.periodRecord]

end

/-- Both cores' levels and records after an aligned period. -/
structure Chip.PeriodDone (c d : Chip) (rs : List Reg) : Prop where
  level : ∀ k < 2, d.rd (R.MP_LEVEL k) = max (c.periodStep k).1 (c.realShare k) % 256
  record : ∀ k < 2, d.mp k = c.periodRecord k
  moved : c.Moved d rs (fun d => { d with cap := {} })

theorem Chip.periodDone_both {c : Chip} (hcpu : c.domOn dCPU = true) (hun : c.unaligned = false) : 
    c.PeriodDone ((c.mpPeriod 0).mpPeriod 1) [R.MP_LEVEL 0, R.MP_LEVEL 1] := by
  have h0 := Chip.corePeriod_mpPeriod hcpu hun 0
  generalize c.mpPeriod 0 = d at h0
  have h1 := Chip.corePeriod_mpPeriod ((h0.domOn dCPU).trans hcpu) (h0.unaligned.trans hun) 1
  refine ⟨fun k hk => ?_, fun k hk => ?_, (h0.moved.mono (by simp)).trans (h1.moved.mono (by simp))⟩
  · rcases (by omega : k = 0 ∨ k = 1) with rfl | rfl
    · rw [h1.rd (by decide), h0.level]
    · rw [h1.level, h0.periodStep (by decide) (by decide), h0.realShare (by decide)]
  · rcases (by omega : k = 0 ∨ k = 1) with rfl | rfl
    · rw [h1.other 0 (by decide), h0.record]
    · rw [h1.record, h0.periodRecord (by decide) (by decide)]

/-- The end of CH5's shaping and the settling of FILL leave the cores alone while UNALIGNED is clear. -/
theorem Chip.PeriodDone.settled {c d : Chip} (h : c.PeriodDone d [R.MP_LEVEL 0, R.MP_LEVEL 1]) (hseven : c.rbit R.CAP_STAT 7 = false) (b : Bool) :
    c.PeriodDone (Chip.fillSettle { d with cap := { d.cap with shaping := b } }) [R.MP_LEVEL 0, R.MP_LEVEL 1, R.CAP_STAT, R.CAP_EVT] := by
  have hput : c.Moved { d with cap := { d.cap with shaping := b } } [R.MP_LEVEL 0, R.MP_LEVEL 1] (fun d => { d with cap := {} }) :=
    h.moved.put rfl rfl
  have hseven' : Chip.rbit { d with cap := { d.cap with shaping := b } } R.CAP_STAT 7 = false :=
    (congrArg (bit · 7) (hput.1 R.CAP_STAT (by decide))).trans hseven
  have hrd (r : Reg) : Chip.rd { d with cap := { d.cap with shaping := b } } r = d.rd r := rfl
  have hmp : Chip.mp { d with cap := { d.cap with shaping := b } } = d.mp := rfl
  generalize { d with cap := { d.cap with shaping := b } } = e at *
  obtain ⟨ms, a, hcap, hms, _⟩ := e.fillSettle_spec
  have hsettle := e.moved_fillSettle
  refine ⟨fun k hk => ?_, fun k hk => ?_, (hput.mono (by simp)).fillSettle (by simp) (by simp) (fun _ _ => rfl)⟩
  · rw [hsettle.1 _ (by revert k; decide), hrd, h.level k hk]
  · rw [Chip.mp, hcap, hms hseven', ← h.record k hk, ← hmp]
    rfl

theorem Chip.mpPeriods_eq {c : Chip} (hen : c.rbit R.MP_CTRL 0 = true) :
    ∃ b, c.mpPeriods = Chip.fillSettle { (c.mpPeriod 0).mpPeriod 1 with cap := { ((c.mpPeriod 0).mpPeriod 1).cap with shaping := b } } := by
  simp only [Chip.mpPeriods, hen, if_true]
  generalize (c.mpPeriod 0).mpPeriod 1 = d
  split
  · exact ⟨d.cap.shaping, rfl⟩
  · exact ⟨false, rfl⟩

theorem millpondPeriod : Parts.MillpondPeriod := by
  intro s k c m up down hpower hen hcpu hun hseven
  obtain ⟨b, hb⟩ := Chip.mpPeriods_eq hen
  have hdone := (Chip.periodDone_both hcpu hun).settled hseven b
  rw [← hb] at hdone
  have hdo : (if c.mode.power = 1 ∧ c.rbit R.MP_CTRL 0 then c.dozeEnd else c).mpPeriods = c.mpPeriods := by
    rw [if_neg (fun h => hpower h.1)]
  generalize c.mpPeriods = d at hdone hdo
  have hlevel := hdone.level k k.isLt
  have hrecord := hdone.record k k.isLt
  have hkeeps := hdone.moved.keeps (by decide) levelBlank_cap
  have hmp : d.settle.mp k = c.periodRecord k := hrecord
  refine does_of_lift (i := .millpondPeriod) (f := fun c => (if c.mode.power = 1 ∧ c.rbit R.MP_CTRL 0 then c.dozeEnd else c).mpPeriods) rfl hdo
    ⟨fun hramp => ?_, fun hramp hhold => ?_, fun hramp hhold => ⟨?_, ?_⟩, by rw [hmp]; rfl, by rw [hmp]; rfl, by rw [hmp]; rfl, hkeeps⟩
  · rw [Chip.rd_settle, hlevel, Chip.periodStep]
    simp only [show (c.mp k).rampUp = true from hramp, levelStep_ramp]
    rfl
  · rw [Chip.rd_settle, hlevel, Chip.periodStep]
    simp only [show (c.mp k).rampUp = false from hramp, show (c.mp k).hold = 0 from hhold, levelStep_fall]
    rfl
  · rw [Chip.rd_settle, hlevel, Chip.periodStep]
    simp only [show (c.mp k).rampUp = false from hramp, levelStep_hold (show 0 < (c.mp k).hold from hhold)]
  · rw [hmp, Chip.periodRecord, Chip.periodStep]
    simp only [show (c.mp k).rampUp = false from hramp, levelStep_hold (show 0 < (c.mp k).hold from hhold)]
    rfl

/-- Settles O34. -/
theorem millpond : Obligations.Millpond := ⟨millpondEvents, millpondPeriod⟩

end Sys2Proof.Machine
end

section
/-!
PROOFS. The cap engine and the grant (11 R506 to R517, R543, R552, R553).
-/
namespace Sys2Proof.Machine

/-! ### Fields of registers -/

theorem testBit_fld (v lo w i : Nat) : (fld v lo w).testBit i = (decide (i < w) && bit v (lo + i)) := by
  rw [fld, Nat.testBit_mod_two_pow, Nat.testBit_div_two_pow, bit_eq_testBit, Nat.add_comm]

/-- A field is its bits. -/
theorem fld_congr {u v lo w : Nat} (h : ∀ i, lo ≤ i → i < lo + w → bit u i = bit v i) : fld u lo w = fld v lo w := by
  refine Nat.eq_of_testBit_eq (fun i => ?_)
  rw [testBit_fld, testBit_fld]
  by_cases hi : i < w
  · rw [h (lo + i) (by omega) (by omega)]
  · rw [decide_eq_false hi, Bool.false_and, Bool.false_and]

theorem fld_putFld_self (v lo w x : Nat) : fld (putFld v lo w x) lo w = x % 2 ^ w := by
  refine Nat.eq_of_testBit_eq (fun i => ?_)
  rw [testBit_fld, bit_putFld, Nat.testBit_mod_two_pow]
  by_cases hi : i < w
  · rw [if_pos (by omega), Nat.add_sub_cancel_left, bit_eq_testBit]
  · rw [decide_eq_false hi, Bool.false_and, Bool.false_and]

theorem fld_putFld_other {v lo w x l n : Nat} (h : l + n ≤ lo ∨ lo + w ≤ l) : fld (putFld v lo w x) l n = fld v l n :=
  fld_congr (fun i hl hn => by rw [bit_putFld, if_neg (by omega)])

theorem fld_putBit_other {v i l n : Nat} {b : Bool} (h : l + n ≤ i ∨ i < l) : fld (putBit v i b) l n = fld v l n :=
  fld_putFld_other (by omega)

theorem fld_mod_256_pow {v lo w n : Nat} (h : lo + w ≤ 8 * n) : fld (v % 256 ^ n) lo w = fld v lo w :=
  fld_congr (fun i _ hi => bit_mod_256_pow v (by omega))

section
variable (c : Chip) {r : Reg}

theorem Chip.rfld_wr (v : Nat) {lo w : Nat} (h : lo + w ≤ 8 * r.width) : (c.wr r v).rfld r lo w = fld v lo w := by
  rw [Chip.rfld, Chip.rd_wr_self, fld_mod_256_pow h]

theorem Chip.rfld_wfld_self {lo w : Nat} (x : Nat) (h : lo + w ≤ 8 * r.width) : (c.wfld r lo w x).rfld r lo w = x % 2 ^ w := by
  rw [Chip.wfld, Chip.rfld_wr _ _ h, fld_putFld_self]

theorem Chip.rfld_wfld_other {lo w x l n : Nat} (h : l + n ≤ 8 * r.width) (hl : l + n ≤ lo ∨ lo + w ≤ l) : (c.wfld r lo w x).rfld r l n = c.rfld r l n := by
  rw [Chip.wfld, Chip.rfld_wr _ _ h, fld_putFld_other hl]
  rfl

theorem Chip.rfld_wbit {i l n : Nat} {b : Bool} (h : l + n ≤ 8 * r.width) (hl : l + n ≤ i ∨ i < l) : (c.wbit r i b).rfld r l n = c.rfld r l n := by
  rw [Chip.wbit, Chip.rfld_wr _ _ h, fld_putBit_other hl]
  rfl

theorem Chip.rbit_wfld {lo w x i : Nat} (h : i < 8 * r.width) (hi : i < lo ∨ lo + w ≤ i) : (c.wfld r lo w x).rbit r i = c.rbit r i := by
  rw [Chip.wfld, Chip.rbit_wr _ _ h, bit_putFld, if_neg (by omega)]
  rfl

end

/-! ### The levels in CAP_STAT (R508) -/

/-- Blanks the cap engine's own state and the Ledger's staging. -/
def Chip.noCapLed (d : Chip) : Chip := { d with cap := {}, led := {} }

theorem levelBlank_noCapLed : LevelBlank Chip.noCapLed :=
  ⟨fun _ _ _ _ _ => rfl, fun _ => rfl, fun _ => rfl, fun _ => rfl, fun _ => rfl, fun _ => rfl, fun _ => rfl, fun _ => rfl⟩

/-- What shows the levels: three fields of CAP_STAT and three counts. -/
theorem Chip.capLevels_congr {c d : Chip} (hperf : d.rfld R.CAP_STAT 0 3 = c.rfld R.CAP_STAT 0 3) (hthr : d.rbit R.CAP_STAT 3 = c.rbit R.CAP_STAT 3)
    (hcut : d.rbit R.CAP_STAT 4 = c.rbit R.CAP_STAT 4) (hhold : d.cap.hold = c.cap.hold) (hovers : d.cap.overs = c.cap.overs)
    (hrelax : d.cap.relax = c.cap.relax) : d.capLevels = c.capLevels := by
  rw [Chip.capLevels, hperf, hthr, hcut, hhold, hovers, hrelax, Chip.capLevels]

/-- Levels put in force are in force. -/
theorem Chip.capLevels_setCapLevels (c : Chip) {w : CapLevels} (hperf : w.perf < 8) : (c.setCapLevels w).capLevels = w := by
  have hp : (((c.wfld R.CAP_STAT 0 3 w.perf).wbit R.CAP_STAT 3 w.throttle).wbit R.CAP_STAT 4 w.cut).rfld R.CAP_STAT 0 3 = w.perf := by
    rw [Chip.rfld_wbit _ (by decide) (by decide), Chip.rfld_wbit _ (by decide) (by decide), Chip.rfld_wfld_self _ _ (by decide)]
    exact Nat.mod_eq_of_lt hperf
  have ht : (((c.wfld R.CAP_STAT 0 3 w.perf).wbit R.CAP_STAT 3 w.throttle).wbit R.CAP_STAT 4 w.cut).rbit R.CAP_STAT 3 = w.throttle := by
    rw [Chip.rbit_wbit _ _ _ (by decide), if_neg (by decide), Chip.rbit_wbit _ _ _ (by decide), if_pos rfl]
  have hc : (((c.wfld R.CAP_STAT 0 3 w.perf).wbit R.CAP_STAT 3 w.throttle).wbit R.CAP_STAT 4 w.cut).rbit R.CAP_STAT 4 = w.cut := by
    rw [Chip.rbit_wbit _ _ _ (by decide), if_pos rfl]
  have hset : (c.setCapLevels w).capLevels =
      ⟨(((c.wfld R.CAP_STAT 0 3 w.perf).wbit R.CAP_STAT 3 w.throttle).wbit R.CAP_STAT 4 w.cut).rfld R.CAP_STAT 0 3,
        (((c.wfld R.CAP_STAT 0 3 w.perf).wbit R.CAP_STAT 3 w.throttle).wbit R.CAP_STAT 4 w.cut).rbit R.CAP_STAT 3,
        (((c.wfld R.CAP_STAT 0 3 w.perf).wbit R.CAP_STAT 3 w.throttle).wbit R.CAP_STAT 4 w.cut).rbit R.CAP_STAT 4, w.hold, w.overs, w.relax⟩ := rfl
  rw [hset, hp, ht, hc]

/-- The alignment and FILL are bits 7 and 5 of CAP_STAT; the others stand. -/
theorem Chip.rbit_fillSettle (c : Chip) {i : Nat} (hi : i < 8) (h5 : i ≠ 5) (h7 : i ≠ 7) : c.fillSettle.rbit R.CAP_STAT i = c.rbit R.CAP_STAT i := by
  obtain ⟨ms, halign, _⟩ := c.alignSettle_eq
  have hbit : c.alignSettle.rbit R.CAP_STAT i = c.rbit R.CAP_STAT i := by
    rw [halign, Chip.rbit_wbit _ _ _ hi, if_neg h7]
    rfl
  have hcases := c.fillSettle_cases
  generalize c.alignSettle = d at hbit hcases
  have hset (b : Bool) : (d.wbit R.CAP_STAT 5 b).rbit R.CAP_STAT i = c.rbit R.CAP_STAT i := by rw [Chip.rbit_wbit _ _ _ hi, if_neg h5, hbit]
  rcases hcases with ⟨_, h⟩ | ⟨_, h⟩ | ⟨_, h | ⟨a, h⟩⟩ <;> rw [h]
  · exact hbit
  · exact hset false
  · rw [Chip.rbit, Chip.wbit, Chip.rd_wr_other _ _ _ _ (by decide)]
    exact hset true
  · exact hset true

theorem Chip.capLevels_fillSettle (c : Chip) : c.fillSettle.capLevels = c.capLevels := by
  obtain ⟨ms, a, hcap, _, _⟩ := c.fillSettle_spec
  refine Chip.capLevels_congr (fld_congr (fun i _ hi => ?_)) (c.rbit_fillSettle (by decide) (by decide) (by decide))
    (c.rbit_fillSettle (by decide) (by decide) (by decide)) (by rw [hcap]) (by rw [hcap]) (by rw [hcap])
  exact c.rbit_fillSettle (by omega) (by omega) (by omega)

/-! ### What a change of levels records (R510, R511) -/

theorem levelBlank_noLedger : LevelBlank Chip.noLedger :=
  ⟨fun _ _ _ _ _ => rfl, fun _ => rfl, fun _ => rfl, fun _ => rfl, fun _ => rfl, fun _ => rfl, fun _ => rfl, fun _ => rfl⟩

/-- Without a change of the cut, recording moves CAP_EVT and the Ledger's staging. -/
theorem Chip.moved_capRecord (c : Chip) {v w : CapLevels} (hcut : v.cut = w.cut) :
    c.Moved (c.capRecord v w) [R.CAP_EVT, R.LED_NEXTSEQ, R.LED_UNRECCNT] Chip.noLedger := by
  simp only [Chip.capRecord, hcut, if_true]
  have hstep (d : Chip) (hd : c.Moved d [R.CAP_EVT, R.LED_NEXTSEQ, R.LED_UNRECCNT] Chip.noLedger) (p : Prop) [Decidable p] (k old new cause : Nat) :
      c.Moved (if p then d else (d.wbit R.CAP_EVT k true).stageHw capObject old new cause) [R.CAP_EVT, R.LED_NEXTSEQ, R.LED_UNRECCNT] Chip.noLedger :=
    Chip.Moved.ite p (fun _ => hd) (fun _ => (hd.wbit (by simp) k true).stageHw (by simp) (by simp) (fun _ _ => rfl) _ _ _ _)
  exact hstep _ (hstep _ (Chip.Moved.refl _ _ _) _ _ _ _ _) _ _ _ _ _

/-- The chip on which an evaluation works: the mean is shown while there is a limit (R508). -/
def Chip.capShown (c : Chip) (p : Nat) : Chip := if c.rd R.CAP_LIMIT = 0 then c else c.wr R.CAP_PAVG p

theorem Chip.moved_capShown (c : Chip) (p : Nat) (blank : Chip → Chip) : c.Moved (c.capShown p) [R.CAP_PAVG] blank :=
  Chip.Moved.ite _ (fun _ => Chip.Moved.refl _ _ _) (fun _ => (Chip.Moved.refl _ _ _).wr (by simp) p)

theorem Chip.rd_capShown_pavg {c : Chip} (h : c.rd R.CAP_LIMIT ≠ 0) {p : Nat} (hp : p < 2 ^ 16) : (c.capShown p).rd R.CAP_PAVG = p := by
  rw [Chip.capShown, if_neg h, Chip.rd_wr_self]
  exact Nat.mod_eq_of_lt hp

/-- The levels that an evaluation leads to. -/
def Chip.capNext (c : Chip) (p : Nat) : CapLevels := c.capLevels.evaluate c.capRules p

theorem Chip.capEvaluate_eq {c : Chip} (hup : c.domUp (dCH 2) = true) (p : Nat) :
    c.capEvaluate p = (((c.capShown p).setCapLevels (c.capNext p)).capRecord c.capLevels (c.capNext p)).fillSettle := by
  have hrd (r : Reg) (hr : r.addr ≠ R.CAP_PAVG.addr) : (c.capShown p).rd r = c.rd r :=
    (c.moved_capShown p id).1 r (fun x hx => by rwa [List.mem_singleton.1 hx])
  have hcap : (c.capShown p).cap = c.cap := (c.moved_capShown p id).field (f := Chip.cap) (fun _ => rfl)
  have hlevels : (c.capShown p).capLevels = c.capLevels := by
    simp only [Chip.capLevels, Chip.rfld, Chip.rbit, hrd R.CAP_STAT (by decide), hcap]
  have hrules : (c.capShown p).capRules = c.capRules := by
    simp only [Chip.capRules, hrd R.CAP_LIMIT (by decide), hrd R.CAP_PERFMIN (by decide), hrd R.CAP_HOLDN (by decide), hrd R.CAP_THRN (by decide),
      hrd R.CAP_CUTN (by decide), hrd R.CAP_RELAXN (by decide)]
  have hdef : c.capEvaluate p = (((c.capShown p).setCapLevels ((c.capShown p).capLevels.evaluate (c.capShown p).capRules p)).capRecord
      (c.capShown p).capLevels ((c.capShown p).capLevels.evaluate (c.capShown p).capRules p)).fillSettle := by
    rw [Chip.capEvaluate, if_pos hup]
    rfl
  rw [hdef, hlevels, hrules]
  rfl

/-- The registers of the cap engine. -/
def capRegs : List Reg := [R.CAP_STAT, R.CAP_EVT, R.CAP_PAVG, R.LED_NEXTSEQ, R.LED_UNRECCNT]

theorem Chip.moved_setCapLevels (c : Chip) (w : CapLevels) : c.Moved (c.setCapLevels w) [R.CAP_STAT] Chip.noCapLed := by
  have h : c.Moved (((c.wfld R.CAP_STAT 0 3 w.perf).wbit R.CAP_STAT 3 w.throttle).wbit R.CAP_STAT 4 w.cut) [R.CAP_STAT] Chip.noCapLed :=
    (((Chip.Moved.refl c _ _).wfld (by simp) _ _ _).wbit (by simp) _ _).wbit (by simp) _ _
  unfold Chip.setCapLevels
  generalize ((c.wfld R.CAP_STAT 0 3 w.perf).wbit R.CAP_STAT 3 w.throttle).wbit R.CAP_STAT 4 w.cut = d at h
  exact h.put rfl rfl

/-- An evaluation that leaves the cut as it is: the levels it leads to are in force, with the mean shown. -/
theorem does_capEvaluate {s : State} {pavg : BitVec 16} {w : CapLevels} (hup : s.chip.domUp (dCH 2) = true) (hnext : s.chip.capNext pavg.toNat = w)
    (hperf : w.perf < 8) (hcut : s.chip.capLevels.cut = w.cut) :
    Does (.capEvaluate pavg) s (fun d => d.capLevels = w ∧ (s.chip.capRules.limit ≠ 0 → d.rd R.CAP_PAVG = pavg.toNat) ∧
      s.chip.Keeps d capRegs Chip.noCapLed) := by
  have hdo := Chip.capEvaluate_eq hup pavg.toNat
  rw [hnext] at hdo
  have hshown := (s.chip.moved_capShown pavg.toNat Chip.noCapLed).mono (rs' := capRegs) (by simp [capRegs])
  have hset := ((s.chip.capShown pavg.toNat).moved_setCapLevels w).mono (rs' := capRegs) (by simp [capRegs])
  have hlevels := Chip.capLevels_setCapLevels (s.chip.capShown pavg.toNat) hperf
  have hpavg (hlimit : s.chip.capRules.limit ≠ 0) : ((s.chip.capShown pavg.toNat).setCapLevels w).rd R.CAP_PAVG = pavg.toNat := by
    rw [((s.chip.capShown pavg.toNat).moved_setCapLevels w).1 _ (by decide)]
    exact Chip.rd_capShown_pavg hlimit pavg.isLt
  have hmoved := hshown.trans hset
  generalize (s.chip.capShown pavg.toNat).setCapLevels w = d at *
  have hrecord := d.moved_capRecord hcut
  have hcap : (d.capRecord s.chip.capLevels w).cap = d.cap := (congrArg Chip.cap hrecord.2 : _)
  have hstat : (d.capRecord s.chip.capLevels w).rd R.CAP_STAT = d.rd R.CAP_STAT := hrecord.1 _ (by decide)
  have hlevels' : (d.capRecord s.chip.capLevels w).capLevels = w := by
    refine Eq.trans ?_ hlevels
    exact Chip.capLevels_congr (by rw [Chip.rfld, hstat]; rfl) (by rw [Chip.rbit, hstat]; rfl) (by rw [Chip.rbit, hstat]; rfl) (by rw [hcap])
      (by rw [hcap]) (by rw [hcap])
  have hrecord' : s.chip.Moved (d.capRecord s.chip.capLevels w) capRegs Chip.noCapLed :=
    hmoved.trans ⟨fun r hr => hrecord.1 r (fun x hx => hr x (by revert hx; simp only [capRegs, List.mem_cons]; tauto)),
      congrArg (fun x : Chip => { x with cap := {} }) hrecord.2⟩
  have hpavg' (hlimit : s.chip.capRules.limit ≠ 0) : (d.capRecord s.chip.capLevels w).rd R.CAP_PAVG = pavg.toNat := by
    rw [hrecord.1 _ (by decide), hpavg hlimit]
  generalize d.capRecord s.chip.capLevels w = e at *
  have hlast := hrecord'.fillSettle (by simp [capRegs]) (by simp [capRegs]) (fun _ _ => rfl)
  refine does_of_lift (i := .capEvaluate pavg) (f := fun c => c.capEvaluate pavg.toNat) rfl hdo
    ⟨(e.capLevels_fillSettle).trans hlevels', fun hlimit => ?_, hlast.keeps (by decide) levelBlank_noCapLed⟩
  rw [Chip.rd_settle, e.moved_fillSettle.1 _ (by decide), hpavg' hlimit]

/-! ### The steps of an evaluation (R508, R513, R514) -/

section
variable {k : CapRules} {v : CapLevels} {p : Nat}

theorem CapLevels.evaluate_of_nocut (hcut : v.cut = false) : v.evaluate k p =
    if k.limit = 0 then { v with perf := 7, throttle := false, hold := 0, overs := 0, relax := 0 }
    else if k.limit < p then v.escalate k else v.ease k p := by
  simp only [CapLevels.evaluate, hcut, Bool.false_eq_true, if_false]

theorem CapLevels.evaluate_unlimited (hcut : v.cut = false) (hlimit : k.limit = 0) : v.evaluate k p = ⟨7, false, false, 0, 0, 0⟩ := by
  rw [CapLevels.evaluate_of_nocut hcut, if_pos hlimit, hcut]

theorem CapLevels.evaluate_above (hcut : v.cut = false) (hlimit : k.limit ≠ 0) (hp : k.limit < p) : v.evaluate k p = v.escalate k := by
  rw [CapLevels.evaluate_of_nocut hcut, if_neg hlimit, if_pos hp]

theorem CapLevels.evaluate_below (hcut : v.cut = false) (hlimit : k.limit ≠ 0) (hp : p ≤ k.limit) : v.evaluate k p = v.ease k p := by
  rw [CapLevels.evaluate_of_nocut hcut, if_neg hlimit, if_neg (Nat.not_lt.2 hp)]

end

theorem Chip.perf_lt (c : Chip) : c.capLevels.perf < 8 := fld_lt _ 0 3

theorem capEvaluates : Parts.CapEvaluates := by
  intro s pavg hup c p k v lands hcut
  have hv : v.perf < 8 := c.perf_lt
  refine ⟨fun hlimit => ?_, fun hlimit hp hhold => ?_, fun hlimit hp hhold hperf => ?_, fun hlimit hp hhold hperf hthr => ?_, fun hp hband => ?_,
    fun hlimit hp hband => ?_⟩
  · exact does_capEvaluate hup (CapLevels.evaluate_unlimited hcut hlimit) (by decide) hcut
  · refine does_capEvaluate hup ((CapLevels.evaluate_above hcut hlimit hp).trans ?_) hv rfl
    rw [CapLevels.escalate, if_pos hhold]
  · refine does_capEvaluate hup ((CapLevels.evaluate_above hcut hlimit hp).trans ?_) (by show v.perf - 1 < 8; omega) rfl
    rw [CapLevels.escalate, if_neg (by omega), if_pos hperf]
  · refine does_capEvaluate hup ((CapLevels.evaluate_above hcut hlimit hp).trans ?_) hv rfl
    rw [CapLevels.escalate, if_neg (by omega), if_neg (by omega), if_pos (by rw [hthr]; rfl)]
  · refine does_capEvaluate hup ((CapLevels.evaluate_below hcut (by omega) hp).trans ?_) hv rfl
    rw [CapLevels.ease, if_pos hband]
  · have hease := CapLevels.evaluate_below (k := k) hcut hlimit hp
    rw [CapLevels.ease, if_neg (by omega)] at hease
    have hmin : (if v.perf < 7 then v.perf + 1 else v.perf) = min 7 (v.perf + 1) := by split <;> omega
    rw [hmin] at hease
    refine does_capEvaluate hup hease ?_ ?_
    · split
      · exact hv
      · split
        · exact hv
        · show min 7 (v.perf + 1) < 8
          omega
    · split
      · rfl
      · split <;> rfl

/-! ### The cut (R513) -/

/-- A new assertion of FILL sets bit 3 of CAP_EVT at most. -/
theorem Chip.rbit_evt_fillSettle (c : Chip) {i : Nat} (hi : i < 8) (h3 : i ≠ 3) : c.fillSettle.rbit R.CAP_EVT i = c.rbit R.CAP_EVT i := by
  obtain ⟨ms, halign, _⟩ := c.alignSettle_eq
  have hbit : c.alignSettle.rbit R.CAP_EVT i = c.rbit R.CAP_EVT i := by
    rw [halign]
    exact congrArg (bit · i) (Chip.rd_wr_other _ _ _ _ (by decide))
  have hcases := c.fillSettle_cases
  generalize c.alignSettle = d at hbit hcases
  have hset (b : Bool) : (d.wbit R.CAP_STAT 5 b).rbit R.CAP_EVT i = c.rbit R.CAP_EVT i :=
    (congrArg (bit · i) (Chip.rd_wr_other _ _ _ _ (by decide))).trans hbit
  rcases hcases with ⟨_, h⟩ | ⟨_, h⟩ | ⟨_, h | ⟨a, h⟩⟩ <;> rw [h]
  · exact hbit
  · exact hset false
  · rw [Chip.rbit_wbit _ _ _ hi, if_neg h3, hset]
  · exact hset true

/-- The evaluation that makes a cut pending records it and tells the Warden. -/
theorem Chip.capRecord_cut {c : Chip} {v w : CapLevels} (hperf : v.perf = w.perf) (hthr : v.throttle = w.throttle) (hcut : v.cut ≠ w.cut) :
    c.capRecord v w = ((c.wbit R.CAP_EVT 2 true).stageHw capObject 0 1 (cause 0x22 w.perf)).toWarden
      (hwMsg 0x82 (c.rd R.CAP_PAVG) (c.rd R.CAP_PAVG / 256) 0 0) := by
  simp only [Chip.capRecord, hperf, hthr, if_true, if_neg hcut]

theorem CapLevels.escalate_cut {k : CapRules} {v : CapLevels} (hhold : v.hold = 0) (hperf : v.perf ≤ k.perfMin) (hthr : v.throttle = true)
    (hcut : v.cut = false) (hcutN : k.cutN ≠ 0) (hovers : k.thrN + k.cutN ≤ v.overs + 1) :
    v.escalate k = { v with relax := 0, overs := v.overs + 1, cut := true } := by
  rw [CapLevels.escalate, if_neg (by omega), if_neg (by omega), if_neg (by rw [hthr]; decide), if_neg (by rw [hcut]; simp [hcutN]), decide_eq_true hovers]

theorem capCuts : Parts.CapCuts := by
  intro s pavg hup c k v hlimit hp hhold hperf hthr hcut hcutN hovers hinbox
  have hnext : c.capNext pavg.toNat = { v with relax := 0, overs := v.overs + 1, cut := true } :=
    (CapLevels.evaluate_above hcut hlimit hp).trans (CapLevels.escalate_cut hhold hperf hthr hcut hcutN hovers)
  have hdo := Chip.capEvaluate_eq hup pavg.toNat
  obtain ⟨w, hw⟩ : ∃ w : CapLevels, w = { v with relax := 0, overs := v.overs + 1, cut := true } := ⟨_, rfl⟩
  have hcutw : w.cut = true := by rw [hw]
  have hne : v.cut ≠ w.cut := by rw [hcut, hcutw]; decide
  rw [hnext, ← hw, Chip.capRecord_cut (v := c.capLevels) (w := w) (by rw [hw]) (by rw [hw]) hne] at hdo
  have hlevels := Chip.capLevels_setCapLevels (c.capShown pavg.toNat) (w := w) (by rw [hw]; exact c.perf_lt)
  have hset := (c.capShown pavg.toNat).moved_setCapLevels w
  have hpavg : ((c.capShown pavg.toNat).setCapLevels w).rd R.CAP_PAVG = pavg.toNat :=
    (hset.1 _ (by decide)).trans (Chip.rd_capShown_pavg hlimit pavg.isLt)
  have hwdn : ((c.capShown pavg.toNat).setCapLevels w).wdn = c.wdn := (hset.field (f := Chip.wdn) (fun _ => rfl)).trans
    ((c.moved_capShown pavg.toNat id).field (f := Chip.wdn) (fun _ => rfl))
  generalize (c.capShown pavg.toNat).setCapLevels w = d at *
  have hfour : d.rbit R.CAP_STAT 4 = true := (congrArg CapLevels.cut hlevels).trans hcutw
  have hstage := (Chip.Moved.refl (d.wbit R.CAP_EVT 2 true) _ Chip.noLedger).stageHw (rs := ledgerRegs) (by simp [ledgerRegs]) (by simp [ledgerRegs])
    (fun _ _ => rfl) capObject 0 1 (cause 0x22 w.perf)
  have hevt : ((d.wbit R.CAP_EVT 2 true).stageHw capObject 0 1 (cause 0x22 w.perf)).rbit R.CAP_EVT 2 = true := by
    rw [Chip.rbit, hstage.1 _ (by decide)]
    exact (d.rbit_wbit 2 true (by decide)).trans (if_pos rfl)
  have hstat : ((d.wbit R.CAP_EVT 2 true).stageHw capObject 0 1 (cause 0x22 w.perf)).rbit R.CAP_STAT 4 = true := by
    rw [Chip.rbit, hstage.1 _ (by decide), Chip.wbit, Chip.rd_wr_other _ _ _ _ (by decide)]
    exact hfour
  have hwdn' : ((d.wbit R.CAP_EVT 2 true).stageHw capObject 0 1 (cause 0x22 w.perf)).wdn = c.wdn :=
    (hstage.field (f := Chip.wdn) (fun _ => rfl)).trans hwdn
  generalize (d.wbit R.CAP_EVT 2 true).stageHw capObject 0 1 (cause 0x22 w.perf) = e at *
  rw [hpavg, Chip.toWarden_of_empty (by rw [hwdn', hinbox]), hwdn'] at hdo
  generalize hf : { e with wdn := { c.wdn with inboxHw := [hwMsg 0x82 pavg.toNat (pavg.toNat / 256) 0 0] } } = f at hdo
  have hrd (r : Reg) : f.rd r = e.rd r := by rw [← hf]; rfl
  have hfwdn : f.wdn = { c.wdn with inboxHw := [hwMsg 0x82 pavg.toNat (pavg.toNat / 256) 0 0] } := by rw [← hf]
  refine does_of_lift (i := .capEvaluate pavg) (f := fun c => c.capEvaluate pavg.toNat) rfl hdo ⟨?_, ?_, ?_⟩
  · refine (f.rbit_fillSettle (by decide) (by decide) (by decide)).trans ?_
    rw [Chip.rbit, hrd]
    exact hstat
  · refine (f.rbit_evt_fillSettle (by decide) (by decide)).trans ?_
    rw [Chip.rbit, hrd]
    exact hevt
  · rw [Chip.settle_wdn, f.moved_fillSettle.field (f := Chip.wdn) (fun _ => rfl), hfwdn]

/-! ### The grant (R543, R552, R553) -/

/-- The entry of a write of the grant: the word before and after, with GOV_DEFCNT[0] above the grant (16 R777). -/
def Chip.grantEntry (c : Chip) (v outcome why : Nat) : LedEntry :=
  { origin := 1, object := regObject 0x805100, old := c.rd (R.GOV_DEFCNT 0) * 65536 + c.rfld R.GOV_GRANT 0 3,
    new := c.rd (R.GOV_DEFCNT 0) * 65536 + v % 8, outcome := outcome, cause := cause why 0 }

/-- The write of the grant with an order entry free: refused in UNCHECKED when it is a raise, else made (R543, R552). -/
theorem Chip.govWrite_of_free {c : Chip} {v : Nat} (hwrd : c.wrdOn = true) (hlost : c.wdnState ≠ 2) (hdead : c.exhausted = false)
    (hfree : c.entry 0 = none) : c.govWrite (.warden 0) v =
      if c.wdnState = 1 ∧ c.rfld R.GOV_GRANT 0 3 < v % 8 then c.putEntry 0 (c.grantEntry v 3 0x12)
      else (c.putEntry 0 (c.grantEntry v 0 0x48)).wr R.GOV_GRANT (v % 8) := by
  have hrun : ¬ ((!c.wrdOn || c.wdnState == 2) = true) := by simp [hwrd, hlost]
  simp only [Chip.govWrite, if_neg hrun, Chip.loggedWrite, Chip.stageWrite_of_free hdead hfree]
  rfl

/-- The entry of the grant's write in staging. -/
theorem Chip.grantEntry_staged (c : Chip) (v outcome why : Nat) : ∃ e, (c.putEntry 0 (c.grantEntry v outcome why)).entry 0 = some e ∧ e.origin = 1 ∧
    e.object = regObject 0x805100 ∧ e.new % 65536 = v % 8 ∧ e.old % 65536 = c.rfld R.GOV_GRANT 0 3 ∧ e.outcome = outcome := by
  obtain ⟨f, hf, hobject, hold, hnew, _, houtcome, horigin, _⟩ := c.entry_putEntry_self 0 (c.grantEntry v outcome why)
  have hg : c.rfld R.GOV_GRANT 0 3 < 8 := fld_lt _ 0 3
  have hmod (x y : Nat) (hy : y < 8) : (x * 65536 + y) % 65536 = y := by omega
  refine ⟨f, hf, horigin, hobject, ?_, ?_, houtcome⟩
  · rw [hnew]
    exact hmod _ _ (Nat.mod_lt _ (by decide))
  · rw [hold]
    exact hmod _ _ hg

theorem grantWrites : Parts.GrantWrites := by
  intro s v c g n hwrd hdead hfree e0 hcase
  have hlost : c.wdnState ≠ 2 := by omega
  have hdo := Chip.govWrite_of_free (v := v.toNat) hwrd hlost hdead hfree
  have hput (e : LedEntry) : c.Moved (c.putEntry 0 e) [R.GOV_GRANT, R.LED_NEXTSEQ] Chip.noLedger :=
    (Chip.Moved.refl c _ _).putEntry (by simp) (fun _ _ => rfl) 0 e
  have hlevel : ∀ r ∈ levelRegs, ∀ x ∈ [R.GOV_GRANT, R.LED_NEXTSEQ], r.addr ≠ x.addr := by decide
  rcases hcase with h0 | ⟨h1, hraise, _⟩
  · rw [if_neg (by omega)] at hdo
    obtain ⟨e, he, horigin, hobject, hnew, hold, houtcome⟩ := c.grantEntry_staged v.toNat 0 0x48
    have hmoved := hput (c.grantEntry v.toNat 0 0x48)
    generalize c.putEntry 0 (c.grantEntry v.toNat 0 0x48) = d at *
    have hn1 : c.wdnState ≠ 1 := by omega
    refine does_of_lift (i := .govGrantWrite v) (f := fun c => c.govWrite (.warden 0) v.toNat) rfl hdo
      ⟨⟨e, he, horigin, hobject, hnew, hold, fun h => absurd h hn1, fun _ => houtcome⟩, fun _ => ?_,
        fun h => absurd h hn1, (hmoved.wr (by simp) _).keeps hlevel levelBlank_noLedger⟩
    rw [Chip.rd_settle, Chip.rd_wr_self]
    exact Nat.mod_eq_of_lt (lt_trans (Nat.mod_lt _ (by decide)) (by decide : 8 < 256))
  · rw [if_pos ⟨h1, hraise⟩] at hdo
    obtain ⟨e, he, horigin, hobject, hnew, hold, houtcome⟩ := c.grantEntry_staged v.toNat 3 0x12
    have hmoved := hput (c.grantEntry v.toNat 3 0x12)
    have hgrant := c.rd_putEntry 0 (c.grantEntry v.toNat 3 0x12) (q := R.GOV_GRANT) (by decide)
    generalize c.putEntry 0 (c.grantEntry v.toNat 3 0x12) = d at *
    have hn0 : c.wdnState ≠ 0 := by omega
    exact does_of_lift (i := .govGrantWrite v) (f := fun c => c.govWrite (.warden 0) v.toNat) rfl hdo
      ⟨⟨e, he, horigin, hobject, hnew, hold, fun _ => houtcome, fun h => absurd h hn0⟩,
        fun h => absurd h hn0, fun _ => hgrant, hmoved.keeps hlevel levelBlank_noLedger⟩

/-- Settles O35. -/
theorem capEngine : Obligations.CapEngine := ⟨capEvaluates, capCuts, grantWrites⟩

end Sys2Proof.Machine
end

section
/-!
PROOFS. What the channels' events show (10 R466 to R501).
-/
namespace Sys2Proof.Machine

theorem levelBlank_id : LevelBlank id :=
  ⟨fun _ _ _ _ _ => rfl, fun _ => rfl, fun _ => rfl, fun _ => rfl, fun _ => rfl, fun _ => rfl, fun _ => rfl, fun _ => rfl⟩

theorem levelBlank_chn : LevelBlank (fun d => { d with chn := [] }) :=
  ⟨fun _ _ _ _ _ => rfl, fun _ => rfl, fun _ => rfl, fun _ => rfl, fun _ => rfl, fun _ => rfl, fun _ => rfl, fun _ => rfl⟩

theorem levelBlank_shaping : LevelBlank (fun d => { d with cap := { d.cap with shaping := false } }) :=
  ⟨fun _ _ _ _ _ => rfl, fun _ => rfl, fun _ => rfl, fun _ => rfl, fun _ => rfl, fun _ => rfl, fun _ => rfl, fun _ => rfl⟩

theorem chStat_not_level (n : Fin 8) : ∀ r ∈ levelRegs, ∀ x ∈ [R.CHn_STAT n, R.CHn_LIMCNT n], r.addr ≠ x.addr := by revert n; decide

theorem chStat_ne_limcnt (n : Nat) : (R.CHn_STAT n).addr ≠ (R.CHn_LIMCNT n).addr := by
  simp only [R.CHn_STAT, R.CHn_LIMCNT]
  omega

section
variable {s : State} {i : Instr} {f : Chip → Chip} (he : exec i s = s.lift f)
include he

/-- A command that sets a bit of one register and nothing else. -/
theorem does_of_wbit {r : Reg} (hr : ∀ q ∈ levelRegs, q.addr ≠ r.addr) {k : Nat} {b : Bool} (hd : f s.chip = s.chip.wbit r k b) :
    Does i s (fun d => d.rd r = putBit (s.chip.rd r) k b % 256 ^ r.width ∧ s.chip.Keeps d [r] id) := by
  have hmoved : s.chip.Moved (s.chip.wbit r k b) [r] id := (Chip.Moved.refl s.chip _ _).wbit (by simp) k b
  exact does_of_lift he hd ⟨Chip.rd_wr_self _ _ _, hmoved.keeps (fun q hq x hx => by rw [List.mem_singleton.1 hx]; exact hr q hq) levelBlank_id⟩

/-- A command that changes the record of one channel. -/
theorem does_of_setCh {n : Nat} {y : ChnSt} (hd : f s.chip = s.chip.setCh n y) :
    Does i s (fun d => d.ch n = y ∧ (∀ m, m ≠ n → d.ch m = s.chip.ch m) ∧ s.chip.Keeps d [] (fun d => { d with chn := [] })) := by
  have hmoved : s.chip.Moved (s.chip.setCh n y) [] (fun d => { d with chn := [] }) := (Chip.Moved.refl s.chip _ _).put rfl rfl
  have hself : (s.chip.setCh n y).ch n = y := FMap.get_set_self _ _ _ _
  have hother (m : Nat) (hm : m ≠ n) : (s.chip.setCh n y).ch m = s.chip.ch m := FMap.get_set_other _ _ _ _ _ _ hm
  generalize s.chip.setCh n y = d at *
  exact does_of_lift he hd ⟨hself, hother, hmoved.keeps (by simp) levelBlank_chn⟩

end

/-- The current limit is entered: its bit and its count, and on CH5 the shaping (R476, 11 R535). -/
theorem does_currentLimitEnter {s : State} {n : Fin 8} (hon : s.chip.chOn n = true) (hstat : s.chip.chStat n 2 = false)
    (hcnt : s.chip.rd (R.CHn_LIMCNT n) < 255) : Does (.currentLimitEnter n) s (fun d => d.chStat n 2 = true ∧
      d.rd (R.CHn_LIMCNT n) = s.chip.rd (R.CHn_LIMCNT n) + 1 ∧
      s.chip.Keeps d [R.CHn_STAT n, R.CHn_LIMCNT n] (fun d => { d with cap := { d.cap with shaping := false } })) := by
  have hmoved : s.chip.Moved ((s.chip.wbit (R.CHn_STAT n) 2 true).inc (R.CHn_LIMCNT n)) [R.CHn_STAT n, R.CHn_LIMCNT n]
      (fun d => { d with cap := { d.cap with shaping := false } }) :=
    ((Chip.Moved.refl s.chip _ _).wbit (by simp) 2 true).inc (by simp)
  have hbit : ((s.chip.wbit (R.CHn_STAT n) 2 true).inc (R.CHn_LIMCNT n)).chStat n 2 = true := by
    rw [Chip.chStat, Chip.rbit, Chip.inc, Chip.rd_wr_other _ _ _ _ (chStat_ne_limcnt n)]
    exact (Chip.rbit_wbit _ 2 true (by simp [R.CHn_STAT])).trans (if_pos rfl)
  have hinc : ((s.chip.wbit (R.CHn_STAT n) 2 true).inc (R.CHn_LIMCNT n)).rd (R.CHn_LIMCNT n) = s.chip.rd (R.CHn_LIMCNT n) + 1 := by
    rw [Chip.inc, Chip.rd_wr_self, Chip.wbit, Chip.rd_wr_other _ _ _ _ (chStat_ne_limcnt n).symm]
    have hwidth : (R.CHn_LIMCNT n).width = 2 := rfl
    rw [hwidth, satInc, if_pos (by omega), Nat.mod_eq_of_lt (by omega)]
  have hdo : (fun c : Chip => if c.chOn n && !c.chStat n 2 then
      let c := (c.wbit (R.CHn_STAT n) 2 true).inc (R.CHn_LIMCNT n)
      if n.val = 5 ∧ c.rd (R.CAP_DROOP 2) = 2 then { c with cap := { c.cap with shaping := true } } else c
    else c) s.chip = (if n.val = 5 ∧ ((s.chip.wbit (R.CHn_STAT n) 2 true).inc (R.CHn_LIMCNT n)).rd (R.CAP_DROOP 2) = 2
      then { (s.chip.wbit (R.CHn_STAT n) 2 true).inc (R.CHn_LIMCNT n) with
        cap := { ((s.chip.wbit (R.CHn_STAT n) 2 true).inc (R.CHn_LIMCNT n)).cap with shaping := true } }
      else (s.chip.wbit (R.CHn_STAT n) 2 true).inc (R.CHn_LIMCNT n)) := if_pos (by rw [hon, hstat]; rfl)
  generalize (s.chip.wbit (R.CHn_STAT n) 2 true).inc (R.CHn_LIMCNT n) = d at *
  by_cases hshape : n.val = 5 ∧ d.rd (R.CAP_DROOP 2) = 2
  · rw [if_pos hshape] at hdo
    have hput : s.chip.Moved { d with cap := { d.cap with shaping := true } } [R.CHn_STAT n, R.CHn_LIMCNT n]
      (fun d => { d with cap := { d.cap with shaping := false } }) := hmoved.put rfl rfl
    exact does_of_lift (i := .currentLimitEnter n) rfl hdo ⟨hbit, hinc, hput.keeps (chStat_not_level n) levelBlank_shaping⟩
  · rw [if_neg hshape] at hdo
    exact does_of_lift (i := .currentLimitEnter n) rfl hdo ⟨hbit, hinc, hmoved.keeps (chStat_not_level n) levelBlank_shaping⟩

/-- The channel leaves its limit (R476). -/
theorem does_currentLimitExit (s : State) (n : Fin 8) : Does (.currentLimitExit n) s (fun d => d.chStat n 2 = false ∧
    s.chip.Keeps d [R.CHn_STAT n] (fun d => { d with cap := { d.cap with shaping := false } })) := by
  have hmoved : s.chip.Moved (s.chip.wbit (R.CHn_STAT n) 2 false) [R.CHn_STAT n] (fun d => { d with cap := { d.cap with shaping := false } }) :=
    (Chip.Moved.refl s.chip _ _).wbit (by simp) 2 false
  have hbit : (s.chip.wbit (R.CHn_STAT n) 2 false).chStat n 2 = false :=
    (Chip.rbit_wbit _ 2 false (by simp [R.CHn_STAT])).trans (if_pos rfl)
  have hlevel : ∀ r ∈ levelRegs, ∀ x ∈ [R.CHn_STAT n], r.addr ≠ x.addr := fun r hr x hx => chStat_not_level n r hr x (by simp [List.mem_singleton.1 hx])
  have hdo : exec (.currentLimitExit n) s = .next { s with chip := Chip.settle (if n.val = 5
      then { s.chip.wbit (R.CHn_STAT n) 2 false with cap := { (s.chip.wbit (R.CHn_STAT n) 2 false).cap with shaping := false } }
      else s.chip.wbit (R.CHn_STAT n) 2 false) } := rfl
  generalize s.chip.wbit (R.CHn_STAT n) 2 false = d at *
  by_cases hfive : n.val = 5
  · rw [if_pos hfive] at hdo
    have hput : s.chip.Moved { d with cap := { d.cap with shaping := false } } [R.CHn_STAT n]
      (fun d => { d with cap := { d.cap with shaping := false } }) := hmoved.put rfl rfl
    exact does_of_exec hdo ⟨hbit, hput.keeps hlevel levelBlank_shaping⟩
  · rw [if_neg hfive] at hdo
    exact does_of_exec hdo ⟨hbit, hmoved.keeps hlevel levelBlank_shaping⟩

/-- Settles O36. -/
theorem channelEvents : Obligations.ChannelEvents := by
  intro s n on hon c stat x one rec'
  have hlevel : ∀ q ∈ levelRegs, q.addr ≠ stat.addr := fun q hq => chStat_not_level n q hq stat (by simp [stat])
  refine ⟨?_, fun hpg hgood => ?_, ?_, does_currentLimitEnter hon, does_currentLimitExit s n, fun hn => ⟨?_, ?_⟩, fun hn => ⟨?_, fun hmode => ?_⟩,
    fun hn hdir => ?_, fun hn => ?_, fun hn => ?_⟩
  · exact does_of_wbit (f := fun c => if c.chOn n.val then c.wbit (R.CHn_STAT n.val) 0 true else c) rfl hlevel (if_pos hon)
  · refine does_of_wbit (f := fun c => if c.chOn n.val && intPg n.val && (!on || c.chStat n.val 0) then c.wbit (R.CHn_STAT n.val) 1 on else c)
      rfl hlevel (if_pos ?_)
    have hgood' : (!on || c.chStat n.val 0) = true := by rcases hgood with h | h <;> simp [h]
    rw [hon, hpg, hgood']
    rfl
  · exact does_of_setCh (f := fun c => c.setCh n.val { c.ch n.val with slewing := false, slewFrom := none }) rfl rfl
  · subst hn
    exact does_of_setCh (f := fun c => if c.chOn 3 then c.setCh 3 { c.ch 3 with fallen := true } else c) rfl (if_pos hon)
  · subst hn
    exact does_of_setCh (f := fun c => c.setCh 3 { c.ch 3 with fallen := false }) rfl rfl
  · subst hn
    exact does_of_setCh (f := fun c => c.setCh 2 { c.ch 2 with shed := false }) rfl rfl
  · subst hn
    exact does_of_setCh (f := fun c => if c.chOn 2 && c.rbit (R.CHn_MODE 2) 1 then c.setCh 2 { c.ch 2 with shed := true } else c) rfl
      (if_pos (by rw [hmode, show s.chip.chOn 2 = true from hon]; rfl))
  · subst hn
    exact does_of_wbit (f := fun c => if c.chOn 6 && (c.ch 6).dir != 0 then c.wbit (R.CHn_STAT 6) 4 on else c) rfl hlevel
      (if_pos (by rw [show s.chip.chOn 6 = true from hon, bne_iff_ne.2 (show (s.chip.ch 6).dir ≠ 0 from hdir)]; rfl))
  · subst hn
    exact does_of_wbit (f := fun c => if c.chOn 4 then c.wbit (R.CHn_STAT 4) 3 on else c) rfl hlevel (if_pos hon)
  · subst hn
    exact does_of_wbit (f := fun c => if c.chOn 0 then c.wbit (R.CHn_STAT 0) 3 on else c) rfl hlevel (if_pos hon)

end Sys2Proof.Machine
end

section
/-!
PROOFS. Fault shut-off: what turning the domains off leaves alone, what a shut-off records, and what ends in one (09 R426 to R441).
-/
namespace Sys2Proof.Machine

/-! ### What turning domains off leaves alone -/

/-- The sequencer's registers that a shut-off reads after the domains are off, or has just written. -/
def shutOffRegs : List Reg := [R.SEQ_EN, R.SEQ_FREC, R.SEQ_POLICY, R.SEQ_RCOUNT]

/-- The sequencer stands as it was. -/
def Chip.SeqSame (c d : Chip) : Prop := d.seq = c.seq ∧ ∀ q ∈ shutOffRegs, d.rd q = c.rd q

/-- An address that is none of the sequencer's. -/
abbrev offShutOff (a : Nat) : Prop := a ≠ 0x801100 ∧ a ≠ 0x801110 ∧ a ≠ 0x801108 ∧ a ≠ 0x80110C

theorem ne_of_offShutOff {r : Reg} (h : offShutOff r.addr) {q : Reg} (hq : q ∈ shutOffRegs) : q.addr ≠ r.addr := by
  obtain ⟨hen, hfrec, hpolicy, hrcount⟩ := h
  simp only [shutOffRegs, List.mem_cons, List.not_mem_nil, or_false] at hq
  rcases hq with rfl | rfl | rfl | rfl
  · exact hen.symm
  · exact hfrec.symm
  · exact hpolicy.symm
  · exact hrcount.symm

theorem find?_filter_of_key {α : Type} (m : FMap α) (p : Nat → Bool) {k : Nat} (hk : p k = true) :
    FMap.find? (m.filter (fun e => p e.1)) k = FMap.find? m k := by
  induction m with
  | nil => rfl
  | cons e m ih =>
    by_cases he : p e.1 = true
    · rw [List.filter_cons_of_pos (by exact he), FMap.find?, FMap.find?, ih]
    · have hne : k ≠ e.1 := fun h => he (h ▸ hk)
      rw [List.filter_cons_of_neg (by exact he), ih, FMap.find?, if_neg hne]

/-- The register at address `a`, if there is one, stands while domain `d` loses its power. -/
def outsideDomain (d : Dom) (a : Nat) : Bool :=
  match regAt a with
  | some r => !decide (r.dom = d)
  | none => true

/-- A domain that loses its power resets its own registers alone. -/
theorem Chip.rd_resetRegs_other (c : Chip) {d : Dom} {q : Reg} (hq : outsideDomain d q.addr = true) : (c.resetRegs d).rd q = c.rd q := by
  have hfind : FMap.find? (c.resetRegs d).regs q.addr = FMap.find? c.regs q.addr := find?_filter_of_key c.regs (outsideDomain d) hq
  rw [Chip.rd, FMap.get, hfind]
  rfl

section
variable {c d e : Chip}

theorem Chip.SeqSame.refl (c : Chip) : c.SeqSame c := ⟨rfl, fun _ _ => rfl⟩

theorem Chip.SeqSame.trans (h : c.SeqSame d) (h' : d.SeqSame e) : c.SeqSame e := ⟨h'.1.trans h.1, fun q hq => (h'.2 q hq).trans (h.2 q hq)⟩

theorem Chip.SeqSame.put (h : c.SeqSame d) (hregs : e.regs = d.regs) (hseq : e.seq = d.seq) : c.SeqSame e :=
  ⟨hseq.trans h.1, fun q hq => (congrArg (fun m => FMap.get q.reset m q.addr) hregs).trans (h.2 q hq)⟩

theorem Chip.SeqSame.wr (h : c.SeqSame d) {r : Reg} (hr : offShutOff r.addr) (v : Nat) : c.SeqSame (d.wr r v) :=
  ⟨h.1, fun q hq => (Chip.rd_wr_other _ _ _ _ (ne_of_offShutOff hr hq)).trans (h.2 q hq)⟩

theorem Chip.SeqSame.ite (p : Prop) [Decidable p] (hd : c.SeqSame d) (he : c.SeqSame e) : c.SeqSame (if p then d else e) := by
  split
  · exact hd
  · exact he

theorem Chip.SeqSame.andIf (p : Prop) [Decidable p] (h : c.SeqSame d) (h' : d.SeqSame e) : c.SeqSame (if p then e else d) := .ite p (h.trans h') h

theorem Chip.SeqSame.andUnless (p : Prop) [Decidable p] (h : c.SeqSame d) (h' : d.SeqSame e) : c.SeqSame (if p then d else e) := .ite p h (h.trans h')

theorem Chip.SeqSame.event (h : c.SeqSame d) {r : Reg} (hr : offShutOff r.addr) (k bits : Nat) : c.SeqSame (d.event k r bits) :=
  ⟨(congrArg Chip.seq (Chip.event_eq d k r bits)).trans h.1, fun q hq =>
    (Chip.rd_event_other d k r bits (ne_of_offShutOff hr hq) (by revert q; decide)).trans (h.2 q hq)⟩

theorem Chip.SeqSame.route (h : c.SeqSame d) (k : Nat) : c.SeqSame (d.route k) :=
  ⟨(congrArg Chip.seq (Chip.route_eq d k)).trans h.1, fun q hq => (Chip.rd_route d k (by revert q; decide)).trans (h.2 q hq)⟩

theorem Chip.SeqSame.foldl {α : Type} (f : Chip → α → Chip) (hf : ∀ x a, Chip.SeqSame x (f x a)) (l : List α) (h : c.SeqSame d) :
    c.SeqSame (l.foldl f d) := by
  induction l generalizing d with
  | nil => exact h
  | cons a l ih => exact ih (h.trans (hf d a))

theorem Chip.SeqSame.resetRegs (h : c.SeqSame d) {x : Dom} (hx : ∀ q ∈ shutOffRegs, outsideDomain x q.addr = true) : c.SeqSame (d.resetRegs x) :=
  ⟨h.1, fun q hq => (Chip.rd_resetRegs_other d (hx q hq)).trans (h.2 q hq)⟩

end

/-! ### The hooks of the domains -/

section
variable (c : Chip)

theorem Chip.seqSame_toInbox {d : Chip} {t : Nat} {m : Msg} (h : c.toInbox t m = some d) : c.SeqSame d := by
  simp only [Chip.toInbox] at h
  split_ifs at h <;> obtain rfl := Option.some.inj h <;> exact (Chip.SeqSame.refl c).put rfl rfl

theorem Chip.seqSame_reply (r : ReplyTo) (seq outcome cw : Nat) : c.SeqSame (c.reply r seq outcome cw) := by
  cases r with
  | none => exact .refl c
  | hostFifo low =>
    simp only [Chip.reply]
    split_ifs
    · refine .route ?_ 14
      exact (Chip.SeqSame.refl c).put rfl rfl
    · exact (Chip.SeqSame.refl c).put rfl rfl
    · exact (Chip.SeqSame.refl c).wr (by decide) _
  | thread t =>
    simp only [Chip.reply]
    cases h : c.toInbox t (hwMsg 1 seq (seq / 256) outcome 0) with
    | none => exact .refl c
    | some d => exact c.seqSame_toInbox h
  | node p n => exact (Chip.SeqSame.refl c).put rfl rfl

theorem Chip.seqSame_decided (o : OrderRec) (outcome cw : Nat) : c.SeqSame (c.decided o outcome cw) := by
  simp only [Chip.decided]
  refine .foldl _ (fun x r => x.seqSame_reply r _ _ _) _ ?_
  exact (c.seqSame_reply o.reply o.seq outcome cw).put rfl rfl

theorem Chip.seqSame_complete (i outcome cw new : Nat) : c.SeqSame (c.complete i outcome cw new) := by
  simp only [Chip.complete]
  split
  · split
    · refine .trans (.wr ?_ ?_ 0) (Chip.seqSame_decided _ _ _ _)
      · exact (Chip.SeqSame.refl c).put rfl rfl
      · simp only [offShutOff, R.WDN_ORD]
        omega
    · exact .refl c
  · exact .refl c

theorem Chip.seqSame_answerHandled : c.SeqSame c.answerHandled := by
  refine .foldl _ (fun x i => ?_) _ (.refl c)
  split
  · exact x.seqSame_complete _ _ _ _
  · exact .refl x

theorem Chip.seqSame_freeFlash (a n : Nat) : c.SeqSame (c.freeFlash a n) := by
  induction n generalizing c a with
  | zero => exact .refl c
  | succ n ih => exact ((Chip.SeqSame.refl c).put rfl rfl).trans (ih _ _)

theorem Chip.seqSame_freeLedger (a n : Nat) : c.SeqSame (c.freeLedger a n) := by
  induction n generalizing c a with
  | zero => exact .refl c
  | succ n ih => exact ((Chip.SeqSame.refl c).put rfl rfl).trans (ih _ _)

theorem Chip.seqSame_freeRow (r n v : Nat) : c.SeqSame (c.freeRow r n v) := by
  induction n generalizing c v with
  | zero => exact (Chip.SeqSame.refl c).put rfl rfl
  | succ n ih => exact ((Chip.SeqSame.refl c).put rfl rfl).trans (ih _ _)

theorem Chip.seqSame_freeTarget (m : NvmCmd) : c.SeqSame (c.freeTarget m) := by
  simp only [Chip.freeTarget]
  split
  · exact c.seqSame_freeFlash _ _
  · exact c.seqSame_freeFlash _ _
  · exact c.seqSame_freeFlash _ _
  · exact c.seqSame_freeRow _ _ _
  · exact c.seqSame_freeRow _ _ _
  · split <;> exact (Chip.SeqSame.refl c).put rfl rfl

theorem Chip.seqSame_nvmFinal (m : NvmCmd) (result : Nat) : c.SeqSame (c.nvmFinal m result) := by
  simp only [Chip.nvmFinal]
  split
  · exact .refl c
  · split
    · exact .refl c
    · exact (Chip.SeqSame.refl c).put rfl rfl

theorem Chip.seqSame_nvmAbort : c.SeqSame c.nvmAbort := by
  simp only [Chip.nvmAbort]
  split
  · exact .refl c
  · refine .event (.wr (.trans (.trans ?_ (Chip.seqSame_freeTarget _ _)) (Chip.seqSame_nvmFinal _ _ _)) (by decide) _) (by decide) _ _
    exact (Chip.SeqSame.refl c).put rfl rfl

theorem Chip.seqSame_ledEraseCut : c.SeqSame c.ledEraseCut := by
  simp only [Chip.ledEraseCut]
  split
  · exact c.seqSame_freeLedger _ _
  · exact .refl c

theorem Chip.seqSame_fillSettle : c.SeqSame c.fillSettle :=
  ⟨c.moved_fillSettle.field (f := Chip.seq) (fun _ => rfl), fun q hq => c.moved_fillSettle.1 q (by revert q; decide)⟩

theorem Chip.seqSame_select : c.SeqSame c.select := by
  have hcounting : c.SeqSame (if c.chgPhase = phPULSE then { c with chg := { c.chg with counting := false } } else c) :=
    .ite _ ((Chip.SeqSame.refl c).put rfl rfl) (.refl c)
  simp only [Chip.select]
  exact .wr (.wr (.ite _ (.refl c) (hcounting.event (by decide) _ _)) (by decide) _) (by decide) _

theorem Chip.seqSame_showInputs : c.SeqSame c.showInputs := by
  have hdetect : c.SeqSame (if c.inputLive 2 then c else { c with chg := { c.chg with rp := .none, bc12 := .nothing, detDone := false } }) :=
    .ite _ (.refl c) ((Chip.SeqSame.refl c).put rfl rfl)
  simp only [Chip.showInputs]
  refine .foldl _ (fun x i => (Chip.SeqSame.refl x).wr (by simp only [offShutOff, R.CHG_ICL_EFF]; omega) _) _ (.wr (.wr ?_ (by decide) _) (by decide) _)
  exact .andUnless _ (.wr (.wr hdetect (by decide) _) (by decide) _) (.wr (.refl _) (by decide) _)

theorem Chip.seqSame_enterPhase (ph : Nat) : c.SeqSame (c.enterPhase ph) := by
  simp only [Chip.enterPhase]
  refine .andIf _ (.andIf _ (.andIf _ (.andIf _ (.put (.wr (.refl c) ?_ _) rfl rfl) ?_) ?_) ?_) (.put (.wr (.refl _) ?_ _) rfl rfl)
  · decide
  · exact .wr (.refl _) (by decide) _
  · exact .event (.refl _) (by decide) _ _
  · exact .wr (.refl _) (by decide) _
  · decide

theorem Chip.seqSame_phaseSettle (n : Nat) : c.SeqSame (c.phaseSettle n) := by
  induction n generalizing c with
  | zero => exact .refl c
  | succ n ih =>
    simp only [Chip.phaseSettle]
    split
    · exact (c.seqSame_enterPhase _).trans (ih _)
    · exact .refl c

theorem Chip.seqSame_chgSettle : c.SeqSame c.chgSettle :=
  (c.seqSame_select.trans (Chip.seqSame_showInputs _)).trans (Chip.seqSame_phaseSettle _ _)

theorem Chip.seqSame_wrdLost : c.SeqSame c.wrdLost := by
  have hcut : c.SeqSame c.answerHandled.nvmAbort.ledEraseCut :=
    (c.seqSame_answerHandled.trans (Chip.seqSame_nvmAbort _)).trans (Chip.seqSame_ledEraseCut _)
  unfold Chip.wrdLost
  generalize c.answerHandled.nvmAbort.ledEraseCut = d at *
  refine .trans (.trans (.wr (.resetRegs (.put hcut ?_ ?_) ?_) ?_ _) (Chip.seqSame_chgSettle _)) (Chip.seqSame_fillSettle _)
  · rfl
  · rfl
  · decide
  · decide

theorem Chip.seqSame_nvmReleaseThread (t : Nat) : c.SeqSame (c.nvmReleaseThread t) :=
  .ite _ ((Chip.SeqSame.refl c).wr (by decide) _) (.refl c)

theorem Chip.seqSame_mpCpuOff : c.SeqSame c.mpCpuOff :=
  .put (e := c.mpCpuOff) (.wr (.wr (.refl c) (r := R.MP_LEVEL 0) (by decide) 0) (r := R.MP_LEVEL 1) (by decide) 0) rfl rfl

theorem Chip.seqSame_mainUnloaded : c.SeqSame c.mainUnloaded := .andIf _ (.refl c) (.wr (.refl c) (by decide) _)

theorem Chip.seqSame_cpuLost : c.SeqSame c.cpuLost := by
  have hrelease : c.SeqSame ((List.range 16).foldl Chip.nvmReleaseThread c) := .foldl _ (fun x t => x.seqSame_nvmReleaseThread t) _ (.refl c)
  unfold Chip.cpuLost
  generalize (List.range 16).foldl Chip.nvmReleaseThread c = d at *
  refine .resetRegs (.trans (.trans ?_ (Chip.seqSame_mpCpuOff _)) (Chip.seqSame_mainUnloaded _)) (by decide)
  exact hrelease.put rfl rfl

theorem Chip.seqSame_chDisable (n : Nat) : c.SeqSame (c.chDisable n) := by
  refine .wr (.wr (.put (.refl c) ?_ ?_) ?_ _) ?_ _
  · rfl
  · rfl
  · simp only [offShutOff, R.CHn_STAT]
    omega
  · simp only [offShutOff, R.CHn_VEFF]
    omega

theorem Chip.seqSame_capStop : c.SeqSame c.capStop := by
  refine .trans (.put (.put ?_ rfl rfl) rfl rfl) (Chip.seqSame_fillSettle _)
  exact .wr (.wr (.wr (.wr (.refl c) (by decide) _) (by decide) _) (by decide) _) (by decide) _

theorem Chip.seqSame_weiOff : c.SeqSame c.weiOff := .resetRegs ((Chip.SeqSame.refl c).put rfl rfl) (by decide)

theorem Chip.seqSame_lnkOff : c.SeqSame c.lnkOff := .resetRegs ((Chip.SeqSame.refl c).put rfl rfl) (by decide)

theorem Chip.seqSame_afeOff : c.SeqSame c.afeOff :=
  .resetRegs (.put (.wr (.wr (.refl c) (by decide) _) (by decide) _) rfl rfl) (by decide)

/-- What a domain loses with its power is nothing of the sequencer. -/
theorem Chip.seqSame_domLost (x : Nat) : c.SeqSame (c.domLost x) := by
  match x with
  | 0 => exact c.seqSame_wrdLost
  | 1 => exact c.seqSame_cpuLost
  | 2 => exact c.seqSame_weiOff
  | 3 => exact c.seqSame_lnkOff
  | 4 => exact c.seqSame_afeOff
  | n + 5 =>
    simp only [Chip.domLost]
    have hoff := c.seqSame_chDisable n
    split_ifs
    · exact hoff.trans (Chip.seqSame_capStop _)
    · exact hoff.trans (Chip.seqSame_chgSettle _)
    · exact hoff

end

/-! ### A shut-off (R426, R430, R440, R441) -/

theorem Chip.rd_setDom_other (c : Chip) (x : Nat) (y : DomSt) {q : Reg} (hstate : q.addr ≠ (R.SEQ_STATE x).addr) (hon : q.addr ≠ R.SEQ_ON.addr) :
    (c.setDom x y).rd q = c.rd q := by
  rw [Chip.setDom, Chip.wbit, Chip.rd_wr_other _ _ _ _ hon, Chip.rd_wr_other _ _ _ _ hstate]
  rfl

theorem Chip.rd_setDom_shutOff (c : Chip) (x : Nat) (y : DomSt) {q : Reg} (hq : q ∈ shutOffRegs) : (c.setDom x y).rd q = c.rd q := by
  refine c.rd_setDom_other x y (ne_of_offShutOff (r := R.SEQ_STATE x) ?_ hq) (ne_of_offShutOff (by decide) hq)
  simp only [offShutOff, R.SEQ_STATE]
  omega

/-- The domains of a list set to OFF, first to last. -/
def Chip.setOff (c : Chip) (l : List Nat) : Chip := l.foldl (fun c x => c.setDom x {}) c

theorem Chip.dom_setOff_of_off {c : Chip} (l : List Nat) {x : Nat} (h : c.dom x = {}) : (c.setOff l).dom x = {} := by
  induction l generalizing c with
  | nil => exact h
  | cons y l ih =>
    refine ih (c := c.setDom y {}) ?_
    by_cases hxy : x = y
    · rw [hxy, Chip.dom_setDom_self]
    · rw [Chip.dom_setDom_other _ _ _ _ hxy, h]

theorem Chip.dom_setOff_of_mem {c : Chip} {l : List Nat} {x : Nat} (hx : x ∈ l) : (c.setOff l).dom x = {} := by
  induction l generalizing c with
  | nil => cases hx
  | cons y l ih =>
    rcases List.mem_cons.1 hx with rfl | hx
    · exact Chip.dom_setOff_of_off l (c := c.setDom x {}) (Chip.dom_setDom_self _ _ _)
    · exact ih (c := c.setDom y {}) hx

/-- Of the sequencer only the records of the domains change. -/
theorem Chip.seq_setOff (c : Chip) (l : List Nat) : { (c.setOff l).seq with doms := [] } = { c.seq with doms := [] } := by
  induction l generalizing c with
  | nil => rfl
  | cons y l ih => exact ih (c.setDom y {})

theorem Chip.rd_setOff_shutOff (c : Chip) (l : List Nat) {q : Reg} (hq : q ∈ shutOffRegs) : (c.setOff l).rd q = c.rd q := by
  induction l generalizing c with
  | nil => rfl
  | cons y l ih => exact (ih (c.setDom y {})).trans (c.rd_setDom_shutOff y _ hq)

/-- Every domain of the list is OFF, and the rest of the sequencer stands. -/
theorem Chip.allOff_spec (c : Chip) (l : List Nat) : (∀ x ∈ l, (c.allOff l).dom x = {}) ∧
    { (c.allOff l).seq with doms := [] } = { c.seq with doms := [] } ∧ ∀ q ∈ shutOffRegs, (c.allOff l).rd q = c.rd q := by
  have hlost : (c.setOff l).SeqSame (c.allOff l) := .foldl _ (fun x a => x.seqSame_domLost a) _ (.refl _)
  refine ⟨fun x hx => ?_, ?_, fun q hq => (hlost.2 q hq).trans (c.rd_setOff_shutOff l hq)⟩
  · rw [Chip.dom, hlost.1]
    exact Chip.dom_setOff_of_mem hx
  · rw [hlost.1]
    exact c.seq_setOff l

/-- The flag of a fault record the host has not read yet. -/
def Chip.flagFrec (c : Chip) : Chip := if c.hif.frecNew then c else { c with hif := { c.hif with frecNew := true } }.route 4

theorem Chip.seqSame_flagFrec (c : Chip) : c.SeqSame c.flagFrec := by
  have hput : c.SeqSame { c with hif := { c.hif with frecNew := true } } := (Chip.SeqSame.refl c).put rfl rfl
  exact .andUnless _ (.refl c) (hput.route 4)

/-- What a shut-off records before the domains go off. -/
def Chip.shutOffBegun (c : Chip) (code dom more : Nat) : Chip :=
  let c := c.stageHw (0x4000 + dom) (c.rd R.SEQ_EN) 1 (cause code dom)
  let c := (c.wr R.SEQ_FREC (c.faultRecord code dom more)).wr R.SEQ_EN 1
  let c := c.flagFrec
  { c with seq := { c.seq with fnDrive := code != 3, frozen := false }
           mode := { c.mode with power := if c.mode.power = 4 then 4 else 0, wakePend := none } }

theorem Chip.faultShutoff_of_on {c : Chip} (hon : (c.dom dWRD).state ≠ 0) (code dom more : Nat) :
    c.faultShutoff code dom more = ((c.shutOffBegun code dom more).allOff domains).engineAfter := if_neg hon

/-- The fault record's low bytes are cause and domain (R430). -/
theorem faultRecord_low (code dom n more time count : Nat) (hcode : code < 256) (hdom : dom < 256) :
    (code + 256 * dom + 65536 * n + 2 ^ 24 * more + 2 ^ 32 * time + 2 ^ 64 * count) % 2 ^ 16 = code + 256 * dom := by
  omega

theorem Chip.rd_shutOffBegun (c : Chip) (code dom more : Nat) {q : Reg} (hq : q ∈ shutOffRegs) : (c.shutOffBegun code dom more).rd q =
    (((c.stageHw (0x4000 + dom) (c.rd R.SEQ_EN) 1 (cause code dom)).wr R.SEQ_FREC
      ((c.stageHw (0x4000 + dom) (c.rd R.SEQ_EN) 1 (cause code dom)).faultRecord code dom more)).wr R.SEQ_EN 1).rd q :=
  (Chip.seqSame_flagFrec _).2 q hq

/-- Policy and restart count stand until the shut-off's end. -/
theorem Chip.rd_shutOffBegun_of_kept (c : Chip) (code dom more : Nat) {q : Reg} (hq : q = R.SEQ_POLICY ∨ q = R.SEQ_RCOUNT) :
    (c.shutOffBegun code dom more).rd q = c.rd q := by
  have hmem : q ∈ shutOffRegs := by rcases hq with rfl | rfl <;> decide
  have hen : q.addr ≠ R.SEQ_EN.addr := by rcases hq with rfl | rfl <;> decide
  have hfrec : q.addr ≠ R.SEQ_FREC.addr := by rcases hq with rfl | rfl <;> decide
  rw [c.rd_shutOffBegun _ _ _ hmem, Chip.rd_wr_other _ _ _ _ hen, Chip.rd_wr_other _ _ _ _ hfrec]
  exact c.rd_stageHw _ _ _ _ (by rcases hq with rfl | rfl <;> decide) (by rcases hq with rfl | rfl <;> decide)

/-- The recorded cause and domain stand in the two low bytes. -/
theorem Chip.frec_shutOffBegun (c : Chip) {code dom : Nat} (more : Nat) (hcode : code < 256) (hdom : dom < 256) :
    (c.shutOffBegun code dom more).rd R.SEQ_FREC % 2 ^ 16 = code + 256 * dom := by
  rw [c.rd_shutOffBegun _ _ _ (by decide), Chip.rd_wr_other _ _ _ _ (by decide), Chip.rd_wr_self,
    Nat.mod_mod_of_dvd _ (show 2 ^ 16 ∣ 256 ^ R.SEQ_FREC.width by decide)]
  exact faultRecord_low code dom _ _ _ _ hcode hdom

/-- The shut-off's last step sets the restart engine alone. -/
theorem Chip.engineAfter_eq (c : Chip) : (∀ x, c.engineAfter.dom x = c.dom x) ∧ (∀ q, c.engineAfter.rd q = c.rd q) ∧
    c.engineAfter.seq.fnDrive = c.seq.fnDrive ∧ c.engineAfter.seq.frozen = c.seq.frozen ∧
    c.engineAfter.seq.engine = if c.rfld R.SEQ_POLICY 0 3 ≤ c.rfld R.SEQ_RCOUNT 0 3 then .latched else .waitHigh := by
  unfold Chip.engineAfter Chip.rcount
  split <;> exact ⟨fun _ => rfl, fun _ => rfl, rfl, rfl, rfl⟩

/-- R426, R430, R440, R441: the end of a shut-off. -/
theorem shutOffEffect : Parts.ShutOffEffect := by
  intro c code dom more hon hcode hdom d
  have hd : d = ((c.shutOffBegun code dom more).allOff domains).engineAfter := c.faultShutoff_of_on hon code dom more
  obtain ⟨hoff, hseq, hregs⟩ := (c.shutOffBegun code dom more).allOff_spec domains
  generalize hb : (c.shutOffBegun code dom more).allOff domains = b at *
  obtain ⟨hdoms, hrd, hfn, hfrozen, hengine⟩ := b.engineAfter_eq
  have hfrec : d.rd R.SEQ_FREC % 2 ^ 16 = code + 256 * dom := by
    rw [hd, hrd, hregs _ (by decide), c.frec_shutOffBegun more hcode hdom]
  have hkept {q : Reg} (hq : q = R.SEQ_POLICY ∨ q = R.SEQ_RCOUNT) : b.rd q = c.rd q := by
    rw [hregs _ (by rcases hq with rfl | rfl <;> decide), c.rd_shutOffBegun_of_kept _ _ _ hq]
  refine ⟨fun x hx => ?_, ?_, ?_, ?_, ?_, ?_, ?_⟩
  · rw [hd, hdoms, hoff x (by revert x; decide)]
  · rw [hd, hrd, hregs _ (by decide), c.rd_shutOffBegun _ _ _ (by decide), Chip.rd_wr_self]
    rfl
  · simp only [Chip.rfld, fld]
    omega
  · simp only [Chip.rfld, fld]
    omega
  · rw [hd, hfn]
    have hfn' := congrArg SeqSt.fnDrive hseq
    rw [show b.seq.fnDrive = (c.shutOffBegun code dom more).seq.fnDrive from hfn']
    by_cases h3 : code = 3 <;> simp [Chip.shutOffBegun, h3]
  · rw [hd, hengine, Chip.rfld, Chip.rfld, hkept (.inl rfl), hkept (.inr rfl)]
    rfl
  · rw [hd, hfrozen]
    have hfrozen' := congrArg SeqSt.frozen hseq
    exact hfrozen'

/-! ### The end of BLANK (R421) -/

/-- While WRD is not OFF, the end of BLANK without PG is a shut-off, after which no LOAD_MAIN goes on. -/
theorem loadGoOn_blankExpire {c : Chip} {x : Nat} (hwrd : (c.dom dWRD).state ≠ 0) (hstate : (c.dom x).state = 3) (hpg : (c.dom x).pg = false) :
    (c.blankExpire x).loadGoOn = c.faultShutoff 1 x 0 := by
  have hblank : c.blankExpire x = c.faultShutoff 1 x 0 := (if_neg (not_not.2 hstate)).trans (if_neg (Bool.eq_false_iff.1 hpg))
  have hoff : ((c.faultShutoff 1 x 0).dom dCPU).state = 0 := by
    rw [Chip.faultShutoff_of_on hwrd, (Chip.engineAfter_eq _).1, ((c.shutOffBegun 1 x 0).allOff_spec domains).1 dCPU (by decide)]
  rw [hblank, Chip.loadGoOn]
  split
  · rw [hoff]
    rfl
  · rfl

/-- WRD is OFF while CPU is ON and CH0 in BLANK without PG, and a LOAD_MAIN waits. No run reaches it; the statement quantifies over
every state. -/
def blankWithoutWrd : State := ⟨[], { seq := { doms := [(dCPU, { state := 4 }), (5, { state := 3 })] }, mode := { loadMain := some 16 } }⟩

/-- Refutes O37: with WRD OFF the shut-off at the end of BLANK does nothing, and the waiting LOAD_MAIN ends. -/
theorem not_faultShutOff : ¬ Obligations.FaultShutOff := by
  intro h
  obtain ⟨-, -, -, -, -, -, -, -, hblank, -⟩ := h.2 blankWithoutWrd 0 5
  obtain ⟨d, hd, -, hshut⟩ := hblank (by decide) (by decide)
  have hends : (match exec (.seqBlankExpire 5) blankWithoutWrd with | .next d => d.chip.mode.loadMain | _ => some 0) = none := by decide
  rw [hd] at hends
  have hwaits : d.chip.mode.loadMain = some 16 := (congrArg (fun c => c.mode.loadMain) hshut).trans (by decide)
  exact absurd (hends.symm.trans hwaits) (by decide)

end Sys2Proof.Machine
end

section
/-!
PROOFS. The sequencer's timers and the restart engine (09 R409, R421, R428, R440 to R448).
-/
namespace Sys2Proof.Machine

/-! ### The end of CPU's BLANK (R421, 21 R968) -/

/-- WRD is ON and CPU in BLANK with PG high; a LOAD_MAIN of thread 16 waits, and the boot slot holds no image. -/
def loadWithoutImage : State :=
  ⟨[], { regs := [(R.SYS_BOOT.addr, 0), (R.SEQ_EN.addr, 3)]
         seq := { doms := [(dWRD, { state := 4, passed := true, pg := true }), (dCPU, { state := 3, pg := true })] }
         mode := { loadMain := some 16 } }⟩

/-- Refutes O38: the end of CPU's BLANK lets LOAD_MAIN go on; its slot fails the check, CPU's intent is cleared, and the domain stops. -/
theorem not_sequencerTimers : ¬ Obligations.SequencerTimers := by
  intro h
  obtain ⟨-, -, hblank, -⟩ := h loadWithoutImage 1 0
  obtain ⟨d, hd, -, ⟨hon, -⟩, -⟩ := hblank (by decide) (by decide) rfl (by decide +kernel)
  have hstops : (match exec (.seqBlankExpire 1) loadWithoutImage with | .next d => (d.chip.dom 1).state | _ => 4) = 6 := by decide +kernel
  rw [hd] at hstops
  exact absurd (hstops.symm.trans (congrArg DomSt.state hon)) (by decide)

/-! ### A blank that hides the sequencer -/

/-- A blank that hides of the level rules the domains at most. -/
structure SeqBlank (blank : Chip → Chip) : Prop where
  put : ∀ x j p h e, blank (x.putLevels j p h e) = (blank x).putLevels j p h e
  jtag : ∀ x, (blank x).jtag = x.jtag
  peb : ∀ x, (blank x).peb = x.peb
  hif : ∀ x, (blank x).hif = x.hif
  ent : ∀ x, (blank x).ent = x.ent
  shadow : ∀ x, (blank x).nvm.shadow = x.nvm.shadow
  power : ∀ x, (blank x).mode.power = x.mode.power

/-- The level rules at the end of a command that changes nothing they read, the domains among it. -/
theorem Chip.Moved.keeps_of_doms {c d : Chip} {rs : List Reg} {blank : Chip → Chip} (h : c.Moved d rs blank)
    (hrs : ∀ r ∈ levelRegs, ∀ x ∈ rs, r.addr ≠ x.addr) (hb : SeqBlank blank) (hdoms : d.seq.doms = c.seq.doms) : c.Keeps d.settle rs blank := by
  have hl : c.SameLevels d :=
    { jtag := by simpa only [hb.jtag] using congrArg Chip.jtag h.2
      peb := by simpa only [hb.peb] using congrArg Chip.peb h.2
      hif := by simpa only [hb.hif] using congrArg Chip.hif h.2
      ent := by simpa only [hb.ent] using congrArg Chip.ent h.2
      doms := hdoms
      shadow := by simpa only [hb.shadow] using congrArg (fun x => x.nvm.shadow) h.2
      power := by simpa only [hb.power] using congrArg (fun x => x.mode.power) h.2
      regs := fun r hr => h.1 r (hrs r hr) }
  exact h.keeps_of_sameLevels hl (f := (·.putLevels c.settle.jtag c.settle.peb c.settle.hif c.settle.ent)) (fun x => hb.put x _ _ _ _)

theorem seqBlank_seq : SeqBlank (fun d => { d with seq := {} }) :=
  ⟨fun _ _ _ _ _ => rfl, fun _ => rfl, fun _ => rfl, fun _ => rfl, fun _ => rfl, fun _ => rfl, fun _ => rfl⟩

theorem seqBlank_seqLed : SeqBlank (fun d => { d with seq := {}, led := {} }) :=
  ⟨fun _ _ _ _ _ => rfl, fun _ => rfl, fun _ => rfl, fun _ => rfl, fun _ => rfl, fun _ => rfl, fun _ => rfl⟩

theorem seqBlank_seqLedThreads : SeqBlank (fun d => { d with seq := {}, led := {}, threads := [] }) :=
  ⟨fun _ _ _ _ _ => rfl, fun _ => rfl, fun _ => rfl, fun _ => rfl, fun _ => rfl, fun _ => rfl, fun _ => rfl⟩

/-! ### The restart engine -/

/-- WAIT_HIGH leads to BACKOFF (R440). -/
theorem waitHighDone_of_cool {c : Chip} (hwait : c.seq.engine = .waitHigh) (hfn : c.seq.fnDrive = false) (hhot : c.seq.hot = false)
    (hdirect : c.seq.direct = false) : c.waitHighDone = { c with seq := { c.seq with fnLow := false, engine := .backoff } } := by
  simp [Chip.waitHighDone, hwait, hfn, hhot, hdirect]

theorem Chip.seq_stageHw (c : Chip) (object old new cause : Nat) : (c.stageHw object old new cause).seq = c.seq := by
  rw [Chip.stageHw_eq]

theorem Chip.seq_event (c : Chip) (k : Nat) (r : Reg) (bits : Nat) : (c.event k r bits).seq = c.seq := by
  rw [Chip.event_eq]

/-- WRD starts with the die cool. -/
theorem startWrd_of_cool {c : Chip} (hhot : c.seq.hot = false) (kind : Nat) :
    let e := (c.setDom dWRD { state := 1 }).wr R.SYS_RSTREC_KIND kind
    c.startWrd kind = { e with seq := { e.seq with engine := .idle }, chg := { e.chg with fetUv := false }, mode := { e.mode with power := 0 } } :=
  if_neg (Bool.eq_false_iff.1 hhot)

/-- The backoff's end counts the restart, logs it and starts WRD (R440). -/
theorem does_backoffExpire {s : State} (hback : s.chip.seq.engine = .backoff) (hhot : s.chip.seq.hot = false) (hfree : s.chip.entry 14 = none) :
    let n := min 7 (s.chip.rfld R.SEQ_RCOUNT 0 3 + 1)
    Does .restartBackoffExpire s (fun d => (d.dom dWRD).state = 1 ∧ d.seq.engine = .idle ∧ d.rd R.SEQ_RCOUNT = n ∧ d.rd R.SYS_RSTREC_KIND = 2 ∧
      d.Recorded 0x4000 0 0 (cause 0x19 n) ∧ d.mem = s.chip.mem ∧ d.threads = s.chip.threads) := by
  intro n
  have hend : s.chip.backoffEnd = (((s.chip.wr R.SEQ_RCOUNT n).stageHw 0x4000 0 0 (cause 0x19 n)).startWrd 2) := if_pos hback
  have hseq := Chip.seq_stageHw (s.chip.wr R.SEQ_RCOUNT n) 0x4000 0 0 (cause 0x19 n)
  have hrecorded := Chip.recorded_stageHw (c := s.chip.wr R.SEQ_RCOUNT n) hfree 0x4000 0 0 (cause 0x19 n)
  have hcount : ((s.chip.wr R.SEQ_RCOUNT n).stageHw 0x4000 0 0 (cause 0x19 n)).rd R.SEQ_RCOUNT = n := by
    rw [Chip.rd_stageHw _ _ _ _ _ (by decide) (by decide), Chip.rd_wr_self]
    exact Nat.mod_eq_of_lt (lt_of_le_of_lt (min_le_left 7 _) (by decide))
  have hmem := congrArg Chip.mem (Chip.stageHw_eq (s.chip.wr R.SEQ_RCOUNT n) 0x4000 0 0 (cause 0x19 n))
  have hthreads := congrArg Chip.threads (Chip.stageHw_eq (s.chip.wr R.SEQ_RCOUNT n) 0x4000 0 0 (cause 0x19 n))
  generalize (s.chip.wr R.SEQ_RCOUNT n).stageHw 0x4000 0 0 (cause 0x19 n) = b at *
  have hstart := startWrd_of_cool (c := b) ((congrArg SeqSt.hot hseq).trans hhot) 2
  have hdom : ((b.setDom dWRD { state := 1 }).dom dWRD).state = 1 := by rw [Chip.dom_setDom_self]
  have hkind : ((b.setDom dWRD { state := 1 }).wr R.SYS_RSTREC_KIND 2).rd R.SYS_RSTREC_KIND = 2 := Chip.rd_wr_self _ _ _
  have hcount' : ((b.setDom dWRD { state := 1 }).wr R.SYS_RSTREC_KIND 2).rd R.SEQ_RCOUNT = n := by
    rw [Chip.rd_wr_other _ _ _ _ (by decide), Chip.rd_setDom_shutOff _ _ _ (by decide), hcount]
  exact does_of_lift (show exec .restartBackoffExpire s = execRestartBackoffExpire s from rfl) (hend.trans hstart)
    ⟨hdom, rfl, hcount', hkind, hrecorded, hmem, hthreads⟩

/-- SEQ_NEED of domain `x` is known to be bad. -/
def Chip.needBad (c : Chip) (x : Nat) : Chip := { c with seq := { c.seq with parBad := c.seq.parBad ++ [2 * x] } }

/-- Starts and stops are held. -/
def Chip.freeze (c : Chip) : Chip := { c with seq := { c.seq with frozen := true } }

/-- A parity error of a need while no domain starts or stops freezes the sequencer (R446 to R448). -/
theorem parityError_of_still {c : Chip} {x : Nat} (hnew : c.seq.parBad.contains (2 * x) = false)
    (hstill : domains.all (fun y => (c.dom y).state == 0 || (c.dom y).state == 4) = true) :
    c.parityError x false = (((c.needBad x).stageHw (0x4000 + x) 0 0 (cause 9 x)).event 4 R.SEQ_PARERR (2 ^ x)).freeze := by
  let e := ((c.needBad x).stageHw (0x4000 + x) 0 0 (cause 9 x)).event 4 R.SEQ_PARERR (2 ^ x)
  have hseq : e.seq = (c.needBad x).seq := (Chip.seq_event _ _ _ _).trans (Chip.seq_stageHw _ _ _ _ _)
  have hmoving : domains.any (fun y => !((e.dom y).state == 0 || (e.dom y).state == 4)) = false := by
    have hdom (y : Nat) : e.dom y = c.dom y := by
      rw [Chip.dom, hseq]
      rfl
    simp only [hdom]
    rw [← List.not_all_eq_any_not, hstill]
    rfl
  exact (if_neg (by rw [show b2n false = 0 from rfl, Nat.add_zero, hnew]; exact Bool.false_ne_true)).trans (if_neg (Bool.eq_false_iff.1 hmoving))

/-- The sequencer's freeze (R448). -/
theorem does_parityError {s : State} {x : Fin 13} (hnew : s.chip.seq.parBad.contains (2 * x.val) = false)
    (hstill : domains.all (fun y => (s.chip.dom y).state == 0 || (s.chip.dom y).state == 4) = true) (hfree : s.chip.entry 14 = none) :
    Does (.seqParityError x false) s (fun d => d.seq = { s.chip.seq with parBad := s.chip.seq.parBad ++ [2 * x.val], frozen := true } ∧
      bit (d.rd R.SEQ_PARERR) x = true ∧ d.Recorded (0x4000 + x) 0 0 (cause 9 x) ∧ s.chip.Rings d ∧
      s.chip.Keeps d (R.SEQ_PARERR :: R.DOORBELL_OVF :: ledgerRegs) (fun d => { d with seq := {}, led := {}, threads := [] })) := by
  have hparity := parityError_of_still hnew hstill
  have hrecorded := Chip.recorded_stageHw (c := s.chip.needBad x) hfree (0x4000 + x) 0 0 (cause 9 x)
  have hmoved : s.chip.Moved ((s.chip.needBad x).stageHw (0x4000 + x) 0 0 (cause 9 x)) (R.SEQ_PARERR :: R.DOORBELL_OVF :: ledgerRegs)
      (fun d => { d with seq := {}, led := {}, threads := [] }) := by
    have hput : s.chip.Moved (s.chip.needBad x) (R.SEQ_PARERR :: R.DOORBELL_OVF :: ledgerRegs) (fun d => { d with seq := {}, led := {}, threads := [] }) :=
      (Chip.Moved.refl s.chip _ _).put rfl rfl
    exact hput.stageHw (by decide) (by decide) (fun _ _ => rfl) _ _ _ _
  have hseq : ((s.chip.needBad x).stageHw (0x4000 + x) 0 0 (cause 9 x)).seq = (s.chip.needBad x).seq := Chip.seq_stageHw _ _ _ _ _
  have hthreads : ((s.chip.needBad x).stageHw (0x4000 + x) 0 0 (cause 9 x)).threads = s.chip.threads := by
    rw [Chip.stageHw_eq]
    rfl
  generalize (s.chip.needBad x).stageHw (0x4000 + x) 0 0 (cause 9 x) = e at *
  have hbit := Chip.rbit_event e 4 R.SEQ_PARERR (2 ^ x.val) (i := x) (by simp only [R.SEQ_PARERR]; omega) (by decide)
  have hrings := (Chip.Rings.of_threads hthreads).trans (e.rings_event 4 R.SEQ_PARERR (2 ^ x.val))
  have hled : (e.event 4 R.SEQ_PARERR (2 ^ x.val)).led = e.led := by
    rw [Chip.event_eq]
  have hmoved' := hmoved.event (r := R.SEQ_PARERR) (by decide) (by decide) (fun _ _ => rfl) 4 (2 ^ x.val)
  have hseq' := (Chip.seq_event e 4 R.SEQ_PARERR (2 ^ x.val)).trans hseq
  generalize e.event 4 R.SEQ_PARERR (2 ^ x.val) = d at *
  have hfrozen : s.chip.Moved d.freeze (R.SEQ_PARERR :: R.DOORBELL_OVF :: ledgerRegs)
      (fun d => { d with seq := {}, led := {}, threads := [] }) := hmoved'.put rfl rfl
  refine does_of_lift (show exec (.seqParityError x false) s = execSeqParityError x false s from rfl) hparity ⟨?_, ?_, ?_, hrings, ?_⟩
  · exact congrArg (fun q : SeqSt => { q with frozen := true }) hseq'
  · rw [bit_eq_testBit (2 ^ x.val), Nat.testBit_two_pow_self, Bool.or_true] at hbit
    exact hbit
  · obtain ⟨f, hf, hrest⟩ := hrecorded
    refine ⟨f, ?_, hrest⟩
    rw [← hf, Chip.entry, Chip.entry]
    exact congrArg (fun l => FMap.get none l.staging 14) hled
  · have hdoms := congrArg SeqSt.doms hseq'
    exact hfrozen.keeps_of_doms (by decide) seqBlank_seqLedThreads hdoms

/-- LATCHED ends after the long wait: the count clears and FAULT_N is waited for again (R444). -/
theorem does_longwaitExpire {s : State} (hlatched : s.chip.seq.engine = .latched) (hwait : s.chip.rd R.SEQ_LONGWAIT ≠ 0)
    (hfree : s.chip.entry 14 = none) : Does .latchedLongwaitExpire s (fun d => d.rd R.SEQ_RCOUNT = 0 ∧ d.Recorded 0x4000 0 0 (cause 0x19 0) ∧
      d.seq = { s.chip.seq with engine := .waitHigh, direct := true, kind := 3 } ∧
      s.chip.Keeps d (R.SEQ_RCOUNT :: ledgerRegs) (fun d => { d with seq := {}, led := {} })) := by
  have hrecorded := Chip.recorded_stageHw hfree 0x4000 0 0 (cause 0x19 0)
  have hmoved : s.chip.Moved (s.chip.stageHw 0x4000 0 0 (cause 0x19 0)) (R.SEQ_RCOUNT :: ledgerRegs) (fun d => { d with seq := {}, led := {} }) :=
    (Chip.Moved.refl s.chip _ _).stageHw (by decide) (by decide) (fun _ _ => rfl) _ _ _ _
  have hseq := s.chip.seq_stageHw 0x4000 0 0 (cause 0x19 0)
  generalize he : s.chip.stageHw 0x4000 0 0 (cause 0x19 0) = e at *
  have hend : s.chip.Moved e.latchEnd (R.SEQ_RCOUNT :: ledgerRegs) (fun d => { d with seq := {}, led := {} }) :=
    (hmoved.wr (r := R.SEQ_RCOUNT) (by simp) 0).put rfl rfl
  have hdoms := congrArg SeqSt.doms hseq
  have hcount : e.latchEnd.rd R.SEQ_RCOUNT = 0 := Chip.rd_wr_self e R.SEQ_RCOUNT 0
  have hengine : e.latchEnd.seq = { s.chip.seq with engine := .waitHigh, direct := true, kind := 3 } := by
    rw [← hseq]
    rfl
  exact does_of_lift (show exec .latchedLongwaitExpire s = execLatchedLongwaitExpire s from rfl)
    ((if_pos ⟨hlatched, hwait⟩).trans (congrArg Chip.latchEnd he)) ⟨hcount, hrecorded, hengine, hend.keeps_of_doms (by decide) seqBlank_seqLed hdoms⟩

/-- Settles O39. -/
theorem restartEngine : Obligations.RestartEngine := by
  intro s x c n
  refine ⟨?_, fun hwait hfn hhot hdirect => ?_, does_backoffExpire, fun hup => ?_, does_longwaitExpire, does_parityError⟩
  · have hmoved : c.Moved { c with seq := { c.seq with fnDrive := false } } [] (fun d => { d with seq := {} }) := (Chip.Moved.refl c _ _).put rfl rfl
    exact does_of_lift (show exec .faultNHoldEnd s = execFaultNHoldEnd s from rfl) rfl ⟨rfl, hmoved.keeps_of_doms (by simp) seqBlank_seq rfl⟩
  · have hmoved : c.Moved { c with seq := { c.seq with fnLow := false, engine := .backoff } } [] (fun d => { d with seq := {} }) :=
      (Chip.Moved.refl c _ _).put rfl rfl
    exact does_of_lift (show exec .restartWaitHighDone s = execRestartWaitHighDone s from rfl) (waitHighDone_of_cool hwait hfn hhot hdirect)
      ⟨rfl, hmoved.keeps_of_doms (by simp) seqBlank_seq rfl⟩
  · have hmoved : c.Moved (c.wr R.SEQ_RCOUNT 0) [R.SEQ_RCOUNT] id := (Chip.Moved.refl c _ _).wr (by simp) 0
    exact does_of_lift (show exec .restartStable s = execRestartStable s from rfl) (if_pos hup)
      ⟨Chip.rd_wr_self c R.SEQ_RCOUNT 0, hmoved.keeps (by decide) levelBlank_id⟩

end Sys2Proof.Machine
end

section
/-!
PROOFS. One cycle of a core: idle, filled, or a bundle of one move between cells (04 R138, R159, R165, 11 R522, R523).
-/
namespace Sys2Proof.Machine

/-- A move from a cell to a cell that always takes place (04 R136). -/
structure Move.BetweenCells (m : Move) (j : Nat) : Prop where
  guard : m.guard = 0
  src : m.src = some j
  srcCell : j < 0x20
  dstCell : m.dst < 0x20

section
variable {m : Move} {j : Nat} (hm : m.BetweenCells j)
include hm

theorem triggerOf_of_cells : triggerOf m.dst = none := if_neg (fun h => absurd h.1 (by have := hm.dstCell; omega))

theorem srcEffect_of_cells (c : Chip) (t : Nat) : c.srcEffect t j = c := by
  have hj := hm.srcCell
  rw [Chip.srcEffect, if_neg (by omega), if_neg (by omega)]

theorem readMoves_of_cells (c : Chip) (t : Nat) : c.readMoves t [m] = (c, [(m, (FMap.get 0 (c.thr t).cells j).toNat)]) := by
  have hbyte : c.srcByte t j = (FMap.get 0 (c.thr t).cells j).toNat := if_pos hm.srcCell
  simp only [Chip.readMoves, hm.guard, hm.src, guardHolds, if_true, srcEffect_of_cells hm, hbyte]

theorem land_of_cells (x : ThreadSt) (warden : Bool) (b : Byte) :
    x.land warden m b.toNat = { x with cells := FMap.set 0 x.cells m.dst b } := by
  rw [ThreadSt.land, triggerOf_of_cells hm, hm.src]
  simp only [Option.isSome_none, Option.isSome_some, Bool.false_eq_true, if_false, if_true, ThreadSt.putByte, if_pos hm.dstCell,
    BitVec.ofNat_toNat, BitVec.setWidth_eq]

theorem triggers_of_cells (c : Chip) (t v : Nat) : c.triggers t [(m, v)] = { chip := c } := by
  have hnone := triggerOf_of_cells hm
  simp [Chip.triggers, hnone, TrigRes.trigger]

theorem privClear_of_cells (c : Chip) (t v : Nat) : c.privClear t [(m, v)] = c := by
  have hdst : (m.dst == 0xC1) = false := beq_eq_false_iff_ne.2 (by have := hm.dstCell; omega)
  simp [Chip.privClear, hdst]

/-- The bundle moves one cell's byte and goes on at the next index. -/
theorem runBundle_of_cells {c : Chip} {t w : Nat} (hgood : bundleWrong w t (c.isPriv t) (c.thr t).guards = none) (hmoves : bundleMoves w = [m])
    (hy : bit w 62 = false) : c.runBundle t w =
      (((c.updThr t ThreadSt.passLater).updThr t (fun x => { x with cells := FMap.set 0 x.cells m.dst (FMap.get 0 (c.thr t).cells j) })).updThr t
        (fun x => { x with pc := (c.thr t).pc + 1 }), [(m, (FMap.get 0 (c.thr t).cells j).toNat)]) := by
  have hcells : ((c.updThr t ThreadSt.passLater).thr t).cells = (c.thr t).cells := by
    rw [Chip.thr_updThr_self]
    rfl
  simp only [Chip.runBundle, hgood, hmoves, readMoves_of_cells hm, hcells, List.foldl_cons, List.foldl_nil, land_of_cells hm,
    triggers_of_cells hm, privClear_of_cells hm, hy, Option.getD_none, Bool.false_eq_true, if_false]

end

/-- The thread after the bundle (R138, R165). -/
def Chip.CellMoved (c d : Chip) (t : Nat) (m : Move) (j : Nat) : Prop :=
  FMap.get 0 (d.thr t).cells m.dst = FMap.get 0 (c.thr t).cells j ∧
  (∀ i, i ≠ m.dst → FMap.get 0 (d.thr t).cells i = FMap.get 0 (c.thr t).cells i) ∧
  { d.thr t with cells := [], pc := 0, units := [] } = { c.thr t with cells := [], pc := 0, units := [] } ∧ (d.thr t).pc = (c.thr t).pc + 1 ∧
  ∀ r, r ≠ t → d.thr r = c.thr r

theorem onlyThreads_updThr {c d : Chip} (h : ∃ l, d = { c with threads := l }) (t : Nat) (f : ThreadSt → ThreadSt) :
    ∃ l, d.updThr t f = { c with threads := l } := by
  obtain ⟨l, rfl⟩ := h
  exact ⟨_, rfl⟩

theorem cellMoved_runBundle {m : Move} {j : Nat} (hm : m.BetweenCells j) {c : Chip} {t w : Nat}
    (hgood : bundleWrong w t (c.isPriv t) (c.thr t).guards = none) (hmoves : bundleMoves w = [m]) (hy : bit w 62 = false) :
    c.CellMoved (c.runBundle t w).1 t m j ∧ ∃ l, (c.runBundle t w).1 = { c with threads := l } := by
  rw [runBundle_of_cells hm hgood hmoves hy]
  refine ⟨⟨?_, fun i hi => ?_, ?_, ?_, fun r hr => ?_⟩, ?_⟩
  · rw [Chip.thr_updThr_self, Chip.thr_updThr_self]
    exact FMap.get_set_self _ _ _ _
  · rw [Chip.thr_updThr_self, Chip.thr_updThr_self, Chip.thr_updThr_self]
    exact FMap.get_set_other _ _ _ _ _ _ hi
  · rw [Chip.thr_updThr_self, Chip.thr_updThr_self, Chip.thr_updThr_self]
    rfl
  · rw [Chip.thr_updThr_self]
  · rw [Chip.thr_updThr_other _ _ _ _ hr, Chip.thr_updThr_other _ _ _ _ hr, Chip.thr_updThr_other _ _ _ _ hr]
  · dsimp only
    refine onlyThreads_updThr ?_ t _
    refine onlyThreads_updThr ?_ t _
    exact onlyThreads_updThr ⟨c.threads, rfl⟩ t _

theorem levelBlank_cores : LevelBlank (fun d => { d with cores := [], cap := {} }) :=
  ⟨fun _ _ _ _ _ => rfl, fun _ => rfl, fun _ => rfl, fun _ => rfl, fun _ => rfl, fun _ => rfl, fun _ => rfl, fun _ => rfl⟩

theorem fillcnt_not_level (k : Fin 3) : ∀ r ∈ levelRegs, ∀ x ∈ [R.MP_FILLCNT k], r.addr ≠ x.addr := by revert k; decide

theorem levelBlank_issue : LevelBlank (fun d => { d with cores := [], threads := [], cap := {} }) :=
  ⟨fun _ _ _ _ _ => rfl, fun _ => rfl, fun _ => rfl, fun _ => rfl, fun _ => rfl, fun _ => rfl, fun _ => rfl, fun _ => rfl⟩

section
variable {s : State} {k : Fin 3} {l : Lockstep} (hruns : s.chip.coreRuns k = true)
include hruns

theorem issue_of_none (hnone : s.chip.nextThread k = none) : s.chip.issue k l = s.chip.cycle k := by
  simp only [Chip.issue, hruns, hnone, Bool.not_true, Bool.false_eq_true, if_false]

theorem does_idle (hnone : s.chip.nextThread k = none) : Does (.bundleIssue k l) s (fun d =>
    s.chip.OnlyCore d k (fun x => { x with cyc := x.cyc + 1 }) ∧ d.threads = s.chip.threads ∧ s.chip.SameOutside d) := by
  refine does_of_lift (show exec (.bundleIssue k l) s = execBundleIssue k l s from rfl) (issue_of_none hruns hnone) ⟨⟨fun j hj => ?_, ?_⟩, rfl, ?_⟩
  · rw [Chip.core_settle, Chip.cycle, Chip.core_updCore_other _ _ _ _ hj]
  · rw [Chip.core_settle, Chip.cycle, Chip.core_updCore_self]
  · exact ⟨rfl, rfl, rfl, rfl, rfl, rfl, rfl, rfl, rfl, rfl, rfl, rfl, rfl, rfl, rfl, rfl, rfl, rfl, rfl, rfl, rfl, rfl, rfl⟩

theorem does_filler {f : Fin 2} (hf : f.val = k.val) (hnone : s.chip.nextThread k = none) (hdue : s.chip.fillerDue k = true) :
    Does (.fillerIssue f) s (fun d => s.chip.OnlyCore d k (fun x => { x with cyc := x.cyc + 1 }) ∧ d.threads = s.chip.threads ∧
      d.rd (R.MP_FILLCNT k) = (s.chip.rd (R.MP_FILLCNT k) + 1) % 256 ^ (R.MP_FILLCNT k).width ∧
      d.mp k = { s.chip.mp k with filler := (s.chip.mp k).filler + 1 } ∧
      s.chip.Keeps d [R.MP_FILLCNT k] (fun d => { d with cores := [], cap := {} })) := by
  let e := (s.chip.cycle k).wr (R.MP_FILLCNT k) (s.chip.rd (R.MP_FILLCNT k) + 1)
  have hfill : s.chip.filler f.val = e.setMp k { e.mp k with filler := (e.mp k).filler + 1 } := by
    rw [hf]
    refine if_pos ?_
    rw [hruns, hnone, hdue]
    rfl
  have hmoved : s.chip.Moved e [R.MP_FILLCNT k] (fun d => { d with cores := [], cap := {} }) := by
    have hcycle : s.chip.Moved (s.chip.cycle k) [R.MP_FILLCNT k] (fun d => { d with cores := [], cap := {} }) := (Chip.Moved.refl _ _ _).put rfl rfl
    exact hcycle.wr (by simp) _
  have hmoved' : s.chip.Moved (e.setMp k { e.mp k with filler := (e.mp k).filler + 1 }) [R.MP_FILLCNT k] (fun d => { d with cores := [], cap := {} }) :=
    hmoved.put rfl rfl
  have hcount : (e.setMp k { e.mp k with filler := (e.mp k).filler + 1 }).rd (R.MP_FILLCNT k) =
      (s.chip.rd (R.MP_FILLCNT k) + 1) % 256 ^ (R.MP_FILLCNT k).width := Chip.rd_wr_self (s.chip.cycle k) _ _
  have hmp : (e.setMp k { e.mp k with filler := (e.mp k).filler + 1 }).mp k = { s.chip.mp k with filler := (s.chip.mp k).filler + 1 } :=
    Chip.mp_setMp_self _ _ _
  refine does_of_lift (show exec (.fillerIssue f) s = execFillerIssue f s from rfl) hfill ⟨⟨fun j hj => ?_, ?_⟩, rfl, hcount, hmp, ?_⟩
  · exact Chip.core_updCore_other s.chip k j (fun x => { x with cyc := x.cyc + 1 }) hj
  · exact Chip.core_updCore_self s.chip k (fun x => { x with cyc := x.cyc + 1 })
  · exact hmoved'.keeps (fillcnt_not_level k) levelBlank_cores

end

/-- A Warden bundle of a move between cells has no outgoing action: it is released whatever the comparison says (08 R359). -/
theorem wardenBundle_of_cells {m : Move} {j : Nat} (hm : m.BetweenCells j) {c : Chip} {t w : Nat}
    (hgood : bundleWrong w t (c.isPriv t) (c.thr t).guards = none) (hmoves : bundleMoves w = [m]) (hy : bit w 62 = false) (l : Lockstep) :
    c.wardenBundle t w l = (c.runBundle t w).1.updCore 2 (fun x => { x with cyc := x.cyc + 1, last := t - 16 }) := by
  have hnone := triggerOf_of_cells hm
  have hstores : (bundleMoves w).any (fun m => triggerOf m.dst == some uLSU) = false := by simp [hmoves, hnone]
  have hout (d : Chip) : d.outgoing t (c.runBundle t w).2 = (false, false) := by
    rw [runBundle_of_cells hm hgood hmoves hy]
    simp [Chip.outgoing, hnone]
  simp only [Chip.wardenBundle, hstores, hout, Bool.false_and, Bool.false_eq_true, if_false]

/-- A main core's cycle with a real bundle (R522). -/
def Chip.countReal (c : Chip) (k last : Nat) : Chip :=
  let d := c.updCore k (fun x => { x with cyc := x.cyc + 1, last := last })
  d.setMp k { d.mp k with real := (d.mp k).real + 1 }

theorem Chip.countReal_spec (c : Chip) (k last : Nat) : ((c.countReal k last).core k).cyc = (c.core k).cyc + 1 ∧
    ((c.countReal k last).mp k).real = (c.mp k).real + 1 ∧
    c.Moved (c.countReal k last) [] (fun d => { d with cores := [], threads := [], cap := {} }) := by
  have hcore := Chip.core_updCore_self c k (fun x => { x with cyc := x.cyc + 1, last := last })
  have hmp := Chip.mp_setMp_self (c.updCore k (fun x => { x with cyc := x.cyc + 1, last := last })) k
    { c.mp k with real := (c.mp k).real + 1 }
  exact ⟨congrArg CoreSt.cyc hcore, congrArg MpCore.real hmp, (Chip.Moved.refl _ _ _).put rfl rfl⟩

/-- A bundle of one move between cells (R138, R522). -/
theorem does_cellMove {s : State} {k : Fin 3} {l : Lockstep} {t : Thread} {b : Bundle} {m : Move} {j : Nat} (hruns : s.chip.coreRuns k = true)
    (hnext : s.chip.nextThread k = some t.val) (hcore : coreOf t = k.val) (hfetch : s.chip.fetch t = some b)
    (hgood : bundleWrong b.toNat t (s.chip.isPriv t) (s.chip.thr t).guards = none) (hmoves : bundleMoves b.toNat = [m]) (hm : m.BetweenCells j)
    (hy : bit b.toNat 62 = false) :
    Does (.bundleIssue k l) s (fun d => s.chip.CellMoved d t m j ∧ (d.core k).cyc = (s.chip.core k).cyc + 1 ∧
      (k ≠ 2 → (d.mp k).real = (s.chip.mp k).real + 1) ∧ s.chip.Keeps d [] (fun d => { d with cores := [], threads := [], cap := {} })) := by
  obtain ⟨hmove, l', hthreads⟩ := cellMoved_runBundle hm hgood hmoves hy
  have hmoved : s.chip.Moved (s.chip.runBundle t b.toNat).1 [] (fun d => { d with cores := [], threads := [], cap := {} }) := by
    rw [hthreads]
    exact (Chip.Moved.refl _ _ _).put rfl rfl
  have hcoreEq : (s.chip.runBundle t b.toNat).1.core k = s.chip.core k := by
    rw [hthreads]
    rfl
  have hmpEq : (s.chip.runBundle t b.toNat).1.mp k = s.chip.mp k := by
    rw [hthreads]
    rfl
  have hissue : s.chip.issue k l = if isWarden t then s.chip.wardenBundle t b.toNat l else s.chip.mainBundle t b.toNat := by
    simp only [Chip.issue, hruns, hnext, hfetch, Bool.not_true, Bool.false_eq_true, if_false]
  by_cases hwarden : isWarden t = true
  · have hk : k = 2 := by
      have h16 : 16 ≤ t.val := of_decide_eq_true hwarden
      have := k.isLt
      exact Fin.ext (by simp only [coreOf] at hcore; omega)
    have hrelease := wardenBundle_of_cells hm hgood hmoves hy l
    generalize (s.chip.runBundle t b.toNat).1 = e at *
    refine does_of_lift (show exec (.bundleIssue k l) s = execBundleIssue k l s from rfl) ((hissue.trans (if_pos hwarden)).trans hrelease)
      ⟨hmove, ?_, fun hne => absurd hk hne, ?_⟩
    · rw [hk] at hcoreEq ⊢
      rw [Chip.core_settle, show ((2 : Fin 3) : Nat) = 2 from rfl, Chip.core_updCore_self, show e.core 2 = s.chip.core 2 from hcoreEq]
    · exact Chip.Moved.keeps (hmoved.put rfl rfl) (by simp) levelBlank_issue
  · have hmain : s.chip.mainBundle t b.toNat = (s.chip.runBundle t b.toNat).1.countReal k (t.val % 8) := by
      rw [Chip.mainBundle, hcore]
      rfl
    generalize (s.chip.runBundle t b.toNat).1 = e at *
    obtain ⟨hcyc, hreal, hmoved'⟩ := e.countReal_spec k (t.val % 8)
    have hthr (r : Nat) : (e.countReal k (t.val % 8)).thr r = e.thr r := rfl
    generalize e.countReal k (t.val % 8) = d at *
    refine does_of_lift (show exec (.bundleIssue k l) s = execBundleIssue k l s from rfl) ((hissue.trans (if_neg hwarden)).trans hmain) ⟨?_, ?_, ?_, ?_⟩
    · simpa only [Chip.CellMoved, Chip.thr_settle, hthr] using hmove
    · rw [Chip.core_settle, hcyc, hcoreEq]
    · intro _
      rw [show d.settle.mp k = d.mp k from rfl, hreal, hmpEq]
    · exact (hmoved.trans hmoved').keeps (by simp) levelBlank_issue

/-- Settles O40. -/
theorem coreCycles : Obligations.CoreCycles := by
  intro s k l t b m j hruns c x
  refine ⟨fun hnone => does_idle hruns hnone, fun f hf hnone hdue => does_filler hruns hf hnone hdue,
    fun hnext hcore hfetch hgood hmoves hguard hsrc hj hdst hy => ?_⟩
  obtain ⟨d, hd, hpending, ⟨hset, hcells, hrest, hpc, hother⟩, hcyc, hreal, hkeeps⟩ :=
    does_cellMove (l := l) hruns hnext hcore hfetch hgood hmoves ⟨hguard, hsrc, hj, hdst⟩ hy
  exact ⟨d, hd, hpending, hset, hcells, hrest, hpc, hother, hcyc, hreal, hkeeps⟩

end Sys2Proof.Machine
end

section
/-!
PROOFS. The Warden's comparator: mismatch, rollback, checkpoint and exercise (08 R360 to R380).
-/
namespace Sys2Proof.Machine

/-! ### Where the level rules end alike -/

/-- The level rules leave in `d` what they leave in `c`. -/
def Chip.EndsAlike (c d : Chip) : Prop := d.settle = d.putLevels c.settle.jtag c.settle.peb c.settle.hif c.settle.ent

section
variable {c d e : Chip}

theorem Chip.SameLevels.endsAlike (h : c.SameLevels d) : c.EndsAlike d := h.settle_eq

theorem Chip.EndsAlike.trans (h : c.EndsAlike d) (h' : d.EndsAlike e) : c.EndsAlike e := by
  unfold Chip.EndsAlike at h h' ⊢
  rw [h', h]
  rfl

/-- Of WDN_STATUS the level rules read the policy bit alone. -/
theorem Chip.endsAlike_status {v : Nat} (hv : bit v 2 = c.rbit R.WDN_STATUS 2) : c.EndsAlike (c.wr R.WDN_STATUS v) := by
  have hpolicy : (c.wr R.WDN_STATUS v).rbit R.WDN_STATUS 2 = c.rbit R.WDN_STATUS 2 := by
    rw [Chip.rbit, Chip.rd_wr_self, bit_mod_256_pow v (by decide), hv]
  have hother {r : Reg} (hr : r.addr ≠ R.WDN_STATUS.addr) : (c.wr R.WDN_STATUS v).rd r = c.rd r := Chip.rd_wr_other _ _ _ _ hr
  have hactive (i : Nat) : (c.wr R.WDN_STATUS v).pebActive i = c.pebActive i := by
    unfold Chip.pebActive Chip.pebUnlocked Chip.fuseUnlock Chip.fieldDebugBlown Chip.policyFailed Chip.policyOn
    rw [hpolicy, Chip.rbit, Chip.rfld, hother (by decide), hother (by decide)]
    rfl
  have hbank : (c.wr R.WDN_STATUS v).bankGood 0 = c.bankGood 0 := by
    unfold Chip.bankGood Chip.rbit
    rw [hother (by decide)]
  have hent : (c.wr R.WDN_STATUS v).entState = c.entState := by
    unfold Chip.entState Chip.rfld
    rw [hother (by decide)]
  unfold Chip.EndsAlike Chip.settle Chip.putLevels
  simp only [hactive, hbank, hent]
  rfl

theorem Chip.Moved.keeps_of_endsAlike {rs : List Reg} {blank : Chip → Chip} (h : c.Moved d rs blank) (hl : c.EndsAlike d) {f : Chip → Chip}
    (hput : ∀ x : Chip, blank (x.putLevels c.settle.jtag c.settle.peb c.settle.hif c.settle.ent) = f (blank x)) : c.Keeps d.settle rs blank := by
  refine ⟨h.1, ?_⟩
  have hd : { d.settle with regs := [] } = Chip.putLevels { d with regs := [] } c.settle.jtag c.settle.peb c.settle.hif c.settle.ent := by
    rw [hl]
    rfl
  have hc : { c.settle with regs := [] } = Chip.putLevels { c with regs := [] } c.settle.jtag c.settle.peb c.settle.hif c.settle.ent := rfl
  rw [hd, hc, hput, hput, h.2]

end

theorem Chip.endsAlike_event (c : Chip) (k : Nat) {r : Reg} (hr : ∀ q ∈ levelRegs, ∀ x ∈ [r, R.DOORBELL_OVF], q.addr ≠ x.addr) (bits : Nat) :
    c.EndsAlike (c.event k r bits) :=
  (((Chip.Moved.refl c [r, R.DOORBELL_OVF] Chip.noThreads).event (by simp) (by simp) (fun _ _ => rfl) k bits).sameLevels hr
    levelBlank_noThreads).endsAlike

/-! ### A failed exercise (R374, R375) -/

/-- A chip without its Warden state, modes and threads. -/
def Chip.noWarden (c : Chip) : Chip := { c with wdn := {}, mode := {}, threads := [] }

/-- A CHECKED Warden enters UNCHECKED. -/
theorem Chip.exFail_spec {c : Chip} (hchecked : c.wdnState = 0) :
    (c.exFail 4).wdnState = 1 ∧ bit ((c.exFail 4).rd R.WDN_EVENT) 2 = true ∧ bit ((c.exFail 4).rd R.WDN_EVENT) 4 = true ∧ c.Rings (c.exFail 4) ∧
      c.EndsAlike (c.exFail 4) ∧ c.Moved (c.exFail 4) [R.WDN_STATUS, R.WDN_EVENT, R.DOORBELL_OVF] Chip.noWarden := by
  let b : Chip := { c with mode := { c.mode with exDue := false } }
  have hb : c.Moved b [R.WDN_STATUS, R.WDN_EVENT, R.DOORBELL_OVF] Chip.noWarden := (Chip.Moved.refl c _ _).put rfl rfl
  have hbend : c.EndsAlike b := rfl
  have hbrings : c.Rings b := Chip.Rings.refl c
  have hfail : c.exFail 4 = (b.event 3 R.WDN_EVENT 4).enterUnchecked := rfl
  have hbstate : b.rfld R.WDN_STATUS 0 2 = 0 := hchecked
  rw [hfail]
  generalize b = b at *
  have hmoved := hb.event (r := R.WDN_EVENT) (by simp) (by simp) (fun _ _ => rfl) 3 4
  have hend := hbend.trans (b.endsAlike_event 3 (r := R.WDN_EVENT) (by decide) 4)
  have hrings := hbrings.trans (b.rings_event 3 R.WDN_EVENT 4)
  have hstate : (b.event 3 R.WDN_EVENT 4).wdnState = 0 := by
    rw [Chip.wdnState, Chip.rfld, Chip.rd_event_other _ _ _ _ (by decide) (by decide)]
    exact hbstate
  have hbit : (b.event 3 R.WDN_EVENT 4).rbit R.WDN_EVENT 2 = true := by
    rw [Chip.rbit_event _ _ _ _ (by decide) (by decide)]
    exact Bool.or_true _
  generalize b.event 3 R.WDN_EVENT 4 = e at *
  have hunchecked : e.enterUnchecked = (e.wfld R.WDN_STATUS 0 2 1).event 3 R.WDN_EVENT 0x10 := if_pos hstate
  have hstatus : e.EndsAlike (e.wfld R.WDN_STATUS 0 2 1) := by
    refine Chip.endsAlike_status ?_
    rw [bit_putFld, if_neg (by decide)]
    rfl
  have hone : (e.wfld R.WDN_STATUS 0 2 1).rfld R.WDN_STATUS 0 2 = 1 := Chip.rfld_wfld_self _ 1 (by decide)
  have hbit' : (e.wfld R.WDN_STATUS 0 2 1).rbit R.WDN_EVENT 2 = true := by
    rw [Chip.rbit, Chip.wfld, Chip.rd_wr_other _ _ _ _ (by decide)]
    exact hbit
  have hmoved' := hmoved.wfld (r := R.WDN_STATUS) (by simp) 0 2 1
  have hrings' : c.Rings (e.wfld R.WDN_STATUS 0 2 1) := hrings
  rw [hunchecked]
  generalize e.wfld R.WDN_STATUS 0 2 1 = f at *
  refine ⟨?_, ?_, ?_, hrings'.trans (f.rings_event _ _ _), (hend.trans hstatus).trans (f.endsAlike_event 3 (by decide) _),
    hmoved'.event (by simp) (by simp) (fun _ _ => rfl) _ _⟩
  · rw [Chip.wdnState, Chip.rfld, Chip.rd_event_other _ _ _ _ (by decide) (by decide)]
    exact hone
  · have h := Chip.rbit_event f 3 R.WDN_EVENT 0x10 (i := 2) (by decide) (by decide)
    rw [hbit'] at h
    exact h
  · have h := Chip.rbit_event f 3 R.WDN_EVENT 0x10 (i := 4) (by decide) (by decide)
    rw [show bit 0x10 4 = true from by decide, Bool.or_true] at h
    exact h

theorem does_exFail {s : State} {i : Instr} {f : Chip → Chip} {b : Chip} (he : exec i s = s.lift f) (hf : f s.chip = b.exFail 4)
    (hchecked : s.chip.wdnState = 0) (hb : b = { s.chip with wdn := b.wdn }) :
    Does i s (fun d => d.wdnState = 1 ∧ bit (d.rd R.WDN_EVENT) 2 = true ∧ bit (d.rd R.WDN_EVENT) 4 = true ∧ s.chip.Rings d ∧
      s.chip.Keeps d [R.WDN_STATUS, R.WDN_EVENT, R.DOORBELL_OVF] (fun d => { d with wdn := {}, mode := {}, threads := [] })) := by
  have hmoved : s.chip.Moved b [R.WDN_STATUS, R.WDN_EVENT, R.DOORBELL_OVF] Chip.noWarden := by
    rw [hb]
    exact (Chip.Moved.refl _ _ _).put rfl rfl
  have hend : s.chip.EndsAlike b := by
    rw [hb]
    rfl
  have hrings : s.chip.Rings b := by
    rw [hb]
    exact Chip.Rings.refl _
  have hstate : b.wdnState = 0 := by
    rw [hb]
    exact hchecked
  obtain ⟨hone, h2, h4, hrings', hend', hmoved'⟩ := Chip.exFail_spec hstate
  generalize b.exFail 4 = d at *
  exact does_of_lift he hf ⟨hone, h2, h4, hrings.trans hrings', (hmoved.trans hmoved').keeps_of_endsAlike (hend.trans hend')
    (f := fun x => x.putLevels s.chip.settle.jtag s.chip.settle.peb s.chip.settle.hif s.chip.settle.ent) (fun _ => rfl)⟩

/-! ### Rollback, checkpoint and a passed exercise -/

theorem FMap.get_foldl_set {α : Type} [DecidableEq α] (d : α) (f : Nat → α) (l : List Nat) (m : FMap α) (k : Nat) :
    FMap.get d (l.foldl (fun m t => FMap.set d m t (f t)) m) k = if k ∈ l then f k else FMap.get d m k := by
  induction l generalizing m with
  | nil => rfl
  | cons r l ih =>
    rw [List.foldl_cons, ih]
    by_cases hl : k ∈ l
    · rw [if_pos hl, if_pos (List.mem_cons_of_mem _ hl)]
    · rw [if_neg hl]
      by_cases hkr : k = r
      · rw [hkr, FMap.get_set_self, if_pos (List.mem_cons_self ..)]
      · rw [FMap.get_set_other _ _ _ _ _ _ hkr, if_neg (by simp [hkr, hl])]

theorem Chip.setThrs_eq (f : Nat → ThreadSt) (l : List Nat) (c : Chip) :
    l.foldl (fun c t => c.setThr t (f t)) c = { c with threads := l.foldl (fun m t => FMap.set {} m t (f t)) c.threads } := by
  induction l generalizing c with
  | nil => rfl
  | cons r l ih => exact ih (c.setThr r (f r))

theorem levelBlank_rollback : LevelBlank (fun d => { d with wdn := {}, mem := {}, threads := [] }) :=
  ⟨fun _ _ _ _ _ => rfl, fun _ => rfl, fun _ => rfl, fun _ => rfl, fun _ => rfl, fun _ => rfl, fun _ => rfl, fun _ => rfl⟩

theorem levelBlank_checkpoint : LevelBlank (fun d => { d with wdn := {}, cores := [] }) :=
  ⟨fun _ _ _ _ _ => rfl, fun _ => rfl, fun _ => rfl, fun _ => rfl, fun _ => rfl, fun _ => rfl, fun _ => rfl, fun _ => rfl⟩

/-- The chip a rollback restores the threads on (R365). -/
def Chip.undone (c : Chip) : Chip :=
  { c with mem := { c.mem with wdmem := c.wdn.undo.foldl (fun m e => Mem.writeN 0 m e.1 e.2) c.mem.wdmem }
           wdn := { c.wdn with undo := [], rollback := false } }

theorem does_rollbackDone {s : State} (hroll : s.chip.wdn.rollback = true) :
    Does .wardenRollbackDone s (fun d => (∀ t ∈ wardenThreads, d.thr t = FMap.get {} s.chip.wdn.saved t) ∧ (∀ t < 16, d.thr t = s.chip.thr t) ∧
      d.wdn = { s.chip.wdn with undo := [], rollback := false } ∧
      d.mem = { s.chip.mem with wdmem := s.chip.wdn.undo.foldl (fun m e => Mem.writeN 0 m e.1 e.2) s.chip.mem.wdmem } ∧
      s.chip.Keeps d [] (fun d => { d with wdn := {}, mem := {}, threads := [] })) := by
  have hback : s.chip.rollback = wardenThreads.foldl (fun c t => c.setThr t (FMap.get {} s.chip.wdn.saved t)) s.chip.undone := rfl
  have hthr := FMap.get_foldl_set {} (fun t => FMap.get {} s.chip.wdn.saved t) wardenThreads s.chip.threads
  rw [Chip.setThrs_eq] at hback
  generalize hm : wardenThreads.foldl (fun m t => FMap.set {} m t (FMap.get {} s.chip.wdn.saved t)) s.chip.threads = m at *
  have hmoved : s.chip.Moved { s.chip.undone with threads := m } [] (fun d => { d with wdn := {}, mem := {}, threads := [] }) :=
    (Chip.Moved.refl _ _ _).put rfl rfl
  refine does_of_lift (show exec .wardenRollbackDone s = execWardenRollbackDone s from rfl) (((if_pos hroll).trans hback).trans (congrArg (fun m => { s.chip.undone with threads := m }) hm))
    ⟨fun t ht => ?_, fun t ht => ?_, rfl, rfl, hmoved.keeps (by simp) levelBlank_rollback⟩
  · exact (hthr t).trans (if_pos ht)
  · exact (hthr t).trans (if_neg (fun hw => by simp [wardenThreads] at hw; omega))

theorem get_savedThreads (c : Chip) : ∀ t ∈ wardenThreads, FMap.get {} (c.checkpoint).wdn.saved t = c.thr t := fun t ht =>
  (FMap.get_foldl_set {} (fun t => c.thr t) wardenThreads [] t).trans (if_pos ht)

theorem does_checkpoint {s : State} (hruns : s.chip.exRuns = true) (hroll : s.chip.wdn.rollback = false) :
    Does .wardenCheckpoint s (fun d => (∀ t ∈ wardenThreads, FMap.get {} d.wdn.saved t = s.chip.thr t) ∧ d.wdn.undo = [] ∧
      s.chip.OnlyCore d 2 (fun x => { x with cyc := x.cyc + 1 }) ∧ s.chip.Keeps d [] (fun d => { d with wdn := {}, cores := [] })) := by
  have hmoved : s.chip.Moved s.chip.checkpointCycle [] (fun d => { d with wdn := {}, cores := [] }) := (Chip.Moved.refl _ _ _).put rfl rfl
  have hdo : (if s.chip.exRuns && !s.chip.wdn.rollback then s.chip.checkpointCycle else s.chip) = s.chip.checkpointCycle := if_pos (by rw [hruns, hroll]; rfl)
  refine does_of_lift (show exec .wardenCheckpoint s = execWardenCheckpoint s from rfl) hdo ⟨get_savedThreads s.chip, rfl, ⟨fun j hj => ?_, ?_⟩,
    hmoved.keeps (by simp) levelBlank_checkpoint⟩
  · exact Chip.core_updCore_other s.chip.checkpoint 2 j (fun x => { x with cyc := x.cyc + 1 }) hj
  · exact Chip.core_updCore_self s.chip.checkpoint 2 (fun x => { x with cyc := x.cyc + 1 })

theorem Chip.Moved.keeps_wardenMode {c d : Chip} {rs : List Reg} (h : c.Moved d rs (fun d => { d with wdn := {}, mode := {} }))
    (hrs : ∀ r ∈ levelRegs, ∀ x ∈ rs, r.addr ≠ x.addr) (hpower : d.mode.power = c.mode.power) :
    c.Keeps d.settle rs (fun d => { d with wdn := {}, mode := {} }) :=
  h.keeps_of_sameLevels
    { jtag := h.field (f := Chip.jtag) (fun _ => rfl), peb := h.field (f := Chip.peb) (fun _ => rfl), hif := h.field (f := Chip.hif) (fun _ => rfl)
      ent := h.field (f := Chip.ent) (fun _ => rfl), doms := h.field (f := fun x => x.seq.doms) (fun _ => rfl)
      shadow := h.field (f := fun x => x.nvm.shadow) (fun _ => rfl), power := hpower, regs := fun r hr => h.1 r (hrs r hr) }
    (f := fun x => x.putLevels c.settle.jtag c.settle.peb c.settle.hif c.settle.ent) (fun _ => rfl)

theorem does_exercisePass {s : State} (hruns : s.chip.exRuns = true) (hchecked : s.chip.wdnState = 0) :
    Does (.comparatorExercise 2) s (fun d => d.rd R.WDN_EXCNT = (s.chip.rd R.WDN_EXCNT + 1) % 256 ^ R.WDN_EXCNT.width ∧
      d.wdn = { s.chip.wdn with exBit := s.chip.wdn.exBit + 1 } ∧ d.mode = { s.chip.mode with exDue := false } ∧
      s.chip.Keeps d [R.WDN_EXCNT] (fun d => { d with wdn := {}, mode := {} })) := by
  let e : Chip := { s.chip.wr R.WDN_EXCNT (s.chip.rd R.WDN_EXCNT + 1) with wdn := { s.chip.wdn with exBit := s.chip.wdn.exBit + 1 }, mode := { s.chip.mode with exDue := false } }
  have hstate : e.wdnState = 0 := by
    rw [Chip.wdnState, Chip.rfld, show e.rd R.WDN_STATUS = s.chip.rd R.WDN_STATUS from Chip.rd_wr_other s.chip _ _ _ (by decide)]
    exact hchecked
  have hpass : s.chip.exercise (2 : BitVec 2).toNat = e := by
    have hnot : ¬ (!s.chip.exRuns) = true := by rw [hruns]; exact Bool.false_ne_true
    exact (if_neg hnot).trans ((if_pos rfl).trans (if_neg (fun h => absurd (hstate.symm.trans h) (by decide))))
  have hmoved : s.chip.Moved e [R.WDN_EXCNT] (fun d => { d with wdn := {}, mode := {} }) := by
    have hwr : s.chip.Moved (s.chip.wr R.WDN_EXCNT (s.chip.rd R.WDN_EXCNT + 1)) [R.WDN_EXCNT] (fun d => { d with wdn := {}, mode := {} }) :=
      (Chip.Moved.refl s.chip _ _).wr (by simp) _
    exact hwr.put rfl rfl
  have hcount : e.rd R.WDN_EXCNT = (s.chip.rd R.WDN_EXCNT + 1) % 256 ^ R.WDN_EXCNT.width := Chip.rd_wr_self s.chip _ _
  exact does_of_lift (show exec (.comparatorExercise 2) s = execComparatorExercise 2 s from rfl) hpass
    ⟨hcount, rfl, rfl, hmoved.keeps_wardenMode (by decide) rfl⟩

/-- R363, R365, R372 to R378. -/
theorem wardenChecks : Parts.WardenChecks := by
  intro s c
  refine ⟨does_rollbackDone, does_checkpoint, fun hruns hchecked => ⟨does_exercisePass hruns hchecked, fun i hi => ?_⟩⟩
  have hnot : ¬ (!c.exRuns) = true := by rw [hruns]; exact Bool.false_ne_true
  rcases List.mem_cons.1 hi with rfl | hi
  · let b : Chip := { c with wdn := { c.wdn with exBit := c.wdn.exBit + 1 } }
    have hfail : c.exercise (1 : BitVec 2).toNat = b.exFail 4 := (if_neg hnot).trans (if_neg (by decide))
    exact does_exFail (show exec (.comparatorExercise 1) s = execComparatorExercise 1 s from rfl) hfail hchecked rfl
  · rw [List.mem_singleton.1 hi]
    exact does_exFail (show exec .exerciseMissing s = execExerciseMissing s from rfl) (if_pos hruns) hchecked rfl

/-! ### A mismatch (R360 to R362, R365, R380) -/

/-- With the reserved entry 14 free, the action of any origin stands there. -/
theorem Chip.recorded_stageHwAs {c : Chip} (h : c.entry 14 = none) (origin object old new cause : Nat) :
    (c.stageHwAs origin object old new cause).Recorded object old new cause := by
  unfold Chip.stageHwAs
  rw [Chip.freeEntry_14 h]
  obtain ⟨f, hf, hobject, hold, hnew, hcause, houtcome, _, _⟩ :=
    c.entry_putEntry_self 14 { origin := origin, object := object, old := old, new := new, outcome := 5, cause := cause }
  exact ⟨f, hf, hobject, hold, hnew, hcause, houtcome⟩

/-- A chip whose first mismatch has been counted, logged and signalled. -/
def Chip.mismatched (c : Chip) : Chip := ((c.inc R.WDN_MMCNT).stageHwAs 1 0x4000 0 0 (cause 0x11 1)).event 3 R.WDN_EVENT 1

theorem wdnMismatch_of_first {c : Chip} (hfirst : c.wdn.mmTimes = []) :
    c.wdnMismatch 1 = { c.mismatched with wdn := { c.mismatched.wdn with mmTimes := [c.phw.tick], rollback := true } } := by
  simp only [Chip.wdnMismatch, hfirst]
  rfl

/-- What the count, the log and the signal of a mismatch touch. -/
def mismatchRegs : List Reg := R.WDN_MMCNT :: R.WDN_EVENT :: R.DOORBELL_OVF :: ledgerRegs
def Chip.mismatchBlank (c : Chip) : Chip := { c with wdn := {}, led := {}, cores := [], threads := [] }

theorem levelBlank_mismatch : LevelBlank Chip.mismatchBlank :=
  ⟨fun _ _ _ _ _ => rfl, fun _ => rfl, fun _ => rfl, fun _ => rfl, fun _ => rfl, fun _ => rfl, fun _ => rfl, fun _ => rfl⟩

theorem Chip.mismatched_spec {c : Chip} (hfree : c.entry 14 = none) (hcnt : c.rd R.WDN_MMCNT < 255) :
    c.mismatched.wdn = c.wdn ∧ c.mismatched.cores = c.cores ∧ c.mismatched.rd R.WDN_MMCNT = c.rd R.WDN_MMCNT + 1 ∧
      bit (c.mismatched.rd R.WDN_EVENT) 0 = true ∧ c.mismatched.Recorded 0x4000 0 0 (cause 0x11 1) ∧ c.Rings c.mismatched ∧
      c.Moved c.mismatched mismatchRegs Chip.mismatchBlank := by
  have hinc : (c.inc R.WDN_MMCNT).rd R.WDN_MMCNT = c.rd R.WDN_MMCNT + 1 := by
    rw [Chip.inc, Chip.rd_wr_self, show R.WDN_MMCNT.width = 2 from rfl, satInc, if_pos (by omega)]
    exact Nat.mod_eq_of_lt (by omega)
  have hmoved : c.Moved (c.inc R.WDN_MMCNT) mismatchRegs Chip.mismatchBlank := (Chip.Moved.refl _ _ _).inc (by decide)
  have hfree' : (c.inc R.WDN_MMCNT).entry 14 = none := hfree
  have hrings : c.Rings (c.inc R.WDN_MMCNT) := Chip.Rings.refl c
  have hwdn : (c.inc R.WDN_MMCNT).wdn = c.wdn := rfl
  have hcores : (c.inc R.WDN_MMCNT).cores = c.cores := rfl
  unfold Chip.mismatched
  generalize c.inc R.WDN_MMCNT = b at *
  have hrecorded := Chip.recorded_stageHwAs hfree' 1 0x4000 0 0 (cause 0x11 1)
  have hmoved' := hmoved.stageHwAs (by decide) (by decide) (fun _ _ => rfl) 1 0x4000 0 0 (cause 0x11 1)
  have hcount : (b.stageHwAs 1 0x4000 0 0 (cause 0x11 1)).rd R.WDN_MMCNT = c.rd R.WDN_MMCNT + 1 := by
    rw [Chip.rd_stageHwAs _ _ _ _ _ _ (by decide) (by decide), hinc]
  have hstage := b.stageHwAs_eq 1 0x4000 0 0 (cause 0x11 1)
  generalize b.stageHwAs 1 0x4000 0 0 (cause 0x11 1) = e at *
  have hevent := e.event_eq 3 R.WDN_EVENT 1
  have hwdn' : (e.event 3 R.WDN_EVENT 1).wdn = c.wdn := by
    rw [hevent, ← hwdn, hstage]
  have hcores' : (e.event 3 R.WDN_EVENT 1).cores = c.cores := by
    rw [hevent, ← hcores, hstage]
  have hrings' : c.Rings e := by
    rw [hstage]
    exact hrings
  refine ⟨hwdn', hcores', ?_, ?_, ?_, hrings'.trans (e.rings_event _ _ _), hmoved'.event (by decide) (by decide) (fun _ _ => rfl) _ _⟩
  · rw [Chip.rd_event_other _ _ _ _ (by decide) (by decide), hcount]
  · have h := Chip.rbit_event e 3 R.WDN_EVENT 1 (i := 0) (by decide) (by decide)
    rw [show bit 1 0 = true from by decide, Bool.or_true] at h
    exact h
  · obtain ⟨f, hf, hrest⟩ := hrecorded
    refine ⟨f, ?_, hrest⟩
    rw [hevent]
    exact hf

theorem wardenBundle_of_mismatch {c : Chip} {t w : Nat} (hout : ((c.runBundle t w).1.outgoing t (c.runBundle t w).2).1 = true)
    (hstores : (bundleMoves w).any (fun m => triggerOf m.dst == some uLSU) = false) : c.wardenBundle t w .mismatch = (c.cycle 2).wdnMismatch 1 := by
  simp only [Chip.wardenBundle, hstores, hout, Bool.false_eq_true, if_false]
  rfl

/-- R360 to R365, R380. -/
theorem mismatchRollsBack : Parts.MismatchRollsBack := by
  intro s t b hruns c r hnext ht hfetch hout hstores hfirst hfree hcnt
  have hissue : c.issue 2 .mismatch = (c.cycle 2).wdnMismatch 1 := by
    have hbundle : c.issue 2 .mismatch = c.wardenBundle t b.toNat .mismatch := by
      simp only [Chip.issue, c, hruns, hnext, hfetch, isWarden, ht, decide_true, Bool.not_true, Bool.false_eq_true, if_false, if_true]
    exact hbundle.trans (wardenBundle_of_mismatch hout hstores)
  have hmm := hissue.trans (wdnMismatch_of_first (c := c.cycle 2) hfirst)
  have hcycle : c.Moved (c.cycle 2) mismatchRegs Chip.mismatchBlank := (Chip.Moved.refl _ _ _).put rfl rfl
  have hself : (c.cycle 2).core 2 = _ := Chip.core_updCore_self c 2 (fun x => { x with cyc := x.cyc + 1 })
  have hother (j : Nat) (hj : j ≠ 2) : (c.cycle 2).core j = c.core j := Chip.core_updCore_other c 2 j (fun x => { x with cyc := x.cyc + 1 }) hj
  obtain ⟨hwdn, hcores, hcount, hevent, hrecorded, hrings, hmoved⟩ := (c.cycle 2).mismatched_spec hfree hcnt
  generalize (c.cycle 2).mismatched = d at *
  have hcore (j : Nat) : d.core j = (c.cycle 2).core j := by
    unfold Chip.core
    rw [hcores]
  have hmoved' : (c.cycle 2).Moved { d with wdn := { d.wdn with mmTimes := [c.phw.tick], rollback := true } } mismatchRegs Chip.mismatchBlank :=
    hmoved.put rfl rfl
  refine does_of_lift (show exec (.bundleIssue 2 .mismatch) s = execBundleIssue 2 .mismatch s from rfl) hmm
    ⟨congrArg (fun w : WdnSt => { w with mmTimes := [c.phw.tick], rollback := true }) hwdn, hcount, hevent, hrecorded, hrings, ⟨fun j hj => ?_, ?_⟩,
      (hcycle.trans hmoved').keeps (by decide) levelBlank_mismatch⟩
  · exact (hcore j).trans (hother j hj)
  · exact (hcore 2).trans hself

/-- Settles O41. -/
theorem wardenComparison : Obligations.WardenComparison := ⟨mismatchRollsBack, wardenChecks⟩

end Sys2Proof.Machine
end

section
/-!
PROOFS. The Warden's PWR unit (05 R261, R262; 08 R369, R370, R391).
-/
namespace Sys2Proof.Machine

section
variable {s : State} {t : Thread} (ht : 16 ≤ t.val) (hfree : s.chip.Free t uPWR)

/-- On a Warden thread a PWR row is a row (05 R260). -/
theorem lift_pwrRow (ht : 16 ≤ t.val) (code : Nat) (f : Chip → OpRes) :
    s.lift (fun c => c.pwrRow t code f) = s.lift (fun c => c.row t uPWR code f) := by
  have hrow : s.chip.pwrRow t code f = s.chip.row t uPWR code f := if_pos (decide_eq_true ht)
  rw [State.lift, State.lift, hrow]

include ht hfree

/-- A PWR row that leaves a result, with or without ERR, and nothing else. -/
theorem unitDone_of_pwrRow {i : Instr} {code q fl lat : Nat} {err : Bool} {f : Chip → OpRes} (hq : q < 2 ^ 32) (hfl : fl < 2 ^ 8)
    (he : exec i s = s.lift (fun c => c.pwrRow t code f))
    (hf : f (s.chip.selectOp t uPWR code) = ((s.chip.selectOp t uPWR code).finish t uPWR q fl err lat, none)) : UnitDone i s t uPWR q fl :=
  unitDone_of_finish s i t uPWR code q fl err lat hfree.2 hq hfl (exec_of_row hfree (he.trans (lift_pwrRow ht code f)) hf)

/-- pcmd with a status other than 0 changes nothing but its unit. -/
theorem unitDone_of_refused {status : Nat} (hlast : s.chip.rd R.WDN_LASTCOMMIT < 2 ^ 16) (hstatus : 0 < status ∧ status < 2 ^ 16)
    (hpcmd : (s.chip.selectOp t uPWR 0).pcmd (s.chip.unit t uPWR).a.toNat (fld (s.chip.unit t uPWR).b.toNat 0 16) =
      (s.chip.selectOp t uPWR 0, status)) : UnitDone (.pcmd t) s t uPWR (status + 65536 * s.chip.rd R.WDN_LASTCOMMIT) 1 := by
  refine unitDone_of_pwrRow ht hfree (by omega) (by decide) (show exec (.pcmd t) s = execPcmd t s from rfl) (err := true) (lat := 2) ?_
  have hne : (status != 0) = true := bne_iff_ne.2 (by omega)
  simp only [pcmdOp, Chip.unit_selectOp, UnitSt.select_a, UnitSt.select_b, hpcmd, hne]
  rfl

end

theorem pgMask_lt (c : Chip) : c.pgMask < 2 ^ 13 := by
  have hb (b : Bool) : b2n b ≤ 1 := by cases b <;> decide
  have h (x : Nat) := hb (c.dom x).pg
  have h0 := h 0; have h1 := h 1; have h2 := h 2; have h3 := h 3; have h4 := h 4; have h5 := h 5; have h6 := h 6
  have h7 := h 7; have h8 := h 8; have h9 := h 9; have h10 := h 10; have h11 := h 11; have h12 := h 12
  simp only [Chip.pgMask, domains, List.foldl]
  omega

theorem serialAfter_16 {x y : Nat} (hy : y < 2 ^ 16) :
    serialAfter 16 x y = true ↔ 0 < (x + 2 ^ 16 - y) % 2 ^ 16 ∧ (x + 2 ^ 16 - y) % 2 ^ 16 < 2 ^ 15 := by
  rw [serialAfter, Nat.mod_eq_of_lt hy]
  simp

/-- phold is accepted in every state but LOST (R377). -/
theorem does_phold {s : State} {t : Thread} (ht : 16 ≤ t.val) (hfree : s.chip.Free t uPWR) (hlost : s.chip.wdnState ≠ 2) :
    Does (.phold t) s (fun d => d.wdn = { s.chip.wdn with phold := true } ∧ s.chip.OnlyUnit d t uPWR ∧
      s.chip.SameOutside { d with wdn := s.chip.wdn } ∧ d.cores = s.chip.cores) := by
  let h : Chip := { s.chip with wdn := { s.chip.wdn with phold := true } }
  have hheld : pholdOp t (s.chip.selectOp t uPWR 4) = ((h.selectOp t uPWR 4).finish t uPWR 0 0 false 2, none) :=
    congrArg (fun c : Chip => (c.finish t uPWR 0 0 false 2, none)) (if_neg hlost)
  have hexec := exec_of_row hfree ((show exec (.phold t) s = execPhold t s from rfl).trans (lift_pwrRow ht 4 _)) hheld
  have honly : h.OnlyUnit ((h.selectOp t uPWR 4).finish t uPWR 0 0 false 2).settle t uPWR := Chip.onlyUnit_setUnit_setUnit _ _ _ _ _
  have hsame : h.SameButThreads ((h.selectOp t uPWR 4).finish t uPWR 0 0 false 2) := (Chip.sameButThreads_selectOp h t uPWR 4).finish t uPWR 0 0 false 2
  have hout := hsame.sameOutside
  have hcores := hsame.cores
  generalize ((h.selectOp t uPWR 4).finish t uPWR 0 0 false 2).settle = d at *
  obtain ⟨hregs, hlatch, hmem, hwdn, haut, hled, hweir, htln, hseq, hchn, hcap, hsup, hchg, hgau, hphw, hnvm, hsio, hmode, hfr, hjtag, hpeb, hhif, hent⟩ := hout
  exact ⟨_, hexec, rfl, hwdn, honly,
    ⟨hregs, hlatch, hmem, rfl, haut, hled, hweir, htln, hseq, hchn, hcap, hsup, hchg, hgau, hphw, hnvm, hsio, hmode, hfr, hjtag, hpeb, hhif, hent⟩, hcores⟩

/-- The entry of a fresh command for domain 1's intent. -/
def ownEntry (c : Chip) (v num : Nat) : LedEntry := { origin := 1, object := 1, old := c.apValue 1, new := v, oseq := num }

/-- The command logged, committed, and applied to the intent of domain 1 (R391). -/
def Chip.ownIntent (c : Chip) (v num : Nat) : Chip := ((c.putEntry 0 (ownEntry c v num)).commitTo num).wfld R.SEQ_EN 1 1 v

/-- With starts and stops held, a fresh command of the Warden's own for domain 1 sets its intent alone (R391). -/
theorem pcmd_of_fresh {c : Chip} {a num : Nat} (hchecked : c.wdnState = 0) (hfresh : serialAfter 16 num (c.rd R.WDN_LASTCOMMIT) = true)
    (hown : a / 2 ^ 23 % 2 = 0) (hap : a / 2 ^ 16 % 2 ^ 7 = 1) (hv : a % 2 ^ 16 < 2) (hdead : c.exhausted = false) (hentry : c.entry 0 = none)
    (hheld : c.seqHeld = true) : c.pcmd a num = (c.ownIntent (a % 2 ^ 16) num, 0) := by
  have hbit : bit a 23 = false := by rw [bit, hown]; rfl
  have hap' : fld a 16 7 = 1 := hap
  have hv' : fld a 0 16 = a % 2 ^ 16 := by rw [fld, pow_zero, Nat.div_one]
  generalize a % 2 ^ 16 = v at *
  have hfits : apFits 1 v = true := decide_eq_true (by simpa using hv)
  have hfrozen : c.seq.frozen = true ∧ c.mode.power ≠ 4 := by
    have hlost : c.wdnLost = false := by rw [Chip.wdnLost, hchecked]; exact Bool.and_false _
    simpa [Chip.seqHeld, hlost] using hheld
  have hstage := Chip.stageWrite_of_free hdead hentry (ownEntry c v num)
  have hsettle : (c.ownIntent v num).seqSettle = c.ownIntent v num := by
    have hseq : (c.ownIntent v num).seq = c.seq ∧ (c.ownIntent v num).mode = c.mode := by
      rw [Chip.ownIntent, Chip.putEntry_eq]
      exact ⟨rfl, rfl⟩
    refine if_pos ?_
    rw [Chip.seqHeld, hseq.1, hseq.2, hfrozen.1, Bool.true_or, Bool.true_and]
    exact bne_iff_ne.2 hfrozen.2
  have happly : ((c.putEntry 0 (ownEntry c v num)).commitTo num).applyAp 1 v = c.ownIntent v num := hsettle
  have hcmd : c.ownCommand 1 v num = (c.ownIntent v num, 0) := by
    have hstage' : c.stageWrite { origin := 1, object := 1, old := c.apValue 1, new := v, oseq := num } = (c.putEntry 0 (ownEntry c v num), true) := hstage
    rw [Chip.ownCommand, if_neg (by rw [hfits]; exact Bool.false_ne_true), if_neg (fun h => absurd (hchecked.symm.trans h.1) (by decide)), hstage']
    exact congrArg (·, 0) happly
  rw [Chip.pcmd, if_neg (by rw [hchecked]; decide), if_neg (by rw [hfresh]; decide), if_neg (by rw [hbit]; decide), hap', hv', hcmd]

/-- What such a command leaves (R369, R370, R391). -/
theorem Chip.ownIntent_spec (c : Chip) {v num : Nat} (hnum : num < 2 ^ 16) :
    (c.ownIntent v num).rd R.WDN_LASTCOMMIT = num ∧ bit ((c.ownIntent v num).rd R.SEQ_EN) 1 = bit v 0 ∧ (c.ownIntent v num).wdn.phold = false ∧
      (∃ e, (c.ownIntent v num).entry 0 = some e ∧ e.origin = 1 ∧ e.object = 1 ∧ e.new = v ∧ e.outcome = 0 ∧ e.oseq = num) ∧
      (c.ownIntent v num).threads = c.threads ∧ (c.ownIntent v num).cores = c.cores ∧
      c.Moved (c.ownIntent v num) [R.WDN_LASTCOMMIT, R.SEQ_EN, R.LED_NEXTSEQ] (fun d => { d with wdn := {}, led := {}, threads := [] }) := by
  obtain ⟨e, he, hobject, -, hnew, -, houtcome, horigin, hoseq⟩ := c.entry_putEntry_self 0 (ownEntry c v num)
  have hmoved := (Chip.Moved.refl c [R.WDN_LASTCOMMIT, R.SEQ_EN, R.LED_NEXTSEQ] (fun d => { d with wdn := {}, led := {}, threads := [] })).putEntry (by simp)
    (fun _ _ => rfl) 0 (ownEntry c v num)
  have hthreads : (c.putEntry 0 (ownEntry c v num)).threads = c.threads := by
    rw [Chip.putEntry_eq]
  have hcores : (c.putEntry 0 (ownEntry c v num)).cores = c.cores := by
    rw [Chip.putEntry_eq]
  unfold Chip.ownIntent
  generalize c.putEntry 0 (ownEntry c v num) = p at *
  have hcommit : c.Moved (p.commitTo num) [R.WDN_LASTCOMMIT, R.SEQ_EN, R.LED_NEXTSEQ] (fun d => { d with wdn := {}, led := {}, threads := [] }) :=
    (hmoved.wr (r := R.WDN_LASTCOMMIT) (by simp) num).put rfl rfl
  refine ⟨?_, ?_, rfl, ⟨e, he, horigin, hobject, hnew, houtcome, hoseq⟩, hthreads, hcores, hcommit.wfld (by simp) 1 1 v⟩
  · rw [Chip.wfld, Chip.rd_wr_other _ _ _ _ (by decide)]
    exact (Chip.rd_wr_self p R.WDN_LASTCOMMIT num).trans (Nat.mod_eq_of_lt hnum)
  · have h := Chip.rbit_wr (p.commitTo num) (putFld ((p.commitTo num).rd R.SEQ_EN) 1 1 v) (r := R.SEQ_EN) (i := 1) (by decide)
    rw [bit_putFld, if_pos (by decide)] at h
    exact h

theorem Chip.OnlyUnit.of_threads {c d e : Chip} {t u : Nat} (h : c.OnlyUnit d t u) (he : e.threads = d.threads) : c.OnlyUnit e t u := by
  unfold Chip.OnlyUnit Chip.unit Chip.thr at h ⊢
  rw [he]
  exact h

theorem levelBlank_pcmd : LevelBlank (fun d => { d with wdn := {}, led := {}, threads := [] }) :=
  ⟨fun _ _ _ _ _ => rfl, fun _ => rfl, fun _ => rfl, fun _ => rfl, fun _ => rfl, fun _ => rfl, fun _ => rfl, fun _ => rfl⟩

/-- Settles O42. -/
theorem powerUnit : Obligations.PowerUnit := by
  intro s t ht hfree c a num last hlast
  have hnum : num < 2 ^ 16 := Nat.mod_lt _ (by norm_num)
  have hb : fld (s.chip.unit t uPWR).b.toNat 0 16 = num := by rw [fld, pow_zero, Nat.div_one]
  refine ⟨?_, ?_, does_phold ht hfree, fun hlost => ?_, fun _ hstale => ?_, fun hchecked hpos hhalf hown hap hv hdead hentry hheld => ?_⟩
  · exact unitDone_of_pwrRow ht hfree (by omega) (by decide) (show exec (.plast t) s = execPlast t s from rfl) (err := false) (lat := 2) rfl
  · exact unitDone_of_pwrRow ht hfree (lt_trans (pgMask_lt _) (by norm_num)) (by decide) (show exec (.ppg t) s = execPpg t s from rfl)
      (err := false) (lat := 2) rfl
  · exact unitDone_of_refused ht hfree hlast (by decide) (if_pos hlost)
  · refine unitDone_of_refused ht hfree hlast (by decide) ?_
    have hno : (!serialAfter 16 num last) = true := by
      rw [Bool.not_eq_true', Bool.eq_false_iff, Ne, serialAfter_16 hlast]
      omega
    rw [hb, Chip.pcmd, if_neg (by assumption)]
    exact if_pos hno
  · let x := s.chip.selectOp t uPWR 0
    have hfresh : serialAfter 16 num last = true := (serialAfter_16 hlast).2 ⟨hpos, hhalf⟩
    have hpcmd : x.pcmd a num = (x.ownIntent (a % 2 ^ 16) num, 0) := pcmd_of_fresh hchecked hfresh hown hap hv hdead hentry hheld
    obtain ⟨hcommit, hen, hphold, hentry', hthreads, hcores, hmoved⟩ := x.ownIntent_spec (v := a % 2 ^ 16) hnum
    have hop : pcmdOp t x = ((x.ownIntent (a % 2 ^ 16) num).finish t uPWR (65536 * num) 0 false 2, none) := by
      have hunit : x.unit t uPWR = (c.unit t uPWR).select 0 := Chip.unit_selectOp c t uPWR 0
      have hx : x.pcmd (c.unit t uPWR).a.toNat (fld (c.unit t uPWR).b.toNat 0 16) = (x.ownIntent (a % 2 ^ 16) num, 0) := by
        rw [← hpcmd, ← hb]
      simp only [pcmdOp, hunit, UnitSt.select_a, UnitSt.select_b, hx, hcommit, Nat.zero_add]
      rfl
    have hexec := exec_of_row hfree ((show exec (.pcmd t) s = execPcmd t s from rfl).trans (lift_pwrRow ht 0 _)) hop
    have honly : c.OnlyUnit (x.finish t uPWR (65536 * num) 0 false 2).settle t uPWR := Chip.onlyUnit_setUnit_setUnit _ _ _ _ _
    have hx : c.Moved x [R.WDN_LASTCOMMIT, R.SEQ_EN, R.LED_NEXTSEQ] (fun d => { d with wdn := {}, led := {}, threads := [] }) :=
      (Chip.Moved.refl _ _ _).put rfl rfl
    generalize x.ownIntent (a % 2 ^ 16) num = p at *
    have hthreads' : (p.finish t uPWR (65536 * num) 0 false 2).threads = (x.finish t uPWR (65536 * num) 0 false 2).threads := by
      simp only [Chip.finish, Chip.setUnit, Chip.setThr, Chip.unit, Chip.thr, Chip.core, hthreads, hcores]
    have hdone : c.Moved (p.finish t uPWR (65536 * num) 0 false 2) [R.WDN_LASTCOMMIT, R.SEQ_EN, R.LED_NEXTSEQ]
        (fun d => { d with wdn := {}, led := {}, threads := [] }) := (hx.trans hmoved).put rfl rfl
    refine ⟨_, hexec, rfl, ?_, ?_, hcommit, ?_, hphold, hentry', honly.of_threads hthreads', hdone.keeps (by decide) levelBlank_pcmd⟩
    · rw [Chip.unit_settle, Chip.unit_finish, UnitSt.done_q]
    · rw [Chip.unit_settle, Chip.unit_finish, UnitSt.done_fl]
      rfl
    · refine hen.trans ?_
      rw [bit_zero_right, Nat.mod_mod_of_dvd a (by decide)]

end Sys2Proof.Machine
end

section
/-!
PROOFS. MBX, QUE and RNG operations as they retire (05 R254 to R258, 07 R317; 14 R664, R665, R667).
-/
namespace Sys2Proof.Machine

/-- What the retirement of an operation of unit `u` with result `r` leaves: the result in the unit, of the thread the change `g`, and
nothing beside what `r` says of the chip. -/
structure RetiredAs (c : Chip) (t u : Nat) (r : Ret) (g : ThreadSt → ThreadSt) (d : Chip) : Prop where
  unit : d.unit t u = (r.chip.unit t u).retired u r
  only : c.OnlyThr d t u g
  rest : r.chip.SameButThreads d

section
variable {c : Chip} {t u : Nat} {op : LongOp} {r : Ret} {g : ThreadSt → ThreadSt} (ht : t < 16) (htrap : r.trap = none)
  (hhold : (r.chip.thr t).hold = .none) (honly : c.OnlyThr r.chip t u g)
include ht htrap hhold honly

theorem retiredAs_of_free (hu : u ≠ uQUE) : RetiredAs c t u r g (retireWith t u op r) := by
  rw [retireWith_of_free ht hu htrap hhold]
  exact ⟨Chip.unit_setUnit_self _ _ _ _, honly.setUnit _, rfl⟩

end

theorem retiredAs_of_que {c : Chip} {t : Nat} {op : LongOp} {r : Ret} {g : ThreadSt → ThreadSt} (ht : t < 16) (htrap : r.trap = none)
    (hhold : (r.chip.thr t).hold = .none) (honly : c.OnlyThr r.chip t uQUE g) :
    RetiredAs c t uQUE r (fun x => { g x with queDone := true }) (retireWith t uQUE op r) := by
  let d := (r.chip.setUnit t uQUE ((r.chip.unit t uQUE).retired uQUE r)).updThr t (fun x => { x with queDone := true })
  have hport : PortFree (fun x => { x with queDone := true }) := fun _ _ => rfl
  have hd : (d.thr t).hold = .none := by
    rw [Chip.thr_updThr_self, Chip.thr_setUnit_self]
    exact hhold
  have hret : retireWith t uQUE op r = d := by
    simp only [retireWith, Chip.retireSaved_main _ ht, htrap, Option.isNone_none, and_self, if_true]
    exact Chip.holdEnds_of_none _ hd
  rw [hret]
  refine ⟨?_, (honly.setUnit _).updThr hport, rfl⟩
  rw [hport.unit_updThr, Chip.unit_setUnit_self]

section
variable {c d : Chip} {t u : Nat} {r : Ret} {g : ThreadSt → ThreadSt}

theorem RetiredAs.wdn (h : RetiredAs c t u r g d) : d.settle.wdn = r.chip.wdn := by
  rw [h.rest]
  rfl

theorem RetiredAs.mem (h : RetiredAs c t u r g d) : d.settle.mem = r.chip.mem := by
  rw [h.rest]
  rfl

theorem RetiredAs.entries (h : RetiredAs c t u r g d) (q : Nat) : d.settle.entries q = r.chip.entries q := by
  rw [h.rest]
  rfl

end

/-- The results of an operation without an exception. -/
theorem does_of_retiredAs {s : State} {i : Instr} {t u : Nat} {r : Ret} {f : Chip → Chip} {g : ThreadSt → ThreadSt} {d : Chip} {P : Chip → Prop}
    (he : exec i s = s.lift f) (hd : f s.chip = d) (h : RetiredAs s.chip t u r g d) (htrap : r.trap = none) (hP : P d.settle) :
    Does i s (fun d => (d.unit t u).busy = none ∧ (d.unit t u).q = BitVec.ofNat 32 r.q ∧ (d.unit t u).fl = BitVec.ofNat 8 r.fl ∧ P d) := by
  have hunit : d.settle.unit t u = _ := h.unit.trans (UnitSt.retired_of_done _ u htrap)
  refine does_of_lift he hd ⟨?_, ?_, ?_, hP⟩ <;> rw [hunit]

theorem retire_of_busy {c : Chip} {t u : Nat} {op : LongOp} {r : Ret} (hbusy : (c.unit t u).busy = some op) (hdo : c.longDo t u op = some r) :
    c.retire t u = retireWith t u op r := by
  rw [Chip.retire, hbusy]
  simp only [hdo]

/-! ### MBX -/

/-- An MBX operation of a main thread that changes its thread by `g` alone. -/
theorem does_mbxRetire {s : State} {t : Thread} {op : LongOp} {r : Ret} {g : ThreadSt → ThreadSt} {P : Chip → Prop} (ht : t.val < 16) (hbusy : (s.chip.unit t uMBX).busy = some op)
    (hdo : s.chip.mbxDo t op = r) (htrap : r.trap = none) (hhold' : (r.chip.thr t).hold = .none) (honly : s.chip.OnlyThr r.chip t uMBX g)
    (hP : ∀ d, RetiredAs s.chip t uMBX r g d → P d.settle) :
    Does (.longOpRetire t 13) s (fun d => (d.unit t uMBX).busy = none ∧ (d.unit t uMBX).q = BitVec.ofNat 32 r.q ∧
      (d.unit t uMBX).fl = BitVec.ofNat 8 r.fl ∧ P d) := by
  have hret := retiredAs_of_free (op := op) ht htrap hhold' honly (by decide)
  have hlong : s.chip.longDo t uMBX op = some r := congrArg some hdo
  exact does_of_retiredAs (show exec (.longOpRetire t 13) s = execLongOpRetire t 13 s from rfl) (retire_of_busy hbusy hlong) hret htrap (hP _ hret)

/-- What sendw and recv do when they retire (R257, R258). -/
theorem mbxRetires {s : State} {t : Thread} {op : LongOp} {m : Msg} {rest : List Msg} (ht : t.val < 16) (hhold : (s.chip.thr t).hold = .none)
    (hbusy : (s.chip.unit t uMBX).busy = some op) :
    let res (q fl : Nat) (P : Chip → Prop) : Prop := Does (.longOpRetire t 13) s (fun d => (d.unit t uMBX).busy = none ∧
      (d.unit t uMBX).q = BitVec.ofNat 32 q ∧ (d.unit t uMBX).fl = BitVec.ofNat 8 fl ∧ P d)
    (op.code = 0 → s.chip.wdn.inboxSw.length < 32 →
      res 0 0 (fun d => d.wdn = { s.chip.wdn with inboxSw := s.chip.wdn.inboxSw ++ [⟨BitVec.ofNat 8 (op.a.toNat % 128), op.b⟩] } ∧
        s.chip.OnlyThr d t uMBX id)) ∧
    (op.code = 0 → 32 ≤ s.chip.wdn.inboxSw.length → res 1 2 (fun d => d.wdn = s.chip.wdn ∧ s.chip.OnlyThr d t uMBX id)) ∧
    (op.code = 2 → (s.chip.thr t).inbox = m :: rest →
      res m.payload.toNat 0 (fun d => (d.unit t uMBX).src6 = m.kind ∧ s.chip.OnlyThr d t uMBX (fun x => { x with inbox := rest }))) ∧
    (op.code = 2 → (s.chip.thr t).inbox = [] → res 0 1 (fun d => s.chip.OnlyThr d t uMBX id)) := by
  intro res
  have hmain : isWarden t = false := decide_eq_false (by omega)
  refine ⟨fun hcode hroom => ?_, fun hcode hfull => ?_, fun hcode hinbox => ?_, fun hcode hinbox => ?_⟩
  · let r : Ret := { chip := { s.chip with wdn := { s.chip.wdn with inboxSw := s.chip.wdn.inboxSw ++ [⟨BitVec.ofNat 8 (op.a.toNat % 128), op.b⟩] } } }
    have hdo : s.chip.mbxDo t op = r := by
      simp only [Chip.mbxDo, hcode, Chip.sendTo, Chip.toInbox, hroom, if_true]
      rfl
    exact does_mbxRetire (r := r) ht hbusy hdo rfl hhold (Chip.OnlyThr.refl _ _ _) (fun d h => ⟨h.wdn, h.only.settle⟩)
  · let r : Ret := { chip := s.chip, q := 1, fl := 2 }
    have hdo : s.chip.mbxDo t op = r := by
      simp only [Chip.mbxDo, hcode, Chip.sendTo, Chip.toInbox, Nat.not_lt.2 hfull, if_false]
      rfl
    exact does_mbxRetire (r := r) ht hbusy hdo rfl hhold (Chip.OnlyThr.refl _ _ _) (fun d h => ⟨h.wdn, h.only.settle⟩)
  · let r : Ret := { chip := s.chip.updThr t (fun x => { x with inbox := rest }), q := m.payload.toNat, src6 := m.kind.toNat }
    have hdo : s.chip.mbxDo t op = r := by
      simp only [Chip.mbxDo, hcode, Chip.recv, hmain, hinbox, Bool.false_eq_true, if_false]
      rfl
    have honly : s.chip.OnlyThr r.chip t uMBX (fun x => { x with inbox := rest }) := (Chip.OnlyThr.refl _ _ _).updThr (fun _ _ => rfl)
    have hhold' : (r.chip.thr t).hold = .none := by
      rw [Chip.thr_updThr_self]
      exact hhold
    refine does_mbxRetire (r := r) ht hbusy hdo rfl hhold' honly (fun d h => ⟨?_, h.only.settle⟩)
    rw [Chip.unit_settle, h.unit, UnitSt.retired_of_done _ _ rfl]
    exact BitVec.ofNat_toNat _ _
  · let r : Ret := { chip := s.chip, fl := 1 }
    have hdo : s.chip.mbxDo t op = r := by
      simp only [Chip.mbxDo, hcode, Chip.recv, hmain, hinbox, Bool.false_eq_true, if_false]
      rfl
    exact does_mbxRetire (r := r) ht hbusy hdo rfl hhold (Chip.OnlyThr.refl _ _ _) (fun d h => h.only.settle)

/-! ### QUE -/

/-- A QUE operation of a main thread that changes no other thread. -/
theorem does_queRetire {s : State} {t : Thread} {op : LongOp} {r : Ret} {P : Chip → Prop} (ht : t.val < 16) (hhold : (s.chip.thr t).hold = .none)
    (hbusy : (s.chip.unit t uQUE).busy = some op) (hdo : s.chip.queDo t op = r) (htrap : r.trap = none) (hthreads : r.chip.threads = s.chip.threads)
    (hP : ∀ d, RetiredAs s.chip t uQUE r (fun x => { x with queDone := true }) d → P d.settle) :
    Does (.longOpRetire t 9) s (fun d => (d.unit t uQUE).busy = none ∧ (d.unit t uQUE).q = BitVec.ofNat 32 r.q ∧
      (d.unit t uQUE).fl = BitVec.ofNat 8 r.fl ∧ P d) := by
  have hthr (u : Nat) : r.chip.thr u = s.chip.thr u := by
    unfold Chip.thr
    rw [hthreads]
  have honly : s.chip.OnlyThr r.chip t uQUE id := ⟨fun u _ => hthr u, fun v _ => congrArg (fun x => ThreadSt.unit x v) (hthr t),
    congrArg (fun x => { x with units := [] }) (hthr t)⟩
  have hret := retiredAs_of_que (op := op) ht htrap ((congrArg ThreadSt.hold (hthr t)).trans hhold) honly
  have hlong : s.chip.longDo t uQUE op = some r := congrArg some hdo
  exact does_of_retiredAs (show exec (.longOpRetire t 9) s = execLongOpRetire t 9 s from rfl) (retire_of_busy hbusy hlong) hret htrap (hP _ hret)

theorem Chip.entries_setEntries_self (c : Chip) (q : Nat) (l : List WeirEntry) : (c.setEntries q l).entries q = l := FMap.get_set_self _ _ _ _

theorem Chip.entries_setEntries_other (c : Chip) (q p : Nat) (l : List WeirEntry) (h : p ≠ q) : (c.setEntries q l).entries p = c.entries p :=
  FMap.get_set_other _ _ _ _ _ _ h

/-- Bringing a queue's record in line changes the records alone. -/
theorem Chip.qSync_eq (c : Chip) (q : Nat) : ∃ m, c.qSync q = { c with weir := { c.weir with qrec := m } } := by
  unfold Chip.qSync
  split
  · exact ⟨_, rfl⟩
  · split
    · exact ⟨_, rfl⟩
    · exact ⟨c.weir.qrec, rfl⟩

/-- A QUE result without a trap. -/
theorem queRes_trap (c : Chip) (status len1 seq more src6 : Nat) : (queRes c status len1 seq more src6).trap = none := rfl

/-- A message's bytes written to the buffer, the message taken off its queue (R665). -/
def Chip.delivered (c : Chip) (q buf : Nat) (e : WeirEntry) (l : List WeirEntry) : Chip :=
  ({ c with mem := { c.mem with dmem := Mem.writeN 0 c.mem.dmem buf (c.qBytes q e) } }.setEntries q l).qSync q

theorem Chip.delivered_spec (c : Chip) (q buf : Nat) (e : WeirEntry) (l : List WeirEntry) :
    (c.delivered q buf e l).mem = { c.mem with dmem := Mem.writeN 0 c.mem.dmem buf (c.qBytes q e) } ∧ (c.delivered q buf e l).entries q = l ∧
      (∀ p, p ≠ q → (c.delivered q buf e l).entries p = c.entries p) ∧ (c.delivered q buf e l).threads = c.threads := by
  obtain ⟨m, hm⟩ := Chip.qSync_eq ({ c with mem := { c.mem with dmem := Mem.writeN 0 c.mem.dmem buf (c.qBytes q e) } }.setEntries q l) q
  rw [Chip.delivered, hm]
  exact ⟨rfl, Chip.entries_setEntries_self _ q l, fun p hp => Chip.entries_setEntries_other _ q p l hp, rfl⟩

section
variable {c : Chip} {t q buf : Nat} {op : LongOp} (hq : op.a.toNat / 2 ^ 16 % 2 ^ 14 = q)
  (hfault : bufFault t op true (op.b.toNat % 256 + 1) = none) (hstop : c.queStop t q (!c.qOut q) = none) (hfrozen : c.qFrozen q = false)
include hq hfault hstop hfrozen

theorem deq_of_empty (hempty : c.entries q = []) : c.deq t op true = queRes c quEMPTY 0 0 0 0 := by
  simp only [Chip.deq, hfault, hq, hstop, hfrozen, hempty, Bool.false_eq_true, if_false]

theorem deq_of_data {e : WeirEntry} {l : List WeirEntry} (hb : op.a.toNat % 2 ^ 16 = buf) (hhead : c.entries q = e :: l) (hkind : e.kind = .data) (htag : e.rtag = none)
    (hlen : e.len ≤ op.b.toNat % 256 + 1) : c.deq t op true = queRes (c.delivered q buf e l) quOK (e.len - 1) e.seq 0 0 := by
  have hdata : (WeirKind.data == .synthetic) = false := rfl
  simp only [Chip.deq, hfault, hq, hb, hstop, hfrozen, hhead, hkind, htag, Nat.not_lt.2 hlen, hdata, Bool.false_eq_true, if_false, if_true]
  rfl

end

/-- What deq does when it retires (R664, R665), and any operation with WEI off (R667). -/
theorem queRetires {s : State} {t : Thread} {op : LongOp} (ht : t.val < 16) (hhold : (s.chip.thr t).hold = .none)
    (hbusy : (s.chip.unit t uQUE).busy = some op) {q buf : Nat} (hq : op.a.toNat / 2 ^ 16 % 2 ^ 14 = q) (hb : op.a.toNat % 2 ^ 16 = buf) :
    let res (v fl : Nat) (P : Chip → Prop) : Prop := Does (.longOpRetire t 9) s (fun d => (d.unit t uQUE).busy = none ∧
      (d.unit t uQUE).q = BitVec.ofNat 32 v ∧ (d.unit t uQUE).fl = BitVec.ofNat 8 fl ∧ P d)
    (s.chip.domOn dWEI = false → res 9 1 (fun d => s.chip.OnlyThr d t uQUE (fun x => { x with queDone := true }))) ∧
    (s.chip.domOn dWEI = true → op.code = 1 → buf + (op.b.toNat % 256 + 1) ≤ 2 ^ 16 → permFault t op true buf (op.b.toNat % 256 + 1) = none →
      s.chip.queStop t q (!s.chip.qOut q) = none → s.chip.qFrozen q = false →
      (s.chip.entries q = [] → res 1 1 (fun d => s.chip.OnlyThr d t uQUE (fun x => { x with queDone := true }) ∧ d.mem = s.chip.mem)) ∧
      (∀ e l, s.chip.entries q = e :: l → e.kind = .data → e.rtag = none → e.len ≤ op.b.toNat % 256 + 1 → 1 ≤ e.len → e.len ≤ 256 → e.seq < 65536 →
        res (256 * (e.len - 1) + 65536 * e.seq) 0 (fun d =>
          d.mem = { s.chip.mem with dmem := Mem.writeN 0 s.chip.mem.dmem buf (s.chip.qBytes q e) } ∧ d.entries q = l ∧
            (∀ p, p ≠ q → d.entries p = s.chip.entries p)))) := by
  intro res
  refine ⟨fun hoff => ?_, fun hon hcode hbuf hperm hstop hfrozen => ?_⟩
  · have hdo : s.chip.queDo t op = queRes s.chip quSTORE_OFF 0 0 0 0 := if_pos (by rw [hoff]; rfl)
    exact does_queRetire ht hhold hbusy hdo rfl rfl (fun d h => h.only.settle)
  have hdeq : s.chip.queDo t op = s.chip.deq t op true := by
    simp only [Chip.queDo, hon, hcode, Bool.not_true, Bool.false_eq_true, if_false]
  have hfault : bufFault t op true (op.b.toNat % 256 + 1) = none := by
    refine (if_neg ?_).trans ?_
    · rw [hb]
      exact Nat.not_lt.2 hbuf
    · rw [hb]
      exact hperm
  refine ⟨fun hempty => ?_, fun e l hhead hkind htag hlen hpos h256 hseq => ?_⟩
  · have hdo := hdeq.trans (deq_of_empty hq hfault hstop hfrozen hempty)
    exact does_queRetire ht hhold hbusy hdo rfl rfl (fun d h => ⟨h.only.settle, h.mem⟩)
  · have hdo := hdeq.trans (deq_of_data hq hfault hstop hfrozen hb hhead hkind htag hlen)
    obtain ⟨hmem, hself, hother, hthreads⟩ := s.chip.delivered_spec q buf e l
    have hval : (queRes (s.chip.delivered q buf e l) quOK (e.len - 1) e.seq 0 0).q = 256 * (e.len - 1) + 65536 * e.seq := by
      simp only [queRes, quOK]
      omega
    have hdone := does_queRetire (P := fun d => d.mem = { s.chip.mem with dmem := Mem.writeN 0 s.chip.mem.dmem buf (s.chip.qBytes q e) } ∧ d.entries q = l ∧
            (∀ p, p ≠ q → d.entries p = s.chip.entries p)) ht hhold hbusy hdo rfl hthreads (fun d h => ⟨h.mem.trans hmem, (h.entries q).trans hself, fun p hp => (h.entries p).trans (hother p hp)⟩)
    rw [hval] at hdone
    exact hdone

/-- A stalled random read ends without data (R256). -/
theorem rngStallEnds {s : State} {t : Thread} {op : LongOp} (ht : t.val < 16) (hhold : (s.chip.thr t).hold = .none)
    (hbusy : (s.chip.unit t uRNG).busy = some op) (hguard : op.u5.getLsbD 2 = false) (hnone : s.chip.drbgTake 1 = none) :
    Does (.rngStallTimeout t) s (fun d => (d.unit t uRNG).busy = none ∧ (d.unit t uRNG).q = BitVec.ofNat 32 0 ∧
      (d.unit t uRNG).fl = BitVec.ofNat 8 1 ∧ s.chip.OnlyThr d t uRNG id ∧ s.chip.SameOutside d ∧ d.cores = s.chip.cores) := by
  have hret := retiredAs_of_free (c := s.chip) (u := uRNG) (op := op) (r := { chip := s.chip, fl := 1 }) ht rfl hhold (Chip.OnlyThr.refl _ _ _) (by decide)
  have hempty : s.chip.rngEmpty t op = { chip := s.chip, fl := 1 } := by
    rw [Chip.rngEmpty, Chip.rngGuard, hguard]
    rfl
  have hdo : (match (s.chip.unit t uRNG).busy with
      | some op => if (s.chip.drbgTake 1).isNone then retireWith t uRNG op (s.chip.rngEmpty t op) else s.chip
      | none => s.chip) = retireWith t uRNG op { chip := s.chip, fl := 1 } := by
    rw [hbusy]
    simp only [hnone, hempty, Option.isNone_none, if_true]
  exact does_of_retiredAs (show exec (.rngStallTimeout t) s = execRngStallTimeout t s from rfl) hdo hret rfl
    ⟨hret.only.settle, hret.rest.sameOutside, hret.rest.cores⟩

/-- Settles O43. -/
theorem serviceRetirements : Obligations.ServiceRetirements := by
  intro s t op m rest ht hhold c x res q buf
  exact ⟨fun hbusy => mbxRetires ht hhold hbusy, fun hbusy => queRetires ht hhold hbusy rfl rfl, fun hbusy hguard hnone => rngStallEnds ht hhold hbusy hguard hnone⟩

end Sys2Proof.Machine
end

section
/-!
PROOFS. The Ledger's segment erase (16 R785, R787).
-/
namespace Sys2Proof.Machine

/-- WRD is ON with the entropy source in RUN and a byte in the DRBG's output buffer, and the segment that erases is none of the bank's 64:
its seal record's address is that of ENT_STATE. No command erases it; the statement quantifies over every state. -/
def erasingBeyondBank : State :=
  ⟨[], { regs := [(R.ENT_STATE.addr, entRUN)]
         seq := { doms := [(dWRD, { state := 4 })] }
         led := { erasing := some 192 }
         ent := { buffer := [1] } }⟩

/-- Refutes O45: the end of the erase of segment 192 writes ENT_STATE, and the buffer is emptied with the end of RUN. -/
theorem not_ledgerCommits : ¬ Obligations.LedgerCommits := by
  intro h
  obtain ⟨d, hd, -, -, -, -, hkeeps⟩ := (h erasingBeyondBank 0 0 192 {} (by decide)).2 rfl (by decide)
  have hempty : (match exec .ledgerEraseDone erasingBeyondBank with | .next d => d.chip.ent.buffer | _ => [1]) = [] := by decide +kernel
  rw [hd] at hempty
  have hempty' : d.chip.ent.buffer = [] := hempty
  have hkept : d.chip.ent.buffer = erasingBeyondBank.chip.settle.ent.buffer := congrArg (fun c => c.ent.buffer) hkeeps
  have hfull : erasingBeyondBank.chip.settle.ent.buffer = [1] := by decide +kernel
  exact absurd ((hempty'.symm.trans hkept).trans hfull) (by decide)

end Sys2Proof.Machine
end

section
/-!
PROOFS. The power path and the charger's phases (12 R557 to R567, R581 to R599).
-/
namespace Sys2Proof.Machine

/-! ### What selection, detection and a phase's entry leave alone -/

/-- Blanks the charger's own state and the threads. -/
def Chip.noChg (d : Chip) : Chip := { d with chg := {}, threads := [] }

theorem levelBlank_noChg : LevelBlank Chip.noChg :=
  ⟨fun _ _ _ _ _ => rfl, fun _ => rfl, fun _ => rfl, fun _ => rfl, fun _ => rfl, fun _ => rfl, fun _ => rfl, fun _ => rfl⟩

/-- The registers in which selection, detection and phases show. -/
def shownRegs : List Reg :=
  [R.CHG_STATE, R.CHG_STAT, R.CHG_EVT, R.CHG_DET, R.CHG_PULSECNT, R.CHG_ICL_EFF 0, R.CHG_ICL_EFF 1, R.CHG_ICL_EFF 2, R.CHG_ICL_EFF 3, R.DOORBELL_OVF]

/-- Fields of those registers that only other events change: the zone, SOLAR's class, WAVE's signature. -/
def chgKept : List (Reg × Nat × Nat) := [(R.CHG_STAT, 10, 3), (R.CHG_DET, 3, 2), (R.CHG_DET, 5, 1)]

/-- The charger's state without what a phase's entry sets. -/
def ChgSt.still (x : ChgSt) : ChgSt := { x with prevDone := false, counting := true, gated := false, gateDue := false, forced := none }

/-- The charger's state without PORT's detection too. -/
def ChgSt.undetected (x : ChgSt) : ChgSt := { x.still with rp := .none, bc12 := .nothing, detDone := false }

/-- What selection, detection and phases change at most. -/
structure Chip.ChgQuiet (c d : Chip) : Prop where
  moved : c.Moved d shownRegs Chip.noChg
  rings : c.Rings d
  kept : ∀ p ∈ chgKept, d.rfld p.1 p.2.1 p.2.2 = c.rfld p.1 p.2.1 p.2.2
  evt : ∀ i < 16, c.rbit R.CHG_EVT i = true → d.rbit R.CHG_EVT i = true
  rest : d.chg.undetected = c.chg.undetected
  port : c.inputLive 2 = true → d.chg.still = c.chg.still

section
variable {c d e : Chip} {rs : List Reg}

theorem Chip.Moved.inputLive (h : c.Moved d rs Chip.noChg) (hrs : ∀ x ∈ rs, R.SYS_SUPPLY.addr ≠ x.addr) (i : Nat) : d.inputLive i = c.inputLive i := by
  have hseq : d.seq = c.seq := h.field (f := Chip.seq) (fun _ => rfl)
  have hchn : d.chn = c.chn := h.field (f := Chip.chn) (fun _ => rfl)
  unfold Chip.inputLive Chip.portSource Chip.chOn Chip.ch Chip.domOn Chip.dom Chip.rbit
  rw [h.1 _ hrs, hseq, hchn]

theorem shown_supply : ∀ x ∈ shownRegs, R.SYS_SUPPLY.addr ≠ x.addr := by decide

theorem shown_sub : ∀ x ∈ shownRegs, x ∈ chgRegs := by decide

theorem Chip.ChgQuiet.refl (c : Chip) : c.ChgQuiet c := ⟨.refl _ _ _, .refl c, fun _ _ => rfl, fun _ _ h => h, rfl, fun _ => rfl⟩

theorem Chip.ChgQuiet.trans (h : c.ChgQuiet d) (h' : d.ChgQuiet e) : c.ChgQuiet e where
  moved := h.moved.trans h'.moved
  rings := h.rings.trans h'.rings
  kept := fun p hp => (h'.kept p hp).trans (h.kept p hp)
  evt := fun i hi hb => h'.evt i hi (h.evt i hi hb)
  rest := h'.rest.trans h.rest
  port := fun hl => (h'.port ((h.moved.inputLive shown_supply 2).trans hl)).trans (h.port hl)

theorem Chip.ChgQuiet.ite (p : Prop) [Decidable p] (hd : c.ChgQuiet d) (he : c.ChgQuiet e) : c.ChgQuiet (if p then d else e) := by
  split
  · exact hd
  · exact he

theorem Chip.ChgQuiet.andIf (p : Prop) [Decidable p] (h : c.ChgQuiet d) (h' : d.ChgQuiet e) : c.ChgQuiet (if p then e else d) := .ite p (h.trans h') h

theorem Chip.chgQuiet_put (hregs : d.regs = c.regs) (hblank : Chip.noChg { d with regs := [] } = Chip.noChg { c with regs := [] }) (hrings : c.Rings d)
    (hrest : d.chg.undetected = c.chg.undetected) (hport : c.inputLive 2 = true → d.chg.still = c.chg.still) : c.ChgQuiet d where
  moved := (Chip.Moved.refl c _ _).put hregs hblank
  rings := hrings
  kept := fun p _ => congrArg (fun m => fld (FMap.get p.1.reset m p.1.addr) p.2.1 p.2.2) hregs
  evt := fun i _ hb => (congrArg (fun m => bit (FMap.get R.CHG_EVT.reset m R.CHG_EVT.addr) i) hregs).trans hb
  rest := hrest
  port := hport

/-- A field written in one of the registers, beside the fields that are kept. -/
theorem Chip.chgQuiet_wfld (c : Chip) {r : Reg} {lo w : Nat} (hr : r ∈ shownRegs) (hevt : R.CHG_EVT.addr ≠ r.addr)
    (hk : ∀ p ∈ chgKept, p.1.addr ≠ r.addr ∨ p.1 = r ∧ p.2.1 + p.2.2 ≤ 8 * r.width ∧ (p.2.1 + p.2.2 ≤ lo ∨ lo + w ≤ p.2.1)) (x : Nat) :
    c.ChgQuiet (c.wfld r lo w x) where
  moved := (Chip.Moved.refl c _ _).wfld hr lo w x
  rings := .refl c
  kept := fun p hp => by
    rcases hk p hp with hne | ⟨heq, hwidth, hapart⟩
    · rw [Chip.rfld, Chip.wfld, Chip.rd_wr_other _ _ _ _ hne]
      rfl
    · rw [heq, Chip.rfld_wfld_other _ hwidth hapart]
  evt := fun i _ hb => by
    rw [Chip.rbit, Chip.wfld, Chip.rd_wr_other _ _ _ _ hevt]
    exact hb
  rest := rfl
  port := fun _ => rfl

theorem Chip.chgQuiet_wbit (c : Chip) {r : Reg} {i : Nat} (hr : r ∈ shownRegs) (hevt : R.CHG_EVT.addr ≠ r.addr)
    (hk : ∀ p ∈ chgKept, p.1.addr ≠ r.addr ∨ p.1 = r ∧ p.2.1 + p.2.2 ≤ 8 * r.width ∧ (p.2.1 + p.2.2 ≤ i ∨ i + 1 ≤ p.2.1)) (b : Bool) :
    c.ChgQuiet (c.wbit r i b) := c.chgQuiet_wfld hr hevt hk _

/-- One of the registers without kept fields written. -/
theorem Chip.chgQuiet_wr (c : Chip) {r : Reg} (hr : r ∈ shownRegs) (hevt : R.CHG_EVT.addr ≠ r.addr) (hk : ∀ p ∈ chgKept, p.1.addr ≠ r.addr) (v : Nat) :
    c.ChgQuiet (c.wr r v) where
  moved := (Chip.Moved.refl c _ _).wr hr v
  rings := .refl c
  kept := fun p hp => by
    rw [Chip.rfld, Chip.rd_wr_other _ _ _ _ (hk p hp)]
    rfl
  evt := fun i _ hb => by
    rw [Chip.rbit, Chip.rd_wr_other _ _ _ _ hevt]
    exact hb
  rest := rfl
  port := fun _ => rfl

theorem Chip.chgQuiet_event (c : Chip) (bits : Nat) : c.ChgQuiet (c.event 6 R.CHG_EVT bits) where
  moved := (Chip.Moved.refl c _ _).event (by decide) (by decide) (fun _ _ => rfl) 6 bits
  rings := Chip.rings_event _ _ _ _
  kept := fun p hp => by
    have hoff : ∀ p ∈ chgKept, p.1.addr ≠ R.CHG_EVT.addr ∧ p.1.addr ≠ R.DOORBELL_OVF.addr := by decide
    rw [Chip.rfld, Chip.rd_event_other _ _ _ _ (hoff p hp).1 (hoff p hp).2]
    rfl
  evt := fun i hi hb => by rw [Chip.rbit_event _ _ _ _ hi (by decide), hb, Bool.true_or]
  rest := by rw [Chip.event_eq]
  port := fun _ => by rw [Chip.event_eq]

theorem Chip.chgQuiet_select (c : Chip) : c.ChgQuiet c.select := by
  have hcounting : c.ChgQuiet (if c.chgPhase = phPULSE then { c with chg := { c.chg with counting := false } } else c) :=
    .ite _ (Chip.chgQuiet_put rfl rfl (.refl c) rfl (fun _ => rfl)) (.refl c)
  simp only [Chip.select]
  exact (Chip.ChgQuiet.ite _ (.refl c) (hcounting.trans (Chip.chgQuiet_event _ _))).trans
    ((Chip.chgQuiet_wfld _ (r := R.CHG_STAT) (lo := 0) (w := 3) (by decide) (by decide) (by decide) _).trans
      (Chip.chgQuiet_wfld _ (r := R.CHG_STAT) (lo := 3) (w := 3) (by decide) (by decide) (by decide) _))

/-- Without PORT its detection is forgotten. -/
def Chip.detected (c : Chip) : Chip :=
  if c.inputLive 2 then c else { c with chg := { c.chg with rp := .none, bc12 := .nothing, detDone := false } }

/-- What PORT is, in CHG_DET. -/
def Chip.codeShown (c : Chip) : Chip := c.wfld R.CHG_DET 0 3 (portCode c.chg.rp c.chg.bc12 c.chg.detDone)

/-- Whether STRING has a budget, in CHG_DET. -/
def Chip.budgetShown (c : Chip) : Chip := c.wbit R.CHG_DET 6 (c.rd R.CHG_STRBUD != 0)

/-- The input's usability in CHG_STAT, gone with the last input. -/
def Chip.usableShown (c : Chip) : Chip := if c.anyInput then c else c.wbit R.CHG_STAT 8 false

/-- The dock in CHG_STAT. -/
def Chip.dockShown (c : Chip) : Chip := c.wbit R.CHG_STAT 14 (c.chg.dock && !c.domUp (dCH 6))

/-- Whether NTC0 is ignored, in CHG_STAT. -/
def Chip.ignoreShown (c : Chip) : Chip := c.wbit R.CHG_STAT 13 (c.rbit R.CHG_CTRL 3)

/-- What `Chip.showInputs` shows before the limits. -/
def Chip.shown (c : Chip) : Chip := c.detected.codeShown.budgetShown.usableShown.dockShown.ignoreShown

/-- The effective limit of input `i` (R562, R566). -/
def Chip.effLimit (c : Chip) (i : Nat) : Nat := if c.inputLive i then min (c.detLimit i) (c.rd (R.CHG_ICLMAX i)) else 0

/-- The effective limits shown. -/
def Chip.showLimits (c : Chip) : Chip := [0, 1, 2, 3].foldl (fun c i => c.wr (R.CHG_ICL_EFF i) (c.effLimit i)) c

theorem Chip.showInputs_eq (c : Chip) : c.showInputs = c.shown.showLimits := by
  unfold Chip.showInputs Chip.shown
  extract_lets _ detected code budget usable dock ignore
  have hdetected : detected = c.detected := rfl
  clear_value detected
  have hcode : code = detected.codeShown := rfl
  clear_value code
  have hbudget : budget = code.budgetShown := rfl
  clear_value budget
  have husable : usable = budget.usableShown := rfl
  clear_value usable
  have hdock : dock = usable.dockShown := rfl
  clear_value dock
  have hignore : ignore = dock.ignoreShown := rfl
  clear_value ignore
  rw [← hdetected, ← hcode, ← hbudget, ← husable, ← hdock, ← hignore]
  rfl

theorem Chip.chgQuiet_detected (c : Chip) : c.ChgQuiet c.detected := by
  unfold Chip.detected
  split
  case isTrue => exact .refl c
  case isFalse h => exact Chip.chgQuiet_put rfl rfl (.refl c) rfl (fun hl => absurd hl h)

theorem Chip.chgQuiet_codeShown (c : Chip) : c.ChgQuiet c.codeShown :=
  Chip.chgQuiet_wfld c (r := R.CHG_DET) (lo := 0) (w := 3) (by decide) (by decide) (by decide) _

theorem Chip.chgQuiet_budgetShown (c : Chip) : c.ChgQuiet c.budgetShown :=
  Chip.chgQuiet_wbit _ (r := R.CHG_DET) (i := 6) (by decide) (by decide) (by decide) _

theorem Chip.chgQuiet_usableShown (c : Chip) : c.ChgQuiet c.usableShown :=
  .ite _ (.refl c) (Chip.chgQuiet_wbit _ (r := R.CHG_STAT) (i := 8) (by decide) (by decide) (by decide) _)

theorem Chip.chgQuiet_dockShown (c : Chip) : c.ChgQuiet c.dockShown :=
  Chip.chgQuiet_wbit _ (r := R.CHG_STAT) (i := 14) (by decide) (by decide) (by decide) _

theorem Chip.chgQuiet_ignoreShown (c : Chip) : c.ChgQuiet c.ignoreShown :=
  Chip.chgQuiet_wbit _ (r := R.CHG_STAT) (i := 13) (by decide) (by decide) (by decide) _

theorem Chip.chgQuiet_shown (c : Chip) : c.ChgQuiet c.shown :=
  ((((c.chgQuiet_detected.trans (Chip.chgQuiet_codeShown _)).trans (Chip.chgQuiet_budgetShown _)).trans (Chip.chgQuiet_usableShown _)).trans
    (Chip.chgQuiet_dockShown _)).trans (Chip.chgQuiet_ignoreShown _)

theorem Chip.chgQuiet_showLimits (c : Chip) : c.ChgQuiet c.showLimits :=
  (Chip.chgQuiet_wr _ (r := R.CHG_ICL_EFF 0) (by decide) (by decide) (by decide) _).trans
    ((Chip.chgQuiet_wr _ (r := R.CHG_ICL_EFF 1) (by decide) (by decide) (by decide) _).trans
      ((Chip.chgQuiet_wr _ (r := R.CHG_ICL_EFF 2) (by decide) (by decide) (by decide) _).trans
        (Chip.chgQuiet_wr _ (r := R.CHG_ICL_EFF 3) (by decide) (by decide) (by decide) _)))

theorem Chip.chgQuiet_showInputs (c : Chip) : c.ChgQuiet c.showInputs := by
  rw [Chip.showInputs_eq]
  exact c.chgQuiet_shown.trans c.shown.chgQuiet_showLimits

/-! ### A phase entered (R582, R584, R590, R592) -/

/-- What every entry does. -/
def Chip.phaseBegun (c : Chip) (ph : Nat) : Chip :=
  { c.wfld R.CHG_STATE 0 4 ph with
    chg := { c.chg with gated := (c.wfld R.CHG_STATE 0 4 ph).gating && (ph == phPULSE || ph == phREST), gateDue := false, forced := none
                        prevDone := if ph = phWAIT then c.chgPhase == phDONE else c.chg.prevDone } }

theorem Chip.enterPhase_plain (c : Chip) {ph : Nat} (h : ph ∈ [phOFF, phFAULT, phCV]) : c.enterPhase ph = c.phaseBegun ph := by
  simp only [List.mem_cons, List.not_mem_nil, or_false] at h
  rcases h with rfl | rfl | rfl <;> rfl

theorem Chip.enterPhase_uncounted (c : Chip) {ph : Nat} (h : ph ∈ [phWAIT, phHOLD, phPRE]) : c.enterPhase ph = (c.phaseBegun ph).setCount 0 := by
  simp only [List.mem_cons, List.not_mem_nil, or_false] at h
  rcases h with rfl | rfl | rfl <;> rfl

theorem Chip.enterPhase_done (c : Chip) : c.enterPhase phDONE = (c.phaseBegun phDONE).event 6 R.CHG_EVT 1 := rfl

theorem Chip.enterPhase_rest (c : Chip) : c.enterPhase phREST = (c.phaseBegun phREST).wbit R.CHG_STAT 9 false := rfl

theorem Chip.enterPhase_pulse (c : Chip) : c.enterPhase phPULSE =
    { (c.phaseBegun phPULSE).wr R.CHG_PULSECNT ((c.phaseBegun phPULSE).rd R.CHG_PULSECNT + 1) with chg := { (c.phaseBegun phPULSE).chg with counting := true } } := rfl

theorem Chip.rd_phaseBegun (c : Chip) (ph : Nat) : (c.phaseBegun ph).rd R.CHG_STATE = (c.wfld R.CHG_STATE 0 4 ph).rd R.CHG_STATE := rfl

theorem Chip.chgPhase_phaseBegun (c : Chip) {ph : Nat} (h : ph < 16) : (c.phaseBegun ph).chgPhase = ph := by
  have hself : (c.wfld R.CHG_STATE 0 4 ph).rfld R.CHG_STATE 0 4 = ph % 2 ^ 4 := c.rfld_wfld_self ph (by decide)
  exact hself.trans (Nat.mod_eq_of_lt h)

theorem Chip.chgCount_phaseBegun (c : Chip) (ph : Nat) : (c.phaseBegun ph).chgCount = c.chgCount :=
  c.rfld_wfld_other (r := R.CHG_STATE) (lo := 0) (w := 4) (l := 4) (n := 2) (by decide) (by decide)

theorem Chip.chgQuiet_phaseBegun (c : Chip) (ph : Nat) : c.ChgQuiet (c.phaseBegun ph) :=
  (Chip.chgQuiet_wfld c (r := R.CHG_STATE) (lo := 0) (w := 4) (by decide) (by decide) (by decide) ph).trans
    (Chip.chgQuiet_put rfl rfl (.refl _) rfl (fun _ => rfl))

theorem Chip.chgQuiet_setCount (c : Chip) (n : Nat) : c.ChgQuiet (c.setCount n) := Chip.chgQuiet_wfld c (by decide) (by decide) (by decide) n

theorem Chip.chgQuiet_enterPhase (c : Chip) (ph : Nat) : c.ChgQuiet (c.enterPhase ph) := by
  simp only [Chip.enterPhase]
  refine .andIf _ (.andIf _ (.andIf _ (.andIf _ (c.chgQuiet_phaseBegun ph) (Chip.chgQuiet_setCount _ _)) (Chip.chgQuiet_event _ _)) ?_) ?_
  · exact Chip.chgQuiet_wbit _ (by decide) (by decide) (by decide) _
  · exact (Chip.chgQuiet_wr _ (by decide) (by decide) (by decide) _).trans (Chip.chgQuiet_put rfl rfl (.refl _) rfl (fun _ => rfl))

theorem Chip.chgQuiet_phaseSettle (c : Chip) (n : Nat) : c.ChgQuiet (c.phaseSettle n) := by
  induction n generalizing c with
  | zero => exact .refl c
  | succ n ih =>
    simp only [Chip.phaseSettle]
    split
    · exact (c.chgQuiet_enterPhase _).trans (ih _)
    · exact .refl c

theorem Chip.chgQuiet_chgSettle (c : Chip) : c.ChgQuiet c.chgSettle :=
  (c.chgQuiet_select.trans (Chip.chgQuiet_showInputs _)).trans (Chip.chgQuiet_phaseSettle _ _)

end

section
variable (c : Chip) {ph : Nat}

theorem Chip.chgState_enterPhase (h : ph ∈ [phOFF, phFAULT, phCV, phDONE, phREST, phPULSE]) :
    (c.enterPhase ph).rd R.CHG_STATE = (c.phaseBegun ph).rd R.CHG_STATE := by
  by_cases hplain : ph ∈ [phOFF, phFAULT, phCV]
  · rw [c.enterPhase_plain hplain]
  · have hcases : ph = phDONE ∨ ph = phREST ∨ ph = phPULSE := by
      simp only [List.mem_cons, List.not_mem_nil, or_false] at h hplain
      tauto
    rcases hcases with rfl | rfl | rfl
    · rw [Chip.enterPhase_done, Chip.rd_event_other _ _ _ _ (by decide) (by decide)]
    · rw [Chip.enterPhase_rest, Chip.wbit, Chip.rd_wr_other _ _ _ _ (by decide)]
    · rw [Chip.enterPhase_pulse]
      exact Chip.rd_wr_other _ _ _ _ (by decide)

/-- An entry that keeps the termination count. -/
theorem Chip.enterPhase_keepsCount (h : ph ∈ [phOFF, phFAULT, phCV, phDONE, phREST, phPULSE]) :
    (c.enterPhase ph).chgPhase = ph ∧ (c.enterPhase ph).chgCount = c.chgCount := by
  have hlt : ph < 16 := by
    revert h
    exact fun h => (by decide : ∀ p ∈ [phOFF, phFAULT, phCV, phDONE, phREST, phPULSE], p < 16) ph h
  rw [Chip.chgPhase, Chip.chgCount, Chip.rfld, Chip.rfld, c.chgState_enterPhase h]
  exact ⟨c.chgPhase_phaseBegun hlt, c.chgCount_phaseBegun ph⟩

/-- An entry that clears the termination count. -/
theorem Chip.enterPhase_clearsCount (h : ph ∈ [phWAIT, phHOLD, phPRE]) : (c.enterPhase ph).chgPhase = ph ∧ (c.enterPhase ph).chgCount = 0 := by
  have hlt : ph < 16 := by
    revert h
    exact fun h => (by decide : ∀ p ∈ [phWAIT, phHOLD, phPRE], p < 16) ph h
  rw [c.enterPhase_uncounted h]
  exact ⟨((c.phaseBegun ph).rfld_wfld_other (by decide) (by decide)).trans (c.chgPhase_phaseBegun hlt), (c.phaseBegun ph).rfld_wfld_self 0 (by decide)⟩

end

/-- What a command of the charger changes. -/
def Chip.ChgMoved (c d : Chip) : Prop := c.Moved d chgRegs Chip.noChg ∧ c.Rings d

section
variable {c d e : Chip}

theorem Chip.ChgQuiet.chgMoved (h : c.ChgQuiet d) : c.ChgMoved d := ⟨h.moved.mono shown_sub, h.rings⟩

theorem Chip.ChgMoved.trans (h : c.ChgMoved d) (h' : d.ChgMoved e) : c.ChgMoved e := ⟨h.1.trans h'.1, h.2.trans h'.2⟩

theorem Chip.chgMoved_wr (c : Chip) {r : Reg} (hr : r ∈ chgRegs) (v : Nat) : c.ChgMoved (c.wr r v) := ⟨(Chip.Moved.refl c _ _).wr hr v, .refl c⟩

theorem chgRegs_not_level : ∀ r ∈ levelRegs, ∀ x ∈ chgRegs, r.addr ≠ x.addr := by decide

theorem chgDoes_of_chgMoved {s : State} {i : Instr} {f : Chip → Chip} {P : Chip → Prop} (he : exec i s = s.lift f) (hd : f s.chip = d)
    (h : s.chip.ChgMoved d) (hP : P d.settle) : ChgDoes i s P :=
  does_of_lift he hd ⟨hP, h.2, h.1.keeps chgRegs_not_level levelBlank_noChg⟩

end

/-! ### The phases that an event of the charger leads to (R582 to R589) -/

section
variable {s : State} {i : Instr} {f : Chip → Chip} (he : exec i s = s.lift f)
include he

/-- A command that enters a phase. -/
theorem chgDoes_enterPhase {b : Chip} {ph : Nat} (hd : f s.chip = b.enterPhase ph) (hb : s.chip.ChgMoved b)
    (hph : ph ∈ [phOFF, phFAULT, phCV, phDONE, phREST, phPULSE, phWAIT, phHOLD, phPRE]) : ChgDoes i s (fun d => d.chgPhase = ph) := by
  refine chgDoes_of_chgMoved he hd (hb.trans (b.chgQuiet_enterPhase ph).chgMoved) ?_
  by_cases hkeeps : ph ∈ [phOFF, phFAULT, phCV, phDONE, phREST, phPULSE]
  · exact (b.enterPhase_keepsCount hkeeps).1
  · refine (b.enterPhase_clearsCount ?_).1
    simp only [List.mem_cons, List.not_mem_nil, or_false] at hph hkeeps ⊢
    tauto

/-- A time limit of a phase. -/
theorem chgDoes_fault (hd : f s.chip = (s.chip.enterPhase phFAULT).event 6 R.CHG_EVT 4) :
    ChgDoes i s (fun d => d.chgPhase = phFAULT ∧ bit (d.rd R.CHG_EVT) 2 = true) := by
  have hphase : ((s.chip.enterPhase phFAULT).event 6 R.CHG_EVT 4).chgPhase = phFAULT := by
    rw [Chip.chgPhase, Chip.rfld, Chip.rd_event_other _ _ _ _ (by decide) (by decide)]
    exact (s.chip.enterPhase_keepsCount (by decide)).1
  have hbit : ((s.chip.enterPhase phFAULT).event 6 R.CHG_EVT 4).rbit R.CHG_EVT 2 = true := by
    rw [Chip.rbit_event _ _ _ _ (by decide) (by decide)]
    exact Bool.or_true _
  exact chgDoes_of_chgMoved he hd ((s.chip.chgQuiet_enterPhase _).trans (Chip.chgQuiet_event _ _)).chgMoved ⟨hphase, hbit⟩

end

theorem Chip.ichg_lt (c : Chip) : c.ichg < 2 ^ 16 := by
  unfold Chip.ichg
  omega

/-- The first pulse is of ICHG (R582). -/
theorem Chip.firstPulse_spec (c : Chip) : c.firstPulse.chgPhase = phPULSE ∧ c.firstPulse.rd R.CHG_IPULSE = c.ichg ∧ c.ChgMoved c.firstPulse := by
  have hquiet := (c.wr R.CHG_IPULSE c.ichg).chgQuiet_enterPhase phPULSE
  refine ⟨((c.wr R.CHG_IPULSE c.ichg).enterPhase_keepsCount (by decide)).1, ?_, (c.chgMoved_wr (by decide) _).trans hquiet.chgMoved⟩
  rw [Chip.firstPulse, hquiet.moved.1 _ (by decide), Chip.rd_wr_self]
  exact Nat.mod_eq_of_lt c.ichg_lt

/-- A counting pulse that ends below ITERM for the third time (R588). -/
theorem Chip.endPulse_done {c : Chip} {n : Nat} (hcounting : c.chg.counting = true) (hbelow : c.belowIterm n = true) (hcount : c.chgCount = 2) :
    c.ChgMoved (c.endPulse n false) ∧ (c.endPulse n false).chgPhase = phDONE ∧ (c.endPulse n false).chgCount = 3 ∧
      bit ((c.endPulse n false).rd R.CHG_EVT) 0 = true := by
  let b := (c.wr R.CHG_IEND n).wr R.CHG_IPULSE (max 100 (n / 25 * 25))
  have hb : c.ChgMoved b := (c.chgMoved_wr (by decide) _).trans (Chip.chgMoved_wr _ (by decide) _)
  have hrd {q : Reg} (hend : q.addr ≠ R.CHG_IEND.addr) (hpulse : q.addr ≠ R.CHG_IPULSE.addr) : b.rd q = c.rd q := by
    rw [Chip.rd_wr_other _ _ _ _ hpulse, Chip.rd_wr_other _ _ _ _ hend]
  have hbelow' : b.belowIterm n = true := by
    rw [Chip.belowIterm, Chip.ichg, hrd (by decide) (by decide), hrd (by decide) (by decide)]
    exact hbelow
  have hcount' : b.chgCount = 2 := by
    rw [Chip.chgCount, Chip.rfld, hrd (by decide) (by decide)]
    exact hcount
  have hnext : (b.setCount 3).chgCount = 3 := b.rfld_wfld_self 3 (by decide)
  have hend : c.endPulse n false = if (b.setCount (if b.belowIterm n then min 3 (b.chgCount + 1) else 0)).chgCount = 3
      then (b.setCount (if b.belowIterm n then min 3 (b.chgCount + 1) else 0)).enterPhase phDONE
      else (b.setCount (if b.belowIterm n then min 3 (b.chgCount + 1) else 0)).enterPhase phREST := by
    unfold Chip.endPulse
    have hcounting' : (c.wr R.CHG_IEND n).chg.counting = true := hcounting
    simp only [hcounting', Bool.not_true, Bool.or_false, Bool.false_eq_true, if_false]
    rfl
  have hthree : (if b.belowIterm n then min 3 (b.chgCount + 1) else 0) = 3 := by rw [if_pos hbelow', hcount']; rfl
  rw [hthree, if_pos hnext] at hend
  rw [hend]
  generalize hd : b.setCount 3 = d at *
  have hmoved : c.ChgMoved d := hd ▸ hb.trans (b.chgQuiet_setCount 3).chgMoved
  obtain ⟨hphase, hkept⟩ := d.enterPhase_keepsCount (ph := phDONE) (by decide)
  refine ⟨hmoved.trans (d.chgQuiet_enterPhase _).chgMoved, hphase, hkept.trans hnext, ?_⟩
  have hbit : ((d.phaseBegun phDONE).event 6 R.CHG_EVT 1).rbit R.CHG_EVT 0 = true := by
    rw [Chip.rbit_event _ _ _ _ (by decide) (by decide)]
    exact Bool.or_true _
  exact hbit

/-- The charger starts from WAIT on a usable input (R582). -/
theorem execChargerStart_eq {c : Chip} (hp : c.chgPhase = phWAIT) (hbat : c.vbatPres = true) (hin : c.anyInput = true) {vbat : Nat} :
    ∃ b, c.ChgMoved b ∧ (∀ q : Reg, q.addr ≠ R.CHG_STAT.addr → b.rd q = c.rd q) ∧ ∀ s : State, s.chip = c → exec (.chargerStart vbat true) s =
      s.lift (fun _ => if vbat < b.rd R.CHG_VLOW * b.cells then b.enterPhase phPRE
        else if b.chgMode = 1 ∧ c.chg.prevDone = true ∧ b.rechargeLevel ≤ vbat then b.enterPhase phDONE else b.startCharge) := by
  let b := c.wbit R.CHG_STAT 8 (c.anyInput && !true)
  have hstat : c.ChgQuiet b := Chip.chgQuiet_wbit c (r := R.CHG_STAT) (i := 8) (by decide) (by decide) (by decide) _
  have hrd (q : Reg) (hq : q.addr ≠ R.CHG_STAT.addr) : b.rd q = c.rd q := Chip.rd_wr_other _ _ _ _ hq
  have hpres : b.vbatPres = true := by
    rw [Chip.vbatPres, Chip.rbit, hrd _ (by decide)]
    exact hbat
  have hany : b.anyInput = true := by
    rw [Chip.anyInput, funext (hstat.moved.inputLive shown_supply)]
    exact hin
  refine ⟨b, hstat.chgMoved, hrd, fun s hs => ?_⟩
  subst hs
  have husable : ¬ (!(b.vbatPres && b.anyInput && true)) = true := by
    rw [hpres, hany]
    decide
  exact exec_eq_of_lift (show exec (.chargerStart vbat true) s = execChargerStart vbat true s from rfl) ((if_neg (not_not_intro hp)).trans (if_neg husable))

theorem chargePhases : Parts.ChargePhases := by
  intro s vbat i limited c p go
  refine ⟨fun hp hbat hin => ?_, fun hp hv hmode => ?_, fun hp => ?_, fun hp => ?_, fun hp hend hlim => ?_, fun hp hend hlim hcounting hbelow hcount => ?_,
    fun hp hend => ?_, fun hp hv => ?_, fun hgated hgating hforced hp => ?_⟩
  · obtain ⟨b, hb, hrd, hstart⟩ := execChargerStart_eq hp hbat hin (vbat := vbat)
    have hlow : b.rd R.CHG_VLOW * b.cells = c.rd R.CHG_VLOW * c.cells := by
      rw [Chip.cells, Chip.rfld, hrd _ (by decide), hrd _ (by decide)]
      rfl
    have hmodes : b.chgMode = c.chgMode := by rw [Chip.chgMode, hrd _ (by decide)]; rfl
    have hichg : b.ichg = c.ichg := by rw [Chip.ichg, hrd _ (by decide)]; rfl
    rw [hlow, hmodes] at hstart
    refine ⟨fun hv => ?_, fun hv hmode hdone => ?_, fun hv hmode => ?_⟩
    · exact chgDoes_enterPhase (hstart s rfl) (if_pos hv) hb (by decide)
    · obtain ⟨hphase, hpulse, hmoved⟩ := b.firstPulse_spec
      have hfirst : b.startCharge = b.firstPulse := if_pos (hmodes.trans hmode)
      refine chgDoes_of_chgMoved (hstart s rfl) (d := b.firstPulse) ?_ (hb.trans hmoved) ⟨hphase, hpulse.trans hichg⟩
      rw [if_neg (by omega), if_neg (fun h => by rw [hdone] at h; exact absurd h.2.1 (by decide)), hfirst]
    · have hcv : b.startCharge = b.enterPhase phCV := if_neg (by rw [hmodes, hmode]; decide)
      refine chgDoes_enterPhase (hstart s rfl) (b := b) (ph := phCV) ?_ hb (by decide)
      rw [if_neg (by omega), if_neg (fun h => by rw [hmode] at h; exact absurd h.1 (by decide)), hcv]
  · have hcv : c.startCharge = c.enterPhase phCV := if_neg (by rw [hmode]; decide)
    exact chgDoes_enterPhase (show exec (.prechargeComplete vbat) s = execPrechargeComplete vbat s from rfl) ((if_pos ⟨hp, hv⟩).trans hcv)
      ⟨.refl _ _ _, .refl _⟩ (by decide)
  · exact chgDoes_fault (show exec .prechargeTimeout s = execPrechargeTimeout s from rfl) (if_pos hp)
  · exact chgDoes_fault (show exec .pulseTimeTimeout s = execPulseTimeTimeout s from rfl) (if_pos hp)
  · have hrest : c.endPulse i.toNat limited = (c.wr R.CHG_IEND i.toNat).enterPhase phREST := by rw [hlim]; rfl
    obtain ⟨hphase, hcount⟩ := (c.wr R.CHG_IEND i.toNat).enterPhase_keepsCount (ph := phREST) (by decide)
    have hquiet := (c.wr R.CHG_IEND i.toNat).chgQuiet_enterPhase phREST
    refine chgDoes_of_chgMoved (show exec (.pulseEnd i limited) s = execPulseEnd i limited s from rfl) ((if_pos ⟨hp, hend⟩).trans hrest)
      ((c.chgMoved_wr (by decide) _).trans hquiet.chgMoved) ⟨hphase, ?_, hcount.trans ?_⟩
    · rw [Chip.rd_settle, hquiet.moved.1 _ (by decide), Chip.rd_wr_self]
      exact Nat.mod_eq_of_lt i.isLt
    · rw [Chip.chgCount, Chip.rfld, Chip.rd_wr_other _ _ _ _ (by decide)]
      rfl
  · obtain ⟨hmoved, hphase, hthree, hbit⟩ := Chip.endPulse_done hcounting hbelow hcount
    rw [hlim]
    exact chgDoes_of_chgMoved (show exec (.pulseEnd i false) s = execPulseEnd i false s from rfl) (if_pos ⟨hp, hend⟩) hmoved ⟨hphase, hthree, hbit⟩
  · exact chgDoes_enterPhase (show exec .restPhaseEnd s = execRestPhaseEnd s from rfl) (if_pos ⟨hp, hend⟩) ⟨.refl _ _ _, .refl _⟩ (by decide)
  · obtain ⟨hphase, hpulse, hmoved⟩ := c.firstPulse_spec
    have hevent := Chip.chgQuiet_event c.firstPulse 2
    have hkept {q : Reg} (hevt : q.addr ≠ R.CHG_EVT.addr) (hovf : q.addr ≠ R.DOORBELL_OVF.addr) :
        (c.firstPulse.event 6 R.CHG_EVT 2).rd q = c.firstPulse.rd q := Chip.rd_event_other _ _ _ _ hevt hovf
    have hbit : (c.firstPulse.event 6 R.CHG_EVT 2).rbit R.CHG_EVT 1 = true := by
      rw [Chip.rbit_event _ _ _ _ (by decide) (by decide)]
      exact Bool.or_true _
    refine chgDoes_of_chgMoved (show exec (.recharge vbat) s = execRecharge vbat s from rfl) (if_pos ⟨hp, hv⟩) (hmoved.trans hevent.chgMoved)
      ⟨?_, (hkept (by decide) (by decide)).trans hpulse, hbit⟩
    rw [Chip.chgPhase, Chip.rfld, Chip.rd_settle, hkept (by decide) (by decide)]
    exact hphase
  · refine chgDoes_enterPhase (show exec (.gatedPhaseBackstop i limited) s = execGatedPhaseBackstop i limited s from rfl) (b := c) (ph := phPULSE) ?_
      ⟨.refl _ _ _, .refl _⟩ (by decide)
    have hpulse : ¬ c.chgPhase = phPULSE := by rw [show c.chgPhase = phREST from hp]; decide
    refine (if_neg ?_).trans ((if_neg hpulse).trans (if_pos hp))
    rw [hgated, hgating, hforced]
    decide

/-! ### Temperature zones (R590, R597, R598) -/

section
variable {c d : Chip}

theorem Chip.rd_ite {p : Prop} [Decidable p] {q : Reg} {v : Nat} (hc : c.rd q = v) (hd : d.rd q = v) : (if p then c else d).rd q = v := by
  split
  · exact hc
  · exact hd

theorem Chip.rd_select (c : Chip) {q : Reg} (hstat : q.addr ≠ R.CHG_STAT.addr) (hevt : q.addr ≠ R.CHG_EVT.addr) (hovf : q.addr ≠ R.DOORBELL_OVF.addr) :
    c.select.rd q = c.rd q := by
  simp only [Chip.select]
  rw [Chip.wfld, Chip.wfld, Chip.rd_wr_other _ _ _ _ hstat, Chip.rd_wr_other _ _ _ _ hstat]
  exact Chip.rd_ite rfl ((Chip.rd_event_other _ _ _ _ hevt hovf).trans (Chip.rd_ite rfl rfl))

theorem Chip.rd_shown (c : Chip) {q : Reg} (hstat : q.addr ≠ R.CHG_STAT.addr) (hdet : q.addr ≠ R.CHG_DET.addr) : c.shown.rd q = c.rd q := by
  rw [Chip.shown, Chip.ignoreShown, Chip.wbit, Chip.rd_wr_other _ _ _ _ hstat, Chip.dockShown, Chip.wbit, Chip.rd_wr_other _ _ _ _ hstat]
  have husable (b : Chip) : b.usableShown.rd q = b.rd q := Chip.rd_ite rfl (Chip.rd_wr_other _ _ _ _ hstat)
  have hdetected (b : Chip) : b.detected.rd q = b.rd q := Chip.rd_ite rfl rfl
  rw [husable, Chip.budgetShown, Chip.wbit, Chip.rd_wr_other _ _ _ _ hdet, Chip.codeShown, Chip.wfld, Chip.rd_wr_other _ _ _ _ hdet, hdetected]

theorem Chip.rd_showLimits (c : Chip) {q : Reg} (hq : ∀ i, q.addr ≠ (R.CHG_ICL_EFF i).addr) : c.showLimits.rd q = c.rd q := by
  simp only [Chip.showLimits, List.foldl_cons, List.foldl_nil]
  rw [Chip.rd_wr_other _ _ _ _ (hq 3), Chip.rd_wr_other _ _ _ _ (hq 2), Chip.rd_wr_other _ _ _ _ (hq 1), Chip.rd_wr_other _ _ _ _ (hq 0)]

theorem Chip.chgState_showInputs (c : Chip) : c.select.showInputs.rd R.CHG_STATE = c.rd R.CHG_STATE := by
  rw [Chip.showInputs_eq, Chip.rd_showLimits _ (fun i => by simp only [R.CHG_STATE, R.CHG_ICL_EFF]; omega), Chip.rd_shown _ (by decide) (by decide),
    Chip.rd_select _ (by decide) (by decide) (by decide)]

theorem Chip.Moved.chgRun (h : c.Moved d shownRegs Chip.noChg) : d.chgRun = c.chgRun := by
  have hseq : d.seq = c.seq := h.field (f := Chip.seq) (fun _ => rfl)
  have hmode : d.mode = c.mode := h.field (f := Chip.mode) (fun _ => rfl)
  unfold Chip.chgRun Chip.chgMode Chip.chem Chip.rfld Chip.wrdOn Chip.domOn Chip.dom Chip.inShip
  rw [h.1 R.CHG_MODE (by decide), h.1 R.CHG_CHEM (by decide), hseq, hmode]

theorem Chip.Moved.anyInput (h : c.Moved d shownRegs Chip.noChg) : d.anyInput = c.anyInput := by
  rw [Chip.anyInput, funext (h.inputLive shown_supply), Chip.anyInput]

theorem Chip.Moved.vbatPres (h : c.Moved d shownRegs Chip.noChg) : d.vbatPres = c.vbatPres := by
  rw [Chip.vbatPres, Chip.rbit, h.1 _ (by decide), Chip.vbatPres, Chip.rbit]

theorem Chip.ChgQuiet.zone (h : c.ChgQuiet d) : d.rfld R.CHG_STAT 10 3 = c.rfld R.CHG_STAT 10 3 := h.kept (R.CHG_STAT, 10, 3) (by decide)

theorem Chip.ChgQuiet.badZone (h : c.ChgQuiet d) : d.badZone = c.badZone := by
  have hbad : d.chg.undetected.ntcBad = c.chg.undetected.ntcBad := by rw [h.rest]
  replace hbad : d.chg.ntcBad = c.chg.ntcBad := hbad
  have hzone : d.zone = c.zone := by
    rw [Chip.zone, h.zone, Chip.rbit, h.moved.1 R.CHG_CTRL (by decide)]
    rfl
  rw [Chip.badZone, hbad, hzone, Chip.rbit, h.moved.1 R.CHG_CTRL (by decide)]
  rfl

/-- A charger that runs with a battery and an input leaves a pulse for HOLD alone (R582). -/
theorem Chip.phaseRow_pulse (hrun : c.chgRun = true) (hbat : c.vbatPres = true) (hin : c.anyInput = true) (hp : c.chgPhase = phPULSE) :
    c.phaseRow = if c.badZone then some phHOLD else none := by
  unfold Chip.phaseRow
  rw [hrun, hbat, hin, hp]
  cases c.badZone <;> rfl

theorem Chip.phaseRow_hold (hrun : c.chgRun = true) (hp : c.chgPhase = phHOLD) : c.phaseRow = none := by
  unfold Chip.phaseRow
  rw [hrun, hp]
  rfl

theorem Chip.phaseSettle_of_none (h : c.phaseRow = none) (n : Nat) : c.phaseSettle n = c := by
  cases n with
  | zero => rfl
  | succ n => rw [Chip.phaseSettle, h]

/-- Selection and detection leave a pulse, or put it in HOLD in a zone that stops charging. -/
theorem Chip.chgSettle_pulse (hrun : c.chgRun = true) (hbat : c.vbatPres = true) (hin : c.anyInput = true) (hp : c.chgPhase = phPULSE)
    (hcount : c.chgCount = 0) : c.chgSettle.chgPhase = (if c.badZone then phHOLD else phPULSE) ∧ c.chgSettle.chgCount = 0 := by
  have hquiet : c.ChgQuiet c.select.showInputs := c.chgQuiet_select.trans (Chip.chgQuiet_showInputs _)
  have hstate := c.chgState_showInputs
  have hsettle : c.chgSettle = c.select.showInputs.phaseSettle 4 := rfl
  generalize c.select.showInputs = b at *
  have hp' : b.chgPhase = phPULSE := by rw [Chip.chgPhase, Chip.rfld, hstate]; exact hp
  have hcount' : b.chgCount = 0 := by rw [Chip.chgCount, Chip.rfld, hstate]; exact hcount
  have hrow := Chip.phaseRow_pulse (hquiet.moved.chgRun.trans hrun) (hquiet.moved.vbatPres.trans hbat) (hquiet.moved.anyInput.trans hin) hp'
  rw [hsettle, ← hquiet.badZone]
  cases hbad : b.badZone
  · rw [hbad] at hrow
    rw [Chip.phaseSettle_of_none hrow]
    exact ⟨hp', hcount'⟩
  · rw [hbad] at hrow
    obtain ⟨hhold, hzero⟩ := b.enterPhase_clearsCount (ph := phHOLD) (by decide)
    have hstay := Chip.phaseRow_hold (((hquiet.trans (b.chgQuiet_enterPhase phHOLD)).moved.chgRun).trans hrun) hhold
    rw [Chip.phaseSettle, hrow]
    simp only [if_true]
    rw [Chip.phaseSettle_of_none hstay]
    exact ⟨hhold, hzero⟩

theorem Chip.chgSettle_hold (hrun : c.chgRun = true) (hp : c.chgPhase = phHOLD) : c.chgSettle.chgPhase = phHOLD := by
  have hquiet : c.ChgQuiet c.select.showInputs := c.chgQuiet_select.trans (Chip.chgQuiet_showInputs _)
  have hstate := c.chgState_showInputs
  have hsettle : c.chgSettle = c.select.showInputs.phaseSettle 4 := rfl
  generalize c.select.showInputs = b at *
  have hp' : b.chgPhase = phHOLD := by rw [Chip.chgPhase, Chip.rfld, hstate]; exact hp
  rw [hsettle, Chip.phaseSettle_of_none (Chip.phaseRow_hold (hquiet.moved.chgRun.trans hrun) hp')]
  exact hp'

/-- What a change of zone shows before phases follow it (R590, R598). -/
theorem Chip.zoneChange_spec {z : Nat} (hz : z < 8) (hne : c.rfld R.CHG_STAT 10 3 ≠ z) : ∃ b, c.zoneChange z = b.chgSettle ∧ c.Moved b shownRegs Chip.noChg ∧
    c.Rings b ∧ b.rfld R.CHG_STAT 10 3 = z ∧ b.rbit R.CHG_EVT 4 = true ∧ b.chgCount = 0 ∧ b.chgPhase = c.chgPhase ∧ b.chg.ntcBad = false := by
  let a : Chip := { c with chg := { c.chg with ntcBad := false } }
  let w := a.wfld R.CHG_STAT 10 3 z
  let e := w.event 6 R.CHG_EVT 0x10
  let f := e.setCount 0
  have hzone : c.zoneChange z = (if f.chgPhase = phPULSE ∧ zoneDist c.zone < zoneDist z ∧ !f.rbit R.CHG_CTRL 3 then { f with chg := { f.chg with counting := false } }
      else f).chgSettle := if_neg hne
  have hmoved : c.Moved f shownRegs Chip.noChg :=
    (((Chip.Moved.refl a _ _).wfld (r := R.CHG_STAT) (by decide) 10 3 z).event (r := R.CHG_EVT) (by decide) (by decide) (fun _ _ => rfl) 6 0x10).wfld
      (r := R.CHG_STATE) (by decide) 4 2 0
  have hrings : c.Rings f := w.rings_event 6 R.CHG_EVT 0x10
  have hstat : f.rfld R.CHG_STAT 10 3 = z := by
    have hrd : f.rd R.CHG_STAT = w.rd R.CHG_STAT :=
      (Chip.rd_wr_other e R.CHG_STATE _ _ (by decide)).trans (Chip.rd_event_other w 6 R.CHG_EVT 0x10 (by decide) (by decide))
    rw [Chip.rfld, hrd]
    exact (a.rfld_wfld_self z (by decide)).trans (Nat.mod_eq_of_lt hz)
  have hevt : f.rbit R.CHG_EVT 4 = true := by
    have hrd : f.rd R.CHG_EVT = e.rd R.CHG_EVT := Chip.rd_wr_other e R.CHG_STATE _ _ (by decide)
    rw [Chip.rbit, hrd]
    exact (w.rbit_event 6 R.CHG_EVT 0x10 (by decide) (by decide)).trans (Bool.or_true _)
  have hcount : f.chgCount = 0 := e.rfld_wfld_self 0 (by decide)
  have hphase : f.chgPhase = c.chgPhase := by
    refine (e.rfld_wfld_other (l := 0) (n := 4) (by decide) (by decide)).trans ?_
    have hrd : e.rd R.CHG_STATE = c.rd R.CHG_STATE :=
      (Chip.rd_event_other w 6 R.CHG_EVT 0x10 (by decide) (by decide)).trans (Chip.rd_wr_other a R.CHG_STAT _ _ (by decide))
    rw [Chip.rfld, hrd]
    rfl
  have hntc : f.chg.ntcBad = false := by
    have hchg : e.chg = a.chg := by
      show (w.event 6 R.CHG_EVT 0x10).chg = a.chg
      rw [Chip.event_eq]
      rfl
    exact congrArg ChgSt.ntcBad hchg
  generalize f = f at *
  split at hzone
  · exact ⟨_, hzone, hmoved.put rfl rfl, hrings, hstat, hevt, hcount, hphase, hntc⟩
  · exact ⟨_, hzone, hmoved, hrings, hstat, hevt, hcount, hphase, hntc⟩

end

theorem chargeZones : Parts.ChargeZones := by
  intro s z c hrun hbat hin hctrl hne
  obtain ⟨b, hb, hmoved, hrings, hzone, hevt, hcount, hphase, hntc⟩ := Chip.zoneChange_spec (c := c) (z := z.val) (by omega) hne
  have hquiet := b.chgQuiet_chgSettle
  have hmoves : c.ChgMoved b.chgSettle := ⟨(hmoved.trans hquiet.moved).mono shown_sub, hrings.trans hquiet.rings⟩
  have hctrl' : b.rbit R.CHG_CTRL 3 = false := by rw [Chip.rbit, hmoved.1 _ (by decide)]; exact hctrl
  have hbad : b.badZone = (z.val == 0 || z.val == 4) := by
    have hz : b.zone = z.val := by rw [Chip.zone, hctrl']; exact hzone
    rw [Chip.badZone, hctrl', hntc, hz]
    rfl
  have hzone' : b.chgSettle.rfld R.CHG_STAT 10 3 = z.val := hquiet.zone.trans hzone
  have hevt' : bit (b.chgSettle.rd R.CHG_EVT) 4 = true := hquiet.evt 4 (by decide) hevt
  refine ⟨fun hp i hi => ?_, fun hp hlow hhigh => ?_⟩
  · obtain ⟨hphase', hcount'⟩ := Chip.chgSettle_pulse (hmoved.chgRun.trans hrun) (hmoved.vbatPres.trans hbat) (hmoved.anyInput.trans hin) (hphase.trans hp) hcount
    have hend : b.chgSettle.chgPhase = if z.val = 0 ∨ z.val = 4 then phHOLD else phPULSE := by
      rw [hphase', hbad]
      simp only [Bool.or_eq_true, beq_iff_eq]
    generalize b.chgSettle = d at *
    rcases List.mem_append.1 hi with h | h
    · rw [List.mem_singleton.1 h]
      exact chgDoes_of_chgMoved (show exec (.zoneChange z) s = execZoneChange z s from rfl) hb hmoves ⟨hzone', hevt', hcount', hend⟩
    · by_cases hstop : z.val = 0 ∨ z.val = 4
      · rw [if_pos hstop, List.mem_singleton] at h
        rw [h]
        exact chgDoes_of_chgMoved (show exec (.chargerHold z) s = execChargerHold z s from rfl) ((if_pos hstop).trans hb) hmoves ⟨hzone', hevt', hcount', hend⟩
      · rw [if_neg hstop] at h
        cases h
  · have hhold := Chip.chgSettle_hold (hmoved.chgRun.trans hrun) (hphase.trans hp)
    have hgood : b.chgSettle.badZone = false := by
      rw [hquiet.badZone, hbad]
      simp only [Bool.or_eq_false_iff, beq_eq_false_iff_ne]
      omega
    have henter := b.chgSettle.chgQuiet_enterPhase phWAIT
    generalize b.chgSettle = d at *
    refine chgDoes_of_chgMoved (show exec (.chargerHoldExit z) s = execChargerHoldExit z s from rfl) (d := d.enterPhase phWAIT) ?_ (hmoves.trans henter.chgMoved)
      ⟨henter.zone.trans hzone', (d.enterPhase_clearsCount (by decide)).1⟩
    have hgo : ¬ ((c.zoneChange z.val).badZone || (c.zoneChange z.val).chgPhase != phHOLD) = true := by
      rw [hb, hgood, hhold]
      decide
    exact (if_neg (not_not_intro hp)).trans ((if_neg hgo).trans (by rw [hb]))

/-- Settles O46. -/
theorem chargerPhases : Obligations.ChargerPhases := ⟨chargePhases, chargeZones⟩

end Sys2Proof.Machine
end

section
/-!
PROOFS. Detection and limits of the inputs, the sink, the dock, the reserve and the battery's presence (12 R562 to R569, R605, R613, R618).
-/
namespace Sys2Proof.Machine

section
variable {c d : Chip}

/-! ### The effective limits (R562, R566) -/

theorem iclEff_ne {i j : Nat} (h : i ≠ j) : (R.CHG_ICL_EFF i).addr ≠ (R.CHG_ICL_EFF j).addr := by
  simp only [R.CHG_ICL_EFF]
  omega

/-- What the limit of an input is computed from stands apart from the limits shown. -/
theorem Chip.effLimit_wr (c : Chip) {i : Nat} (hi : i < 4) (j : Fin 4) (v : Nat) : (c.wr (R.CHG_ICL_EFF j) v).effLimit i = c.effLimit i := by
  have hmoved : c.Moved (c.wr (R.CHG_ICL_EFF j) v) [R.CHG_ICL_EFF j] Chip.noChg := (Chip.Moved.refl c _ _).wr (by simp) v
  have hoff (k : Fin 4) : ∀ q ∈ [R.SYS_SUPPLY, R.CHG_DET, R.CHG_ICL_S12, R.CHG_ICL_S24, R.CHG_STRBUD, R.CHG_ICLMAX 0, R.CHG_ICLMAX 1, R.CHG_ICLMAX 2,
      R.CHG_ICLMAX 3], ∀ x ∈ [R.CHG_ICL_EFF k], q.addr ≠ x.addr := by
    revert k
    decide
  have hrd {q : Reg} (hq : q ∈ [R.SYS_SUPPLY, R.CHG_DET, R.CHG_ICL_S12, R.CHG_ICL_S24, R.CHG_STRBUD, R.CHG_ICLMAX 0, R.CHG_ICLMAX 1, R.CHG_ICLMAX 2,
      R.CHG_ICLMAX 3]) : (c.wr (R.CHG_ICL_EFF j) v).rd q = c.rd q := hmoved.1 q (hoff j q hq)
  have hlive : (c.wr (R.CHG_ICL_EFF j) v).inputLive i = c.inputLive i := hmoved.inputLive (hoff j R.SYS_SUPPLY (by simp)) i
  unfold Chip.effLimit
  rw [hlive]
  unfold Chip.detLimit Chip.rfld Chip.rbit
  interval_cases i
  · rw [hrd (q := R.CHG_DET) (by simp), hrd (q := R.CHG_ICL_S12) (by simp), hrd (q := R.CHG_ICL_S24) (by simp), hrd (q := R.CHG_ICLMAX 0) (by simp)]
    rfl
  · rw [hrd (q := R.CHG_DET) (by simp), hrd (q := R.CHG_ICLMAX 1) (by simp)]
    rfl
  · rw [hrd (q := R.CHG_ICLMAX 2) (by simp)]
    rfl
  · rw [hrd (q := R.CHG_STRBUD) (by simp), hrd (q := R.CHG_ICLMAX 3) (by simp)]
    rfl

theorem Chip.iclEff_showLimits (c : Chip) {i : Nat} (hi : i < 4) : c.showLimits.rd (R.CHG_ICL_EFF i) = c.effLimit i % 2 ^ 16 := by
  let e0 := c.wr (R.CHG_ICL_EFF 0) (c.effLimit 0)
  let e1 := e0.wr (R.CHG_ICL_EFF 1) (e0.effLimit 1)
  let e2 := e1.wr (R.CHG_ICL_EFF 2) (e1.effLimit 2)
  have hlimits : c.showLimits = e2.wr (R.CHG_ICL_EFF 3) (e2.effLimit 3) := rfl
  have h0 {k : Nat} (hk : k < 4) : e0.effLimit k = c.effLimit k := c.effLimit_wr hk 0 _
  have h1 {k : Nat} (hk : k < 4) : e1.effLimit k = c.effLimit k := (e0.effLimit_wr hk 1 _).trans (h0 hk)
  have h2 {k : Nat} (hk : k < 4) : e2.effLimit k = c.effLimit k := (e1.effLimit_wr hk 2 _).trans (h1 hk)
  rw [hlimits]
  interval_cases i
  · rw [Chip.rd_wr_other _ _ _ _ (iclEff_ne (by decide)), Chip.rd_wr_other _ _ _ _ (iclEff_ne (by decide)), Chip.rd_wr_other _ _ _ _ (iclEff_ne (by decide))]
    exact Chip.rd_wr_self _ _ _
  · rw [Chip.rd_wr_other _ _ _ _ (iclEff_ne (by decide)), Chip.rd_wr_other _ _ _ _ (iclEff_ne (by decide)), ← h0 (by decide)]
    exact Chip.rd_wr_self _ _ _
  · rw [Chip.rd_wr_other _ _ _ _ (iclEff_ne (by decide)), ← h1 (by decide)]
    exact Chip.rd_wr_self _ _ _
  · rw [← h2 (by decide)]
    exact Chip.rd_wr_self _ _ _

theorem Chip.phaseRow_mem {p : Nat} (h : c.phaseRow = some p) : p ∈ [phOFF, phWAIT, phHOLD] := by
  simp only [Chip.phaseRow] at h
  split_ifs at h <;> simp only [Option.some.injEq] at h <;> subst h <;> decide

/-- The phases that follow of themselves show in CHG_STATE alone. -/
theorem Chip.rd_phaseSettle (c : Chip) (n : Nat) {q : Reg} (hq : q.addr ≠ R.CHG_STATE.addr) : (c.phaseSettle n).rd q = c.rd q := by
  induction n generalizing c with
  | zero => rfl
  | succ n ih =>
    have hbegun (p : Nat) : (c.phaseBegun p).rd q = c.rd q := Chip.rd_wr_other _ _ _ _ hq
    rw [Chip.phaseSettle]
    split
    case h_1 p hp =>
      rw [ih]
      have hmem := Chip.phaseRow_mem hp
      by_cases hplain : p ∈ [phOFF, phFAULT, phCV]
      · rw [c.enterPhase_plain hplain, hbegun]
      · rw [c.enterPhase_uncounted, Chip.setCount, Chip.wfld, Chip.rd_wr_other _ _ _ _ hq, hbegun]
        simp only [List.mem_cons, List.not_mem_nil, or_false] at hmem hplain ⊢
        tauto
    case h_2 => rfl

theorem Chip.iclEff_chgSettle (c : Chip) {i : Nat} (hi : i < 4) : c.chgSettle.rd (R.CHG_ICL_EFF i) = c.select.shown.effLimit i % 2 ^ 16 := by
  rw [Chip.chgSettle, Chip.rd_phaseSettle _ _ (by simp only [R.CHG_ICL_EFF, R.CHG_STATE]; omega), Chip.showInputs_eq, Chip.iclEff_showLimits _ hi]

theorem Chip.chgQuiet_selectShown (c : Chip) : c.ChgQuiet c.select.shown := c.chgQuiet_select.trans (Chip.chgQuiet_shown _)

/-- The limit of a PORT that is an input (R562). -/
theorem Chip.portLimit_chgSettle (hlive : c.inputLive 2 = true) :
    c.chgSettle.rd (R.CHG_ICL_EFF 2) = min (portLimit c.chg.rp c.chg.bc12 c.chg.detDone) (c.rd (R.CHG_ICLMAX 2)) % 2 ^ 16 := by
  have hquiet := c.chgQuiet_selectShown
  rw [c.iclEff_chgSettle (by decide)]
  generalize c.select.shown = e at *
  have hrp : e.chg.still.rp = c.chg.still.rp := by rw [hquiet.port hlive]
  have hbc : e.chg.still.bc12 = c.chg.still.bc12 := by rw [hquiet.port hlive]
  have hdone : e.chg.still.detDone = c.chg.still.detDone := by rw [hquiet.port hlive]
  have hmax := hquiet.moved.1 (R.CHG_ICLMAX 2) (by decide)
  have hlim : e.detLimit 2 = portLimit c.chg.rp c.chg.bc12 c.chg.detDone :=
    (congr (congr (congrArg portLimit hrp) hbc) hdone : portLimit e.chg.still.rp e.chg.still.bc12 e.chg.still.detDone = _)
  rw [Chip.effLimit, if_pos ((hquiet.moved.inputLive shown_supply 2).trans hlive), hlim, hmax]

/-- The limit of WAVE with its signature (R567). -/
theorem Chip.waveLimit_chgSettle (hlive : c.inputLive 1 = true) (hsign : c.rfld R.CHG_DET 5 1 = 1) :
    c.chgSettle.rd (R.CHG_ICL_EFF 1) = c.rd (R.CHG_ICLMAX 1) % 2 ^ 16 := by
  have hquiet := c.chgQuiet_selectShown
  rw [c.iclEff_chgSettle (by decide)]
  generalize c.select.shown = e at *
  have hdet : e.rfld R.CHG_DET 5 1 = 1 := (hquiet.kept (R.CHG_DET, 5, 1) (by decide)).trans hsign
  have hbit : e.rbit R.CHG_DET 5 = true := beq_iff_eq.2 hdet
  have hlim : e.detLimit 1 = e.rd (R.CHG_ICLMAX 1) := if_pos hbit
  rw [Chip.effLimit, if_pos ((hquiet.moved.inputLive shown_supply 1).trans hlive), hlim, min_self, hquiet.moved.1 (R.CHG_ICLMAX 1) (by decide)]

end

/-! ### Commands that put a state of detection in force -/

theorem ChgDoes.imp {i : Instr} {s : State} {P Q : Chip → Prop} (h : ChgDoes i s P) (hPQ : ∀ d, P d → Q d) : ChgDoes i s Q := by
  obtain ⟨t, ht, hpending, hP, hkeeps⟩ := h
  exact ⟨t, ht, hpending, hPQ _ hP, hkeeps⟩

section
variable {s : State} {i : Instr} {f : Chip → Chip} (he : exec i s = s.lift f)
include he

/-- A change of PORT's detection (R562 to R565). -/
theorem chgDoes_port {x : ChgSt} (hd : f s.chip = { s.chip with chg := x }.chgSettle) (hlive : s.chip.inputLive 2 = true) :
    ChgDoes i s (fun d => d.chg.still = x.still ∧ d.rd (R.CHG_ICL_EFF 2) = min (portLimit x.rp x.bc12 x.detDone) (s.chip.rd (R.CHG_ICLMAX 2)) % 2 ^ 16) := by
  have hmoved : s.chip.ChgMoved { s.chip with chg := x } := ⟨(Chip.Moved.refl _ _ _).put rfl rfl, .refl _⟩
  have hquiet := Chip.chgQuiet_chgSettle { s.chip with chg := x }
  have hlimit := Chip.portLimit_chgSettle (c := { s.chip with chg := x }) hlive
  have hport := hquiet.port hlive
  generalize Chip.chgSettle { s.chip with chg := x } = d at *
  exact chgDoes_of_chgMoved he hd (hmoved.trans hquiet.chgMoved) ⟨hport, hlimit⟩

/-- WAVE's signature shown (R567). -/
theorem chgDoes_signature {b : Bool} (hd : f s.chip = (s.chip.wbit R.CHG_DET 5 b).chgSettle) :
    ChgDoes i s (fun d => d.rbit R.CHG_DET 5 = b ∧
      (s.chip.inputLive 1 = true → b = true → d.rd (R.CHG_ICL_EFF 1) = s.chip.rd (R.CHG_ICLMAX 1) % 2 ^ 16)) := by
  have hmoved : s.chip.ChgMoved (s.chip.wbit R.CHG_DET 5 b) := s.chip.chgMoved_wr (by decide) _
  have hbit : (s.chip.wbit R.CHG_DET 5 b).rbit R.CHG_DET 5 = b := (s.chip.rbit_wbit 5 b (by decide)).trans (if_pos rfl)
  have hlive : (s.chip.wbit R.CHG_DET 5 b).inputLive 1 = s.chip.inputLive 1 :=
    ((Chip.Moved.refl s.chip [R.CHG_DET] _).wbit (by simp) 5 b).inputLive (by decide) 1
  have hmax : (s.chip.wbit R.CHG_DET 5 b).rd (R.CHG_ICLMAX 1) = s.chip.rd (R.CHG_ICLMAX 1) := Chip.rd_wr_other _ _ _ _ (by decide)
  generalize s.chip.wbit R.CHG_DET 5 b = a at *
  have hquiet := a.chgQuiet_chgSettle
  have hkept : a.chgSettle.rfld R.CHG_DET 5 1 = a.rfld R.CHG_DET 5 1 := hquiet.kept (R.CHG_DET, 5, 1) (by decide)
  have hbit' : a.chgSettle.rbit R.CHG_DET 5 = b := (congrArg (fun n => n == 1) hkept).trans hbit
  refine chgDoes_of_chgMoved he hd (hmoved.trans hquiet.chgMoved) ⟨hbit', fun hl hb => ?_⟩
  rw [← hmax]
  exact Chip.waveLimit_chgSettle (hlive.trans hl) (beq_iff_eq.1 (hbit.trans hb))

end

/-! ### SYS_SUPPLY and the level rules (02 R88, R93) -/

section
variable {c d : Chip}

/-- Of SYS_SUPPLY the level rules read bank A's bit alone. -/
theorem Chip.endsAlike_supply {v : Nat} (hv : bit v 8 = c.rbit R.SYS_SUPPLY 8) : c.EndsAlike (c.wr R.SYS_SUPPLY v) := by
  have hbank : (c.wr R.SYS_SUPPLY v).bankGood 0 = c.bankGood 0 := by
    rw [Chip.bankGood, Chip.rbit, Chip.rd_wr_self, bit_mod_256_pow v (by decide), hv]
    rfl
  have hother {r : Reg} (hr : r.addr ≠ R.SYS_SUPPLY.addr) : (c.wr R.SYS_SUPPLY v).rd r = c.rd r := Chip.rd_wr_other _ _ _ _ hr
  have hactive (i : Nat) : (c.wr R.SYS_SUPPLY v).pebActive i = c.pebActive i := by
    unfold Chip.pebActive Chip.pebUnlocked Chip.fuseUnlock Chip.fieldDebugBlown Chip.policyFailed Chip.policyOn Chip.rbit Chip.rfld
    rw [hother (by decide), hother (by decide), hother (by decide)]
    rfl
  have hent : (c.wr R.SYS_SUPPLY v).entState = c.entState := by
    unfold Chip.entState Chip.rfld
    rw [hother (by decide)]
  unfold Chip.EndsAlike Chip.settle Chip.putLevels
  simp only [hactive, hbank, hent]
  rfl

theorem Chip.endsAlike_supplyBit (c : Chip) {i : Nat} (hi : i ≠ 8) (b : Bool) : c.EndsAlike (c.wbit R.SYS_SUPPLY i b) :=
  Chip.endsAlike_supply (by rw [bit_putBit, if_neg (Ne.symm hi)]; rfl)

/-- A bit of SYS_SUPPLY changed, with its change bit and event. -/
def Chip.supplyBit (c : Chip) (i : Nat) (b : Bool) : Chip := (c.wbit R.SYS_SUPPLY i b).event 0 R.SYS_SUPPLY_CHG (2 ^ i)

theorem bit_two_pow (i : Nat) : bit (2 ^ i) i = true := by rw [bit_eq_testBit, Nat.testBit_two_pow_self]

/-- The bit, the change bit and what else may have changed. -/
theorem Chip.supplyBit_spec (c : Chip) {i : Nat} (hi : i < 16) (b : Bool) : (c.supplyBit i b).rbit R.SYS_SUPPLY i = b ∧
    bit ((c.supplyBit i b).rd R.SYS_SUPPLY_CHG) i = true ∧ c.Rings (c.supplyBit i b) ∧
    c.Moved (c.supplyBit i b) [R.SYS_SUPPLY, R.SYS_SUPPLY_CHG, R.DOORBELL_OVF] Chip.noThreads ∧ (i ≠ 8 → c.EndsAlike (c.supplyBit i b)) := by
  have hself : (c.wbit R.SYS_SUPPLY i b).rbit R.SYS_SUPPLY i = b := (c.rbit_wbit i b hi).trans (if_pos rfl)
  have hmoved : c.Moved (c.wbit R.SYS_SUPPLY i b) [R.SYS_SUPPLY, R.SYS_SUPPLY_CHG, R.DOORBELL_OVF] Chip.noThreads := (Chip.Moved.refl c _ _).wbit (by simp) i b
  have hrings : c.Rings (c.wbit R.SYS_SUPPLY i b) := .refl c
  have hend (h : i ≠ 8) := c.endsAlike_supplyBit h b
  unfold Chip.supplyBit
  generalize c.wbit R.SYS_SUPPLY i b = a at *
  refine ⟨?_, ?_, hrings.trans (a.rings_event _ _ _), hmoved.event (by simp) (by simp) (fun _ _ => rfl) _ _,
    fun h => (hend h).trans (a.endsAlike_event 0 (by decide) _)⟩
  · rw [Chip.rbit, Chip.rd_event_other _ _ _ _ (by decide) (by decide)]
    exact hself
  · refine (a.rbit_event 0 R.SYS_SUPPLY_CHG (2 ^ i) (i := i) hi (by decide)).trans ?_
    rw [bit_two_pow, Bool.or_true]

/-- The registers that a change of supply of the power path moves. -/
def supplyChgRegs : List Reg := R.SYS_SUPPLY :: R.SYS_SUPPLY_CHG :: chgRegs

/-- The power path follows the change. -/
theorem Chip.supplyBit_chgSettle (c : Chip) {i : Nat} (hi : i < 8) (b : Bool) : (c.supplyBit i b).chgSettle.rbit R.SYS_SUPPLY i = b ∧
    bit ((c.supplyBit i b).chgSettle.rd R.SYS_SUPPLY_CHG) i = true ∧ c.Rings (c.supplyBit i b).chgSettle ∧
    c.Moved (c.supplyBit i b).chgSettle supplyChgRegs Chip.noChg ∧ c.EndsAlike (c.supplyBit i b).chgSettle := by
  obtain ⟨hbit, hchg, hrings, hmoved, hend⟩ := c.supplyBit_spec (i := i) (by omega) b
  have hend := hend (by omega)
  have hwide : c.Moved (c.supplyBit i b) supplyChgRegs Chip.noChg := by
    have hmono := hmoved.mono (rs' := supplyChgRegs) (by decide)
    exact ⟨hmono.1, congrArg (fun x : Chip => { x with chg := {} }) hmono.2⟩
  generalize c.supplyBit i b = a at *
  have hquiet := a.chgQuiet_chgSettle
  have hsame : a.SameLevels a.chgSettle := hquiet.moved.sameLevels (by decide) levelBlank_noChg
  refine ⟨?_, ?_, hrings.trans hquiet.rings, hwide.trans (hquiet.moved.mono (by decide)), hend.trans hsame.endsAlike⟩
  · rw [Chip.rbit, hquiet.moved.1 _ (by decide)]
    exact hbit
  · rw [hquiet.moved.1 _ (by decide)]
    exact hchg

end

/-! ### The statement -/

/-- PORT's limit and detection (R562 to R565). -/
theorem portDetection {s : State} (rp : RpAdvert) (bc : Bc12) (hlive : s.chip.inputLive 2 = true) :
    let lim (d : Chip) (n : Nat) : Prop := d.rd (R.CHG_ICL_EFF 2) = min n (s.chip.rd (R.CHG_ICLMAX 2)) % 2 ^ 16
    ChgDoes (.portAttach rp) s (fun d => d.chg.rp = rp ∧ d.chg.detDone = false ∧ lim d 100) ∧
      ChgDoes (.portDetectionDone bc) s (fun d => d.chg.bc12 = bc ∧ d.chg.detDone = true ∧ lim d (portLimit s.chip.chg.rp bc true)) ∧
      ChgDoes (.rpChange rp) s (fun d => d.chg.rp = rp ∧ lim d (portLimit rp s.chip.chg.bc12 s.chip.chg.detDone)) := by
  refine ⟨?_, ?_, ?_⟩
  · refine (chgDoes_port (show exec (.portAttach rp) s = execPortAttach rp s from rfl) (if_pos hlive) hlive).imp (fun d hd => ?_)
    obtain ⟨hstill, hlim⟩ := hd
    have hrp : d.chg.still.rp = rp := by rw [hstill]; rfl
    have hdone : d.chg.still.detDone = false := by rw [hstill]; rfl
    exact ⟨hrp, hdone, hlim⟩
  · refine (chgDoes_port (show exec (.portDetectionDone bc) s = execPortDetectionDone bc s from rfl) (if_pos hlive) hlive).imp (fun d hd => ?_)
    obtain ⟨hstill, hlim⟩ := hd
    have hbc : d.chg.still.bc12 = bc := by rw [hstill]; rfl
    have hdone : d.chg.still.detDone = true := by rw [hstill]; rfl
    exact ⟨hbc, hdone, hlim⟩
  · refine (chgDoes_port (show exec (.rpChange rp) s = execRpChange rp s from rfl) (if_pos hlive) hlive).imp (fun d hd => ?_)
    obtain ⟨hstill, hlim⟩ := hd
    have hrp : d.chg.still.rp = rp := by rw [hstill]; rfl
    exact ⟨hrp, hlim⟩

/-- A sample of SOLAR begins while another input is present (R568). -/
theorem Chip.vocStart_of_other {c : Chip} (hsolar : c.inputLive 0 = true) (hstring : c.inputLive 3 = true) (hfree : c.chg.vocBusy = false)
    (hship : c.inShip = false) : c.vocStart = { c with chg := { c.chg with vocBusy := true } } := by
  have hany : [1, 2, 3].any c.inputLive = true := by simp [hstring]
  simp only [Chip.vocStart, hsolar, hfree, hship, hany, Bool.not_true, Bool.or_false, Bool.false_eq_true, if_false, Bool.false_and, and_false]

theorem solarClass_lt (mv : Nat) : solarClass mv < 4 := by
  unfold solarClass
  split_ifs <;> omega

/-- A sample ends (R562, R568). -/
theorem chgDoes_vocSampleEnd {s : State} {mv : BitVec 16} (hbusy : s.chip.chg.vocBusy = true) : ChgDoes (.vocSampleEnd mv) s
    (fun d => d.chg.vocBusy = false ∧ d.rd R.CHG_VOC = mv.toNat ∧ d.rfld R.CHG_DET 3 2 = solarClass mv.toNat) := by
  let a := ({ s.chip with chg := { s.chip.chg with vocBusy := false } }.wr R.CHG_VOC mv.toNat).wfld R.CHG_DET 3 2 (solarClass mv.toNat)
  have hdo : execVocSampleEnd mv s = .next { s with chip := Chip.settle a.chgSettle } := exec_eq_of_lift (i := .vocSampleEnd mv) rfl (if_pos hbusy)
  have hmoved : s.chip.ChgMoved a := ⟨((Chip.Moved.refl s.chip _ _).put (e := { s.chip with chg := { s.chip.chg with vocBusy := false } }) rfl rfl).wr
    (by decide) _ |>.wfld (by decide) _ _ _, .refl _⟩
  have hclass : a.rfld R.CHG_DET 3 2 = solarClass mv.toNat := (Chip.rfld_wfld_self _ _ (by decide)).trans (Nat.mod_eq_of_lt (solarClass_lt _))
  have hvoc : a.rd R.CHG_VOC = mv.toNat := by
    refine (Chip.rd_wr_other _ _ _ _ (by decide)).trans ((Chip.rd_wr_self _ _ _).trans ?_)
    exact Nat.mod_eq_of_lt mv.isLt
  have hfree : a.chg.vocBusy = false := rfl
  clear_value a
  have hquiet := a.chgQuiet_chgSettle
  have hrest : a.chgSettle.chg.undetected.vocBusy = a.chg.undetected.vocBusy := by rw [hquiet.rest]
  refine does_of_exec hdo ⟨⟨hrest.trans hfree, ?_, (hquiet.kept (R.CHG_DET, 3, 2) (by decide)).trans hclass⟩, ?_⟩
  · rw [Chip.rd_settle, hquiet.moved.1 _ (by decide), hvoc]
  · have h := hmoved.trans hquiet.chgMoved
    exact ⟨h.2, h.1.keeps chgRegs_not_level levelBlank_noChg⟩

/-- The dock's state is shown (R618). -/
theorem chgDoes_dock {s : State} (b : Bool) :
    ChgDoes (.dockLiveChange b) s (fun d => d.chg.dock = b ∧ d.rbit R.CHG_STAT 14 = (b && !s.chip.domUp (dCH 6))) := by
  let a : Chip := { s.chip with chg := { s.chip.chg with dock := b } }
  have hmoved : s.chip.ChgMoved a := ⟨(Chip.Moved.refl s.chip _ _).put rfl rfl, .refl _⟩
  have hquiet := a.chgQuiet_showInputs
  have hdock : a.showInputs.chg.undetected.dock = a.chg.undetected.dock := by rw [hquiet.rest]
  have hstat : a.showInputs.rbit R.CHG_STAT 14 = (b && !s.chip.domUp (dCH 6)) := by
    let e := a.detected.codeShown.budgetShown.usableShown
    have he : a.ChgQuiet e := ((a.chgQuiet_detected.trans (Chip.chgQuiet_codeShown _)).trans (Chip.chgQuiet_budgetShown _)).trans (Chip.chgQuiet_usableShown _)
    have hshown : a.shown = e.dockShown.ignoreShown := rfl
    have hseq : e.seq = s.chip.seq := he.moved.field (f := Chip.seq) (fun _ => rfl)
    have hdock : e.chg.undetected.dock = b := by rw [he.rest]; rfl
    rw [Chip.showInputs_eq, Chip.rbit, Chip.rd_showLimits _ (fun i => by simp only [R.CHG_STAT, R.CHG_ICL_EFF]; omega), hshown]
    clear_value e
    refine (e.dockShown.rbit_wbit 13 _ (j := 14) (by decide)).trans ((if_neg (by decide)).trans ((e.rbit_wbit 14 _ (j := 14) (by decide)).trans ?_))
    rw [if_pos rfl, Chip.domUp, Chip.dom, hseq, show e.chg.dock = b from hdock]
    rfl
  have hdo : (fun c : Chip => { c with chg := { c.chg with dock := b } }.showInputs) s.chip = a.showInputs := rfl
  generalize a.showInputs = d at *
  exact chgDoes_of_chgMoved (show exec (.dockLiveChange b) s = execDockLiveChange b s from rfl) hdo (hmoved.trans hquiet.chgMoved) ⟨hdock, hstat⟩

/-- Blanks the Warden and the threads. -/
def Chip.noWdnThreads (d : Chip) : Chip := { d with wdn := {}, threads := [] }

theorem levelBlank_noWdnThreads : LevelBlank Chip.noWdnThreads :=
  ⟨fun _ _ _ _ _ => rfl, fun _ => rfl, fun _ => rfl, fun _ => rfl, fun _ => rfl, fun _ => rfl, fun _ => rfl, fun _ => rfl⟩

/-- An event of the charger that is also a message to the Warden's empty inbox. -/
theorem Chip.tellWarden_spec {c a : Chip} {rs : List Reg} (ha : c.Moved a rs Chip.noWdnThreads) (hrings : c.Rings a) (hinbox : a.wdn.inboxHw = [])
    (hevt : R.CHG_EVT ∈ rs) (hovf : R.DOORBELL_OVF ∈ rs) (bits : Nat) (m : Msg) :
    let d := (a.event 6 R.CHG_EVT bits).toWarden m
    c.Moved d rs Chip.noWdnThreads ∧ c.Rings d ∧ d.wdn.inboxHw = [m] ∧ d.regs = (a.event 6 R.CHG_EVT bits).regs := by
  intro d
  have hmoved := ha.event hevt hovf (fun _ _ => rfl) 6 bits
  have hrings' := hrings.trans (a.rings_event 6 R.CHG_EVT bits)
  have hwdn : (a.event 6 R.CHG_EVT bits).wdn.inboxHw = [] := by rw [Chip.event_eq]; exact hinbox
  have hd : d = { a.event 6 R.CHG_EVT bits with wdn := { (a.event 6 R.CHG_EVT bits).wdn with inboxHw := [m] } } := Chip.toWarden_of_empty hwdn m
  rw [hd]
  exact ⟨hmoved.put rfl rfl, hrings', rfl, rfl⟩

/-- Settles O47. -/
theorem powerInputs : Obligations.PowerInputs := by
  intro s rp bc mv b w c lim
  refine ⟨portDetection rp bc, fun hlive => ?_, ?_, fun hsolar hstring hfree hship => ⟨?_, fun hper hwrd => ?_⟩, chgDoes_vocSampleEnd, chgDoes_dock b,
    fun hrp hinbox => ?_, fun hdom hpower hinbox => ?_, fun hpres => ?_⟩
  · refine (chgDoes_signature (show exec .waveSignatureFound s = execWaveSignatureFound s from rfl) (if_pos hlive)).imp (fun d hd => ?_)
    exact ⟨hd.1, hd.2 hlive rfl⟩
  · exact (chgDoes_signature (show exec .waveSignatureLost s = execWaveSignatureLost s from rfl) rfl).imp (fun d hd => hd.1)
  · exact chgDoes_of_chgMoved (show exec (.chgVocnowWrite w) s = execChgVocnowWrite w s from rfl) (Chip.vocStart_of_other hsolar hstring hfree hship)
      ⟨(Chip.Moved.refl c _ _).put rfl rfl, .refl _⟩ rfl
  · have hgo : ¬ (c.rd R.CHG_VOCPER = 0 ∨ (!c.wrdOn) = true) := by simp [hper, hwrd]
    exact chgDoes_of_chgMoved (show exec .vocSampleStart s = execVocSampleStart s from rfl)
      ((if_neg hgo).trans (Chip.vocStart_of_other hsolar hstring hfree hship)) ⟨(Chip.Moved.refl c _ _).put rfl rfl, .refl _⟩ rfl
  · obtain ⟨hmoved, hrings, hmsg, hregs⟩ := Chip.tellWarden_spec (c := c) (a := c.wbit R.CHG_DET 7 b) (rs := [R.CHG_DET, R.CHG_EVT, R.DOORBELL_OVF])
      ((Chip.Moved.refl c _ _).wbit (by simp) 7 b) (.refl c) hinbox (by simp) (by simp) 0x80 (hwMsg 0x83 (if b then 1 else 2) 0 0 0)
    have hrd (q : Reg) := congrArg (fun m => FMap.get q.reset m q.addr) hregs
    have hdet : ((c.wbit R.CHG_DET 7 b).event 6 R.CHG_EVT 0x80).rbit R.CHG_DET 7 = b := by
      rw [Chip.rbit, Chip.rd_event_other _ _ _ _ (by decide) (by decide)]
      exact (c.rbit_wbit 7 b (by decide)).trans (if_pos rfl)
    have hevt : ((c.wbit R.CHG_DET 7 b).event 6 R.CHG_EVT 0x80).rbit R.CHG_EVT 7 = true :=
      (Chip.rbit_event _ _ _ _ (by decide) (by decide)).trans (Bool.or_true _)
    refine does_of_lift (show exec (.sinkAttach b) s = execSinkAttach b s from rfl) (if_pos hrp) ⟨?_, ?_, hmsg, hrings, hmoved.keeps (by decide) levelBlank_noWdnThreads⟩
    · exact (congrArg (fun n => bit n 7) (hrd R.CHG_DET)).trans hdet
    · exact (congrArg (fun n => bit n 7) (hrd R.CHG_EVT)).trans hevt
  · obtain ⟨hmoved, hrings, hmsg, hregs⟩ := Chip.tellWarden_spec (c := c) (a := c) (rs := [R.CHG_EVT, R.DOORBELL_OVF])
      (.refl c _ _) (.refl c) hinbox (by simp) (by simp) 0x40 (hwMsg 0x83 4 0 0 0)
    have hrd := congrArg (fun m => FMap.get R.CHG_EVT.reset m R.CHG_EVT.addr) hregs
    have hevt : (c.event 6 R.CHG_EVT 0x40).rbit R.CHG_EVT 6 = true := (Chip.rbit_event _ _ _ _ (by decide) (by decide)).trans (Bool.or_true _)
    refine does_of_lift (show exec (.reverseReserveLow false) s = execReverseReserveLow false s from rfl) (if_pos ⟨hdom, hpower, rfl⟩)
      ⟨?_, hmsg, hrings, hmoved.keeps (by decide) levelBlank_noWdnThreads⟩
    exact (congrArg (fun n => bit n 6) hrd).trans hevt
  · have hdo : exec (if b then .batteryRemoved else .vbatPresent) s = .next { s with chip := Chip.settle (c.supplyBit 4 (!b)).chgSettle } := by
      cases b
      · exact exec_eq_of_lift (show exec .vbatPresent s = execVbatPresent s from rfl) (if_neg (by rw [hpres]; decide))
      · exact exec_eq_of_lift (show exec .batteryRemoved s = execBatteryRemoved s from rfl) (if_pos hpres)
    obtain ⟨hbit, hchg, hrings, hmoved, hend⟩ := c.supplyBit_chgSettle (i := 4) (by decide) (!b)
    generalize (c.supplyBit 4 (!b)).chgSettle = d at *
    exact does_of_exec hdo ⟨hbit, hchg, hrings, hmoved.keeps_of_endsAlike hend
      (f := fun x => x.putLevels c.settle.jtag c.settle.peb c.settle.hif c.settle.ent) (fun _ => rfl)⟩

end Sys2Proof.Machine
end

section
/-!
PROOFS. Supplies and the power-on reset of AON (02 R72 to R79, R93, 09 R414, 22 R1008, R1010).
-/
namespace Sys2Proof.Machine

/-! ### Inputs, banks and sources -/

/-- A blank that hides more. -/
theorem Chip.Moved.coarsen {c d : Chip} {rs : List Reg} {blank blank' : Chip → Chip} (h : c.Moved d rs blank) (hb : ∀ x, blank' (blank x) = blank' x) :
    c.Moved d rs blank' :=
  ⟨h.1, (hb _).symm.trans ((congrArg blank' h.2).trans (hb _))⟩

/-- Blanks the supplies, the charger and the threads. -/
def Chip.noSupChg (d : Chip) : Chip := { d with sup := {}, chg := {}, threads := [] }

/-- An input that is present stands in SYS_SUPPLY, and the power path follows (R78). -/
theorem inputPresent {s : State} {i : Fin 4} (habsent : s.chip.rbit R.SYS_SUPPLY i = false) (hship : s.chip.mode.power ≠ 5) :
    Does (.inputPresent i) s (fun d => (d.rbit R.SYS_SUPPLY i = true ∧ bit (d.rd R.SYS_SUPPLY_CHG) i = true ∧ s.chip.Rings d) ∧
      s.chip.Keeps d supplyChgRegs Chip.noChg) := by
  obtain ⟨hbit, hchg, hrings, hmoved, hend⟩ := s.chip.supplyBit_chgSettle (i := i.val) (by omega) true
  have hpower : (s.chip.supplyBit i.val true).chgSettle.mode.power = s.chip.mode.power :=
    hmoved.field (f := fun x => x.mode.power) (fun _ => rfl)
  have hup : s.chip.inputUp i.val = if (s.chip.supplyBit i.val true).chgSettle.mode.power = 5 ∧
      (s.chip.supplyBit i.val true).chgSettle.sup.armed.contains i.val then (s.chip.supplyBit i.val true).chgSettle.shipWake
      else (s.chip.supplyBit i.val true).chgSettle := if_neg (by rw [habsent]; decide)
  generalize (s.chip.supplyBit i.val true).chgSettle = d at *
  rw [if_neg (fun h => hship (hpower.symm.trans h.1))] at hup
  exact does_of_lift (show exec (.inputPresent i) s = execInputPresent i s from rfl) hup ⟨⟨hbit, hchg, hrings⟩, hmoved.keeps_of_endsAlike hend
    (f := fun x => x.putLevels s.chip.settle.jtag s.chip.settle.peb s.chip.settle.hif s.chip.settle.ent) (fun _ => rfl)⟩

/-- The inputs that arm wake-up, with input `i`. -/
def Chip.armed (c : Chip) (i : Nat) : Chip :=
  if c.sup.armed.contains i then c else { c with sup := { c.sup with armed := c.sup.armed ++ [i] } }

theorem Chip.armed_spec (c : Chip) (i : Nat) : ∃ l : List Nat, l.contains i = true ∧ c.armed i = { c with sup := { c.sup with armed := l } } := by
  unfold Chip.armed
  split
  case isTrue h => exact ⟨c.sup.armed, h, rfl⟩
  case isFalse => exact ⟨c.sup.armed ++ [i], by simp, rfl⟩

/-- An input that is absent leaves SYS_SUPPLY and arms (R78, R1008). -/
theorem does_inputDown {s : State} {i : Fin 4} {j : Instr} (he : exec j s = s.lift (fun c => c.inputDown i.val))
    (hpresent : s.chip.rbit R.SYS_SUPPLY i = true) :
    Does j s (fun d => (d.rbit R.SYS_SUPPLY i = false ∧ bit (d.rd R.SYS_SUPPLY_CHG) i = true ∧ s.chip.Rings d) ∧ d.sup.armed.contains i.val = true ∧
      s.chip.Keeps d supplyChgRegs Chip.noSupChg) := by
  obtain ⟨l, hl, harmed⟩ := s.chip.armed_spec i.val
  have hput : s.chip.Moved (s.chip.armed i.val) supplyChgRegs Chip.noSupChg := by
    rw [harmed]
    exact (Chip.Moved.refl _ _ _).put rfl rfl
  have hputEnd : s.chip.EndsAlike (s.chip.armed i.val) := by
    rw [harmed]
    rfl
  have hputRings : s.chip.Rings (s.chip.armed i.val) := .of_threads (by rw [harmed])
  have hsup : (s.chip.armed i.val).sup.armed = l := by rw [harmed]
  have hregs : (s.chip.armed i.val).regs = s.chip.regs := by rw [harmed]
  have hbit : (s.chip.armed i.val).rbit R.SYS_SUPPLY i = true := by
    rw [Chip.rbit, Chip.rd, hregs]
    exact hpresent
  have hdown : s.chip.inputDown i.val = ((s.chip.armed i.val).supplyBit i.val false).chgSettle := if_pos hbit
  generalize s.chip.armed i.val = a at *
  obtain ⟨hbit', hchg, hrings, hmoved, hend⟩ := a.supplyBit_chgSettle (i := i.val) (by omega) false
  have hsup' : (a.supplyBit i.val false).chgSettle.sup = a.sup := hmoved.field (f := Chip.sup) (fun _ => rfl)
  have hwide : a.Moved (a.supplyBit i.val false).chgSettle supplyChgRegs Chip.noSupChg := hmoved.coarsen (fun _ => rfl)
  generalize (a.supplyBit i.val false).chgSettle = d at *
  refine does_of_lift he hdown ⟨⟨hbit', hchg, hputRings.trans hrings⟩, ?_, (hput.trans hwide).keeps_of_endsAlike (hputEnd.trans hend)
    (f := fun x => x.putLevels s.chip.settle.jtag s.chip.settle.peb s.chip.settle.hif s.chip.settle.ent) (fun _ => rfl)⟩
  show d.sup.armed.contains i.val = true
  rw [hsup', hsup, hl]

/-- Another source of AON stands in SYS_SUPPLY (R75, R93). -/
theorem aonSourceSwitch {s : State} {src : Fin 5} (hne : s.chip.rfld R.SYS_SUPPLY 5 3 ≠ src.val) :
    Does (.aonSourceSwitch src) s (fun d => d.rfld R.SYS_SUPPLY 5 3 = src.val ∧ bit (d.rd R.SYS_SUPPLY_CHG) 5 = true ∧ s.chip.Rings d ∧
      s.chip.Keeps d [R.SYS_SUPPLY, R.SYS_SUPPLY_CHG, R.DOORBELL_OVF] Chip.noThreads) := by
  have hself : (s.chip.wfld R.SYS_SUPPLY 5 3 src.val).rfld R.SYS_SUPPLY 5 3 = src.val :=
    (s.chip.rfld_wfld_self src.val (by decide)).trans (Nat.mod_eq_of_lt (by omega))
  have hend : s.chip.EndsAlike (s.chip.wfld R.SYS_SUPPLY 5 3 src.val) := Chip.endsAlike_supply (by rw [bit_putFld, if_neg (by decide)]; rfl)
  have hmoved : s.chip.Moved (s.chip.wfld R.SYS_SUPPLY 5 3 src.val) [R.SYS_SUPPLY, R.SYS_SUPPLY_CHG, R.DOORBELL_OVF] Chip.noThreads :=
    (Chip.Moved.refl _ _ _).wfld (by simp) 5 3 src.val
  have hrings : s.chip.Rings (s.chip.wfld R.SYS_SUPPLY 5 3 src.val) := .refl _
  have hdo := exec_eq_of_lift (show exec (.aonSourceSwitch src) s = execAonSourceSwitch src s from rfl) (if_neg hne)
  generalize s.chip.wfld R.SYS_SUPPLY 5 3 src.val = a at *
  refine does_of_exec hdo ⟨?_, ?_, hrings.trans (a.rings_event _ _ _),
    (hmoved.event (r := R.SYS_SUPPLY_CHG) (by simp) (by simp) (fun _ _ => rfl) 0 0x20).keeps_of_endsAlike (hend.trans (a.endsAlike_event 0 (by decide) _))
    (f := fun x => x.putLevels s.chip.settle.jtag s.chip.settle.peb s.chip.settle.hif s.chip.settle.ent) (fun _ => rfl)⟩
  · rw [Chip.rfld, Chip.rd_settle, Chip.rd_event_other _ _ _ _ (by decide) (by decide)]
    exact hself
  · exact (a.rbit_event 0 R.SYS_SUPPLY_CHG 0x20 (i := 5) (by decide) (by decide)).trans (Bool.or_true _)

/-! ### Banks -/

/-- A blank that hides the parts the level rules act on. -/
theorem Chip.Moved.keeps_hidden {c d : Chip} {rs : List Reg} {blank : Chip → Chip} (h : c.Moved d rs blank)
    (hhide : ∀ (x : Chip) j p hf e, blank (x.putLevels j p hf e) = blank x) : c.Keeps d.settle rs blank := by
  refine ⟨h.1, ?_⟩
  have hd : { d.settle with regs := [] } = Chip.putLevels { d with regs := [] } d.settle.jtag d.settle.peb d.settle.hif d.settle.ent := rfl
  have hc : { c.settle with regs := [] } = Chip.putLevels { c with regs := [] } c.settle.jtag c.settle.peb c.settle.hif c.settle.ent := rfl
  rw [hd, hc, hhide, hhide, h.2]

/-- Blanks the levels, the supplies and the threads. -/
def Chip.noBank (d : Chip) : Chip := { d.noLevels with sup := {}, threads := [] }

/-- Blanks the cap engine beside them. -/
def Chip.noBankCap (d : Chip) : Chip := { d.noLevels with sup := {}, cap := {}, threads := [] }

theorem bankGood {s : State} {b : Fin 3} (hbad : s.chip.bankGood b = false) :
    Does (.bankGood b) s (fun d => (d.rbit R.SYS_SUPPLY (8 + b) = true ∧ bit (d.rd R.SYS_SUPPLY_CHG) (8 + b) = true ∧ s.chip.Rings d) ∧
      d.sup = { s.chip.sup with blanking := s.chip.sup.blanking ++ [b.val] } ∧ s.chip.Keeps d [R.SYS_SUPPLY, R.SYS_SUPPLY_CHG, R.DOORBELL_OVF] Chip.noBank) := by
  obtain ⟨hbit, hchg, hrings, hmoved, -⟩ := s.chip.supplyBit_spec (i := 8 + b.val) (by omega) true
  have hwide : s.chip.Moved (s.chip.supplyBit (8 + b.val) true) [R.SYS_SUPPLY, R.SYS_SUPPLY_CHG, R.DOORBELL_OVF] Chip.noBank :=
    hmoved.coarsen (fun _ => rfl)
  have hup : s.chip.bankUp b.val = { s.chip.supplyBit (8 + b.val) true with
      sup := { s.chip.sup with blanking := s.chip.sup.blanking ++ [b.val] } } :=
    if_neg (show ¬ s.chip.rbit R.SYS_SUPPLY (8 + b.val) = true from Bool.eq_false_iff.1 hbad)
  generalize s.chip.supplyBit (8 + b.val) true = a at *
  have hput : s.chip.Moved { a with sup := { s.chip.sup with blanking := s.chip.sup.blanking ++ [b.val] } } [R.SYS_SUPPLY, R.SYS_SUPPLY_CHG, R.DOORBELL_OVF]
    Chip.noBank := hwide.put rfl rfl
  exact does_of_lift (show exec (.bankGood b) s = execBankGood b s from rfl) hup ⟨⟨hbit, hchg, hrings⟩, rfl, hput.keeps_hidden (fun _ _ _ _ _ => rfl)⟩

theorem bankLost {s : State} {b : Fin 3} (hgood : s.chip.bankGood b = true) :
    Does (.bankLost b) s (fun d => (d.rbit R.SYS_SUPPLY (8 + b) = false ∧ bit (d.rd R.SYS_SUPPLY_CHG) (8 + b) = true ∧ s.chip.Rings d) ∧
      (b = 0 → d.hif.pendingRead = none) ∧ d.sup.blanking.contains b.val = false ∧
      s.chip.Keeps d [R.CAP_STAT, R.SYS_SUPPLY, R.SYS_SUPPLY_CHG, R.DOORBELL_OVF] Chip.noBankCap) := by
  obtain ⟨hbit, hchg, hrings, hmoved, -⟩ := s.chip.supplyBit_spec (i := 8 + b.val) (by omega) false
  have hwide : s.chip.Moved (s.chip.supplyBit (8 + b.val) false) [R.CAP_STAT, R.SYS_SUPPLY, R.SYS_SUPPLY_CHG, R.DOORBELL_OVF] Chip.noBankCap :=
    (hmoved.mono (by decide)).coarsen (fun _ => rfl)
  have hdown : s.chip.bankDown b.val = (fun a : Chip => if b.val = 0
      then { a.wbit R.CAP_STAT 6 false with cap := { a.cap with stuck := false }, hif := { a.hif with pendingRead := none } } else a)
      { s.chip.supplyBit (8 + b.val) false with sup := { (s.chip.supplyBit (8 + b.val) false).sup with
        blanking := (s.chip.supplyBit (8 + b.val) false).sup.blanking.filter (fun x => !(x == b.val)) } } := if_neg (by
    rw [show s.chip.rbit R.SYS_SUPPLY (8 + b.val) = true from hgood]
    decide)
  generalize s.chip.supplyBit (8 + b.val) false = a at *
  have hput : s.chip.Moved { a with sup := { a.sup with blanking := a.sup.blanking.filter (fun x => !(x == b.val)) } }
    [R.CAP_STAT, R.SYS_SUPPLY, R.SYS_SUPPLY_CHG, R.DOORBELL_OVF] Chip.noBankCap := hwide.put rfl rfl
  have hout : (a.sup.blanking.filter (fun x => !(x == b.val))).contains b.val = false := by simp
  have hbit' : Chip.rbit { a with sup := { a.sup with blanking := a.sup.blanking.filter (fun x => !(x == b.val)) } } R.SYS_SUPPLY (8 + b.val) = false := hbit
  have hchg' : bit (Chip.rd { a with sup := { a.sup with blanking := a.sup.blanking.filter (fun x => !(x == b.val)) } } R.SYS_SUPPLY_CHG) (8 + b.val) = true := hchg
  have hrings' : s.chip.Rings { a with sup := { a.sup with blanking := a.sup.blanking.filter (fun x => !(x == b.val)) } } := hrings
  have hout' : Chip.sup { a with sup := { a.sup with blanking := a.sup.blanking.filter (fun x => !(x == b.val)) } } =
    { a.sup with blanking := a.sup.blanking.filter (fun x => !(x == b.val)) } := rfl
  generalize ({ a with sup := { a.sup with blanking := a.sup.blanking.filter (fun x => !(x == b.val)) } } : Chip) = e at *
  have hnone : e.sup.blanking.contains b.val = false := by rw [hout']; exact hout
  by_cases hb : b.val = 0
  · have hdo := hdown.trans (if_pos hb)
    have hrd {q : Reg} (hq : q.addr ≠ R.CAP_STAT.addr) : (e.wbit R.CAP_STAT 6 false).rd q = e.rd q := Chip.rd_wr_other _ _ _ _ hq
    have hlast : s.chip.Moved { e.wbit R.CAP_STAT 6 false with cap := { e.cap with stuck := false }, hif := { e.hif with pendingRead := none } }
      [R.CAP_STAT, R.SYS_SUPPLY, R.SYS_SUPPLY_CHG, R.DOORBELL_OVF] Chip.noBankCap := (hput.wbit (r := R.CAP_STAT) (by simp) 6 false).put rfl rfl
    refine does_of_lift (show exec (.bankLost b) s = execBankLost b s from rfl) hdo ⟨⟨?_, ?_, hrings'⟩, fun _ => ?_, hnone, hlast.keeps_hidden (fun _ _ _ _ _ => rfl)⟩
    · exact (congrArg (fun n => bit n (8 + b.val)) (hrd (q := R.SYS_SUPPLY) (by decide))).trans hbit'
    · exact (congrArg (fun n => bit n (8 + b.val)) (hrd (q := R.SYS_SUPPLY_CHG) (by decide))).trans hchg'
    · simp only [Chip.settle]
      split <;> rfl
  · exact does_of_lift (show exec (.bankLost b) s = execBankLost b s from rfl) (hdown.trans (if_neg hb))
      ⟨⟨hbit', hchg', hrings'⟩, fun h => absurd (congrArg Fin.val h) hb, hnone, hput.keeps_hidden (fun _ _ _ _ _ => rfl)⟩

theorem levelBlank_sup : LevelBlank (fun d => { d with sup := {} }) :=
  ⟨fun _ _ _ _ _ => rfl, fun _ => rfl, fun _ => rfl, fun _ => rfl, fun _ => rfl, fun _ => rfl, fun _ => rfl, fun _ => rfl⟩

/-- The source of CK_LF is no power mode: the level rules do not read it. -/
theorem does_crystal {s : State} {i : Instr} (b : Bool) (he : exec i s = s.lift (fun c => { c with mode := { c.mode with crystal := b } })) :
    Does i s (fun d => d.mode = { s.chip.mode with crystal := b } ∧ s.chip.Keeps d [] (fun d => { d with mode := {} })) := by
  have hmoved : s.chip.Moved { s.chip with mode := { s.chip.mode with crystal := b } } [] (fun d => { d with mode := {} }) := (Chip.Moved.refl _ _ _).put rfl rfl
  have hend : s.chip.EndsAlike { s.chip with mode := { s.chip.mode with crystal := b } } := rfl
  exact does_of_lift he rfl ⟨rfl, hmoved.keeps_of_endsAlike hend
    (f := fun x => x.putLevels s.chip.settle.jtag s.chip.settle.peb s.chip.settle.hif s.chip.settle.ent) (fun _ => rfl)⟩

theorem supplies : Parts.Supplies := by
  intro s i b src c sup supRegs
  refine ⟨inputPresent, fun hpresent j hj => ?_, aonSourceSwitch, bankGood, bankLost, ?_, does_crystal true rfl, does_crystal false rfl⟩
  · have he : exec j s = s.lift (fun c => c.inputDown i.val) := by
      simp only [List.mem_cons, List.not_mem_nil, or_false] at hj
      rcases hj with rfl | rfl <;> rfl
    exact does_inputDown he hpresent
  · have hmoved : c.Moved { c with sup := { c.sup with blanking := c.sup.blanking.filter (fun x => !(x == b.val)) } } [] (fun d => { d with sup := {} }) :=
      (Chip.Moved.refl _ _ _).put rfl rfl
    exact does_of_lift (show exec (.bankEdgeBlankEnd b) s = execBankEdgeBlankEnd b s from rfl) rfl ⟨rfl, hmoved.keeps (by simp) levelBlank_sup⟩

/-! ### What a power-off leaves in flash, Ledger and OTP (02 R76) -/

/-- The contents that outlive a power-off, and the commands that could be changing them. -/
def Chip.nv (c : Chip) : FMap Byte × FMap Byte × FMap Nat × Option NvmCmd × Option Nat :=
  (c.mem.flash, c.mem.ledger, c.nvm.otp, c.nvm.cmd, c.led.erasing)

theorem foldl_keeps {α β γ : Type} (g : α → γ) (f : α → β → α) (hf : ∀ x b, g (f x b) = g x) (l : List β) (x : α) : g (l.foldl f x) = g x := by
  induction l generalizing x with
  | nil => rfl
  | cons b l ih => exact (ih (f x b)).trans (hf x b)

theorem ite_keeps {α γ : Type} (g : α → γ) {p : Prop} [Decidable p] {x y : α} {v : γ} (hx : g x = v) (hy : g y = v) : g (if p then x else y) = v := by
  split
  · exact hx
  · exact hy

theorem Chip.nv_eq {c d : Chip} (hflash : d.mem.flash = c.mem.flash) (hledger : d.mem.ledger = c.mem.ledger) (hotp : d.nvm.otp = c.nvm.otp)
    (hcmd : d.nvm.cmd = c.nvm.cmd) (herase : d.led.erasing = c.led.erasing) : d.nv = c.nv := by
  rw [Chip.nv, hflash, hledger, hotp, hcmd, herase]
  rfl

theorem Chip.nv_unique {c d : Chip} (h : d.nv = c.nv) : d.mem.flash = c.mem.flash ∧ d.mem.ledger = c.mem.ledger ∧ d.nvm.otp = c.nvm.otp ∧
    d.nvm.cmd = c.nvm.cmd ∧ d.led.erasing = c.led.erasing := by
  simpa only [Chip.nv, Prod.mk.injEq] using h

section
variable (c : Chip)

theorem Chip.nv_of_moved {d : Chip} {rs : List Reg} {blank : Chip → Chip} (h : c.Moved d rs blank) (hb : ∀ x : Chip, (blank { x with regs := [] }).nv = x.nv) :
    d.nv = c.nv := h.field (f := Chip.nv) hb

theorem Chip.nv_route (k : Nat) : (c.route k).nv = c.nv := by rw [Chip.route_eq]; rfl

theorem Chip.nv_reply (r : ReplyTo) (seq outcome cw : Nat) : (c.reply r seq outcome cw).nv = c.nv := by
  cases r with
  | none => rfl
  | hostFifo low =>
    simp only [Chip.reply]
    split_ifs
    · exact Chip.nv_route _ 14
    · rfl
    · rfl
  | thread t =>
    have hinbox {d : Chip} {m : Msg} (h : c.toInbox t m = some d) : d.nv = c.nv := by
      simp only [Chip.toInbox] at h
      split_ifs at h <;> obtain rfl := Option.some.inj h <;> rfl
    simp only [Chip.reply]
    cases h : c.toInbox t (hwMsg 1 seq (seq / 256) outcome 0) with
    | none => rfl
    | some d => exact hinbox h
  | node p n => rfl

theorem Chip.nv_decided (o : OrderRec) (outcome cw : Nat) : (c.decided o outcome cw).nv = c.nv := by
  simp only [Chip.decided]
  exact (foldl_keeps Chip.nv _ (fun x r => x.nv_reply r _ _ _) _ _).trans (c.nv_reply o.reply o.seq outcome cw)

theorem Chip.nv_complete (i outcome cw new : Nat) : (c.complete i outcome cw new).nv = c.nv := by
  simp only [Chip.complete]
  split
  · split
    · exact Chip.nv_decided _ _ _ _
    · rfl
  · rfl

theorem Chip.nv_answerHandled : c.answerHandled.nv = c.nv := by
  refine foldl_keeps Chip.nv _ (fun x i => ?_) _ _
  split
  · exact x.nv_complete _ _ _ _
  · rfl

theorem Chip.nv_chgSettle : c.chgSettle.nv = c.nv := Chip.nv_of_moved c c.chgQuiet_chgSettle.moved (fun _ => rfl)

theorem Chip.nv_fillSettle : c.fillSettle.nv = c.nv := Chip.nv_of_moved c c.moved_fillSettle (fun _ => rfl)

/-- With no command and no segment erase in progress the loss of WRD cuts none off. -/
theorem Chip.nv_wrdLost (hcmd : c.nvm.cmd = none) (herase : c.led.erasing = none) : c.wrdLost.nv = c.nv := by
  have hans := c.nv_answerHandled
  obtain ⟨-, -, -, hcmd', herase'⟩ := Chip.nv_unique hans
  rw [hcmd] at hcmd'
  rw [herase] at herase'
  have habort : c.answerHandled.nvmAbort = c.answerHandled := by rw [Chip.nvmAbort, hcmd']
  have hcut : c.answerHandled.ledEraseCut = c.answerHandled := by rw [Chip.ledEraseCut, herase']
  unfold Chip.wrdLost
  rw [habort, hcut]
  generalize c.answerHandled = d at *
  exact (Chip.nv_fillSettle _).trans ((Chip.nv_chgSettle _).trans ((Chip.nv_eq rfl rfl rfl rfl rfl).trans hans))

theorem Chip.nv_cpuLost : c.cpuLost.nv = c.nv := by
  have hrelease : ((List.range 16).foldl Chip.nvmReleaseThread c).nv = c.nv := 
    foldl_keeps Chip.nv Chip.nvmReleaseThread (fun x t => ite_keeps Chip.nv rfl rfl) (List.range 16) c
  have hunload (x : Chip) : x.mainUnloaded.nv = x.nv := ite_keeps Chip.nv rfl rfl
  unfold Chip.cpuLost
  generalize (List.range 16).foldl Chip.nvmReleaseThread c = d at *
  have hreset (x : Chip) : (x.mainUnloaded.resetRegs .cpu).nv = x.nv := (Chip.nv_eq rfl rfl rfl rfl rfl).trans (hunload x)
  exact (hreset _).trans ((Chip.nv_eq rfl rfl rfl rfl rfl).trans hrelease)

/-- What a domain loses with its power is no flash, no Ledger and no OTP. -/
theorem Chip.nv_domLost (hcmd : c.nvm.cmd = none) (herase : c.led.erasing = none) (x : Nat) : (c.domLost x).nv = c.nv := by
  match x with
  | 0 => exact c.nv_wrdLost hcmd herase
  | 1 => exact c.nv_cpuLost
  | 2 => rfl
  | 3 => rfl
  | 4 => rfl
  | n + 5 =>
    simp only [Chip.domLost]
    have hoff : (c.chDisable n).nv = c.nv := rfl
    generalize c.chDisable n = d at *
    refine ite_keeps Chip.nv ?_ (ite_keeps Chip.nv ((Chip.nv_chgSettle _).trans hoff) hoff)
    exact (Chip.nv_fillSettle _).trans hoff

theorem Chip.nv_allOff (hcmd : c.nvm.cmd = none) (herase : c.led.erasing = none) (l : List Nat) : (c.allOff l).nv = c.nv := by
  have hoff : (l.foldl (fun c x => c.setDom x {}) c).nv = c.nv := foldl_keeps Chip.nv (fun c x => c.setDom x {}) (fun _ _ => rfl) l c
  have hlost (on : List Nat) (d : Chip) (hd : d.nv = c.nv) : (on.foldl Chip.domLost d).nv = c.nv := by
    induction on generalizing d with
    | nil => exact hd
    | cons x on ih =>
      obtain ⟨-, -, -, hdcmd, hderase⟩ := Chip.nv_unique hd
      exact ih _ ((d.nv_domLost (hdcmd.trans hcmd) (hderase.trans herase) x).trans hd)
  exact hlost _ _ hoff

end

/-! ### The power-on reset (R76, R414) -/

theorem find?_filter_of_not_key {α : Type} (m : FMap α) (p : Nat → Bool) {k : Nat} (hk : p k = false) : FMap.find? (m.filter (fun e => p e.1)) k = none := by
  induction m with
  | nil => rfl
  | cons e m ih =>
    by_cases he : p e.1 = true
    · have hne : k ≠ e.1 := by
        rintro rfl
        rw [hk] at he
        cases he
      rw [List.filter_cons_of_pos (by exact he), FMap.find?, if_neg hne, ih]
    · rw [List.filter_cons_of_neg (by exact he), ih]

/-- The registers that keep their value through the power-on reset. -/
def keptByPor (a : Nat) : Bool := match regAt a with | some r => decide (r.dom = .nv) && !decide (a = R.PEB_EN.addr) | none => false

/-- A register of AON has its reset value after the power-on reset. -/
theorem Chip.rd_porBegin (c : Chip) {r : Reg} (hr : keptByPor r.addr = false) (hsup : r.addr ≠ R.SYS_SUPPLY.addr) : c.porBegin.rd r = r.reset := by
  have hfind := find?_filter_of_not_key (c.allOff domains).regs keptByPor hr
  refine (Chip.rd_wr_other _ _ _ _ hsup).trans ?_
  unfold Chip.rd FMap.get
  exact congrArg (fun o => Option.getD o r.reset) hfind

theorem aonPorBegin {s : State} (hcmd : s.chip.nvm.cmd = none) (herase : s.chip.led.erasing = none) :
    Does .aonPorBegin s (fun d => d.mem.flash = s.chip.mem.flash ∧ d.mem.ledger = s.chip.mem.ledger ∧ d.nvm.otp = s.chip.nvm.otp ∧ d.mem.dmem = [] ∧
      d.threads = [] ∧ d.sup.up = false ∧ (∀ x < 13, (d.dom x).state = 0) ∧ d.rd R.SEQ_EN = 1 ∧ d.rd R.SYS_TIME = 0 ∧ d.rd R.SYS_SUPPLY % 16 = 0) := by
  have hnv := s.chip.nv_allOff hcmd herase domains
  obtain ⟨hflash, hledger, hotp, -, -⟩ := Chip.nv_unique hnv
  have hsupply : s.chip.porBegin.rd R.SYS_SUPPLY % 16 = 0 := by
    have hself : s.chip.porBegin.rd R.SYS_SUPPLY = (s.chip.allOff domains).rd R.SYS_SUPPLY / 16 * 16 % 256 ^ 2 := Chip.rd_wr_self _ _ _
    omega
  exact does_of_lift (show exec .aonPorBegin s = execAonPorBegin s from rfl) rfl ⟨hflash, hledger, hotp, rfl, rfl, rfl, fun _ _ => rfl,
    s.chip.rd_porBegin (r := R.SEQ_EN) (by decide) (by decide), s.chip.rd_porBegin (r := R.SYS_TIME) (by decide) (by decide), hsupply⟩

theorem aonReset : Parts.AonReset := by
  intro s c
  refine ⟨aonPorBegin, fun hup hdrive hhot => ?_⟩
  let b : Chip := { c with sup := { c.sup with up := true }, seq := { c.seq with fnLow := false } }
  have hstart := startWrd_of_cool (c := b) hhot 1
  have hend : c.porEnd true = b.startWrd 1 := (if_neg (by rw [hup]; decide)).trans (if_neg (by
    show ¬ (false || c.seq.fnDrive) = true
    rw [hdrive]
    decide))
  have hdom : ((b.setDom dWRD { state := 1 }).dom dWRD).state = 1 := by rw [Chip.dom_setDom_self]
  have hkind : ((b.setDom dWRD { state := 1 }).wr R.SYS_RSTREC_KIND 1).rd R.SYS_RSTREC_KIND = 1 := Chip.rd_wr_self _ _ _
  exact does_of_lift (show exec (.aonPorEnd true) s = execAonPorEnd true s from rfl) (hend.trans hstart) ⟨rfl, hdom, hkind, rfl, rfl, rfl⟩

/-- Settles O49. -/
theorem suppliesAndReset : Obligations.SuppliesAndReset := ⟨supplies, aonReset⟩

end Sys2Proof.Machine
end

section
/-!
PROOFS. The gauge (13 R621 to R626).
-/
namespace Sys2Proof.Machine

/-- AFE and CPU are ON and sequence 32 runs, whose header would stand where the result of channel 0 stands. No command starts it; the statement
quantifies over every state. -/
def runningBeyondSequences : State :=
  ⟨[], { regs := [((R.GAU_SEQ_HDR 32).addr, 1)]
         seq := { doms := [(dCPU, { state := 4 }), (dAFE, { state := 4 })] }
         gau := { running := some 32 } }⟩

/-- Refutes O48: the result of channel 0, stored over the header of sequence 32, sets its doorbell bit, and a thread's doorbell is rung. -/
theorem not_gauge : ¬ Obligations.Gauge := by
  intro h
  obtain ⟨-, -, hdone, -⟩ := h.1 runningBeyondSequences .spi 0 0x100 0 32 (by decide +kernel)
  obtain ⟨d, hd, -, -, -, -, hkeeps⟩ := hdone 0 (by decide) rfl (by decide +kernel) (by decide +kernel)
  have hrung : (match exec (.adcSequenceDone [0x100]) runningBeyondSequences with | .next d => d.chip.threads | _ => []) ≠ [] := by decide +kernel
  rw [hd] at hrung
  have hkept : d.chip.threads = runningBeyondSequences.chip.settle.threads := by
    have h := congrArg Chip.threads hkeeps
    exact h
  exact hrung hkept

end Sys2Proof.Machine
end

section
/-!
PROOFS. The NVM: ownership, commands and their results (17 R808 to R838).
-/
namespace Sys2Proof.Machine

/-! ### Memory and maps -/

theorem Mem.get_writeN_mem (d e : Byte) (bs : List Byte) (m : Mem) (a i : Nat) (h : i < bs.length) :
    FMap.get d (Mem.writeN d m a bs) (a + i) = bs.getD i e := by
  induction bs generalizing m a i with
  | nil => exact absurd h (by simp)
  | cons b bs ih =>
    rw [Mem.writeN]
    cases i with
    | zero =>
      rw [Mem.get_writeN_other _ d _ _ _ _ (by omega)]
      exact FMap.get_set_self d m a b
    | succ i =>
      rw [List.getD_cons_succ, ← ih (FMap.set d m a b) (a + 1) i (by simpa using h)]
      congr 1
      omega

theorem FMap.get_filter {α : Type} (d : α) (m : FMap α) (p : Nat → Bool) (k : Nat) :
    FMap.get d (m.filter (fun e => p e.1)) k = if p k then FMap.get d m k else d := by
  unfold FMap.get
  cases hk : p k
  · rw [find?_filter_of_not_key m p hk]
    rfl
  · rw [find?_filter_of_key m p hk]
    rfl

section
variable {c d : Chip} {rs rs' : List Reg} {blank blank' : Chip → Chip}

theorem Chip.Keeps.mono (h : c.Keeps d rs blank) (hrs : ∀ x ∈ rs, x ∈ rs') : c.Keeps d rs' blank := ⟨fun r hr => h.1 r (fun x hx => hr x (hrs x hx)), h.2⟩

theorem Chip.Keeps.coarsen (h : c.Keeps d rs blank) (hb : ∀ x, blank' (blank x) = blank' x) : c.Keeps d rs blank' :=
  ⟨h.1, (hb _).symm.trans ((congrArg blank' h.2).trans (hb _))⟩

end

/-! ### Commands that begin (R825 to R831) -/

/-- Blanks the NVM's command and the Ledger's staging. -/
def Chip.noCmdLed (d : Chip) : Chip := { d with nvm := { d.nvm with cmd := none }, led := {} }

theorem levelBlank_noCmdLed : LevelBlank Chip.noCmdLed :=
  ⟨fun _ _ _ _ _ => rfl, fun _ => rfl, fun _ => rfl, fun _ => rfl, fun _ => rfl, fun _ => rfl, fun _ => rfl, fun _ => rfl⟩

/-- The sector of NVM_ADDR. -/
def Chip.nvmSector (c : Chip) : Nat := c.rd R.NVM_ADDR / 0x1000 - 0x200

/-- A command of flash that nothing refuses is for a sector of flash. -/
theorem Chip.nvmSector_lt {c : Chip} {code mv : Nat} {die : Int} (hflash : code < 0x20) (h : c.nvmRefusal code mv die = none) : c.nvmSector < 512 := by
  have hin : inFlash (c.rd R.NVM_ADDR) = true := by
    by_contra hout
    rw [Chip.nvmRefusal] at h
    simp only [decide_eq_true hflash, Bool.eq_false_iff.2 hout, Bool.not_false, Bool.and_self, if_true] at h
    split_ifs at h
  simp only [inFlash, Bool.and_eq_true, decide_eq_true_eq] at hin
  unfold Chip.nvmSector
  omega

/-- What a command that begins has changed, its Ledger entry apart. -/
theorem Chip.nvmBegin_other {code : Nat} (hcode : code ≠ 0x10) (c : Chip) (entry : Option Nat) :
    c.nvmBegin code entry = { c.wr R.NVM_STAT 9 with
      nvm := { c.nvm with cmd := some { code := code, addr := c.rd R.NVM_ADDR, data := leBytes 32 (c.rd R.NVM_DATA), entry := entry } } } := by
  have hdata : (c.wr R.NVM_STAT 9).rd R.NVM_DATA = c.rd R.NVM_DATA := Chip.rd_wr_other _ _ _ _ (by decide)
  simp only [Chip.nvmBegin, if_neg hcode]
  rw [← hdata]
  rfl

/-- The count raised before an erase (R830). -/
def Chip.erasing (c : Chip) : Chip := (c.wfld (R.NVM_ECNT c.nvmSector) 0 24 (c.ecnt c.nvmSector + 1)).wr R.NVM_SUSCNT 0

theorem Chip.nvmBegin_erase (c : Chip) (entry : Option Nat) : c.nvmBegin 0x10 entry = { c.erasing.wr R.NVM_STAT 3 with
    nvm := { c.nvm with cmd := some { code := 0x10, addr := c.rd R.NVM_ADDR, data := leBytes 32 (c.erasing.rd R.NVM_DATA), entry := entry } } } := by
  have hdata : (c.erasing.wr R.NVM_STAT 3).rd R.NVM_DATA = c.erasing.rd R.NVM_DATA := Chip.rd_wr_other _ _ _ _ (by decide)
  rw [← hdata]
  rfl

/-- What the statement says of a command that begins. -/
def Chip.Begun (c d : Chip) (w : Writer) (code stat : Nat) (logged : Bool) : Prop :=
  (∃ e, d.nvm.cmd = some e ∧ e.code = code ∧ e.addr = c.rd R.NVM_ADDR ∧ e.data = leBytes 32 (c.rd R.NVM_DATA)) ∧ d.rd R.NVM_STAT = stat ∧
    (logged = true → ∃ e, d.entry 0 = some e ∧ e.object = 0xAC00 ∧ e.new = code * 2 ^ 24 + c.rd R.NVM_ADDR ∧ e.origin = wOrigin w ∧ e.final = false) ∧
    (code = 0x10 → d.ecnt c.nvmSector = (c.ecnt c.nvmSector + 1) % 2 ^ 24) ∧
    c.Keeps d [R.NVM_STAT, R.NVM_ECNT c.nvmSector, R.NVM_SUSCNT, R.LED_NEXTSEQ] (fun d => { d with nvm := {}, led := {} })

/-- The entry of a command that has been staged. -/
def Chip.CmdStaged (c b : Chip) (w : Writer) (code : Nat) : Prop :=
  ∃ e, b.entry 0 = some e ∧ e.object = 0xAC00 ∧ e.new = code * 2 ^ 24 + c.rd R.NVM_ADDR ∧ e.origin = wOrigin w ∧ e.final = false

theorem ecnt_ne {r : Reg} (h : r.addr < 0x80B400) (n : Nat) : (R.NVM_ECNT n).addr ≠ r.addr := by
  simp only [R.NVM_ECNT]
  omega

section
variable {c b : Chip} {w : Writer} {code : Nat} {logged : Bool} {entry : Option Nat} (hb : c.Moved b [R.LED_NEXTSEQ] Chip.noCmdLed)
  (hstaged : logged = true → c.CmdStaged b w code)
include hb hstaged

/-- A program or a command of OTP begins behind what has staged its entry. -/
theorem Chip.begun_other (hcode : code ≠ 0x10) : c.Begun (b.nvmBegin code entry).settle w code 9 logged := by
  have haddr := hb.1 R.NVM_ADDR (by decide)
  have hdata := hb.1 R.NVM_DATA (by decide)
  have hmoved : c.Moved (b.nvmBegin code entry) [R.NVM_STAT, R.LED_NEXTSEQ] Chip.noCmdLed := by
    rw [Chip.nvmBegin_other hcode]
    exact ((hb.mono (by simp)).wr (r := R.NVM_STAT) (by simp) 9).put rfl rfl
  refine ⟨⟨{ code := code, addr := b.rd R.NVM_ADDR, data := leBytes 32 (b.rd R.NVM_DATA), entry := entry }, ?_, rfl, haddr, by rw [hdata]⟩, ?_, fun h => ?_,
    fun h => absurd h hcode, ((hmoved.keeps (by decide) levelBlank_noCmdLed).mono (by simp)).coarsen (fun _ => rfl)⟩
  · rw [Chip.nvmBegin_other hcode]
    rfl
  · rw [Chip.rd_settle, Chip.nvmBegin_other hcode]
    exact Chip.rd_wr_self b R.NVM_STAT 9
  · rw [Chip.nvmBegin_other hcode]
    exact hstaged h

/-- An erase begins with its count raised. -/
theorem Chip.begun_erase (hcode : code = 0x10) (hsec : c.nvmSector < 512) : c.Begun (b.nvmBegin 0x10 entry).settle w code 3 logged := by
  subst hcode
  have haddr := hb.1 R.NVM_ADDR (by decide)
  have hdata := hb.1 R.NVM_DATA (by decide)
  have hsector : b.nvmSector = c.nvmSector := by unfold Chip.nvmSector; rw [haddr]
  have hcount : b.ecnt c.nvmSector = c.ecnt c.nvmSector := by
    rw [Chip.ecnt, Chip.rfld, hb.1 _ (fun x hx => by rw [List.mem_singleton.1 hx]; exact ecnt_ne (by decide) _)]
    rfl
  have hdata' : b.erasing.rd R.NVM_DATA = c.rd R.NVM_DATA := by
    rw [Chip.erasing, Chip.rd_wr_other _ _ _ _ (by decide), Chip.wfld, Chip.rd_wr_other _ _ _ _ (ecnt_ne (by decide) _).symm, hdata]
  have herasing : c.Moved b.erasing [R.NVM_STAT, R.NVM_ECNT c.nvmSector, R.NVM_SUSCNT, R.LED_NEXTSEQ] Chip.noCmdLed := by
    rw [Chip.erasing, hsector]
    exact ((hb.mono (by simp)).wfld (by simp) _ _ _).wr (by simp) _
  have hraised : b.erasing.ecnt c.nvmSector = (c.ecnt c.nvmSector + 1) % 2 ^ 24 := by
    rw [Chip.erasing, hsector, hcount, Chip.ecnt, Chip.rfld, Chip.rd_wr_other _ _ _ _ (ecnt_ne (by decide) _)]
    exact b.rfld_wfld_self _ (show 0 + 24 ≤ 8 * 4 by decide)
  have hnvm : b.erasing.nvm = b.nvm := rfl
  have hled : b.erasing.led = b.led := rfl
  rw [Chip.nvmBegin_erase, haddr, hdata']
  generalize b.erasing = e at *
  have hmoved : c.Moved { e.wr R.NVM_STAT 3 with nvm := { b.nvm with cmd := some { code := 0x10, addr := c.rd R.NVM_ADDR, data := leBytes 32 (c.rd R.NVM_DATA), entry := entry } } }
      [R.NVM_STAT, R.NVM_ECNT c.nvmSector, R.NVM_SUSCNT, R.LED_NEXTSEQ] Chip.noCmdLed := (herasing.wr (r := R.NVM_STAT) (by simp) 3).put rfl (by rw [← hnvm]; rfl)
  have hlevel : ∀ r ∈ levelRegs, ∀ x ∈ [R.NVM_STAT, R.NVM_ECNT c.nvmSector, R.NVM_SUSCNT, R.LED_NEXTSEQ], r.addr ≠ x.addr := by
    simp only [levelRegs, List.forall_mem_cons, List.not_mem_nil, false_imp_iff, implies_true, and_true, R.NVM_ECNT, R.PEB_EN, R.OTP_SECT, R.WDN_STATUS,
      R.SYS_SUPPLY, R.ENT_STATE, R.NVM_STAT, R.NVM_SUSCNT, R.LED_NEXTSEQ]
    omega
  refine ⟨⟨_, rfl, rfl, rfl, rfl⟩, Chip.rd_wr_self e R.NVM_STAT 3, fun h => ?_, fun _ => ?_, (hmoved.keeps hlevel levelBlank_noCmdLed).coarsen (fun _ => rfl)⟩
  · obtain ⟨x, hx, hsays⟩ := hstaged h
    refine ⟨x, ?_, hsays⟩
    rw [← hx]
    show FMap.get none e.led.staging 0 = FMap.get none b.led.staging 0
    rw [hled]
  · refine Eq.trans ?_ hraised
    exact congrArg (fun n => fld n 0 24) (Chip.rd_wr_other e R.NVM_STAT (R.NVM_ECNT c.nvmSector) 3 (ecnt_ne (by decide) _))

end

section
variable {s : State} {w : Writer} {i : Instr} {code mv : Nat} {die : Int} (he : exec i s = s.lift (fun c => c.nvmCommand w code mv die))
  (hwrd : s.chip.wrdOn = true) (hown : s.chip.rd R.NVM_OWN = wOrigin w) (hnone : s.chip.nvmRefusal code mv die = none)
include he hwrd hown hnone

/-- A command of flash begins without an entry. -/
theorem does_program (hcode : code < 0x10) : Does i s (fun d => s.chip.Begun d w code 9 false) := by
  have hdo : s.chip.nvmCommand w code mv die = s.chip.nvmBegin code none := by
    rw [Chip.nvmCommand, if_neg (by rw [hwrd]; decide), if_neg (not_not_intro hown)]
    simp only [if_pos hcode, hnone]
  exact does_of_lift he hdo (Chip.begun_other (.refl _ _ _) (fun h => absurd h (by decide)) (by omega))

/-- A logged command begins behind its entry. -/
theorem does_logged (hcode : 0x10 ≤ code) (hdead : s.chip.exhausted = false) (hfree : s.chip.entry 0 = none)
    (hsec : code = 0x10 → s.chip.nvmSector < 512) : Does i s (fun d => s.chip.Begun d w code (if code = 0x10 then 3 else 9) true) := by
  have hentry : s.chip.freeEntry orderEntries = some 0 := by
    rw [Chip.freeEntry, orderEntries, List.find?_cons_of_pos (by rw [hfree]; rfl)]
  have hdo : s.chip.nvmCommand w code mv die = (s.chip.putEntry 0 (s.chip.nvmEntry w code 0 0 false)).nvmBegin code (some 0) := by
    rw [Chip.nvmCommand, if_neg (by rw [hwrd]; decide), if_neg (not_not_intro hown)]
    simp only [if_neg (show ¬ code < 0x10 by omega), hdead, hentry, hnone, Bool.false_eq_true, if_false]
  have hmoved : s.chip.Moved (s.chip.putEntry 0 (s.chip.nvmEntry w code 0 0 false)) [R.LED_NEXTSEQ] Chip.noCmdLed :=
    (Chip.Moved.refl _ _ _).putEntry (by simp) (fun _ _ => rfl) _ _
  have hstaged : s.chip.CmdStaged (s.chip.putEntry 0 (s.chip.nvmEntry w code 0 0 false)) w code :=
    ⟨_, Chip.entry_setEntry_self _ _ _, rfl, rfl, rfl, rfl⟩
  generalize s.chip.putEntry 0 (s.chip.nvmEntry w code 0 0 false) = b at *
  by_cases herase : code = 0x10
  · subst herase
    exact does_of_lift he hdo (Chip.begun_erase hmoved (fun _ => hstaged) rfl (hsec rfl))
  · rw [if_neg herase]
    exact does_of_lift he hdo (Chip.begun_other hmoved (fun _ => hstaged) herase)

end

/-! ### Commands that end (R808, R825, R836) -/

/-- A command that ran to its end and whose read-back agrees. -/
theorem does_commandDone {s : State} {m : NvmCmd} {P : Chip → Prop} (hcmd : s.chip.nvm.cmd = some m)
    (hwear : m.code = 0x10 → s.chip.ecnt (m.addr / 0x1000 - 0x200) < 20000)
    (heffect : ∀ b : Chip, b = Chip.nvmEffect { s.chip with nvm := { s.chip.nvm with cmd := none } } m → b.nvm.cmd = none ∧ b.regs = s.chip.regs)
    (hP : ∀ d : Chip, d.mem = (Chip.nvmEffect { s.chip with nvm := { s.chip.nvm with cmd := none } } m).mem →
      d.nvm = (Chip.nvmEffect { s.chip with nvm := { s.chip.nvm with cmd := none } } m).nvm → P d) :
    Does (.nvmCommandDone true) s (fun d => P d ∧ d.nvm.cmd = none ∧ d.rd R.NVM_STAT = 0 ∧ d.rd R.NVM_RESULT = 0) := by
  have hdo : s.chip.nvmDone true = ((((Chip.nvmEffect { s.chip with nvm := { s.chip.nvm with cmd := none } } m).wearCheck m).nvmFinal m 0).wr R.NVM_STAT 0).wr
      R.NVM_RESULT 0 := by
    rw [Chip.nvmDone, hcmd]
    rfl
  obtain ⟨hnone, hregs⟩ := heffect _ rfl
  generalize Chip.nvmEffect { s.chip with nvm := { s.chip.nvm with cmd := none } } m = b at *
  have hsmall : b.wearCheck m = b := by
    refine if_neg (fun h => ?_)
    have hless := hwear h.1
    have hsame : b.ecnt (m.addr / 0x1000 - 0x200) = s.chip.ecnt (m.addr / 0x1000 - 0x200) := by
      rw [Chip.ecnt, Chip.rfld, Chip.rd, hregs]
      rfl
    omega
  have hfinal : (b.nvmFinal m 0).mem = b.mem ∧ (b.nvmFinal m 0).nvm = b.nvm := by
    rw [Chip.nvmFinal]
    split
    · exact ⟨rfl, rfl⟩
    · split <;> exact ⟨rfl, rfl⟩
  rw [hsmall] at hdo
  generalize b.nvmFinal m 0 = e at *
  obtain ⟨hmem, hnvm⟩ := hfinal
  have hstat : ((e.wr R.NVM_STAT 0).wr R.NVM_RESULT 0).rd R.NVM_STAT = 0 := (Chip.rd_wr_other _ _ _ _ (by decide)).trans (Chip.rd_wr_self _ _ _)
  have hresult : ((e.wr R.NVM_STAT 0).wr R.NVM_RESULT 0).rd R.NVM_RESULT = 0 := Chip.rd_wr_self _ _ _
  have hcmd' : ((e.wr R.NVM_STAT 0).wr R.NVM_RESULT 0).nvm.cmd = none := (congrArg NvmSt.cmd hnvm).trans hnone
  have hmem' : ((e.wr R.NVM_STAT 0).wr R.NVM_RESULT 0).mem = b.mem := hmem
  have hnvm' : ((e.wr R.NVM_STAT 0).wr R.NVM_RESULT 0).nvm = b.nvm := hnvm
  generalize (e.wr R.NVM_STAT 0).wr R.NVM_RESULT 0 = d at *
  exact does_of_lift (show exec (.nvmCommandDone true) s = execNvmCommandDone true s from rfl) hdo ⟨hP _ hmem' hnvm', hcmd', hstat, hresult⟩

theorem Chip.nvmEffect_program1 {m : NvmCmd} (h : m.code = 0x01) (c : Chip) : c.nvmEffect m = c.programGranule (m.addr / 16) (m.data.take 16) := by
  rw [Chip.nvmEffect, h]
  rfl

theorem Chip.nvmEffect_erase {m : NvmCmd} (h : m.code = 0x10) (c : Chip) : c.nvmEffect m = c.eraseSector (m.addr / 0x1000 - 0x200) := by
  rw [Chip.nvmEffect, h]
  rfl

theorem Chip.nvmEffect_otp {m : NvmCmd} (h : m.code = 0x20) (c : Chip) : c.nvmEffect m =
    { c with nvm := { c.nvm with otp := FMap.set 0 c.nvm.otp (m.addr % 64) (leNat (m.data.take 16))
                                 shadow := FMap.set 0 c.nvm.shadow (m.addr % 64) (leNat (m.data.take 16)) } } := by
  rw [Chip.nvmEffect, h]
  rfl

/-- A granule programmed, byte by byte. -/
theorem Chip.byte_programGranule (c : Chip) (g : Nat) {l : List Byte} (hl : l.length = 16) (x : Nat) :
    FMap.get erased (c.programGranule g l).mem.flash x = if x / 16 = g then l.getD (x % 16) 0 else FMap.get erased c.mem.flash x := by
  show FMap.get erased (Mem.writeN erased c.mem.flash (16 * g) l) x = _
  split
  case isTrue hx =>
    have hin : x = 16 * g + x % 16 := by omega
    rw [← Mem.get_writeN_mem erased 0 l c.mem.flash (16 * g) (x % 16) (by omega), ← hin]
  case isFalse hx => exact Mem.get_writeN_other _ _ _ _ _ _ (by omega)

/-- A sector erased, byte by byte. -/
theorem Chip.byte_eraseSector (c : Chip) (k x : Nat) :
    FMap.get erased (c.eraseSector k).mem.flash x = if x / 0x1000 = 0x200 + k then 0xFF else FMap.get erased c.mem.flash x := by
  have hfilter := FMap.get_filter erased c.mem.flash (fun a => !(a / 0x1000 == 0x200 + k)) x
  refine Eq.trans hfilter ?_
  by_cases hx : x / 0x1000 = 0x200 + k
  · rw [if_pos hx, if_neg (by simp [hx])]
    rfl
  · rw [if_neg hx, if_pos (by simp [hx])]

/-! ### The statement -/

theorem wOrigin_lt (w : Writer) : wOrigin w < 256 := by
  cases w <;> simp only [wOrigin] <;> omega

/-- Settles O51. -/
theorem nvmCommands : Obligations.NvmCommands := by
  intro s w v mv die m hwrd c a sec byte begins ends
  refine ⟨fun hfree => ?_, fun hcmd => ?_, fun hown => ⟨fun h => ?_, fun h => ?_, fun hdead hfree => ⟨fun h => ?_, fun h => ?_, fun h => ?_, fun h => ?_⟩,
    fun hmay => ?_⟩, fun hcmd => ⟨fun hcode hlen => ?_, fun hcode hcount hlow => ?_, fun hcode => ?_⟩, fun hstat hsus => ?_, ?_⟩
  · have hmoved : c.Moved (c.wr R.NVM_OWN (wOrigin w)) [R.NVM_OWN] id := (Chip.Moved.refl _ _ _).wr (by simp) _
    have hown : (c.wr R.NVM_OWN (wOrigin w)).rd R.NVM_OWN = wOrigin w :=
      (Chip.rd_wr_self _ _ _).trans (Nat.mod_eq_of_lt (lt_trans (wOrigin_lt w) (by decide)))
    exact does_of_lift (show exec (.nvmOwnWrite w v) s = execNvmOwnWrite w v s from rfl) ((if_pos hwrd).trans (if_pos hfree))
      ⟨hown, hmoved.keeps (by decide) levelBlank_id⟩
  · have hmoved : c.Moved (c.wr R.NVM_OWN 0) [R.NVM_OWN] id := (Chip.Moved.refl _ _ _).wr (by simp) _
    exact does_of_lift (show exec .nvmOwnerTimeout s = execNvmOwnerTimeout s from rfl) (if_pos (by rw [show c.nvm.cmd = none from hcmd]; rfl))
      ⟨Chip.rd_wr_self c R.NVM_OWN 0, hmoved.keeps (by decide) levelBlank_id⟩
  · exact does_program (i := .program1 w mv) rfl hwrd hown h (by decide)
  · exact does_program (i := .program2 w mv) rfl hwrd hown h (by decide)
  · exact does_logged (i := .erase w mv) rfl hwrd hown h (by decide) hdead hfree (fun _ => Chip.nvmSector_lt (by decide) h)
  · exact does_logged (i := .otpProgram w mv die) rfl hwrd hown h (by decide) hdead hfree (fun h => absurd h (by decide))
  · exact does_logged (i := .otpSeal w mv die) rfl hwrd hown h (by decide) hdead hfree (fun h => absurd h (by decide))
  · exact does_logged (i := .arbInc w mv die) rfl hwrd hown h (by decide) hdead hfree (fun h => absurd h (by decide))
  · have hmoved (n : Nat) : c.Moved (c.wr R.NVM_WPLIM n) [R.NVM_WPLIM] id := (Chip.Moved.refl _ _ _).wr (by simp) _
    have hlimit : c.nvmWplim w v.toNat = if c.rd R.NVM_WPLIM < v.toNat % 1024 then c.wr R.NVM_WPLIM (v.toNat % 1024) else c :=
      if_neg (by rw [show c.nvmMayWrite w = true from hmay]; decide)
    have he := show exec (.nvmWplimWrite w v) s = execNvmWplimWrite w v s from rfl
    by_cases hrise : c.rd R.NVM_WPLIM < v.toNat % 1024
    · rw [if_pos hrise] at hlimit
      have hself : (c.wr R.NVM_WPLIM (v.toNat % 1024)).rd R.NVM_WPLIM = v.toNat % 1024 :=
        (Chip.rd_wr_self _ _ _).trans (Nat.mod_eq_of_lt (lt_trans (Nat.mod_lt _ (by decide)) (by decide)))
      exact does_of_lift he ((if_pos hwrd).trans hlimit) ⟨hself.trans (max_eq_right hrise.le).symm, (hmoved _).keeps (by decide) levelBlank_id⟩
    · rw [if_neg hrise] at hlimit
      exact does_of_lift he ((if_pos hwrd).trans hlimit) ⟨(max_eq_left (not_lt.1 hrise)).symm, Chip.Moved.keeps (.refl _ _ _) (by decide) levelBlank_id⟩
  · refine does_commandDone hcmd (fun h => absurd (hcode.symm.trans h) (by decide)) (fun b hb => ?_) (fun d hmem _ x => ?_)
    · rw [hb, Chip.nvmEffect_program1 hcode]
      exact ⟨rfl, rfl⟩
    · rw [Chip.nvmEffect_program1 hcode] at hmem
      show FMap.get erased d.mem.flash x = _
      rw [hmem, Chip.byte_programGranule _ _ (by rw [List.length_take, hlen]; rfl)]
      split
      · rw [List.getD_eq_getElem?_getD, List.getElem?_take_of_lt (Nat.mod_lt _ (by decide)), ← List.getD_eq_getElem?_getD]
      · rfl
  · refine does_commandDone hcmd (fun _ => hcount) (fun b hb => ?_) (fun d hmem _ x => ?_)
    · rw [hb, Chip.nvmEffect_erase hcode]
      exact ⟨rfl, rfl⟩
    · rw [Chip.nvmEffect_erase hcode] at hmem
      show FMap.get erased d.mem.flash x = _
      rw [hmem, Chip.byte_eraseSector, show 0x200 + (m.addr / 0x1000 - 0x200) = m.addr / 0x1000 by omega]
  · refine does_commandDone hcmd (fun h => absurd (hcode.symm.trans h) (by decide)) (fun b hb => ?_) (fun d hmem hnvm => ?_)
    · rw [hb, Chip.nvmEffect_otp hcode]
      exact ⟨rfl, rfl⟩
    · rw [Chip.nvmEffect_otp hcode] at hmem hnvm
      rw [hnvm]
      exact ⟨FMap.get_set_self _ _ _ _, hmem, fun r hr => FMap.get_set_other _ _ _ _ _ _ hr⟩
  · have hmoved : c.Moved ((c.wbit R.NVM_STAT 2 true).inc R.NVM_SUSCNT) [R.NVM_STAT, R.NVM_SUSCNT] id :=
      ((Chip.Moved.refl _ _ _).wbit (by simp) 2 true).inc (by simp)
    have hbit : ((c.wbit R.NVM_STAT 2 true).inc R.NVM_SUSCNT).rbit R.NVM_STAT 2 = true := by
      rw [Chip.rbit, Chip.inc, Chip.rd_wr_other _ _ _ _ (by decide)]
      exact (c.rbit_wbit 2 true (by decide)).trans (if_pos rfl)
    have hcount : ((c.wbit R.NVM_STAT 2 true).inc R.NVM_SUSCNT).rd R.NVM_SUSCNT = c.rd R.NVM_SUSCNT + 1 := by
      rw [Chip.inc, Chip.rd_wr_self, Chip.wbit, Chip.rd_wr_other _ _ _ _ (by decide), satInc,
        if_pos (show c.rd R.NVM_SUSCNT + 1 < 2 ^ (8 * R.NVM_SUSCNT.width) from (by omega : c.rd R.NVM_SUSCNT + 1 < 256))]
      exact Nat.mod_eq_of_lt (show c.rd R.NVM_SUSCNT + 1 < 256 by omega)
    exact does_of_lift (show exec .eraseSuspend s = execEraseSuspend s from rfl) (if_pos ⟨hstat, hsus⟩) ⟨hbit, hcount, hmoved.keeps (by decide) levelBlank_id⟩
  · have hmoved : c.Moved (c.wbit R.NVM_STAT 2 false) [R.NVM_STAT] id := (Chip.Moved.refl _ _ _).wbit (by simp) 2 false
    exact does_of_lift (show exec .eraseResume s = execEraseResume s from rfl) rfl
      ⟨(c.rbit_wbit 2 false (r := R.NVM_STAT) (by decide)).trans (if_pos rfl), hmoved.keeps (by decide) levelBlank_id⟩

end Sys2Proof.Machine
end

section
/-!
PROOFS. The entropy source and Pebble (18 R857 to R880).
-/
namespace Sys2Proof.Machine

/-! ### The level rules, part by part -/

section
variable {c d : Chip} {rs : List Reg} {blank : Chip → Chip}

theorem Chip.settled_jtag (hjtag : d.jtag = c.jtag) (hdoms : d.seq.doms = c.seq.doms) : d.settle.jtag = c.settle.jtag := by
  have hoff : d.channelsOff = c.channelsOff := by unfold Chip.channelsOff Chip.dom; rw [hdoms]
  unfold Chip.settle
  simp only [hoff, hjtag]

theorem Chip.settled_hif (hhif : d.hif = c.hif) (hsup : d.rd R.SYS_SUPPLY = c.rd R.SYS_SUPPLY) : d.settle.hif = c.settle.hif := by
  have hbank : d.bankGood 0 = c.bankGood 0 := by rw [Chip.bankGood, Chip.rbit, hsup]; rfl
  unfold Chip.settle
  simp only [hbank, hhif]

theorem Chip.settled_ent (hent : d.ent = c.ent) (hstate : d.rd R.ENT_STATE = c.rd R.ENT_STATE) : d.settle.ent = c.settle.ent := by
  have hst : d.entState = c.entState := by rw [Chip.entState, Chip.rfld, hstate]; rfl
  unfold Chip.settle
  simp only [hst, hent]

theorem Chip.settled_peb (hpeb : d.peb = c.peb) (hdoms : d.seq.doms = c.seq.doms) (hshadow : d.nvm.shadow = c.nvm.shadow) (hpower : d.mode.power = c.mode.power)
    (hen : d.rd R.PEB_EN = c.rd R.PEB_EN) (hsect : d.rd R.OTP_SECT = c.rd R.OTP_SECT) (hstatus : d.rd R.WDN_STATUS = c.rd R.WDN_STATUS) :
    d.settle.peb = c.settle.peb := by
  have hactive (i : Nat) : d.pebActive i = c.pebActive i := by
    unfold Chip.pebActive Chip.pebUnlocked Chip.fuseUnlock Chip.fieldDebugBlown Chip.policyFailed Chip.policyOn Chip.wrdOn Chip.domOn Chip.dom Chip.rbit Chip.rfld
    rw [hpeb, hdoms, hshadow, hpower, hen, hsect, hstatus]
  unfold Chip.settle
  simp only [hactive, hpeb]

/-- The level rules at the end of a command, where the blank turns what they replace in both chips into the same. -/
theorem Chip.Moved.keeps_of_put (h : c.Moved d rs blank) {f : Chip → Chip}
    (hd : ∀ x : Chip, blank (x.putLevels d.settle.jtag d.settle.peb d.settle.hif d.settle.ent) = f (blank x))
    (hc : ∀ x : Chip, blank (x.putLevels c.settle.jtag c.settle.peb c.settle.hif c.settle.ent) = f (blank x)) : c.Keeps d.settle rs blank := by
  refine ⟨h.1, ?_⟩
  have hd' : { d.settle with regs := [] } = Chip.putLevels { d with regs := [] } d.settle.jtag d.settle.peb d.settle.hif d.settle.ent := rfl
  have hc' : { c.settle with regs := [] } = Chip.putLevels { c with regs := [] } c.settle.jtag c.settle.peb c.settle.hif c.settle.ent := rfl
  rw [hd', hc', hd, hc, h.2]

/-- A blank that hides the entropy source and nothing else of the level rules. -/
structure EntBlank (blank : Chip → Chip) : Prop where
  put : ∀ x j p h e, blank (x.putLevels j p h e) = (blank x).putLevels j p h {}
  jtag : ∀ x, (blank x).jtag = x.jtag
  peb : ∀ x, (blank x).peb = x.peb
  hif : ∀ x, (blank x).hif = x.hif
  doms : ∀ x, (blank x).seq.doms = x.seq.doms
  shadow : ∀ x, (blank x).nvm.shadow = x.nvm.shadow
  power : ∀ x, (blank x).mode.power = x.mode.power

/-- A blank that hides Pebble and nothing else of the level rules. -/
structure PebBlank (blank : Chip → Chip) : Prop where
  put : ∀ x j p h e, blank (x.putLevels j p h e) = (blank x).putLevels j {} h e
  jtag : ∀ x, (blank x).jtag = x.jtag
  hif : ∀ x, (blank x).hif = x.hif
  ent : ∀ x, (blank x).ent = x.ent
  doms : ∀ x, (blank x).seq.doms = x.seq.doms

theorem Chip.Moved.keeps_ent (h : c.Moved d rs blank) (hrs : ∀ r ∈ [R.PEB_EN, R.OTP_SECT, R.WDN_STATUS, R.SYS_SUPPLY], ∀ x ∈ rs, r.addr ≠ x.addr)
    (hb : EntBlank blank) : c.Keeps d.settle rs blank := by
  have hdoms : d.seq.doms = c.seq.doms := h.field (f := fun x => x.seq.doms) (fun x => hb.doms _)
  have hjtag := Chip.settled_jtag (h.field (f := Chip.jtag) (fun x => hb.jtag _)) hdoms
  have hhif := Chip.settled_hif (h.field (f := Chip.hif) (fun x => hb.hif _)) (h.1 _ (hrs _ (by simp)))
  have hpeb := Chip.settled_peb (h.field (f := Chip.peb) (fun x => hb.peb _)) hdoms (h.field (f := fun x => x.nvm.shadow) (fun x => hb.shadow _))
    (h.field (f := fun x => x.mode.power) (fun x => hb.power _)) (h.1 _ (hrs _ (by simp))) (h.1 _ (hrs _ (by simp))) (h.1 _ (hrs _ (by simp)))
  refine h.keeps_of_put (f := fun x => x.putLevels c.settle.jtag c.settle.peb c.settle.hif {}) (fun x => ?_) (fun x => hb.put x _ _ _ _)
  rw [hb.put, hjtag, hhif, hpeb]

theorem Chip.Moved.keeps_peb (h : c.Moved d rs blank) (hrs : ∀ r ∈ [R.SYS_SUPPLY, R.ENT_STATE], ∀ x ∈ rs, r.addr ≠ x.addr)
    (hb : PebBlank blank) : c.Keeps d.settle rs blank := by
  have hdoms : d.seq.doms = c.seq.doms := h.field (f := fun x => x.seq.doms) (fun x => hb.doms _)
  have hjtag := Chip.settled_jtag (h.field (f := Chip.jtag) (fun x => hb.jtag _)) hdoms
  have hhif := Chip.settled_hif (h.field (f := Chip.hif) (fun x => hb.hif _)) (h.1 _ (hrs _ (by simp)))
  have hent := Chip.settled_ent (h.field (f := Chip.ent) (fun x => hb.ent _)) (h.1 _ (hrs _ (by simp)))
  refine h.keeps_of_put (f := fun x => x.putLevels c.settle.jtag {} c.settle.hif c.settle.ent) (fun x => ?_) (fun x => hb.put x _ _ _ _)
  rw [hb.put, hjtag, hhif, hent]

end

/-! ### The entropy source (R857 to R868) -/

/-- Blanks the entropy source. -/
def Chip.noEnt (d : Chip) : Chip := { d with ent := {} }

/-- Blanks the entropy source, the Ledger's staging and the threads. -/
def Chip.noEntLed (d : Chip) : Chip := { d with ent := {}, led := {}, threads := [] }

theorem entBlank_noEnt : EntBlank Chip.noEnt := ⟨fun _ _ _ _ _ => rfl, fun _ => rfl, fun _ => rfl, fun _ => rfl, fun _ => rfl, fun _ => rfl, fun _ => rfl⟩

theorem entBlank_noEntLed : EntBlank Chip.noEntLed := ⟨fun _ _ _ _ _ => rfl, fun _ => rfl, fun _ => rfl, fun _ => rfl, fun _ => rfl, fun _ => rfl, fun _ => rfl⟩

section
variable {c : Chip}

theorem Chip.entState_setEnt (c : Chip) {st : Nat} (hst : st < 8) : (c.setEnt st).entState = st := by
  have hself : (c.wfld R.ENT_STATE 0 3 st).entState = st := (c.rfld_wfld_self st (by decide)).trans (Nat.mod_eq_of_lt hst)
  unfold Chip.setEnt
  split <;> exact hself

theorem Chip.entRestarts_setEnt (c : Chip) (st : Nat) : (c.setEnt st).entRestarts = c.entRestarts := by
  have hother : (c.wfld R.ENT_STATE 0 3 st).entRestarts = c.entRestarts := c.rfld_wfld_other (by decide) (by decide)
  unfold Chip.setEnt
  split <;> exact hother

theorem Chip.setEnt_eq (c : Chip) (st : Nat) : ∃ e, c.setEnt st = { c.wfld R.ENT_STATE 0 3 st with ent := e } := by
  unfold Chip.setEnt
  split
  · exact ⟨_, rfl⟩
  · exact ⟨_, rfl⟩

theorem Chip.Moved.setEnt {d : Chip} {rs : List Reg} {blank : Chip → Chip} (h : c.Moved d rs blank) (hr : R.ENT_STATE ∈ rs)
    (hb : ∀ (x : Chip) e, blank { x with ent := e } = blank x) (st : Nat) : c.Moved (d.setEnt st) rs blank := by
  obtain ⟨e, he⟩ := d.setEnt_eq st
  rw [he]
  exact (h.wfld hr 0 3 st).put rfl (hb { d.wfld R.ENT_STATE 0 3 st with regs := [] } e)

theorem Chip.rd_setEnt (c : Chip) (st : Nat) {q : Reg} (hq : q.addr ≠ R.ENT_STATE.addr) : (c.setEnt st).rd q = c.rd q := by
  obtain ⟨e, he⟩ := c.setEnt_eq st
  rw [he]
  exact Chip.rd_wr_other _ _ _ _ hq

end

/-- A health test fails in RUN (R862, R863). -/
theorem does_healthFailure {s : State} (k : HealthFail) (hst : s.chip.entState = 2) (hwrd : s.chip.wrdOn = true) (hrestarts : s.chip.entRestarts < 3)
    (hfree : s.chip.entry 14 = none) (hcnt : s.chip.rd R.ENT_FAILCNT < 255) :
    Does (.healthTestFailure k) s (fun d => d.entState = 3 ∧ d.rd R.ENT_FAILCNT = s.chip.rd R.ENT_FAILCNT + 1 ∧
      (bit (d.rd R.ENT_EVT) 0 = true ∧ s.chip.Rings d) ∧ d.ent.buffer = [] ∧
      (∃ x ∈ [1, 2, 3], d.rd R.ENT_FAILCAUSE = x ∧ d.Recorded 0x40FF 0 0 (cause 0x50 x)) ∧
      s.chip.Keeps d ([R.ENT_STATE, R.ENT_FAILCNT, R.ENT_FAILCAUSE, R.ENT_EVT, R.DOORBELL_OVF] ++ ledgerRegs) Chip.noEntLed) := by
  obtain ⟨kind, hkind, hfail⟩ : ∃ kind ∈ [1, 2, 3], s.chip.healthFail k =
      (fun c : Chip => if c.entRestarts = 3 then ((c.setEnt entDEAD).event 12 R.ENT_EVT 4).stageHw 0x40FF 0 0 (cause 0x52 0) else c.setEnt entFAILED)
        ((((s.chip.wr R.ENT_FAILCAUSE kind).inc R.ENT_FAILCNT).event 12 R.ENT_EVT 1).stageHw 0x40FF 0 0 (cause 0x50 kind)) := by
    refine ⟨match k with | .rct => 1 | .apt => 2 | .startup => 3, by cases k <;> decide, ?_⟩
    unfold Chip.healthFail
    rw [hst, hwrd]
    cases k <;> rfl
  let a := (s.chip.wr R.ENT_FAILCAUSE kind).inc R.ENT_FAILCNT
  have hcnt' : a.rd R.ENT_FAILCNT = s.chip.rd R.ENT_FAILCNT + 1 := by
    show ((s.chip.wr R.ENT_FAILCAUSE kind).inc R.ENT_FAILCNT).rd R.ENT_FAILCNT = _
    rw [Chip.inc, Chip.rd_wr_self, Chip.rd_wr_other _ _ _ _ (by decide), satInc,
      if_pos (show s.chip.rd R.ENT_FAILCNT + 1 < 2 ^ (8 * R.ENT_FAILCNT.width) from (by omega : s.chip.rd R.ENT_FAILCNT + 1 < 65536))]
    exact Nat.mod_eq_of_lt (show s.chip.rd R.ENT_FAILCNT + 1 < 65536 by omega)
  have hother {q : Reg} (hq : q.addr ≠ R.ENT_FAILCNT.addr) : a.rd q = (s.chip.wr R.ENT_FAILCAUSE kind).rd q := Chip.rd_wr_other _ _ _ _ hq
  let b := a.event 12 R.ENT_EVT 1
  have hb {q : Reg} (hq : ∀ x ∈ [R.ENT_EVT, R.DOORBELL_OVF], q.addr ≠ x.addr) : b.rd q = a.rd q :=
    Chip.rd_event_other _ _ _ _ (hq _ (by simp)) (hq _ (by simp))
  let e := b.stageHw 0x40FF 0 0 (cause 0x50 kind)
  have hmoved : s.chip.Moved (e.setEnt entFAILED) ([R.ENT_STATE, R.ENT_FAILCNT, R.ENT_FAILCAUSE, R.ENT_EVT, R.DOORBELL_OVF] ++ ledgerRegs) Chip.noEntLed :=
    Chip.Moved.setEnt (((((Chip.Moved.refl s.chip _ _).wr (r := R.ENT_FAILCAUSE) (by decide) kind).inc (r := R.ENT_FAILCNT) (by decide)).event (r := R.ENT_EVT)
      (by decide) (by decide) (fun _ _ => rfl) 12 1).stageHw (by decide) (by decide) (fun _ _ => rfl) _ _ _ _) (by decide) (fun _ _ => rfl) _
  have hrd {q : Reg} (hq : ∀ x ∈ R.ENT_STATE :: ledgerRegs, q.addr ≠ x.addr) : (e.setEnt entFAILED).rd q = b.rd q := by
    rw [Chip.rd_setEnt _ _ (hq _ (by simp)), Chip.rd_stageHw _ _ _ _ _ (hq _ (by simp [ledgerRegs])) (hq _ (by simp [ledgerRegs]))]
  have hcount : (e.setEnt entFAILED).rd R.ENT_FAILCNT = s.chip.rd R.ENT_FAILCNT + 1 := by
    rw [hrd (by decide), hb (by decide), hcnt']
  have hkind' : (e.setEnt entFAILED).rd R.ENT_FAILCAUSE = kind := by
    rw [hrd (by decide), hb (by decide), hother (by decide), Chip.rd_wr_self]
    exact (by decide : ∀ n ∈ [1, 2, 3], n % 256 ^ R.ENT_FAILCAUSE.width = n) kind hkind
  have hevt : (e.setEnt entFAILED).rbit R.ENT_EVT 0 = true := by
    rw [Chip.rbit, hrd (by decide)]
    exact (a.rbit_event 12 R.ENT_EVT 1 (by decide) (by decide)).trans (Bool.or_true _)
  have hrec : e.Recorded 0x40FF 0 0 (cause 0x50 kind) := Chip.recorded_stageHw (by
    have hled : b.led = s.chip.led := by
      show (a.event 12 R.ENT_EVT 1).led = _
      rw [Chip.event_eq]
      rfl
    rw [Chip.entry, hled]
    exact hfree) _ _ _ _
  have hrings : s.chip.Rings e := Chip.Rings.trans (d := b) (a.rings_event 12 R.ENT_EVT 1) (.of_threads (by
    show (b.stageHw 0x40FF 0 0 (cause 0x50 kind)).threads = b.threads
    rw [Chip.stageHw_eq]))
  have hlive : e.entRestarts = s.chip.entRestarts := by
    rw [Chip.entRestarts, Chip.rfld, Chip.rd_stageHw _ _ _ _ _ (by decide) (by decide), hb (by decide), hother (by decide), Chip.rd_wr_other _ _ _ _ (by decide)]
    rfl
  have hstate := e.entState_setEnt (st := entFAILED) (by decide)
  have hdo : s.chip.healthFail k = e.setEnt entFAILED := hfail.trans (if_neg (by show ¬ e.entRestarts = 3; omega))
  have hrec' : (e.setEnt entFAILED).Recorded 0x40FF 0 0 (cause 0x50 kind) := hrec
  have hrings' : s.chip.Rings (e.setEnt entFAILED) := hrings
  generalize e.setEnt entFAILED = d at *
  have hempty : d.settle.ent.buffer = [] := by
    show (if d.entState = entRUN then d.ent.buffer else []) = []
    rw [hstate]
    rfl
  exact does_of_lift (show exec (.healthTestFailure k) s = execHealthTestFailure k s from rfl) hdo
    ⟨hstate, hcount, ⟨hevt, hrings'⟩, hempty, ⟨kind, hkind, hkind', hrec'⟩, hmoved.keeps_ent (by decide) entBlank_noEntLed⟩

/-- The holdoff ends (R863). -/
theorem does_holdoffEnd {s : State} (hst : s.chip.entState = 3) (hfree : s.chip.entry 14 = none) (hrestarts : s.chip.entRestarts < 3) :
    Does .entHoldoffEnd s (fun d => d.entState = 1 ∧ d.entRestarts = s.chip.entRestarts + 1 ∧ (bit (d.rd R.ENT_EVT) 1 = true ∧ s.chip.Rings d) ∧
      d.Recorded 0x40FF 0 0 (cause 0x51 (s.chip.entRestarts + 1)) ∧
      s.chip.Keeps d ([R.ENT_STATE, R.ENT_EVT, R.DOORBELL_OVF] ++ ledgerRegs) Chip.noEntLed) := by
  let n := s.chip.entRestarts + 1
  let a := (s.chip.wfld R.ENT_STATE 3 2 n).setEnt entSTARTUP
  let b := a.event 12 R.ENT_EVT 2
  have hdo : s.chip.entHoldoff = b.stageHw 0x40FF 0 0 (cause 0x51 n) := if_pos hst
  have hmoved : s.chip.Moved (b.stageHw 0x40FF 0 0 (cause 0x51 n)) ([R.ENT_STATE, R.ENT_EVT, R.DOORBELL_OVF] ++ ledgerRegs) Chip.noEntLed :=
    (((Chip.Moved.refl s.chip _ _).wfld (r := R.ENT_STATE) (by decide) 3 2 n).setEnt (by decide) (fun _ _ => rfl) _ |>.event (r := R.ENT_EVT) (by decide)
      (by decide) (fun _ _ => rfl) 12 2).stageHw (by decide) (by decide) (fun _ _ => rfl) _ _ _ _
  have hrd : (b.stageHw 0x40FF 0 0 (cause 0x51 n)).rd R.ENT_STATE = a.rd R.ENT_STATE := by
    rw [Chip.rd_stageHw _ _ _ _ _ (by decide) (by decide)]
    exact Chip.rd_event_other _ _ _ _ (by decide) (by decide)
  have hstate : (b.stageHw 0x40FF 0 0 (cause 0x51 n)).entState = 1 := by
    rw [Chip.entState, Chip.rfld, hrd]
    exact Chip.entState_setEnt _ (by decide)
  have hcount : (b.stageHw 0x40FF 0 0 (cause 0x51 n)).entRestarts = n := by
    rw [Chip.entRestarts, Chip.rfld, hrd]
    refine (Chip.entRestarts_setEnt _ _).trans ((s.chip.rfld_wfld_self n (by decide)).trans (Nat.mod_eq_of_lt ?_))
    show s.chip.entRestarts + 1 < 4
    omega
  have hevt : (b.stageHw 0x40FF 0 0 (cause 0x51 n)).rbit R.ENT_EVT 1 = true := by
    rw [Chip.rbit, Chip.rd_stageHw _ _ _ _ _ (by decide) (by decide)]
    exact (a.rbit_event 12 R.ENT_EVT 2 (by decide) (by decide)).trans (Bool.or_true _)
  obtain ⟨x, hx⟩ := (s.chip.wfld R.ENT_STATE 3 2 n).setEnt_eq entSTARTUP
  have hled : b.led = s.chip.led := by
    show (Chip.event _ 12 R.ENT_EVT 2).led = _
    rw [Chip.event_eq]
    show (Chip.setEnt _ _).led = _
    rw [hx]
    rfl
  have hrings : s.chip.Rings b := by
    refine Chip.Rings.trans (d := a) (.of_threads ?_) (a.rings_event 12 R.ENT_EVT 2)
    show (Chip.setEnt _ _).threads = _
    rw [hx]
    rfl
  have hrec : (b.stageHw 0x40FF 0 0 (cause 0x51 n)).Recorded 0x40FF 0 0 (cause 0x51 n) := Chip.recorded_stageHw (by
    rw [Chip.entry, hled]
    exact hfree) _ _ _ _
  have hrings' : s.chip.Rings (b.stageHw 0x40FF 0 0 (cause 0x51 n)) := hrings.trans (.of_threads (by rw [Chip.stageHw_eq]))
  generalize b.stageHw 0x40FF 0 0 (cause 0x51 n) = d at *
  exact does_of_lift (show exec .entHoldoffEnd s = execEntHoldoffEnd s from rfl) hdo
    ⟨hstate, hcount, ⟨hevt, hrings'⟩, hrec, hmoved.keeps_ent (by decide) entBlank_noEntLed⟩

/-- Filling the output buffer changes the DRBG alone. -/
theorem Chip.drbgFill_eq (c : Chip) (n : Nat) : ∃ e, c.drbgFill n = { c with ent := e } ∧ e.lfsr = c.ent.lfsr := by
  induction n generalizing c with
  | zero => exact ⟨c.ent, rfl, rfl⟩
  | succ n ih =>
    simp only [Chip.drbgFill]
    split
    · obtain ⟨e, he, hlfsr⟩ := ih { c with ent := { c.ent with
        buffer := c.ent.buffer ++ toBytes (drbgGenerate c.ent.key c.ent.v 1).1, key := (drbgGenerate c.ent.key c.ent.v 1).2.1
        v := (drbgGenerate c.ent.key c.ent.v 1).2.2 } }
      exact ⟨e, he, hlfsr⟩
    · exact ⟨c.ent, rfl, rfl⟩

/-- The start-up test passes for the first time (R857, R862). -/
theorem does_startupPass {s : State} (e : BitVec 512) (n : BitVec 256) (hst : s.chip.entState = 1) (hrestarts : s.chip.entRestarts = 0) :
    Does (.entStartupPass e n) s (fun d => d.entState = 2 ∧ s.chip.Keeps d [R.ENT_STATE, R.ENT_RAW] Chip.noEnt) := by
  let r := drbgInit (natBytes (leBytes 64 e.toNat)) (natBytes (leBytes 32 n.toNat)) ((s.chip.otpBytes 0).take 8)
  let a : Chip := { s.chip with ent := { s.chip.ent with key := r.1, v := r.2 } }
  let b := (a.setEnt entRUN).wr R.ENT_RAW (if a.fuseUnlock then n.toNat % 2 ^ 32 else 0)
  have hb : s.chip.Moved b [R.ENT_STATE, R.ENT_RAW] Chip.noEnt :=
    Chip.Moved.wr (.setEnt ((Chip.Moved.refl s.chip _ _).put (e := a) rfl rfl) (by decide) (fun _ _ => rfl) _) (by decide) _
  have hrd : b.rd R.ENT_STATE = (a.setEnt entRUN).rd R.ENT_STATE := Chip.rd_wr_other _ _ _ _ (by decide)
  have hstate : b.entState = 2 := by
    rw [Chip.entState, Chip.rfld, hrd]
    exact a.entState_setEnt (st := entRUN) (by decide)
  have hzero : b.entRestarts = 0 := by
    rw [Chip.entRestarts, Chip.rfld, hrd]
    exact (a.entRestarts_setEnt entRUN).trans hrestarts
  have hdo : s.chip.entPass e.toNat n.toNat = (fun c : Chip => if c.entRestarts = 0 then c else (c.event 12 R.ENT_EVT 8).stageHw 0x40FF 0 0 (cause 0x53 0))
    (b.drbgFill 2) := if_pos hst
  clear_value b
  obtain ⟨x, hx, -⟩ := b.drbgFill_eq 2
  rw [hx] at hdo
  have hmoved : s.chip.Moved { b with ent := x } [R.ENT_STATE, R.ENT_RAW] Chip.noEnt := hb.put rfl rfl
  exact does_of_lift (show exec (.entStartupPass e n) s = execEntStartupPass e n s from rfl) (hdo.trans (if_pos hzero))
    ⟨hstate, hmoved.keeps_ent (by decide) entBlank_noEnt⟩

/-- The chip after a reseed to key and V of `r`. -/
def Chip.reseeded (c : Chip) (r : List Nat × List Nat) (n : Nat) : Chip :=
  let c := { c with ent := { c.ent with key := r.1, v := r.2 } }
  (c.wr R.ENT_RESEEDS (c.rd R.ENT_RESEEDS + 1)).wr R.ENT_RAW (if c.fuseUnlock then n % 2 ^ 32 else 0)

/-- A reseed (R859). -/
theorem does_drbgReseed {s : State} (e : BitVec 512) (hst : s.chip.entState = 2) : Does (.drbgReseed e) s (fun d =>
    (d.ent.key, d.ent.v) = drbgReseed s.chip.ent.key s.chip.ent.v (natBytes (leBytes 64 e.toNat)) ∧ d.ent.buffer = s.chip.ent.buffer ∧
      d.rd R.ENT_RESEEDS = (s.chip.rd R.ENT_RESEEDS + 1) % 256 ^ R.ENT_RESEEDS.width ∧ s.chip.Keeps d [R.ENT_RESEEDS, R.ENT_RAW] Chip.noEnt) := by
  have hdo : s.chip.entReseed e.toNat = s.chip.reseeded (drbgReseed s.chip.ent.key s.chip.ent.v (natBytes (leBytes 64 e.toNat))) e.toNat := if_pos hst
  generalize drbgReseed s.chip.ent.key s.chip.ent.v (natBytes (leBytes 64 e.toNat)) = r at *
  let a : Chip := { s.chip with ent := { s.chip.ent with key := r.1, v := r.2 } }
  let b := a.wr R.ENT_RESEEDS (a.rd R.ENT_RESEEDS + 1)
  let d := b.wr R.ENT_RAW (if a.fuseUnlock then e.toNat % 2 ^ 32 else 0)
  have hd : s.chip.reseeded r e.toNat = d := rfl
  rw [hd] at hdo
  have hmoved : s.chip.Moved d [R.ENT_RESEEDS, R.ENT_RAW] Chip.noEnt :=
    (((Chip.Moved.refl s.chip _ _).put (e := a) rfl rfl).wr (r := R.ENT_RESEEDS) (by decide) _).wr (r := R.ENT_RAW) (by decide) _
  have hreseeds : d.rd R.ENT_RESEEDS = (s.chip.rd R.ENT_RESEEDS + 1) % 256 ^ R.ENT_RESEEDS.width :=
    (Chip.rd_wr_other b R.ENT_RAW _ _ (by decide)).trans (Chip.rd_wr_self a R.ENT_RESEEDS _)
  have hstate : d.entState = 2 := by
    have hrd := hmoved.1 R.ENT_STATE (by decide)
    rw [Chip.entState, Chip.rfld, hrd]
    exact hst
  have hkey : (d.ent.key, d.ent.v) = r := rfl
  have hbuffer : d.ent.buffer = s.chip.ent.buffer := rfl
  clear_value d
  have hkept : d.settle.ent.buffer = d.ent.buffer := if_pos hstate
  exact does_of_lift (show exec (.drbgReseed e) s = execDrbgReseed e s from rfl) hdo ⟨hkey, hkept.trans hbuffer, hreseeds, hmoved.keeps_ent (by decide) entBlank_noEnt⟩

/-- A day of RUN clears the restarts (R865). -/
theorem does_restartsClear {s : State} (hst : s.chip.entState = 2) :
    Does .entRestartsClear s (fun d => d.entRestarts = 0 ∧ d.entState = 2 ∧ s.chip.Keeps d [R.ENT_STATE] id) := by
  have hmoved : s.chip.Moved (s.chip.wfld R.ENT_STATE 3 2 0) [R.ENT_STATE] id := (Chip.Moved.refl _ _ _).wfld (by simp) 3 2 0
  have hzero : (s.chip.wfld R.ENT_STATE 3 2 0).entRestarts = 0 := s.chip.rfld_wfld_self 0 (by decide)
  have hstate : (s.chip.wfld R.ENT_STATE 3 2 0).entState = 2 := (s.chip.rfld_wfld_other (by decide) (by decide)).trans hst
  have hother {q : Reg} (hq : q.addr ≠ R.ENT_STATE.addr) : (s.chip.wfld R.ENT_STATE 3 2 0).rd q = s.chip.rd q := Chip.rd_wr_other _ _ _ _ hq
  have hjtag := Chip.settled_jtag (c := s.chip) (d := s.chip.wfld R.ENT_STATE 3 2 0) rfl rfl
  have hhif := Chip.settled_hif (c := s.chip) (d := s.chip.wfld R.ENT_STATE 3 2 0) rfl (hother (by decide))
  have hpeb := Chip.settled_peb (c := s.chip) (d := s.chip.wfld R.ENT_STATE 3 2 0) rfl rfl rfl rfl (hother (by decide)) (hother (by decide)) (hother (by decide))
  have hent : (s.chip.wfld R.ENT_STATE 3 2 0).settle.ent = s.chip.settle.ent := by
    show ({ s.chip.ent with buffer := if (s.chip.wfld R.ENT_STATE 3 2 0).entState = entRUN then s.chip.ent.buffer else [] } : EntSt) =
      { s.chip.ent with buffer := if s.chip.entState = entRUN then s.chip.ent.buffer else [] }
    rw [hstate, hst]
  refine does_of_lift (show exec .entRestartsClear s = execEntRestartsClear s from rfl) (if_pos hst) ⟨hzero, hstate, ?_⟩
  exact hmoved.keeps_of_put (f := fun x => x.putLevels s.chip.settle.jtag s.chip.settle.peb s.chip.settle.hif s.chip.settle.ent)
    (fun x => by rw [hjtag, hhif, hpeb, hent]; rfl) (fun _ => rfl)

/-- The seed of one fallback LFSR (R868). -/
def Chip.lfsrReseedOne (c : Chip) (i : Nat) : Chip :=
  match c.drbgTake 4 with
  | some (b, c) => { c with ent := { c.ent with lfsr := FMap.set 1 c.ent.lfsr i (lfsrSeed (leNat b)) } }
  | none => c

theorem lfsrSeed_ne_zero (x : Nat) : lfsrSeed x ≠ 0 := by
  unfold lfsrSeed
  split <;> omega

/-- In RUN the draw succeeds, and its seed stands in LFSR `i` alone. -/
theorem Chip.lfsrReseedOne_eq {c : Chip} (hst : c.entState = 2) (i : Nat) : ∃ e x, c.lfsrReseedOne i = { c with ent := e } ∧ x ≠ 0 ∧
    e.lfsr = FMap.set 1 c.ent.lfsr i x := by
  unfold Chip.lfsrReseedOne Chip.drbgTake
  rw [if_pos (show c.entState = entRUN from hst)]
  obtain ⟨a, ha, hlfsr⟩ := c.drbgFill_eq 2
  obtain ⟨b, hb, hlfsr'⟩ := Chip.drbgFill_eq { c.drbgFill 2 with ent := { (c.drbgFill 2).ent with buffer := (c.drbgFill 2).ent.buffer.drop 4 } } 2
  simp only [hb]
  rw [ha] at hlfsr' ⊢
  exact ⟨_, _, rfl, lfsrSeed_ne_zero _, by rw [hlfsr', hlfsr]⟩

/-- LFSRs seeded one after the other. -/
theorem Chip.lfsrReseed_fold (l : List Nat) (c : Chip) (hst : c.entState = 2) : ∃ e, l.foldl Chip.lfsrReseedOne c = { c with ent := e } ∧
    ∀ i, (i ∈ l ∨ FMap.get 1 c.ent.lfsr i ≠ 0) → FMap.get 1 e.lfsr i ≠ 0 := by
  induction l generalizing c with
  | nil => exact ⟨c.ent, rfl, fun i hi => hi.resolve_left (by simp)⟩
  | cons j l ih =>
    obtain ⟨a, x, ha, hx, hlfsr⟩ := Chip.lfsrReseedOne_eq hst j
    obtain ⟨e, he, hnz⟩ := ih { c with ent := a } hst
    refine ⟨e, ?_, fun i hi => hnz i ?_⟩
    · rw [List.foldl_cons, ha, he]
    · show i ∈ l ∨ FMap.get 1 a.lfsr i ≠ 0
      rw [hlfsr]
      by_cases hij : i = j
      · right
        rw [hij, FMap.get_set_self]
        exact hx
      · rw [FMap.get_set_other _ _ _ _ _ _ hij]
        rcases hi with h | h
        · exact .inl ((List.mem_cons.1 h).resolve_left hij)
        · exact .inr h

theorem does_lfsrReseed {s : State} (hst : s.chip.entState = 2) :
    Does .lfsrReseed s (fun d => (∀ i < 10, FMap.get 1 d.ent.lfsr i ≠ 0) ∧ s.chip.Keeps d [] Chip.noEnt) := by
  obtain ⟨e, he, hnz⟩ := Chip.lfsrReseed_fold (List.range 10) s.chip hst
  have hmoved : s.chip.Moved { s.chip with ent := e } [] Chip.noEnt := (Chip.Moved.refl _ _ _).put rfl rfl
  exact does_of_lift (show exec .lfsrReseed s = execLfsrReseed s from rfl) ((if_pos hst).trans he)
    ⟨fun i hi => hnz i (.inl (List.mem_range.2 hi)), hmoved.keeps_ent (by simp) entBlank_noEnt⟩

theorem entropy : Parts.Entropy := fun _ k e n =>
  ⟨does_healthFailure k, does_holdoffEnd, does_startupPass e n, does_drbgReseed e, does_restartsClear, does_lfsrReseed⟩

/-! ### Pebble (R872 to R880) -/

def Chip.noPebLed (d : Chip) : Chip := { d with peb := {}, led := {} }

def Chip.noPebTln (d : Chip) : Chip := { d with peb := {}, tln := {} }

theorem pebBlank_noPebLed : PebBlank Chip.noPebLed := ⟨fun _ _ _ _ _ => rfl, fun _ => rfl, fun _ => rfl, fun _ => rfl, fun _ => rfl⟩

theorem pebBlank_noPebTln : PebBlank Chip.noPebTln := ⟨fun _ _ _ _ _ => rfl, fun _ => rfl, fun _ => rfl, fun _ => rfl, fun _ => rfl⟩

/-- The host's unlock is accepted (R872, R873). -/
theorem does_pebUnlock {s : State} (v : BitVec 96) (hwrd : s.chip.wrdOn = true) (hjudge : s.chip.pebJudge v.toNat = 1) (hdead : s.chip.exhausted = false)
    (hfree : s.chip.entry 0 = none) : Does (.pebUnlockWrite .spi v) s (fun d => d.peb.unlocked = true ∧ d.rd R.PEB_UNLEXP = v.toNat % 2 ^ 32 ∧
      d.pebUnlocked = true ∧ (∃ e, d.entry 0 = some e ∧ e.origin = 3 ∧ e.outcome = 0 ∧ e.cause = cause 0x58 1) ∧
      s.chip.Keeps d [R.PEB_UNLEXP, R.LED_NEXTSEQ] Chip.noPebLed) := by
  let e : LedEntry := { origin := wOrigin .spi, object := regObject R.PEB_UNLOCK.addr, new := fld v.toNat 0 32, outcome := 0, cause := cause 0x58 1 }
  have hdo : s.chip.pebUnlock .spi v.toNat = { (s.chip.putEntry 0 e).wr R.PEB_UNLEXP (fld v.toNat 0 32) with
      peb := { (s.chip.putEntry 0 e).peb with unlocked := true } } := by
    unfold Chip.pebUnlock
    rw [hwrd, hjudge]
    simp only [Chip.stageWrite_of_free hdead hfree]
    rfl
  obtain ⟨f, hf, -, -, -, hcause, hout, horigin, -⟩ := s.chip.entry_putEntry_self 0 e
  have hmoved : s.chip.Moved (s.chip.putEntry 0 e) [R.PEB_UNLEXP, R.LED_NEXTSEQ] Chip.noPebLed := (Chip.Moved.refl _ _ _).putEntry (by simp) (fun _ _ => rfl) _ _
  generalize s.chip.putEntry 0 e = b at *
  have hmoved' : s.chip.Moved { b.wr R.PEB_UNLEXP (fld v.toNat 0 32) with peb := { b.peb with unlocked := true } } [R.PEB_UNLEXP, R.LED_NEXTSEQ] Chip.noPebLed :=
    (hmoved.wr (r := R.PEB_UNLEXP) (by simp) _).put rfl rfl
  have hexp : (b.wr R.PEB_UNLEXP (fld v.toNat 0 32)).rd R.PEB_UNLEXP = v.toNat % 2 ^ 32 := by
    rw [Chip.rd_wr_self, fld, pow_zero, Nat.div_one]
    exact Nat.mod_eq_of_lt (Nat.mod_lt _ (by decide))
  exact does_of_lift (show exec (.pebUnlockWrite .spi v) s = execPebUnlockWrite .spi v s from rfl) hdo
    ⟨rfl, hexp, Bool.or_true _, ⟨f, hf, horigin, hout, hcause⟩, hmoved'.keeps_peb (by decide) pebBlank_noPebLed⟩

/-- An enable's lifetime ends (R875). -/
theorem does_pebExpire {s : State} (i : Fin 5) (hen : s.chip.rbit R.PEB_EN i = true) (hfree : s.chip.entry 14 = none) :
    Does (.pebbleExpire (some i)) s (fun d => d.rbit R.PEB_EN i = false ∧ d.pebActive i = false ∧ (∀ h ∈ d.peb.held, h.inst ≠ i.val) ∧
      d.Recorded (50 + i) 1 0 (cause 0x5A 0) ∧ s.chip.Keeps d (R.PEB_EN :: ledgerRegs) Chip.noPebLed) := by
  let a := s.chip.wbit R.PEB_EN i.val false
  let b := a.stageHw (50 + i.val) 1 0 (cause 0x5A 0)
  have hdo : s.chip.pebExpire (some i.val) = b.pebSettle := if_pos hen
  have hbit : b.rbit R.PEB_EN i.val = false := by
    rw [Chip.rbit, Chip.rd_stageHw _ _ _ _ _ (by decide) (by decide)]
    exact (s.chip.rbit_wbit (r := R.PEB_EN) i.val false (show i.val < 8 by omega)).trans (if_pos rfl)
  have hmoved : s.chip.Moved b (R.PEB_EN :: ledgerRegs) Chip.noPebLed :=
    ((Chip.Moved.refl s.chip _ _).wbit (r := R.PEB_EN) (by simp) i.val false).stageHw (by decide) (by decide) (fun _ _ => rfl) _ _ _ _
  have hrec : b.Recorded (50 + i.val) 1 0 (cause 0x5A 0) := Chip.recorded_stageHw (c := a) hfree _ _ _ _
  clear_value b
  have hidle : b.pebSettle.pebActive i.val = false := by
    show (b.rbit R.PEB_EN i.val && _ && _ && _) = false
    rw [hbit]
    rfl
  have hmoved' : s.chip.Moved b.pebSettle (R.PEB_EN :: ledgerRegs) Chip.noPebLed := hmoved.put rfl rfl
  have hbit' : b.pebSettle.rbit R.PEB_EN i.val = false := hbit
  have hrec' : b.pebSettle.Recorded (50 + i.val) 1 0 (cause 0x5A 0) := hrec
  generalize b.pebSettle = d at *
  refine does_of_lift (show exec (.pebbleExpire (some i)) s = execPebbleExpire (some i) s from rfl) hdo
    ⟨hbit', hidle, fun h hh heq => ?_, hrec', hmoved'.keeps_peb (by decide) pebBlank_noPebLed⟩
  have hactive : d.pebActive h.inst = true := (List.mem_filter.1 (show h ∈ d.peb.held.filter (fun h => d.pebActive h.inst) from hh)).2
  rw [heq, hidle] at hactive
  cases hactive

/-- A held reply of a link port passes (R880). -/
theorem does_heldRelease {s : State} (p : Fin 3) (f : Frame) (hheld : s.chip.peb.held = [⟨p, false, .link f false, 0⟩]) :
    Does (.pebbleHeldRelease ⟨p.val, by omega⟩ 0) s (fun d => d.peb.held = [] ∧ (d.port p).sent = (f, false) :: (s.chip.port p).sent ∧
      (∀ q, q ≠ p.val → d.port q = s.chip.port q) ∧ s.chip.Keeps d [] Chip.noPebTln) := by
  let a : Chip := { s.chip with peb := { s.chip.peb with held := [] } }
  have hdo : s.chip.pebReleaseAt p.val 0 = a.setPort p.val { a.port p.val with sent := (f, false) :: (a.port p.val).sent } := by
    unfold Chip.pebReleaseAt
    rw [hheld]
    simp [Chip.pebPassed, Chip.pebOut, a]
  have hmoved : s.chip.Moved (a.setPort p.val { a.port p.val with sent := (f, false) :: (a.port p.val).sent }) [] Chip.noPebTln := (Chip.Moved.refl _ _ _).put rfl rfl
  refine does_of_lift (show exec (.pebbleHeldRelease ⟨p.val, by omega⟩ 0) s = execPebbleHeldRelease ⟨p.val, by omega⟩ 0 s from rfl) hdo
    ⟨rfl, ?_, fun q hq => FMap.get_set_other _ _ _ _ _ _ hq, hmoved.keeps_peb (by simp) pebBlank_noPebTln⟩
  exact congrArg PortSt.sent (FMap.get_set_self _ _ _ _)

/-- Settles O52. -/
theorem entropyAndPebble : Obligations.EntropyAndPebble :=
  ⟨entropy, fun _ v i p f => ⟨does_pebUnlock v, does_pebExpire i, fun _ => does_heldRelease p f⟩⟩

end Sys2Proof.Machine
end

section
/-!
PROOFS. The host's transactions and JTAG (19 R888 to R905, R925 to R927).
-/
namespace Sys2Proof.Machine

/-! ### The level rules behind a blank of the host's or of JTAG's state -/

/-- Blanks the host target. -/
def Chip.noHif (d : Chip) : Chip := { d with hif := {} }

/-- Blanks JTAG. -/
def Chip.noJtag (d : Chip) : Chip := { d with jtag := {} }

section
variable {c d : Chip} {rs : List Reg}

theorem Chip.Moved.settledPeb_of_fields {blank : Chip → Chip} (h : c.Moved d rs blank) (hrs : ∀ r ∈ levelRegs, ∀ x ∈ rs, r.addr ≠ x.addr) (hpeb : d.peb = c.peb)
    (hseq : d.seq = c.seq) (hnvm : d.nvm = c.nvm) (hmode : d.mode = c.mode) : d.settle.peb = c.settle.peb :=
  Chip.settled_peb hpeb (by rw [hseq]) (by rw [hnvm]) (by rw [hmode]) (h.1 _ (hrs _ (by simp [levelRegs]))) (h.1 _ (hrs _ (by simp [levelRegs])))
    (h.1 _ (hrs _ (by simp [levelRegs])))

theorem Chip.Moved.keeps_hif (h : c.Moved d rs Chip.noHif) (hrs : ∀ r ∈ levelRegs, ∀ x ∈ rs, r.addr ≠ x.addr) : c.Keeps d.settle rs Chip.noHif := by
  have hseq : d.seq = c.seq := h.field (f := Chip.seq) (fun _ => rfl)
  have hjtag := Chip.settled_jtag (h.field (f := Chip.jtag) (fun _ => rfl)) (congrArg SeqSt.doms hseq)
  have hpeb := h.settledPeb_of_fields hrs (h.field (f := Chip.peb) (fun _ => rfl)) hseq (h.field (f := Chip.nvm) (fun _ => rfl)) (h.field (f := Chip.mode) (fun _ => rfl))
  have hent := Chip.settled_ent (h.field (f := Chip.ent) (fun _ => rfl)) (h.1 _ (hrs _ (by simp [levelRegs])))
  exact h.keeps_of_put (f := fun x => x.putLevels c.settle.jtag c.settle.peb {} c.settle.ent) (fun x => by rw [hjtag, hpeb, hent]; rfl) (fun _ => rfl)

theorem Chip.Moved.keeps_jtag (h : c.Moved d rs Chip.noJtag) (hrs : ∀ r ∈ levelRegs, ∀ x ∈ rs, r.addr ≠ x.addr) : c.Keeps d.settle rs Chip.noJtag := by
  have hseq : d.seq = c.seq := h.field (f := Chip.seq) (fun _ => rfl)
  have hhif := Chip.settled_hif (h.field (f := Chip.hif) (fun _ => rfl)) (h.1 _ (hrs _ (by simp [levelRegs])))
  have hpeb := h.settledPeb_of_fields hrs (h.field (f := Chip.peb) (fun _ => rfl)) hseq (h.field (f := Chip.nvm) (fun _ => rfl)) (h.field (f := Chip.mode) (fun _ => rfl))
  have hent := Chip.settled_ent (h.field (f := Chip.ent) (fun _ => rfl)) (h.1 _ (hrs _ (by simp [levelRegs])))
  exact h.keeps_of_put (f := fun x => x.putLevels {} c.settle.peb c.settle.hif c.settle.ent) (fun x => by rw [hhif, hpeb, hent]; rfl) (fun _ => rfl)

end

/-! ### A transaction that takes its turn at once -/

/-- On a good bank A with no read waiting a transaction begins. -/
theorem Chip.hostDo_of_idle {c : Chip} (hbank : c.bankGood 0 = true) (hidle : c.hif.pendingRead = none) (h : HostPort) (cmd : Byte) (f : Chip → Chip) :
    c.hostDo h cmd .ok f = f (c.hostBegin h) ∧ c.hostDo h cmd .badLength f = (c.hostBegin h).hostEnd cmd 8 := by
  have hturn : c.hostTurn h = c := by rw [Chip.hostTurn, hidle]
  unfold Chip.hostDo
  rw [hbank, hturn]
  exact ⟨rfl, rfl⟩

theorem Chip.moved_hostBegin (c : Chip) (h : HostPort) (rs : List Reg) : c.Moved (c.hostBegin h) rs Chip.noHif := (Chip.Moved.refl c _ _).put rfl rfl

theorem Chip.Moved.hostEnd {c d : Chip} (h : c.Moved d [R.HIF_LAST] Chip.noHif) (cmd : Byte) (st : Nat) : c.Moved (d.hostEnd cmd st) [R.HIF_LAST] Chip.noHif :=
  (h.wr (r := R.HIF_LAST) (by simp) st).put rfl rfl

theorem Chip.last_hostEnd (c : Chip) (cmd : Byte) {st : Nat} (hst : st < 256) : (c.hostEnd cmd st).rd R.HIF_LAST = st :=
  (Chip.rd_wr_self c R.HIF_LAST st).trans (Nat.mod_eq_of_lt hst)

theorem hifLast_not_level : ∀ r ∈ levelRegs, ∀ x ∈ [R.HIF_LAST], r.addr ≠ x.addr := by decide

/-- A response without a check byte. -/
theorem Chip.respond_of_unchecked {c : Chip} {h : HostPort} (hcheck : c.hostCheck h = false) (asked body : List Byte) :
    c.respond h asked body = { c with hif := { c.hif with response := body } } := by
  unfold Chip.respond
  rw [hcheck]
  simp only [Bool.false_eq_true, if_false, List.append_nil]

theorem Chip.hostCheck_congr {c d : Chip} (h : d.rd R.HIF_CTRL = c.rd R.HIF_CTRL) (p : HostPort) : d.hostCheck p = c.hostCheck p := by
  cases p <;> simp only [Chip.hostCheck, Chip.rbit, h]

/-- A transaction that ends in a status. -/
theorem does_hostEnd {s : State} {i : Instr} {f : Chip → Chip} {b : Chip} {cmd : Byte} {st : Nat} (he : exec i s = s.lift f)
    (hd : f s.chip = b.hostEnd cmd st) (hb : s.chip.Moved b [R.HIF_LAST] Chip.noHif) (hst : st < 256) :
    Does i s (fun d => (d.rd R.HIF_LAST = st ∧ d.hif.lastCmd = cmd) ∧ d.hif.response = b.hif.response ∧ s.chip.Keeps d [R.HIF_LAST] Chip.noHif) :=
  does_of_lift he hd ⟨⟨b.last_hostEnd cmd hst, rfl⟩, rfl, (hb.hostEnd cmd st).keeps_hif hifLast_not_level⟩

/-- An abort (02 R86, R88). -/
theorem does_hostAbort {s : State} {i : Instr} {f : Chip → Chip} (h : HostPort) (he : exec i s = s.lift f) (hd : f s.chip = s.chip.hostAbort h) :
    Does i s (fun d => d.rd R.HIF_LAST = 9 ∧ d.hif.aborts = s.chip.hif.aborts + 1 ∧ s.chip.Keeps d [R.HIF_LAST] Chip.noHif) := by
  obtain ⟨x, hx, habort⟩ : ∃ x : HifSt, x.aborts = s.chip.hif.aborts + 1 ∧ s.chip.hostAbort h = { s.chip.wr R.HIF_LAST 9 with hif := x } := by
    unfold Chip.hostAbort
    split
    · split <;> exact ⟨_, rfl, rfl⟩
    · exact ⟨_, rfl, rfl⟩
  have hmoved : s.chip.Moved { s.chip.wr R.HIF_LAST 9 with hif := x } [R.HIF_LAST] Chip.noHif := ((Chip.Moved.refl _ _ _).wr (r := R.HIF_LAST) (by simp) 9).put rfl rfl
  exact does_of_lift he (hd.trans habort) ⟨Chip.rd_wr_self s.chip R.HIF_LAST 9, hx, hmoved.keeps_hif hifLast_not_level⟩

/-! ### Writes and orders past Pebble -/

theorem Chip.pebActive_hostBegin (c : Chip) (h : HostPort) (i : Nat) : (c.hostBegin h).pebActive i = c.pebActive i := rfl

/-- Pebble passes a transaction where it is inactive. -/
theorem Chip.hostPass_of_idle {c : Chip} {h : HostPort} (hidle : c.pebActive (hostPebble h) = false) (bs : List Byte) : c.hostPass h bs = c.hostApply h bs := by
  unfold Chip.hostPass Chip.pebble
  rw [hidle]
  rfl

/-! ### Numbers sent most significant byte first -/

theorem beNat_beBytes (n v : Nat) : beNat (beBytes n v) = v % 256 ^ n := by
  induction n generalizing v with
  | zero => simp [beBytes, leBytes, beNat, Nat.mod_one]
  | succ n ih =>
    have hsplit : beBytes (n + 1) v = beBytes n (v / 256) ++ [BitVec.ofNat 8 v] := by simp [beBytes, leBytes]
    have happ : ∀ l b, beNat (l ++ [b]) = 256 * beNat l + b.toNat := by simp [beNat]
    have hmod : v % 256 ^ (n + 1) = v % 256 + 256 * (v / 256 % 256 ^ n) := by rw [pow_succ, Nat.mul_comm, Nat.mod_mul]
    rw [hsplit, happ, ih, hmod, BitVec.toNat_ofNat]
    omega

/-- A number of at most `n` bytes is that of its `n` bytes. -/
theorem beNat_beBytes_of_lt {n v : Nat} (hv : v < 256 ^ n) : beNat (beBytes n v) = v := (beNat_beBytes n v).trans (Nat.mod_eq_of_lt hv)

theorem beNat_singleton (b : Byte) : beNat [b] = b.toNat := by simp [beNat]

theorem beBytes_length (n v : Nat) : (beBytes n v).length = n := by rw [beBytes, List.length_reverse, leBytes_length]

/-! ### Writes and orders past Pebble, taken apart again -/

theorem Chip.hostApply_write (c : Chip) (h : HostPort) (a : BitVec 24) (b : Byte) :
    c.hostApply h (writeFrame a.toNat [b]) =
      { c.registerWrite (hostWriter h) a.toNat [b] with hif := { (c.registerWrite (hostWriter h) a.toNat [b]).hif with lastCmd := 2 } } := by
  have haddr : beNat (beBytes 3 a.toNat) = a.toNat := beNat_beBytes_of_lt a.isLt
  have hlist : ∃ x y z, beBytes 3 a.toNat = [x, y, z] := ⟨_, _, _, rfl⟩
  obtain ⟨x, y, z, hxyz⟩ := hlist
  rw [hxyz] at haddr
  have hframe : writeFrame a.toNat [b] = [2, x, y, z, 1, b] := by rw [writeFrame, hxyz]; rfl
  have happly : c.hostApply h [2, x, y, z, 1, b] =
      { c.registerWrite (hostWriter h) (beNat [x, y, z]) [b] with hif := { (c.registerWrite (hostWriter h) (beNat [x, y, z]) [b]).hif with lastCmd := 2 } } := rfl
  rw [hframe, happly, haddr]

/-- The host's order as the authority unit records it (R889). -/
def hostOrderRec (h : HostPort) (o : HostOrder) : OrderRec :=
  { origin := hostOrigin h, seq := o.seq.toNat, ap := o.ap.toNat, value := o.value.toNat, options := o.options.toNat,
    reply := .hostFifo (BitVec.ofNat 8 (hostOrigin h)) }

theorem hostApply_order (c : Chip) (h : HostPort) (o : HostOrder) :
    c.hostApply h (orderFrame o) =
      (c.submit (hostOrderRec h o) o.epoch.toNat o.issue.toNat).hostEnd 0x40 0 := by
  have hseq : beNat (beBytes 2 o.seq.toNat) = o.seq.toNat := beNat_beBytes_of_lt o.seq.isLt
  have hissue : beNat (beBytes 4 o.issue.toNat) = o.issue.toNat := beNat_beBytes_of_lt o.issue.isLt
  have hvalue : beNat (beBytes 2 o.value.toNat) = o.value.toNat := beNat_beBytes_of_lt o.value.isLt
  obtain ⟨s1, s2, hs⟩ : ∃ x y, beBytes 2 o.seq.toNat = [x, y] := ⟨_, _, rfl⟩
  obtain ⟨i1, i2, i3, i4, hi⟩ : ∃ x y z w, beBytes 4 o.issue.toNat = [x, y, z, w] := ⟨_, _, _, _, rfl⟩
  obtain ⟨v1, v2, hv⟩ : ∃ x y, beBytes 2 o.value.toNat = [x, y] := ⟨_, _, rfl⟩
  have hframe : orderFrame o = [0x40, s1, s2, o.epoch, i1, i2, i3, i4, o.ap, v1, v2, o.options] := by rw [orderFrame, hs, hi, hv]; rfl
  have happly : c.hostApply h [0x40, s1, s2, o.epoch, i1, i2, i3, i4, o.ap, v1, v2, o.options] =
      (c.submit { origin := hostOrigin h, seq := beNat [s1, s2], ap := beNat [o.ap], value := beNat [v1, v2], options := beNat [o.options],
                  reply := .hostFifo (BitVec.ofNat 8 (hostOrigin h)) } (beNat [o.epoch]) (beNat [i1, i2, i3, i4])).hostEnd 0x40 0 := rfl
  rw [hframe, happly, ← hs, ← hi, ← hv, hseq, hissue, hvalue]
  simp only [beNat_singleton, hostOrderRec]

/-! ### The transactions -/

/-- A read whose data have gone out: on SPI the token and the data, on I²C the status 0 and the data. -/
def readDone (c : Chip) (h : HostPort) (a len : Nat) : Chip :=
  { c.wr R.HIF_LAST 0 with
      hif := { c.hif with lastCmd := 3, pendingRead := none, response := (if h = .spi then 0xA5 else 0) :: c.bytesAt (hostReader h) a len } }

section
variable {s : State} {h : HostPort}

theorem does_hostRead (a : BitVec 24) (n : BitVec 8) (hbank : s.chip.bankGood 0 = true) (hidle : s.chip.hif.pendingRead = none) :
    Does (.hostRead h a n .ok) s (fun d => d.hif.pendingRead = some (h, a.toNat, if n.toNat = 0 then 256 else n.toNat) ∧ s.chip.Keeps d [] Chip.noHif) := by
  have hlen : hostLen n.toNat = if n.toNat = 0 then 256 else n.toNat := by rw [hostLen, Nat.mod_eq_of_lt n.isLt]
  have hread : s.chip.hostRead h a.toNat n.toNat .ok =
      { s.chip.hostBegin h with hif := { (s.chip.hostBegin h).hif with pendingRead := some (h, a.toNat, hostLen n.toNat) } } := by
    unfold Chip.hostRead
    rw [(Chip.hostDo_of_idle hbank hidle h 3 _).1]
    rfl
  have hmoved := (s.chip.moved_hostBegin h []).put (e := { s.chip.hostBegin h with hif := { (s.chip.hostBegin h).hif with pendingRead := some (h, a.toNat, hostLen n.toNat) } }) rfl rfl
  refine does_of_lift (show exec (.hostRead h a n .ok) s = execHostRead h a n .ok s from rfl) hread ⟨?_, hmoved.keeps_hif (by simp)⟩
  rw [← hlen]
  exact if_pos hbank

theorem does_hostStatus (hbank : s.chip.bankGood 0 = true) (hcheck : s.chip.hostCheck h = false) (hidle : s.chip.hif.pendingRead = none) :
    Does (.hostStatus h .ok) s (fun d => (d.rd R.HIF_LAST = 0 ∧ d.hif.lastCmd = 0x0B) ∧ d.hif.response = (s.chip.hostBegin h).statusBytes ∧
      s.chip.Keeps d [R.HIF_LAST] Chip.noHif) := by
  have hrespond := Chip.respond_of_unchecked (h := h) (c := s.chip.hostBegin h) ((Chip.hostCheck_congr rfl h).trans hcheck) [] (s.chip.hostBegin h).statusBytes
  refine does_hostEnd (show exec (.hostStatus h .ok) s = execHostStatus h .ok s from rfl)
    (((Chip.hostDo_of_idle hbank hidle h 0x0B _).1).trans (congrArg (fun x => Chip.hostEnd x 0x0B 0) hrespond))
    ((s.chip.moved_hostBegin h _).put rfl rfl) (by decide)

theorem does_hostBadCommand {cmd : BitVec 8} (hbank : s.chip.bankGood 0 = true) (hidle : s.chip.hif.pendingRead = none)
    (hwrite : cmd ≠ 2) (hread : cmd ≠ 3) (hstatus : cmd ≠ 0x0B) (horder : cmd ≠ 0x40) :
    Does (.hostBadCommand h cmd) s (fun d => (d.rd R.HIF_LAST = 7 ∧ d.hif.lastCmd = cmd) ∧ s.chip.Keeps d [R.HIF_LAST] Chip.noHif) := by
  have hother : ¬ (cmd = 2 ∨ cmd = 3 ∨ cmd = 0x0B ∨ cmd = 0x40) := fun hc => hc.elim hwrite (fun hc => hc.elim hread (fun hc => hc.elim hstatus horder))
  obtain ⟨d, hd, hpend, hend, -, hkeeps⟩ := does_hostEnd (show exec (.hostBadCommand h cmd) s = execHostBadCommand h cmd s from rfl)
    ((if_neg hother).trans (Chip.hostDo_of_idle hbank hidle h cmd _).1) (s.chip.moved_hostBegin h _) (by decide)
  exact ⟨d, hd, hpend, hend, hkeeps⟩

/-- A frame of a wrong length ends its transaction with status 8 (R894). -/
theorem does_badLength {i : Instr} {cmd : Byte} {f : Chip → Chip} (hbank : s.chip.bankGood 0 = true) (hidle : s.chip.hif.pendingRead = none)
    (he : exec i s = s.lift (fun c => c.hostDo h cmd .badLength f)) : Does i s (fun d => d.rd R.HIF_LAST = 8 ∧ s.chip.Keeps d [R.HIF_LAST] Chip.noHif) := by
  obtain ⟨d, hd, hpend, ⟨hlast, -⟩, -, hkeeps⟩ := does_hostEnd he (Chip.hostDo_of_idle hbank hidle h cmd f).2 (s.chip.moved_hostBegin h _) (by decide)
  exact ⟨d, hd, hpend, hlast, hkeeps⟩

theorem does_hostWrite (a : BitVec 24) (b : Byte) (hbank : s.chip.bankGood 0 = true) (hidle : s.chip.hif.pendingRead = none)
    (hpeb : s.chip.pebActive (hostPebble h) = false) :
    let w := (s.chip.hostBegin h).registerWrite (hostWriter h) a.toNat [b]
    Does (.hostWrite h a [b] .ok) s (fun d => d.hif.lastCmd = 2 ∧ d.rd R.HIF_LAST = w.rd R.HIF_LAST ∧ d.mem = w.mem) := by
  intro w
  have hone : ¬ ([b].length = 0 ∨ 256 < [b].length) := by simp
  have hpass := ((Chip.hostPass_of_idle (c := s.chip.hostBegin h) hpeb (writeFrame a.toNat [b]))).trans (Chip.hostApply_write _ h a b)
  have hdo := ((Chip.hostDo_of_idle hbank hidle h 2 (fun c =>
    if [b].length = 0 ∨ 256 < [b].length then c.hostEnd 2 8 else c.hostPass h (writeFrame a.toNat [b]))).1).trans ((if_neg hone).trans hpass)
  exact does_of_lift (show exec (.hostWrite h a [b] .ok) s = execHostWrite h a [b] .ok s from rfl) hdo ⟨rfl, rfl, rfl⟩

theorem does_hostSequencedOrder (o : HostOrder) (hbank : s.chip.bankGood 0 = true) (hidle : s.chip.hif.pendingRead = none)
    (hpeb : s.chip.pebActive (hostPebble h) = false) :
    Does (.hostSequencedOrder h o .ok) s (fun d => (d.rd R.HIF_LAST = 0 ∧ d.hif.lastCmd = 0x40) ∧
      d.aut = ((s.chip.hostBegin h).submit (hostOrderRec h o) o.epoch.toNat o.issue.toNat).aut) := by
  have hpass := (Chip.hostPass_of_idle (h := h) (c := s.chip.hostBegin h) hpeb (orderFrame o)).trans (hostApply_order _ h o)
  have hdo := ((Chip.hostDo_of_idle hbank hidle h 0x40 (fun c => c.hostPass h (orderFrame o))).1).trans hpass
  refine does_of_lift (show exec (.hostSequencedOrder h o .ok) s = execHostSequencedOrder h o .ok s from rfl) hdo ⟨⟨?_, rfl⟩, rfl⟩
  exact Chip.last_hostEnd _ 0x40 (st := 0) (by decide)

theorem does_hostReadDataReady {a len : Nat} (hcheck : s.chip.hostCheck h = false) (hpend : s.chip.hif.pendingRead = some (h, a, len))
    (hgood : s.chip.readStatus (hostReader h) a len = 0) (heff : s.chip.readEffects 2 a len = s.chip) :
    Does (.hostReadDataReady h) s (fun d => (d.rd R.HIF_LAST = 0 ∧ d.hif.lastCmd = 3) ∧ d.hif.pendingRead = none ∧
      d.hif.response = (if h = .spi then 0xA5 else 0) :: s.chip.bytesAt (hostReader h) a len ∧ s.chip.Keeps d [R.HIF_LAST] Chip.noHif) := by
  have hkind : s.chip.readEffects (readerKind (hostReader h)) a len = s.chip := by cases h <;> exact heff
  have hdo : s.chip.hostReadDo = readDone s.chip h a len := by
    have hcheck' : Chip.hostCheck { s.chip.hostEnd 3 0 with hif := { (s.chip.hostEnd 3 0).hif with pendingRead := none } } h = false :=
      (Chip.hostCheck_congr (Chip.rd_wr_other s.chip R.HIF_LAST R.HIF_CTRL 0 (by decide)) h).trans hcheck
    unfold Chip.hostReadDo
    rw [hpend]
    dsimp only
    rw [hkind, hgood, Chip.respond_of_unchecked hcheck']
    cases h <;> rfl
  have hmoved : s.chip.Moved (readDone s.chip h a len) [R.HIF_LAST] Chip.noHif := ((Chip.Moved.refl _ _ _).wr (r := R.HIF_LAST) (by simp) 0).put rfl rfl
  refine does_of_lift (show exec (.hostReadDataReady h) s = execHostReadDataReady h s from rfl) (d := readDone s.chip h a len) ?_
    ⟨⟨Chip.rd_wr_self s.chip R.HIF_LAST 0, rfl⟩, ite_self _, rfl, hmoved.keeps_hif hifLast_not_level⟩
  rw [hpend]
  exact (if_pos rfl).trans hdo

end

theorem hostTransactions : Parts.HostTransactions := by
  intro s h a n cmd o b c ended len begun hbank hcheck
  refine ⟨fun hidle => ⟨does_hostRead a n hbank hidle, does_hostStatus hbank hcheck hidle, does_hostBadCommand hbank hidle, ?_, fun hpeb =>
      ⟨does_hostWrite a b hbank hidle hpeb, does_hostSequencedOrder o hbank hidle hpeb⟩⟩,
    does_hostReadDataReady hcheck, does_hostAbort .spi rfl (if_pos hbank), fun hsmb => does_hostAbort .i2c rfl (if_pos ?_)⟩
  · intro k hk
    rcases List.mem_pair.mp hk with rfl | rfl
    · exact does_badLength hbank hidle (show exec (.hostWrite h a [b] .badLength) s = execHostWrite h a [b] .badLength s from rfl)
    · exact does_badLength hbank hidle (show exec (.hostSequencedOrder h o .badLength) s = execHostSequencedOrder h o .badLength s from rfl)
  · exact (Bool.and_eq_true _ _).mpr ⟨hbank, hsmb⟩

/-! ### JTAG -/

/-- An instruction of JTAG while it listens: the pins are driven only while every channel domain is OFF. -/
theorem does_jtagDo {s : State} {i : Instr} {g : Chip → JtagSt → JtagSt} (hunlocked : s.chip.jtagLocked = false) (hbank : s.chip.bankGood 2 = true)
    (he : exec i s = s.lift (fun c => c.jtagDo (g c))) {j : JtagSt} (hj : g s.chip s.chip.jtag = j) (hpins : s.chip.channelsOff = false → j.driven = none) :
    Does i s (fun d => d.jtag = j ∧ s.chip.Keeps d [] Chip.noJtag) := by
  have hon : s.chip.jtagOn = true := by rw [Chip.jtagOn, hunlocked, hbank]; rfl
  have hmoved : s.chip.Moved { s.chip with jtag := j } [] Chip.noJtag := (Chip.Moved.refl _ _ _).put rfl rfl
  have hdriven : (if s.chip.channelsOff = true then j.driven else none) = j.driven := by
    by_cases hoff : s.chip.channelsOff = true
    · exact if_pos hoff
    · exact (if_neg hoff).trans (hpins (Bool.eq_false_of_not_eq_true hoff)).symm
  refine does_of_lift he ((if_pos hon).trans (congrArg (fun x => { s.chip with jtag := x }) hj)) ⟨?_, hmoved.keeps_jtag (by simp)⟩
  exact congrArg (fun x => { j with driven := x }) hdriven

theorem jtag : Parts.Jtag := by
  intro s b p q hunlocked hbank c only
  refine ⟨does_jtagDo hunlocked hbank (show exec (.jtagBypass b) s = execJtagBypass b s from rfl) rfl (fun _ => rfl),
    does_jtagDo hunlocked hbank (show exec .jtagIdcode s = execJtagIdcode s from rfl) rfl (fun _ => rfl),
    does_jtagDo hunlocked hbank (show exec (.jtagSamplePreload p q) s = execJtagSamplePreload p q s from rfl) rfl (fun _ => rfl), fun hoff => ?_, fun hon => ?_⟩
  · exact does_jtagDo hunlocked hbank (show exec (.jtagExtest p q) s = execJtagExtest p q s from rfl) (if_pos hoff) (fun hon => absurd (hon.symm.trans hoff) (by decide))
  · exact does_jtagDo hunlocked hbank (show exec (.jtagExtest p q) s = execJtagExtest p q s from rfl) (if_neg (by rw [hon]; decide)) (fun _ => rfl)

/-- Settles O53: each transaction begins on an idle port and ends in its status; what JTAG drives the level rule keeps exactly while the channels are off. -/
theorem hostPorts : Obligations.HostPorts := ⟨hostTransactions, jtag⟩

end Sys2Proof.Machine
end

section
/-!
PROOFS. Weir's descriptors, groups, resynchronisation and rejoining (14 R656 to R661, R673 to R679, R687).
-/
namespace Sys2Proof.Machine

/-! ### The state of queues, changed one part at a time -/

/-- Blanks Weir; blanks Weir and the threads. -/
def Chip.noWeir (d : Chip) : Chip := { d with weir := {} }
def Chip.noWeirThreads (d : Chip) : Chip := { d with weir := {}, threads := [] }

theorem levelBlank_noWeir : LevelBlank Chip.noWeir :=
  ⟨fun _ _ _ _ _ => rfl, fun _ => rfl, fun _ => rfl, fun _ => rfl, fun _ => rfl, fun _ => rfl, fun _ => rfl, fun _ => rfl⟩

theorem levelBlank_noWeirThreads : LevelBlank Chip.noWeirThreads :=
  ⟨fun _ _ _ _ _ => rfl, fun _ => rfl, fun _ => rfl, fun _ => rfl, fun _ => rfl, fun _ => rfl, fun _ => rfl, fun _ => rfl⟩

/-- The level rules read no queue's descriptor. -/
theorem levelRegs_ne_desc (q : Nat) : ∀ r ∈ levelRegs, r.addr ≠ (R.WEI_DESC q).addr := by
  have hbelow : ∀ r ∈ levelRegs, r.addr < 0x840000 := by decide
  intro r hr h
  have := hbelow r hr
  rw [h] at this
  simp [R.WEI_DESC] at this

theorem desc_not_level (q : Nat) : ∀ r ∈ levelRegs, ∀ x ∈ [R.WEI_DESC q], r.addr ≠ x.addr := by
  intro r hr x hx
  rw [List.mem_singleton.mp hx]
  exact levelRegs_ne_desc q r hr

/-- A register below the descriptors. -/
theorem ne_desc {r : Reg} (q : Nat) (h : r.addr < 0x840000) : r.addr ≠ (R.WEI_DESC q).addr := by
  simp only [R.WEI_DESC]
  omega

theorem rd_setQrec (c : Chip) (q : Nat) (x : QRec) (r : Reg) : (c.setQrec q x).rd r = c.rd r := rfl

theorem qrec_setQrec_self (c : Chip) (q : Nat) (x : QRec) : (c.setQrec q x).qrec q = x := FMap.get_set_self _ _ _ _

theorem qrec_setQrec_other (c : Chip) {q p : Nat} (x : QRec) (h : p ≠ q) : (c.setQrec q x).qrec p = c.qrec p := FMap.get_set_other _ _ _ _ _ _ h

theorem grec_setGrec_self (c : Chip) (g : Nat) (x : GroupRec) : (c.setGrec g x).grec g = x := FMap.get_set_self _ _ _ _

theorem grec_setGrec_other (c : Chip) {g k : Nat} (x : GroupRec) (h : k ≠ g) : (c.setGrec g x).grec k = c.grec k := FMap.get_set_other _ _ _ _ _ _ h

/-- The entries of a queue replaced: Weir's entries and the queue's descriptor change. -/
theorem setEntries_eq (c : Chip) (q : Nat) (l : List WeirEntry) :
    ∃ v, c.setEntries q l = Chip.wr { c with weir := { c.weir with entries := FMap.set [] c.weir.entries q l } } (R.WEI_DESC q) v := ⟨_, rfl⟩

theorem wr_put_weir (c : Chip) (w m : WeirSt) (r : Reg) (v : Nat) : { Chip.wr { c with weir := w } r v with weir := m } = Chip.wr { c with weir := m } r v := rfl

theorem wr_setQrec_put (c : Chip) (w m : WeirSt) (r : Reg) (v q : Nat) (x : QRec) :
    { (Chip.wr { c with weir := w } r v).setQrec q x with weir := m } = Chip.wr { c with weir := m } r v := rfl

theorem qrec_wr (c : Chip) (r : Reg) (v k : Nat) : (c.wr r v).qrec k = c.qrec k := rfl

theorem qrec_congr {c d : Chip} (h : d.weir.qrec = c.weir.qrec) (k : Nat) : d.qrec k = c.qrec k := by rw [Chip.qrec, h, Chip.qrec]

theorem entries_congr {c d : Chip} (h : d.weir.entries = c.weir.entries) (k : Nat) : d.entries k = c.entries k := by rw [Chip.entries, h, Chip.entries]

theorem qrec_setEntries (c : Chip) (q : Nat) (l : List WeirEntry) (k : Nat) : (c.setEntries q l).qrec k = c.qrec k := by
  obtain ⟨v, hv⟩ := setEntries_eq c q l
  rw [hv]
  rfl

theorem entries_setQrec (c : Chip) (q : Nat) (x : QRec) (k : Nat) : (c.setQrec q x).entries k = c.entries k := rfl

/-- No other queue has changed. -/
def Chip.OtherQueues (c d : Chip) (q : Nat) : Prop := ∀ k, k ≠ q → d.entries k = c.entries k ∧ d.qrec k = c.qrec k

section
variable {c d e : Chip} {q : Nat} {rs : List Reg} {blank : Chip → Chip}

theorem Chip.OtherQueues.refl (c : Chip) (q : Nat) : c.OtherQueues c q := fun _ _ => ⟨rfl, rfl⟩

theorem Chip.OtherQueues.setEntries (h : c.OtherQueues d q) (l : List WeirEntry) : c.OtherQueues (d.setEntries q l) q := fun k hk =>
  ⟨(Chip.entries_setEntries_other d q k l hk).trans (h k hk).1, (qrec_setEntries d q l k).trans (h k hk).2⟩

theorem Chip.OtherQueues.setQrec (h : c.OtherQueues d q) (x : QRec) : c.OtherQueues (d.setQrec q x) q := fun k hk =>
  ⟨(h k hk).1, (qrec_setQrec_other d x hk).trans (h k hk).2⟩

/-- A change of neither the entries nor the records. -/
theorem Chip.OtherQueues.put (h : c.OtherQueues d q) (hentries : e.weir.entries = d.weir.entries) (hrecs : e.weir.qrec = d.weir.qrec) : c.OtherQueues e q := fun k hk =>
  ⟨(entries_congr hentries k).trans (h k hk).1, (qrec_congr hrecs k).trans (h k hk).2⟩

/-- A change of Weir's own state. -/
theorem Chip.Moved.putWeir (h : c.Moved d rs blank) (hb : ∀ (x : Chip) w, blank { x with weir := w } = blank x) (w : WeirSt) :
    c.Moved { d with weir := w } rs blank := h.put rfl (hb { d with regs := [] } w)

theorem Chip.Moved.setEntries (h : c.Moved d rs blank) (hq : R.WEI_DESC q ∈ rs) (hb : ∀ (x : Chip) w, blank { x with weir := w } = blank x)
    (l : List WeirEntry) : c.Moved (d.setEntries q l) rs blank := (h.putWeir hb _).wr hq _

theorem Chip.Moved.setQrec (h : c.Moved d rs blank) (hb : ∀ (x : Chip) w, blank { x with weir := w } = blank x) (x : QRec) :
    c.Moved (d.setQrec q x) rs blank := h.putWeir hb _

end

/-- A dropped queue: its entries gone, with what the engine holds for it. -/
theorem qDrop_eq (c : Chip) (q : Nat) : ∃ v m, c.qDrop q = Chip.wr { c with weir := m } (R.WEI_DESC q) v ∧
    m.entries = FMap.set [] c.weir.entries q [] ∧ m.qrec = c.weir.qrec := by
  unfold Chip.qDrop
  obtain ⟨v, hv⟩ := setEntries_eq c q []
  rw [hv]
  exact ⟨v, _, wr_put_weir c _ _ _ v, rfl, rfl⟩

theorem entries_qDrop (c : Chip) (q : Nat) : (c.qDrop q).entries q = [] := by
  obtain ⟨v, m, hm, hentries, -⟩ := qDrop_eq c q
  rw [hm]
  exact (congrArg (FMap.get [] · q) hentries).trans (FMap.get_set_self _ _ _ _)

theorem qrec_qDrop (c : Chip) (q k : Nat) : (c.qDrop q).qrec k = c.qrec k := by
  obtain ⟨v, m, hm, -, hrecs⟩ := qDrop_eq c q
  rw [hm]
  exact congrArg (FMap.get {} · k) hrecs

theorem Chip.OtherQueues.qDrop {c d : Chip} {q : Nat} (h : c.OtherQueues d q) : c.OtherQueues (d.qDrop q) q := by
  obtain ⟨v, m, hm, hentries, hrecs⟩ := qDrop_eq d q
  have hkept : ∀ k, k ≠ q → FMap.get [] m.entries k = d.entries k := fun k hk =>
    (congrArg (FMap.get [] · k) hentries).trans (FMap.get_set_other _ _ _ _ _ _ hk)
  rw [hm]
  exact fun k hk => ⟨(hkept k hk).trans (h k hk).1, (congrArg (FMap.get ({} : QRec) · k) hrecs).trans (h k hk).2⟩

theorem Chip.Moved.qDrop {c d : Chip} {q : Nat} {rs : List Reg} {blank : Chip → Chip} (h : c.Moved d rs blank) (hq : R.WEI_DESC q ∈ rs)
    (hb : ∀ (x : Chip) w, blank { x with weir := w } = blank x) : c.Moved (d.qDrop q) rs blank := by
  obtain ⟨v, m, hm, -, -⟩ := qDrop_eq d q
  rw [hm]
  exact (h.putWeir hb m).wr hq v

/-! ### Descriptor writes (R658, R659) -/

theorem putFld_zero_le (v lo w : Nat) : putFld v lo w 0 ≤ v := by
  rw [putFld, Nat.zero_mod, Nat.zero_mul, Nat.add_zero]
  exact Nat.sub_le _ _

section
variable {s : State} {w : Writer} {q : Fin 16384} {v : BitVec 93} (hon : s.chip.domOn dWEI = true)
  (hwho : (wHost w || (s.chip.privWriter w && !wWarden w)) = true)

/-- The value of a descriptor write: bits 92 to 0 of the writer, the rest of the descriptor. -/
def Chip.descValue (c : Chip) (q v : Nat) : Nat := v % 2 ^ 93 + fld (c.rd (R.WEI_DESC q)) 93 3 * 2 ^ 93

theorem descValue_eq (c : Chip) (q : Nat) (v : BitVec 93) : c.descValue q v.toNat = v.toNat + fld (c.rd (R.WEI_DESC q)) 93 3 * 2 ^ 93 := by
  rw [Chip.descValue, Nat.mod_eq_of_lt v.isLt]

theorem descValue_lt (c : Chip) (q v : Nat) : c.descValue q v < 256 ^ (R.WEI_DESC q).width := by
  have hkeep : fld (c.rd (R.WEI_DESC q)) 93 3 < 2 ^ 3 := fld_lt _ _ _
  have hv : v % 2 ^ 93 < 2 ^ 93 := Nat.mod_lt _ (by positivity)
  have hwidth : 256 ^ (R.WEI_DESC q).width = 8 * 2 ^ 93 := by norm_num [R.WEI_DESC]
  rw [hwidth, Chip.descValue]
  generalize fld (c.rd (R.WEI_DESC q)) 93 3 = k at *
  generalize v % 2 ^ 93 = x at *
  calc x + k * 2 ^ 93 < 2 ^ 93 + 7 * 2 ^ 93 := Nat.add_lt_add_of_lt_of_le hv (Nat.mul_le_mul_right _ (by omega))
    _ = 8 * 2 ^ 93 := by norm_num

include hon hwho in
/-- A write by a writer that may, to a queue that is disabled or frozen. -/
theorem exec_descWrite (hfree : (s.chip.qEn q && !s.chip.qFrozen q) = false) :
    exec (.weirDescriptorWrite w q v) s = s.lift (fun c => c.qDescWrite w q v.toNat) ∧ s.chip.qDescWrite w q v.toNat = s.chip.qWrite q v.toNat := by
  refine ⟨rfl, ?_⟩
  unfold Chip.qDescWrite
  rw [hon, hwho, hfree]
  rfl

/-- A queue that stays disabled. -/
theorem Chip.qWrite_idle {c : Chip} {q v : Nat} (hold : c.qEn q = false) (hnew : bit v 91 = false) : c.qWrite q v = c.wr (R.WEI_DESC q) (c.descValue q v) := by
  unfold Chip.qWrite
  rw [hold, hnew]
  rfl

/-- EN set with nothing lost. -/
theorem qEnable_of_kept {c : Chip} {q : Nat} (hpend : (c.qrec q).pend = false) : ∃ m, c.qEnable q = { c with weir := m } ∧
    m.qrec = FMap.set {} c.weir.qrec q { c.qrec q with live := true } := by
  have hrec : { c.qrec q with live := true, pend := false } = { c.qrec q with live := true } := by rw [← hpend]
  have henable : c.qEnable q = { c.setQrec q { c.qrec q with live := true, pend := false } with
      weir := { (c.setQrec q { c.qrec q with live := true, pend := false }).weir with txNext := FMap.set 0 c.weir.txNext q (c.qrec q).rseq } } :=
    if_neg (ne_true_of_eq_false hpend)
  rw [henable, hrec]
  exact ⟨_, rfl, rfl⟩

theorem qWrite_eq_qEnable {c : Chip} {q v : Nat} (hold : c.qEn q = false) (hnew : bit v 91 = true) :
    c.qWrite q v = (c.wr (R.WEI_DESC q) (putFld (putFld (c.descValue q v) 21 12 0) 33 12 0)).qEnable q := by
  unfold Chip.qWrite Chip.descValue
  rw [hold, hnew]
  simp only [Bool.not_true, Bool.and_false, Bool.not_false, Bool.and_true, Bool.false_eq_true, if_true, if_false]

/-- A queue that is enabled with nothing lost. -/
theorem qEnable_wr {c e : Chip} {q x : Nat} (hpend : (c.qrec q).pend = false) (he : e = (c.wr (R.WEI_DESC q) x).qEnable q) :
    ∃ m, e = Chip.wr { c with weir := m } (R.WEI_DESC q) x ∧ m.qrec = FMap.set {} c.weir.qrec q { c.qrec q with live := true } := by
  obtain ⟨m, hm, hrecs⟩ := qEnable_of_kept (c := c.wr (R.WEI_DESC q) x) hpend
  exact ⟨m, he.trans hm, hrecs⟩

/-- A queue that is disabled: what it holds is dropped. -/
theorem Chip.qWrite_disable {c : Chip} {q v : Nat} (hold : c.qEn q = true) (hnew : bit v 91 = false) :
    c.qWrite q v = ((c.qDrop q).wr (R.WEI_DESC q) (c.descValue q v)).setQrec q
      { c.qrec q with live := false, pend := (c.qrec q).pend || ((c.qrec q).sseq != (c.qrec q).rseq) } := by
  have hrec : ∀ x, ((c.qDrop q).wr (R.WEI_DESC q) x).qrec q = c.qrec q := fun x => (qrec_wr _ _ x q).trans (qrec_qDrop c q q)
  unfold Chip.qWrite Chip.descValue
  rw [hold, hnew]
  simp only [Bool.not_false, Bool.and_self, Bool.not_true, Bool.false_eq_true, if_true, if_false, hrec]

end

section
variable {s : State} {i : Instr} {f : Chip → Chip} {q x : Nat} (he : exec i s = s.lift f) (hx : x < 256 ^ (R.WEI_DESC q).width)
include he hx

theorem does_descIdle (hd : f s.chip = s.chip.wr (R.WEI_DESC q) x) : Does i s (fun d => d.rd (R.WEI_DESC q) = x ∧ s.chip.Keeps d [R.WEI_DESC q] id) :=
  does_of_lift he hd ⟨(Chip.rd_wr_self s.chip _ x).trans (Nat.mod_eq_of_lt hx),
    ((Chip.Moved.refl s.chip _ id).wr (List.mem_singleton_self _) x).keeps (desc_not_level q) levelBlank_id⟩

theorem does_descEnable {m : WeirSt} {r : QRec} (hd : f s.chip = Chip.wr { s.chip with weir := m } (R.WEI_DESC q) x) (hm : m.qrec = FMap.set {} s.chip.weir.qrec q r) :
    Does i s (fun d => d.rd (R.WEI_DESC q) = x ∧ d.qrec q = r ∧ (∀ k, k ≠ q → d.qrec k = s.chip.qrec k) ∧ s.chip.Keeps d [R.WEI_DESC q] Chip.noWeir) := by
  have hmoved := ((Chip.Moved.refl s.chip [R.WEI_DESC q] Chip.noWeir).putWeir (fun _ _ => rfl) m).wr (List.mem_singleton_self _) x
  refine does_of_lift he hd ⟨(Chip.rd_wr_self _ _ x).trans (Nat.mod_eq_of_lt hx), ?_, fun k hk => ?_, hmoved.keeps (desc_not_level q) levelBlank_noWeir⟩
  · exact (congrArg (FMap.get {} · q) hm).trans (FMap.get_set_self _ _ _ _)
  · exact (congrArg (FMap.get {} · k) hm).trans (FMap.get_set_other _ _ _ _ _ _ hk)

theorem does_descDisable {r : QRec} {b : Chip} (hd : f s.chip = (b.wr (R.WEI_DESC q) x).setQrec q r) (hdrop : b.entries q = [])
    (hothers : s.chip.OtherQueues b q) (hmoved : s.chip.Moved b [R.WEI_DESC q] Chip.noWeir) :
    Does i s (fun d => d.rd (R.WEI_DESC q) = x ∧ d.entries q = [] ∧ d.qrec q = r ∧ s.chip.OtherQueues d q ∧ s.chip.Keeps d [R.WEI_DESC q] Chip.noWeir) := by
  have hrd : ((b.wr (R.WEI_DESC q) x).setQrec q r).rd (R.WEI_DESC q) = x := (Chip.rd_wr_self b _ x).trans (Nat.mod_eq_of_lt hx)
  have hentries : ((b.wr (R.WEI_DESC q) x).setQrec q r).entries q = [] := hdrop
  have hrec := qrec_setQrec_self (b.wr (R.WEI_DESC q) x) q r
  have hothers' := (hothers.put (e := b.wr (R.WEI_DESC q) x) rfl rfl).setQrec r
  have hmoved' := (hmoved.wr (List.mem_singleton_self _) x).setQrec (q := q) (fun _ _ => rfl) r
  generalize (b.wr (R.WEI_DESC q) x).setQrec q r = e at *
  exact does_of_lift he hd ⟨hrd, hentries, hrec, hothers', hmoved'.keeps (desc_not_level q) levelBlank_noWeir⟩

end

theorem weirDescriptorWrites {s : State} {w : Writer} {q : Fin 16384} {v : BitVec 93} (hon : s.chip.domOn dWEI = true)
    (hwho : (wHost w || (s.chip.privWriter w && !wWarden w)) = true) :
    let c := s.chip
    let r := R.WEI_DESC q
    let keep := fld (c.rd r) 93 3 * 2 ^ 93
    (c.qEn q = false → v.getLsbD 91 = false →
      Does (.weirDescriptorWrite w q v) s (fun d => d.rd r = v.toNat + keep ∧ c.Keeps d [r] id)) ∧
    (c.qEn q = false → v.getLsbD 91 = true → (c.qrec q).pend = false →
      Does (.weirDescriptorWrite w q v) s (fun d => d.rd r = putFld (putFld (v.toNat + keep) 21 12 0) 33 12 0 ∧
        d.qrec q = { c.qrec q with live := true } ∧ (∀ k, k ≠ q.val → d.qrec k = c.qrec k) ∧ c.Keeps d [r] Chip.noWeir)) ∧
    (c.qEn q = true → c.qFrozen q = true → v.getLsbD 91 = false →
      Does (.weirDescriptorWrite w q v) s (fun d => d.rd r % 2 ^ 93 = v.toNat ∧ d.entries q = [] ∧
        d.qrec q = { c.qrec q with live := false, pend := (c.qrec q).pend || ((c.qrec q).sseq != (c.qrec q).rseq) } ∧
        c.OtherQueues d q ∧ c.Keeps d [r] Chip.noWeir)) := by
  intro c r keep
  have hvalue := descValue_eq c q v
  have hlt := descValue_lt c q v.toNat
  refine ⟨fun hen hv => ?_, fun hen hv hpend => ?_, fun hen hfrozen hv => ?_⟩
  · obtain ⟨he, hd⟩ := exec_descWrite (v := v) hon hwho (by rw [hen]; rfl)
    rw [← hvalue]
    exact does_descIdle he hlt (hd.trans (Chip.qWrite_idle hen ((bit_toNat_eq_getLsbD v 91).trans hv)))
  · obtain ⟨he, hd⟩ := exec_descWrite (v := v) hon hwho (by rw [hen]; rfl)
    obtain ⟨m, hw, hm⟩ := qEnable_wr hpend (qWrite_eq_qEnable hen ((bit_toNat_eq_getLsbD v 91).trans hv))
    rw [← hvalue]
    exact does_descEnable he (((putFld_zero_le _ _ _).trans (putFld_zero_le _ _ _)).trans_lt hlt) (hd.trans hw) hm
  · obtain ⟨he, hd⟩ := exec_descWrite (v := v) hon hwho (by rw [hen, hfrozen]; rfl)
    obtain ⟨d, hd, hpend, hrd, hrest⟩ := does_descDisable he hlt (hd.trans (Chip.qWrite_disable hen ((bit_toNat_eq_getLsbD v 91).trans hv)))
      (entries_qDrop c q) (Chip.OtherQueues.refl c q).qDrop ((Chip.Moved.refl c _ Chip.noWeir).qDrop (List.mem_singleton_self _) (fun _ _ => rfl))
    refine ⟨d, hd, hpend, ?_, hrest⟩
    rw [hrd, Chip.descValue, Nat.add_mul_mod_self_right, Nat.mod_mod, Nat.mod_eq_of_lt v.isLt]

/-! ### QCMD: RESYNC and UNBIND (R676, R679) -/

/-- One end's part of a RESYNC of a queue that is not outbound. -/
theorem Chip.qResync_of_not_out {c : Chip} {q : Nat} (hout : c.qOut q = false) (epoch : Nat) (send : Bool) :
    ∃ v m, c.qResync q epoch send = Chip.wr { c with weir := m } (R.WEI_DESC q) v ∧
      m.entries = FMap.set [] c.weir.entries q ((c.entries q).map (fun e => { e with old := true })) ∧
      m.qrec = FMap.set {} c.weir.qrec q { c.qrec q with sseq := 0, rseq := 0, pepoch := epoch, resync := send } := by
  obtain ⟨v, hv⟩ := setEntries_eq c q ((c.entries q).map (fun e => { e with old := true }))
  unfold Chip.qResync
  rw [hout, hv]
  exact ⟨v, _, wr_setQrec_put c _ _ _ v q _, rfl, rfl⟩

theorem does_qcmdResync {s : State} {w : Writer} {q : Nat} (hon : s.chip.domOn dWEI = true)
    (hwho : (wHost w || (s.chip.privWriter w && !wWarden w)) = true) (hsel : s.chip.rd R.WEI_QSEL = q) (hout : s.chip.qOut q = false) :
    Does (.weiQcmdResync w) s (fun d => d.qrec q = { s.chip.qrec q with sseq := 0, rseq := 0, resync := true } ∧
      (∀ k, k ≠ q → d.qrec k = s.chip.qrec k) ∧ d.entries q = (s.chip.entries q).map (fun e => { e with old := true }) ∧
      d.mem = s.chip.mem ∧ d.threads = s.chip.threads) := by
  have hdo : s.chip.qcmdResync w = s.chip.qResync q (s.chip.qrec q).pepoch true := by
    unfold Chip.qcmdResync
    rw [hon, hwho, hsel]
    rfl
  obtain ⟨v, m, hm, hentries, hrecs⟩ := Chip.qResync_of_not_out hout (s.chip.qrec q).pepoch true
  refine does_of_lift (show exec (.weiQcmdResync w) s = execWeiQcmdResync w s from rfl) (hdo.trans hm) ⟨?_, fun k hk => ?_, ?_, rfl, rfl⟩
  · exact (congrArg (FMap.get {} · q) hrecs).trans (FMap.get_set_self _ _ _ _)
  · exact (congrArg (FMap.get {} · k) hrecs).trans (FMap.get_set_other _ _ _ _ _ _ hk)
  · exact (congrArg (FMap.get [] · q) hentries).trans (FMap.get_set_self _ _ _ _)

theorem does_qcmdUnbind {s : State} {w : Writer} (hon : s.chip.domOn dWEI = true) (hwho : (wHost w || (s.chip.privWriter w && !wWarden w)) = true) :
    Does (.weiQcmdUnbind w) s (fun d => d.grec (s.chip.rd R.WEI_GSEL) = {} ∧ (∀ g, g ≠ s.chip.rd R.WEI_GSEL → d.grec g = s.chip.grec g) ∧
      { d.weir with groups := [] } = { s.chip.weir with groups := [] } ∧ s.chip.Keeps d [] Chip.noWeir) := by
  have hdo : s.chip.qcmdUnbind w = s.chip.setGrec (s.chip.rd R.WEI_GSEL) {} := by
    unfold Chip.qcmdUnbind
    rw [hon, hwho]
    rfl
  have hmoved : s.chip.Moved (s.chip.setGrec (s.chip.rd R.WEI_GSEL) {}) [] Chip.noWeir := (Chip.Moved.refl _ _ _).putWeir (fun _ _ => rfl) _
  exact does_of_lift (show exec (.weiQcmdUnbind w) s = execWeiQcmdUnbind w s from rfl) hdo
    ⟨grec_setGrec_self s.chip _ {}, fun g hg => grec_setGrec_other s.chip {} hg, rfl, hmoved.keeps (by simp) levelBlank_noWeir⟩

theorem weirDescriptors : Parts.WeirDescriptors := by
  intro s w q v hon hwho c r keep
  obtain ⟨hidle, henable, hdisable⟩ := weirDescriptorWrites (q := q) (v := v) hon hwho
  exact ⟨hidle, henable, hdisable, fun hsel hout => does_qcmdResync hon hwho hsel hout, does_qcmdUnbind hon hwho⟩

/-! ### Latches (00 R1012) -/

/-- A latch written is what its kind of reader reads next. -/
theorem latched_setLatch (c : Chip) (r : Reader) (x : Reg) (v : Nat) : c.Latched (c.setLatch (readerKind r) x v) r x v := by
  have hself := Mem.readN_writeN 0 (leBytes x.width v) c.latch (readerKind r * 2 ^ 24 + x.addr)
  rw [leBytes_length] at hself
  refine ⟨hself, fun b hb => Mem.get_writeN_other _ _ _ _ _ _ ?_⟩
  rw [leBytes_length]
  exact hb

/-! ### Control payloads at this device (15 R709; 14 R666) -/

section
variable {c : Chip} {f : Frame} (hkind : f.kind = 2) (hfrag : fld f.flags.toNat 3 2 = 0) (hon : c.domOn dWEI = true)
include hkind hfrag hon

/-- A payload that came in one frame, by its first byte. -/
theorem weirKind_whole {b : Byte} {l : List Byte} {ks : List Nat} (hpay : f.payload = b :: l) (hk : ks.contains b.toNat = true) :
    c.weirKind f ks = c.weirDeliver f ∧ c.weirDeliver f = (match b.toNat with
      | 0 | 1 => c.weirData f.queue.toNat f.src.toNat f.epoch.toNat f.seq.toNat f.payload
      | 2 => c.weirAck f.queue.toNat f.src.toNat f.seq.toNat
      | 3 => c.weirNack f.queue.toNat f.src.toNat f.seq.toNat
      | 4 => c.weirSkip f.queue.toNat f.src.toNat f.epoch.toNat f.seq.toNat f.payload
      | 5 => c.weirGsync f.src.toNat f.payload
      | 6 => c.weirResync f.queue.toNat f.src.toNat f.payload
      | 7 => c.weirRejoin f.queue.toNat f.payload
      | _ => c) := by
  have hpart : c.weirFragment f = (c, some f.payload) := by
    unfold Chip.weirFragment
    rw [hfrag]
    rfl
  have hhead : f.payload.headD 0 = b := by rw [hpay]; rfl
  refine ⟨if_pos ⟨hkind, .inl (hhead ▸ hk)⟩, ?_⟩
  unfold Chip.weirDeliver
  rw [hon, hpart]
  dsimp only [Bool.not_true, Bool.false_eq_true, if_false]
  rw [hhead]
  rfl

end

/-- A GSYNC of a group at its first use. -/
theorem weirGsync_of_unbound {c : Chip} {g : Fin 1024} {st : BitVec 16} (hg : g ≠ 0) (hfree : (c.grec g).bound = false) (src : Nat) :
    c.weirGsync src (5 :: (beBytes 2 g.val ++ beBytes 2 st.toNat)) = c.setGrec g { node := src, send := false, bound := true, stamp := st.toNat } := by
  have hgroup : beNat ((List.drop 1 (5 :: (beBytes 2 g.val ++ beBytes 2 st.toNat))).take 2) % 1024 = g.val := by
    rw [List.drop_one, List.tail_cons, List.take_left' (beBytes_length 2 _), beNat_beBytes_of_lt (by omega), Nat.mod_eq_of_lt g.isLt]
  have hstamp : beNat ((List.drop 3 (5 :: (beBytes 2 g.val ++ beBytes 2 st.toNat))).take 2) = st.toNat := by
    rw [List.drop_succ_cons, List.drop_left' (beBytes_length 2 _), List.take_of_length_le (beBytes_length 2 _).le, beNat_beBytes_of_lt st.isLt]
  have hpos : g.val ≠ 0 := fun h => hg (Fin.ext h)
  unfold Chip.weirGsync
  rw [hgroup, hstamp]
  dsimp only
  rw [if_neg hpos, hfree]
  rfl

/-- An event of WEI after a change of its own state and its registers. -/
theorem does_weirEvent {s : State} {i : Instr} {f : Chip → Chip} {b : Chip} {bits k : Nat} (he : exec i s = s.lift f) (hd : f s.chip = b.event 8 R.WEI_EVT bits)
    (hbit : bit bits k = true) (hk : k < 8) (hthreads : b.threads = s.chip.threads) (hmem : b.mem = s.chip.mem) :
    Does i s (fun d => d.weir = b.weir ∧ bit (d.rd R.WEI_EVT) k = true ∧ s.chip.Rings d ∧ d.mem = s.chip.mem) := by
  have hset := Chip.rbit_event b 8 R.WEI_EVT bits (i := k) hk (by decide)
  rw [hbit, Bool.or_true] at hset
  have hrings := (Chip.Rings.of_threads hthreads).trans (b.rings_event 8 R.WEI_EVT bits)
  have heq := b.event_eq 8 R.WEI_EVT bits
  have hweir : (b.event 8 R.WEI_EVT bits).weir = b.weir := by rw [heq]
  have hmem' : (b.event 8 R.WEI_EVT bits).mem = s.chip.mem := by rw [heq]; exact hmem
  clear heq
  generalize b.event 8 R.WEI_EVT bits = e at *
  exact does_of_lift he hd ⟨hweir, hset, hrings, hmem'⟩

/-! ### What a queue that no round governs is (14 R691) -/

/-- The registers of the round descriptors are the same. -/
def Chip.SameRounds (c d : Chip) : Prop := ∀ x : Reg, 0x807800 ≤ x.addr → x.addr < 0x808000 → d.rd x = c.rd x

section
variable {c d : Chip} {r : Nat} (h : c.SameRounds d) (hr : r < 32)
include h hr

theorem Chip.SameRounds.rndEn : d.rndEn r = c.rndEn r := by
  unfold Chip.rndEn Chip.rbit
  rw [h _ (by simp [R.RND_CTRL]) (by simp only [R.RND_CTRL]; omega)]

theorem Chip.SameRounds.rndParts : d.rndParts r = c.rndParts r := by
  unfold Chip.rndParts
  rw [h _ (by simp only [R.RND_NPART]; omega) (by simp only [R.RND_NPART]; omega)]

theorem Chip.SameRounds.rndIn (i : Nat) : d.rndIn r i = c.rndIn r i := by
  unfold Chip.rndIn
  rw [h _ (by simp only [R.RND_QIN]; omega) (by simp only [R.RND_QIN]; omega)]

theorem Chip.SameRounds.rndOut (i : Nat) : d.rndOut r i = c.rndOut r i := by
  unfold Chip.rndOut
  rw [h _ (by simp only [R.RND_QOUT]; omega) (by simp only [R.RND_QOUT]; omega)]

end

theorem Chip.SameRounds.rndOfIn_none {c d : Chip} {q : Nat} (h : c.SameRounds d) (hnone : c.rndOfIn q = none) : d.rndOfIn q = none := by
  unfold Chip.rndOfIn at *
  rw [List.findSome?_eq_none_iff] at *
  intro r hr
  have hlt := List.mem_range.mp hr
  simp only [h.rndEn hlt, h.rndParts hlt, h.rndIn hlt, h.rndOut hlt]
  exact hnone r hr

theorem Chip.Moved.sameRounds {c d : Chip} {rs : List Reg} {blank : Chip → Chip} (h : c.Moved d rs blank)
    (hrs : ∀ x ∈ rs, x.addr < 0x807800 ∨ 0x808000 ≤ x.addr) : c.SameRounds d := by
  intro x hlo hhi
  refine h.1 x (fun y hy heq => ?_)
  have := hrs y hy
  omega

/-- A REJOIN with room in the FIFO, of a queue that no round governs. -/
theorem weirRejoin_of_room {c : Chip} {q : Nat} {st : BitVec 16} (hroom : c.weir.rejFifo.length < 8) (hfree : c.rndOfIn q = none) :
    c.weirRejoin q (7 :: beBytes 2 st.toNat) =
      Chip.event { c with weir := { c.weir with rejFifo := c.weir.rejFifo ++ [(q, st.toNat)] } } 8 R.WEI_EVT 2 := by
  have htag : beNat ((List.drop 1 (7 :: beBytes 2 st.toNat)).take 2) = st.toNat := by
    rw [List.drop_one, List.tail_cons, List.take_of_length_le (beBytes_length 2 _).le, beNat_beBytes_of_lt st.isLt]
  have hsame : c.SameRounds (Chip.event { c with weir := { c.weir with rejFifo := c.weir.rejFifo ++ [(q, st.toNat)] } } 8 R.WEI_EVT 2) :=
    ((((Chip.Moved.refl c [R.WEI_EVT, R.DOORBELL_OVF] Chip.noWeirThreads).putWeir (fun _ _ => rfl)
      { c.weir with rejFifo := c.weir.rejFifo ++ [(q, st.toNat)] }).event (r := R.WEI_EVT) (by simp) (by simp) (fun _ _ => rfl) 8 2)).sameRounds (by decide)
  have hnone := hsame.rndOfIn_none hfree
  unfold Chip.weirRejoin
  rw [if_neg (by omega), htag]
  dsimp only
  rw [hnone]

/-! ### The commands -/

section
variable {s : State} {f : Frame} (hkind : f.kind = 2) (hfrag : fld f.flags.toNat 3 2 = 0) (hon : s.chip.domOn dWEI = true)
include hkind hfrag hon

theorem does_weirGsync {g : Fin 1024} {st : BitVec 16} (hpay : f.payload = 5 :: (beBytes 2 g.val ++ beBytes 2 st.toNat)) (hg : g ≠ 0)
    (hfree : (s.chip.grec g).bound = false) :
    Does (.weirGsyncReceive f) s (fun d => d.grec g = { node := f.src.toNat, send := false, bound := true, stamp := st.toNat } ∧
      (∀ k, k ≠ g.val → d.grec k = s.chip.grec k) ∧ s.chip.Keeps d [] Chip.noWeir) := by
  obtain ⟨hwhole, hdeliver⟩ := weirKind_whole hkind hfrag hon hpay (ks := [5]) rfl
  have hdo := (hwhole.trans hdeliver).trans ((congrArg (s.chip.weirGsync f.src.toNat) hpay).trans (weirGsync_of_unbound hg hfree f.src.toNat))
  have hmoved : s.chip.Moved (s.chip.setGrec g { node := f.src.toNat, send := false, bound := true, stamp := st.toNat }) [] Chip.noWeir :=
    (Chip.Moved.refl _ _ _).putWeir (fun _ _ => rfl) _
  exact does_of_lift (show exec (.weirGsyncReceive f) s = execWeirGsyncReceive f s from rfl) hdo
    ⟨grec_setGrec_self s.chip g _, fun k hk => grec_setGrec_other s.chip _ hk, hmoved.keeps (by simp) levelBlank_noWeir⟩

theorem does_weirResync {b : Byte} (hpay : f.payload = [6, b]) (hnode : s.chip.qNode f.queue.toNat = f.src.toNat) (hin : s.chip.qIn f.queue.toNat = true) :
    Does (.weirResyncReceive f) s (fun d => d.qrec f.queue.toNat = { s.chip.qrec f.queue.toNat with sseq := 0, rseq := 0, pepoch := b.toNat, resync := false } ∧
      (∀ k, k ≠ f.queue.toNat → d.qrec k = s.chip.qrec k) ∧ bit (d.rd R.WEI_EVT) 3 = true ∧ s.chip.Rings d ∧ d.mem = s.chip.mem) := by
  obtain ⟨hwhole, hdeliver⟩ := weirKind_whole hkind hfrag hon hpay (ks := [6]) rfl
  generalize f.queue.toNat = q at *
  obtain ⟨hport, hdir⟩ := (Bool.and_eq_true _ _).mp hin
  have hlocal : s.chip.qLocal q = false := Bool.eq_false_of_not_eq_true (fun h => by simp only [Chip.qLocal] at h; simp [beq_iff_eq.mp h] at hport)
  have hout : s.chip.qOut q = false := by
    rw [Bool.not_eq_true'] at hdir
    rw [Chip.qOut, hdir, Bool.and_false]
  obtain ⟨v, m, hm, hentries, hrecs⟩ := Chip.qResync_of_not_out hout b.toNat false
  have hresync : s.chip.weirResync q f.src.toNat f.payload = (Chip.wr { s.chip with weir := m } (R.WEI_DESC q) v).event 8 R.WEI_EVT 8 := by
    rw [← hm, hpay]
    unfold Chip.weirResync
    rw [hnode, hlocal, bne_self_eq_false]
    rfl
  obtain ⟨d, hd, hpend, hweir, hevt⟩ := does_weirEvent (k := 3) (show exec (.weirResyncReceive f) s = execWeirResyncReceive f s from rfl)
    ((hwhole.trans hdeliver).trans hresync) (by decide) (by decide) rfl rfl
  refine ⟨d, hd, hpend, ?_, fun k hk => ?_, hevt⟩
  · exact (congrArg (fun w => FMap.get {} (WeirSt.qrec w) q) hweir).trans ((congrArg (FMap.get {} · q) hrecs).trans (FMap.get_set_self _ _ _ _))
  · exact (congrArg (fun w => FMap.get {} (WeirSt.qrec w) k) hweir).trans ((congrArg (FMap.get {} · k) hrecs).trans (FMap.get_set_other _ _ _ _ _ _ hk))

theorem does_weirRejoin {st : BitVec 16} (hpay : f.payload = 7 :: beBytes 2 st.toNat) (hroom : s.chip.weir.rejFifo.length < 8)
    (hfree : s.chip.rndOfIn f.queue.toNat = none) :
    Does (.weirRejoinReceive f) s (fun d => d.weir = { s.chip.weir with rejFifo := s.chip.weir.rejFifo ++ [(f.queue.toNat, st.toNat)] } ∧
      bit (d.rd R.WEI_EVT) 1 = true ∧ s.chip.Rings d ∧ d.mem = s.chip.mem) := by
  obtain ⟨hwhole, hdeliver⟩ := weirKind_whole hkind hfrag hon hpay (ks := [7]) rfl
  have hdo := (hwhole.trans hdeliver).trans ((congrArg (s.chip.weirRejoin f.queue.toNat) hpay).trans (weirRejoin_of_room hroom hfree))
  exact does_weirEvent (k := 1) (show exec (.weirRejoinReceive f) s = execWeirRejoinReceive f s from rfl) hdo (by decide) (by decide) rfl rfl

end

/-- A pop of WEI_REJFIFO. -/
theorem does_rejPop {s : State} {rd : Reader} {v : Nat} {l : List (Nat × Nat)} (hon : s.chip.domOn dWEI = true)
    (hpop : s.chip.rejPop (readerKind rd) = Chip.setLatch { s.chip with weir := { s.chip.weir with rejFifo := l } } (readerKind rd) R.WEI_REJFIFO v) :
    Does (.weiRejfifoPop rd) s (fun d => s.chip.Latched d rd R.WEI_REJFIFO v ∧ d.weir = { s.chip.weir with rejFifo := l } ∧
      s.chip.Keeps d [] (fun d => { d with weir := {}, latch := [] })) := by
  have hlatched := latched_setLatch { s.chip with weir := { s.chip.weir with rejFifo := l } } rd R.WEI_REJFIFO v
  have hmoved : s.chip.Moved (Chip.setLatch { s.chip with weir := { s.chip.weir with rejFifo := l } } (readerKind rd) R.WEI_REJFIFO v) []
      (fun d => { d with weir := {}, latch := [] }) := (Chip.Moved.refl _ _ _).put rfl rfl
  exact does_of_lift (show exec (.weiRejfifoPop rd) s = execWeiRejfifoPop rd s from rfl) ((if_pos hon).trans hpop) ⟨hlatched, rfl,
    hmoved.keeps (by simp) ⟨fun _ _ _ _ _ => rfl, fun _ => rfl, fun _ => rfl, fun _ => rfl, fun _ => rfl, fun _ => rfl, fun _ => rfl, fun _ => rfl⟩⟩

theorem weirControl : Parts.WeirControl := by
  intro s f g st b rd hon c q evt pops
  refine ⟨fun hkind hfrag => ⟨does_weirGsync hkind hfrag hon, does_weirResync hkind hfrag hon, does_weirRejoin hkind hfrag hon⟩, fun hempty => ?_, fun e l hfifo => ?_⟩
  · have hsame : c = { c with weir := { c.weir with rejFifo := [] } } := by rw [← hempty]
    have hpop : c.rejPop (readerKind rd) = c.setLatch (readerKind rd) R.WEI_REJFIFO 0 := by
      unfold Chip.rejPop
      rw [hempty]
    exact does_rejPop hon (hpop.trans (congrArg (fun x => Chip.setLatch x (readerKind rd) R.WEI_REJFIFO 0) hsame))
  · refine does_rejPop hon ?_
    unfold Chip.rejPop
    rw [hfifo]

/-- Settles O54: a descriptor's write changes its own queue alone; the control payloads each change what their kind names. -/
theorem weirQueues : Obligations.WeirQueues := ⟨weirDescriptors, weirControl⟩

end Sys2Proof.Machine
end

section
/-!
PROOFS. Weir frames at an enabled queue, and rounds (14 R660, R666 to R669, R677, R681 to R686).
-/
namespace Sys2Proof.Machine

/-! ### Ports without a slot (15 R723 to R726) -/

theorem Chip.NoSlots.congr {c d : Chip} (h : c.NoSlots) (htln : d.tln = c.tln) : d.NoSlots := by
  intro p hp
  have hport : d.port p = c.port p := by rw [Chip.port, htln, Chip.port]
  rw [hport]
  exact h p hp

theorem pump_of_closed {c : Chip} {p : Nat} (h : (c.port p).slot = none) (n : Nat) : c.pump p n = c := by
  have hnext : c.nextOrigin p = none := by
    unfold Chip.nextOrigin
    extract_lets x
    rw [show x.slot = none from h]
  cases n with
  | zero => rfl
  | succ n =>
    unfold Chip.pump
    rw [hnext]
    split <;> rfl

/-- With no slot open nothing is sent. -/
theorem Chip.NoSlots.pumpAll {c : Chip} (h : c.NoSlots) : c.pumpAll = c := by
  unfold Chip.pumpAll
  simp only [List.foldl_cons, List.foldl_nil]
  rw [pump_of_closed (h 0 (by decide)), pump_of_closed (h 1 (by decide)), pump_of_closed (h 2 (by decide))]

/-! ### A queue's direction, and its descriptor after a change of its entries -/

theorem qIn_spec {c : Chip} {q : Nat} (h : c.qIn q = true) : c.qLocal q = false ∧ c.qOut q = false := by
  obtain ⟨hport, hdir⟩ := (Bool.and_eq_true _ _).mp h
  rw [Bool.not_eq_true'] at hdir
  refine ⟨?_, ?_⟩
  · rw [Chip.qLocal]
    rwa [bne, Bool.not_eq_true'] at hport
  · rw [Chip.qOut, hdir, Bool.and_false]

theorem desc_setEntries (c : Chip) (q : Nat) (l : List WeirEntry) :
    ∃ h t g, (c.setEntries q l).rd (R.WEI_DESC q) = putBit (putFld (putFld (c.rd (R.WEI_DESC q)) 21 12 h) 33 12 t) 94 g % 256 ^ 12 :=
  ⟨_, _, _, Chip.rd_wr_self _ (R.WEI_DESC q) _⟩

/-- Fields of a descriptor beside HEAD, TAIL and GAP_HELD stand when the entries change. -/
theorem qfld_setEntries (c : Chip) (q : Nat) (l : List WeirEntry) {lo w : Nat} (hlo : lo + w ≤ 21 ∨ 45 ≤ lo) (hhi : lo + w ≤ 94) :
    (c.setEntries q l).qfld q lo w = c.qfld q lo w := by
  obtain ⟨h, t, g, hd⟩ := desc_setEntries c q l
  rw [Chip.qfld, Chip.rfld, hd, fld_mod_256_pow (by omega), fld_putBit_other (by omega), fld_putFld_other (by omega), fld_putFld_other (by omega)]
  rfl

theorem rbit_eq_rfld (c : Chip) (r : Reg) (i : Nat) : c.rbit r i = (c.rfld r i 1 == 1) := bit_eq_fld _ _

theorem qIn_setEntries (c : Chip) (q : Nat) (l : List WeirEntry) : (c.setEntries q l).qIn q = c.qIn q := by
  have hport := qfld_setEntries c q l (lo := 58) (w := 2) (by decide) (by decide)
  have hdir := qfld_setEntries c q l (lo := 92) (w := 1) (by decide) (by decide)
  rw [Chip.qfld] at hdir
  rw [Chip.qIn, Chip.qIn, Chip.qPort, Chip.qPort, hport, rbit_eq_rfld, rbit_eq_rfld, hdir]
  rfl

theorem qIn_congr {c d : Chip} {q : Nat} (h : d.rd (R.WEI_DESC q) = c.rd (R.WEI_DESC q)) : d.qIn q = c.qIn q := by
  simp only [Chip.qIn, Chip.qPort, Chip.qfld, Chip.rfld, Chip.rbit, h]

/-- A queue's record brought in line and its ACK due (R660, R669): of Weir's state the record's SSEQ and the ACKs due change. -/
theorem sync_ackDue {b : Chip} {q : Nat} (hin : b.qIn q = true) : ∃ m, (b.qSync q).ackDue q = { b with weir := m } ∧ m.entries = b.weir.entries ∧
    (FMap.get {} m.qrec q).rseq = (b.qrec q).rseq ∧ (∀ k, k ≠ q → FMap.get {} m.qrec k = b.qrec k) ∧ q ∈ m.ackDue := by
  obtain ⟨hlocal, -⟩ := qIn_spec hin
  have hsync : b.qSync q = b.setQrec q { b.qrec q with sseq := nextDeliver (b.entries q) (b.qrec q).rseq } := by
    unfold Chip.qSync
    rw [hlocal, hin]
    rfl
  obtain ⟨x, hx, hrec⟩ : ∃ x : QRec, x.rseq = (b.qrec q).rseq ∧ b.qSync q = b.setQrec q x :=
    ⟨{ b.qrec q with sseq := nextDeliver (b.entries q) (b.qrec q).rseq }, rfl, hsync⟩
  have hmade : ∀ (w : WeirSt), w.entries = b.weir.entries → w.qrec = FMap.set {} b.weir.qrec q x → q ∈ w.ackDue →
      w.entries = b.weir.entries ∧ (FMap.get {} w.qrec q).rseq = (b.qrec q).rseq ∧ (∀ k, k ≠ q → FMap.get {} w.qrec k = b.qrec k) ∧ q ∈ w.ackDue := by
    intro w hentries hrecs hdue
    refine ⟨hentries, ?_, fun k hk => ?_, hdue⟩
    · rw [hrecs, FMap.get_set_self, hx]
    · rw [hrecs, FMap.get_set_other _ _ _ _ _ _ hk]
      rfl
  rw [hrec]
  unfold Chip.ackDue
  split
  case isTrue hdue => exact ⟨_, rfl, hmade _ rfl rfl (List.contains_iff_mem.mp hdue)⟩
  case isFalse => exact ⟨_, rfl, hmade _ rfl rfl (by simp)⟩

/-! ### Messages in the store (R662) -/

/-- Bytes put one by one at the places `g` gives: what stands at another place has not changed. -/
theorem FMap.get_foldl_zipIdx_other (g : Nat → Nat) (b : List Byte) (m : FMap Byte) (n a : Nat) (h : ∀ i < b.length, a ≠ g (n + i)) :
    FMap.get 0 ((b.zipIdx n).foldl (fun m e => FMap.set 0 m (g e.2) e.1) m) a = FMap.get 0 m a := by
  induction b generalizing m n with
  | nil => rfl
  | cons x b ih =>
    rw [List.zipIdx_cons, List.foldl_cons, ih]
    · exact FMap.get_set_other _ _ _ _ _ _ (h 0 (by simp))
    intro i hi
    have hne := h (i + 1) (by simpa using hi)
    rwa [show n + (i + 1) = n + 1 + i from by omega] at hne

/-- Bytes put one by one at places that differ. -/
theorem FMap.get_foldl_zipIdx_self (g : Nat → Nat) (b : List Byte) (m : FMap Byte) (n i : Nat) (hi : i < b.length)
    (hinj : ∀ j < b.length, ∀ k < b.length, g (n + j) = g (n + k) → j = k) :
    FMap.get 0 ((b.zipIdx n).foldl (fun m e => FMap.set 0 m (g e.2) e.1) m) (g (n + i)) = b.getD i 0 := by
  induction b generalizing m n i with
  | nil => simp at hi
  | cons x b ih =>
    rw [List.zipIdx_cons, List.foldl_cons]
    cases i with
    | zero =>
      rw [FMap.get_foldl_zipIdx_other]
      · exact FMap.get_set_self _ _ _ _
      · intro j hj heq
        have := hinj 0 (by simp) (j + 1) (by simpa using hj) (by rw [heq]; congr 1; omega)
        omega
    | succ i =>
      rw [show n + (i + 1) = n + 1 + i from by omega, ih _ _ _ (by simpa using hi), List.getD_cons_succ]
      intro j hj k hk heq
      have := hinj (j + 1) (by simpa using hj) (k + 1) (by simpa using hk) (by rw [show n + (j + 1) = n + 1 + j from by omega, heq]; congr 1; omega)
      omega

/-- The bytes of a message that fits its queue's area stand at different addresses. -/
theorem qAddr_injective {c : Chip} {q o n i j : Nat} (hfit : (n + 15) / 16 < c.qCells q) (hi : i < n) (hj : j < n)
    (heq : c.qAddr q o i = c.qAddr q o j) : i = j := by
  unfold Chip.qAddr at heq
  generalize c.qCells q = m at *
  generalize c.qBase q = base at *
  have hcell : (o + i / 16) % m = (o + j / 16) % m := by omega
  have hmod : i / 16 % m = j / 16 % m := Nat.ModEq.add_left_cancel' o hcell
  rw [Nat.mod_eq_of_lt (by omega), Nat.mod_eq_of_lt (by omega)] at hmod
  omega

theorem qStore_spec {c : Chip} {q o : Nat} {msg : List Byte} (hfit : (msg.length + 15) / 16 < c.qCells q) :
    ∃ m, c.qStore q o msg = { c with mem := { c.mem with weir := m } } ∧ (∀ i < msg.length, FMap.get 0 m (c.qAddr q o i) = msg.getD i 0) ∧
      ∀ a, (∀ i < msg.length, a ≠ c.qAddr q o i) → FMap.get 0 m a = FMap.get 0 c.mem.weir a := by
  refine ⟨_, rfl, fun i hi => ?_, fun a ha => FMap.get_foldl_zipIdx_other _ _ _ _ _ (fun i hi => by rw [Nat.zero_add]; exact ha i hi)⟩
  have hself := FMap.get_foldl_zipIdx_self (c.qAddr q o) msg c.mem.weir 0 i hi (fun j hj k hk heq => by
    rw [Nat.zero_add, Nat.zero_add] at heq
    exact qAddr_injective hfit hj hk heq)
  rwa [Nat.zero_add] at hself

/-! ### Payloads of the partner at an inbound queue (R668, R677) -/

theorem serialAfter_self (x : Nat) : serialAfter 16 x x = false := by
  have hzero : (x + 2 ^ 16 - x % 2 ^ 16) % 2 ^ 16 = 0 := by omega
  rw [serialAfter, hzero]
  rfl

theorem weirReject_none {c : Chip} {q src epoch : Nat} (hen : c.qEn q = true) (hin : c.qIn q = true) (hnode : c.qNode q = src)
    (hepoch : (c.qrec q).pepoch = epoch) : c.weirReject q src epoch = none := by
  unfold Chip.weirReject
  rw [hen, hin, hnode, bne_self_eq_false, if_neg (by decide), if_neg (not_not_intro hepoch)]

/-- A queue whose entries and record have changed: of Weir nothing else but the ACKs due. -/
structure Chip.Received (c : Chip) (q : Nat) (l : List WeirEntry) (next : Nat) (w : WeirSt) : Prop where
  entries : w.entries = FMap.set [] c.weir.entries q l
  rseq : (FMap.get {} w.qrec q).rseq = next
  others : ∀ k, k ≠ q → FMap.get {} w.qrec k = c.qrec k
  ackDue : q ∈ w.ackDue

section
variable {c d : Chip} {q next : Nat} {l : List WeirEntry} {w : WeirSt} (h : c.Received q l next w) (hd : d.weir = w)
include h hd

theorem Chip.Received.entries_self : d.entries q = l := by
  rw [Chip.entries, hd, h.entries, FMap.get_set_self]

theorem Chip.Received.rseq_self : (d.qrec q).rseq = next := by
  rw [Chip.qrec, hd, h.rseq]

theorem Chip.Received.otherQueues : c.OtherQueues d q := by
  intro k hk
  refine ⟨?_, ?_⟩
  · rw [Chip.entries, hd, h.entries, FMap.get_set_other _ _ _ _ _ _ hk]
    rfl
  · rw [Chip.qrec, hd, h.others k hk]

theorem Chip.Received.ackDue_self : q ∈ d.weir.ackDue := by
  rw [hd]
  exact h.ackDue

end

/-- The record with its new RSEQ brought in line, behind a change of the entries. -/
theorem received_of_setQrec {c b : Chip} {q : Nat} {l : List WeirEntry} {x : QRec} (hin : b.qIn q = true) (hentries : b.weir.entries = FMap.set [] c.weir.entries q l)
    (hrecs : b.weir.qrec = FMap.set {} c.weir.qrec q x) : ∃ w, (b.qSync q).ackDue q = { b with weir := w } ∧ c.Received q l x.rseq w := by
  obtain ⟨w, hw, hentries', hrseq, hothers, hdue⟩ := sync_ackDue hin
  refine ⟨w, hw, hentries'.trans hentries, hrseq.trans ?_, fun k hk => (hothers k hk).trans ?_, hdue⟩
  · rw [Chip.qrec, hrecs, FMap.get_set_self]
  · rw [Chip.qrec, hrecs, FMap.get_set_other _ _ _ _ _ _ hk]
    rfl

/-- The entry of a message without stamp or round tag. -/
def plainEntry (n cell : Nat) (msg : List Byte) : WeirEntry := { kind := .data, seq := n, cell := cell, len := msg.length }

theorem parseData_plain (msg : List Byte) : parseData (0 :: 0 :: msg) = ⟨none, none, msg⟩ := by
  have hflags (k : Nat) : bit ((0 :: msg : List Byte).headD 0).toNat k = false := by
    rw [bit_eq_testBit]
    exact Nat.zero_testBit k
  unfold parseData
  simp only [hflags, Bool.false_eq_true, if_false, List.drop_succ_cons, List.drop_zero]

/-- A message stored at the tail of its queue, RSEQ raised behind it. -/
def Chip.stored (c : Chip) (q n : Nat) (msg : List Byte) : Chip :=
  ((c.qStore q (c.qfld q 33 12) msg).setEntries q (c.entries q ++ [plainEntry n (c.qfld q 33 12) msg])).setQrec q { c.qrec q with rseq := (n + 1) % 2 ^ 16 }

/-- The expected DATA of an inbound queue with room that no round governs (R668). -/
theorem weirData_expected {c : Chip} {q src epoch n : Nat} {msg : List Byte} (hreject : c.weirReject q src epoch = none)
    (hn : n = (c.qrec q).rseq) (hfrozen : c.qFrozen q = false) (hroom : cellsUsed (c.entries q) + (msg.length + 15) / 16 + 1 ≤ c.qCells q)
    (hround : (((c.stored q n msg).qSync q).ackDue q).rndOfIn q = none) :
    c.weirData q src epoch n (0 :: 0 :: msg) = ((c.stored q n msg).qSync q).ackDue q := by
  have hserial := serialAfter_self n
  have hfence : ((0 :: 0 :: msg : List Byte).headD 0 == 1) = false := rfl
  have hroom' : c.qRoom q ((msg.length + 15) / 16) = some (c.qfld q 33 12) := if_pos hroom
  unfold Chip.stored plainEntry at *
  unfold Chip.weirData
  rw [hreject]
  simp only [← hn, hserial, hfrozen, hfence, parseData_plain, hroom', Chip.stampCase, Chip.stampNext, Option.map_none, Option.getD_none, Bool.false_eq_true, if_false,
    reduceCtorEq, hround]

/-- What such a message leaves. -/
theorem stored_spec {c : Chip} {q n : Nat} {msg : List Byte} (hin : c.qIn q = true) (hroom : cellsUsed (c.entries q) + (msg.length + 15) / 16 + 1 ≤ c.qCells q) :
    ∃ m w v, ((c.stored q n msg).qSync q).ackDue q = Chip.wr { c with mem := { c.mem with weir := m }, weir := w } (R.WEI_DESC q) v ∧
      c.Received q (c.entries q ++ [plainEntry n (c.qfld q 33 12) msg]) ((n + 1) % 2 ^ 16) w ∧
      (∀ i < msg.length, FMap.get 0 m (c.qAddr q (c.qfld q 33 12) i) = msg.getD i 0) ∧
      ∀ a, (∀ i < msg.length, a ≠ c.qAddr q (c.qfld q 33 12) i) → FMap.get 0 m a = FMap.get 0 c.mem.weir a := by
  obtain ⟨m, hstore, hput, hkept⟩ := qStore_spec (c := c) (q := q) (o := c.qfld q 33 12) (msg := msg) (by omega)
  have hin' : (c.stored q n msg).qIn q = true := by
    unfold Chip.stored
    rw [hstore]
    exact (qIn_congr rfl).trans ((qIn_setEntries _ q _).trans hin)
  obtain ⟨v, hv⟩ := setEntries_eq (c.qStore q (c.qfld q 33 12) msg) q (c.entries q ++ [plainEntry n (c.qfld q 33 12) msg])
  have hstored : c.stored q n msg = Chip.setQrec _ q _ := congrArg (fun x => Chip.setQrec x q { c.qrec q with rseq := (n + 1) % 2 ^ 16 }) hv
  rw [hstore] at hstored
  rw [hstored] at hin' ⊢
  obtain ⟨w, hw, hreceived⟩ := received_of_setQrec (c := c) (l := c.entries q ++ [plainEntry n (c.qfld q 33 12) msg])
    (x := { c.qrec q with rseq := (n + 1) % 2 ^ 16 }) hin' rfl rfl
  exact ⟨m, w, v, hw, hreceived, hput, hkept⟩

theorem does_weirData {s : State} {f : Frame} {q : Nat} {msg : List Byte} (hon : s.chip.domOn dWEI = true) (hkind : f.kind = 2)
    (hqueue : f.queue.toNat = q) (hfrag : fld f.flags.toNat 3 2 = 0) (hreject : s.chip.weirReject q f.src.toNat f.epoch.toNat = none)
    (hin : s.chip.qIn q = true) (hn : f.seq.toNat = (s.chip.qrec q).rseq) (hpay : f.payload = 0 :: 0 :: msg) (hfrozen : s.chip.qFrozen q = false)
    (hroom : cellsUsed (s.chip.entries q) + (msg.length + 15) / 16 + 1 ≤ s.chip.qCells q) (hround : s.chip.rndOfIn q = none) :
    Does (.weirDataReceive f) s (fun d => d.entries q = s.chip.entries q ++ [plainEntry f.seq.toNat (s.chip.qfld q 33 12) msg] ∧
      (d.qrec q).rseq = (f.seq.toNat + 1) % 2 ^ 16 ∧
      (∀ i < msg.length, FMap.get 0 d.mem.weir (s.chip.qAddr q (s.chip.qfld q 33 12) i) = msg.getD i 0) ∧
      (∀ a, (∀ i < msg.length, a ≠ s.chip.qAddr q (s.chip.qfld q 33 12) i) → FMap.get 0 d.mem.weir a = FMap.get 0 s.chip.mem.weir a) ∧
      { d.mem with weir := [] } = { s.chip.mem with weir := [] } ∧ q ∈ d.weir.ackDue ∧ s.chip.OtherQueues d q ∧
      s.chip.Keeps d [R.WEI_DESC q] (fun d => { d with weir := {}, mem := {} })) := by
  obtain ⟨hwhole, hdeliver⟩ := weirKind_whole hkind hfrag hon hpay (ks := [0, 1]) rfl
  obtain ⟨m, w, v, hchip, hreceived, hput, hkept⟩ := stored_spec (n := f.seq.toNat) hin hroom
  have hmoved : s.chip.Moved (((s.chip.stored q f.seq.toNat msg).qSync q).ackDue q) [R.WEI_DESC q] (fun d => { d with weir := {}, mem := {} }) := by
    rw [hchip]
    exact ((Chip.Moved.refl s.chip _ _).put (e := { s.chip with mem := { s.chip.mem with weir := m }, weir := w }) rfl rfl).wr (List.mem_singleton_self _) v
  have hnone := (hmoved.sameRounds (fun x hx => by rw [List.mem_singleton.mp hx]; exact .inr (by simp only [R.WEI_DESC]; omega))).rndOfIn_none hround
  have hdata := weirData_expected hreject hn hfrozen hroom hnone
  rw [← hqueue, ← hpay, hqueue] at hdata
  have hdo : s.chip.weirKind f [0, 1] = Chip.wr { s.chip with mem := { s.chip.mem with weir := m }, weir := w } (R.WEI_DESC q) v :=
    ((hwhole.trans hdeliver).trans (hqueue ▸ hdata)).trans hchip
  rw [hchip] at hmoved
  clear hchip hdata hnone
  exact does_of_lift (show exec (.weirDataReceive f) s = execWeirDataReceive f s from rfl) hdo
    ⟨hreceived.entries_self rfl, hreceived.rseq_self rfl, hput, hkept, rfl, hreceived.ackDue, hreceived.otherQueues rfl,
      hmoved.keeps (desc_not_level q) ⟨fun _ _ _ _ _ => rfl, fun _ => rfl, fun _ => rfl, fun _ => rfl, fun _ => rfl, fun _ => rfl, fun _ => rfl, fun _ => rfl⟩⟩

/-! ### SKIP (R677) -/

/-- The SKIP of the expected span with reason 1: a gap marker takes the span's place. -/
theorem weirSkip_expected {c : Chip} {q src epoch n span : Nat} (hreject : c.weirReject q src epoch = none) (hn : n = (c.qrec q).rseq) (hlt : n < 2 ^ 16)
    (hpos : 0 < span) (hspan : span < 2 ^ 15) :
    c.weirSkip q src epoch n (4 :: beBytes 2 span ++ [1]) =
      (((c.setQrec q { c.qrec q with rseq := (n + span) % 2 ^ 16 }).qGap q n span 2).qSync q).ackDue q := by
  obtain ⟨x, y, hxy⟩ : ∃ x y, beBytes 2 span = [x, y] := ⟨_, _, rfl⟩
  have hnum : beNat [x, y] = span := by rw [← hxy, beNat_beBytes_of_lt (by omega)]
  have hafter : serialAfter 16 ((n + span) % 2 ^ 16) n = true := (serialAfter_16 hlt).mpr (by omega)
  have hpart : ((n + span) % 2 ^ 16 + 2 ^ 16 - n) % 2 ^ 16 = span := by omega
  have htake : List.take 2 [x, y, 1] = [x, y] := rfl
  have hone : (1 : Byte).toNat = 1 := rfl
  unfold Chip.weirSkip
  rw [hreject, hxy]
  simp only [← hn, serialAfter_self, List.cons_append, List.nil_append, List.drop_succ_cons, List.drop_zero, List.headD_cons, htake, hnum, hafter, hpart, hone, Bool.not_true,
    Bool.false_eq_true, if_false, if_true]

/-- A gap marker behind a new record of its queue. -/
theorem qGap_spec (c : Chip) (q start span reason : Nat) (x : QRec) :
    let b := (c.setQrec q x).qGap q start span reason
    b.weir.entries = FMap.set [] c.weir.entries q (c.entries q ++ [{ kind := .gap reason span, seq := start, cell := c.qfld q 33 12 }]) ∧
    b.weir.qrec = FMap.set {} c.weir.qrec q x ∧ b.qIn q = c.qIn q ∧ b.rbit R.WEI_EVT 0 = true ∧ c.Rings b ∧
    c.Moved b [R.WEI_DESC q, R.WEI_EVT, R.DOORBELL_OVF] Chip.noWeirThreads := by
  intro b
  let e : WeirEntry := { kind := .gap reason span, seq := start, cell := c.qfld q 33 12 }
  obtain ⟨v, hv⟩ := setEntries_eq (c.setQrec q x) q (c.entries q ++ [e])
  have hin := qIn_setEntries (c.setQrec q x) q (c.entries q ++ [e])
  have hb : b = ((c.setQrec q x).setEntries q (c.entries q ++ [e])).event 8 R.WEI_EVT 1 := rfl
  rw [hv] at hb hin
  have hmoved := ((Chip.Moved.refl c [R.WEI_DESC q, R.WEI_EVT, R.DOORBELL_OVF] Chip.noWeirThreads).putWeir (fun _ _ => rfl)
    { (c.setQrec q x).weir with entries := FMap.set [] (c.setQrec q x).weir.entries q (c.entries q ++ [e]) }).wr (r := R.WEI_DESC q) (by simp) v
  generalize ha : Chip.wr { c.setQrec q x with weir := { (c.setQrec q x).weir with entries := FMap.set [] (c.setQrec q x).weir.entries q (c.entries q ++ [e]) } } (R.WEI_DESC q) v = a at hb hin
  have hentries : a.weir.entries = FMap.set [] c.weir.entries q (c.entries q ++ [e]) := by rw [← ha]; rfl
  have hrecs : a.weir.qrec = FMap.set {} c.weir.qrec q x := by rw [← ha]; rfl
  have hthreads : a.threads = c.threads := by rw [← ha]; rfl
  have ha' : c.Moved a [R.WEI_DESC q, R.WEI_EVT, R.DOORBELL_OVF] Chip.noWeirThreads := ha ▸ hmoved
  have hweir : b.weir = a.weir := by rw [hb, Chip.event_eq]
  refine ⟨hweir ▸ hentries, hweir ▸ hrecs, ?_, ?_, ?_, ?_⟩
  · rw [hb, qIn_congr (Chip.rd_event_other a 8 R.WEI_EVT 1 (ne_desc q (by decide)).symm (ne_desc q (by decide)).symm)]
    exact hin
  · rw [hb, Chip.rbit_event _ _ _ _ (by decide) (by decide)]
    exact Bool.or_true _
  · rw [hb]
    exact (Chip.Rings.of_threads hthreads).trans (a.rings_event 8 R.WEI_EVT 1)
  · rw [hb]
    exact ha'.event (r := R.WEI_EVT) (by simp) (by simp) (fun _ _ => rfl) 8 1

theorem gap_not_level (q : Nat) : ∀ r ∈ levelRegs, ∀ x ∈ [R.WEI_DESC q, R.WEI_EVT, R.DOORBELL_OVF], r.addr ≠ x.addr := by
  have hothers : ∀ r ∈ levelRegs, ∀ x ∈ [R.WEI_EVT, R.DOORBELL_OVF], r.addr ≠ x.addr := by decide
  intro r hr x hx
  rcases List.mem_cons.mp hx with rfl | hx
  · exact levelRegs_ne_desc q r hr
  · exact hothers r hr x hx

theorem does_weirSkip {s : State} {f : Frame} {q : Nat} {span : BitVec 16} (hon : s.chip.domOn dWEI = true) (hkind : f.kind = 2) (hqueue : f.queue.toNat = q)
    (hfrag : fld f.flags.toNat 3 2 = 0) (hreject : s.chip.weirReject q f.src.toNat f.epoch.toNat = none) (hin : s.chip.qIn q = true)
    (hn : f.seq.toNat = (s.chip.qrec q).rseq) (hpay : f.payload = 4 :: beBytes 2 span.toNat ++ [1]) (hpos : 0 < span.toNat) (hspan : span.toNat < 2 ^ 15) :
    Does (.weirSkipReceive f) s (fun d => (∃ e : WeirEntry, d.entries q = s.chip.entries q ++ [e] ∧ e.kind = .gap 2 span.toNat ∧ e.seq = f.seq.toNat) ∧
      (d.qrec q).rseq = (f.seq.toNat + span.toNat) % 2 ^ 16 ∧ q ∈ d.weir.ackDue ∧ bit (d.rd R.WEI_EVT) 0 = true ∧ s.chip.Rings d ∧
      s.chip.OtherQueues d q ∧ s.chip.Keeps d [R.WEI_DESC q, R.WEI_EVT, R.DOORBELL_OVF] Chip.noWeirThreads) := by
  subst hqueue
  obtain ⟨hwhole, hdeliver⟩ := weirKind_whole hkind hfrag hon hpay (ks := [4]) rfl
  have hskip : s.chip.weirKind f [4] = s.chip.weirSkip f.queue.toNat f.src.toNat f.epoch.toNat f.seq.toNat f.payload := hwhole.trans hdeliver
  rw [hpay, weirSkip_expected hreject hn f.seq.isLt hpos hspan] at hskip
  obtain ⟨hentries, hrecs, hin', hevt, hrings, hmoved⟩ := qGap_spec s.chip f.queue.toNat f.seq.toNat span.toNat 2
    { s.chip.qrec f.queue.toNat with rseq := (f.seq.toNat + span.toNat) % 2 ^ 16 }
  obtain ⟨b, hb⟩ : ∃ b, (s.chip.setQrec f.queue.toNat { s.chip.qrec f.queue.toNat with rseq := (f.seq.toNat + span.toNat) % 2 ^ 16 }).qGap f.queue.toNat f.seq.toNat span.toNat 2 = b := ⟨_, rfl⟩
  rw [hb] at hentries hrecs hin' hevt hrings hmoved hskip
  obtain ⟨w, hw, hreceived⟩ := received_of_setQrec (hin'.trans hin) hentries hrecs
  rw [hw] at hskip
  exact does_of_lift (show exec (.weirSkipReceive f) s = execWeirSkipReceive f s from rfl) hskip
    ⟨⟨_, hreceived.entries_self rfl, rfl, rfl⟩, hreceived.rseq_self rfl, hreceived.ackDue, hevt, hrings, hreceived.otherQueues rfl,
      (hmoved.putWeir (fun _ _ => rfl) w).keeps (gap_not_level _) levelBlank_noWeirThreads⟩

/-! ### ACK, NACK and the retransmission timeout at an outbound queue (R667) -/

/-- The ACK of a span that is outstanding. -/
theorem weirAck_expected {c : Chip} {q src n : Nat} (hen : c.qEn q = true) (hout : c.qOut q = true) (hnode : c.qNode q = src)
    (hafter : serialAfter 16 n (c.qrec q).rseq = true) (hupto : serialAfter 16 n (c.qrec q).sseq = false) :
    ∃ v m, c.weirAck q src n = Chip.wr { c with weir := m } (R.WEI_DESC q) v ∧
      m.entries = FMap.set [] c.weir.entries q ((c.entries q).filter (fun e => decide (e.kind ≠ .data ∧ e.kind ≠ .fence) || !serialAfter 16 n e.seq)) ∧
      m.qrec = FMap.set {} c.weir.qrec q { c.qrec q with rseq := n } := by
  have hvalid : (!c.qEn q || !c.qOut q || c.qNode q != src) = false := by
    rw [hen, hout, hnode, bne_self_eq_false]
    rfl
  obtain ⟨v, hv⟩ := setEntries_eq c q ((c.entries q).filter (fun e => decide (e.kind ≠ .data ∧ e.kind ≠ .fence) || !serialAfter 16 n e.seq))
  unfold Chip.weirAck Chip.fencesDone
  dsimp only
  rw [if_neg (by rw [hvalid]; decide), hafter, hupto, if_pos (show (true && !false) = true from rfl), List.filter_congr (q := fun e => decide (e.kind ≠ .data ∧ e.kind ≠ .fence) || !serialAfter 16 n e.seq), hv]
  · exact ⟨v, _, wr_setQrec_put c _ _ _ v q _, rfl, rfl⟩
  · intro e _
    cases e.kind <;> simp

/-- A command of the engine that ends with the ports' turn, where no port has a slot. -/
theorem does_of_pumped {s : State} {i : Instr} {f : Chip → Chip} {d : Chip} {P : Chip → Prop} (he : exec i s = s.lift f)
    (hclosed : s.chip.NoSlots) (hd : f s.chip = d.pumpAll) (htln : d.tln = s.chip.tln) (hP : P d.settle) : Does i s P :=
  does_of_lift he (hd.trans (hclosed.congr htln).pumpAll) hP

theorem does_weirAck {s : State} {f : Frame} {q : Nat} (hclosed : s.chip.NoSlots) (hon : s.chip.domOn dWEI = true) (hkind : f.kind = 2) (hqueue : f.queue.toNat = q)
    (hfrag : fld f.flags.toNat 3 2 = 0) (hen : s.chip.qEn q = true) (hnode : s.chip.qNode q = f.src.toNat) (hout : s.chip.qOut q = true)
    (hpay : f.payload = [2]) (hafter : serialAfter 16 f.seq.toNat (s.chip.qrec q).rseq = true) (hupto : serialAfter 16 f.seq.toNat (s.chip.qrec q).sseq = false) :
    Does (.weirAckReceive f) s (fun d => (d.qrec q).rseq = f.seq.toNat ∧
      d.entries q = (s.chip.entries q).filter (fun e => decide (e.kind ≠ .data ∧ e.kind ≠ .fence) || !serialAfter 16 f.seq.toNat e.seq) ∧
      s.chip.OtherQueues d q ∧ s.chip.Keeps d [R.WEI_DESC q] Chip.noWeir) := by
  subst hqueue
  obtain ⟨hwhole, hdeliver⟩ := weirKind_whole hkind hfrag hon hpay (ks := [2]) rfl
  obtain ⟨v, m, hm, hentries, hrecs⟩ := weirAck_expected hen hout hnode hafter hupto
  have hmoved := ((Chip.Moved.refl s.chip [R.WEI_DESC f.queue.toNat] Chip.noWeir).putWeir (fun _ _ => rfl) m).wr (List.mem_singleton_self _) v
  refine does_of_pumped (show exec (.weirAckReceive f) s = execWeirAckReceive f s from rfl) hclosed (congrArg Chip.pumpAll ((hwhole.trans hdeliver).trans hm)) rfl
    ⟨?_, ?_, fun k hk => ⟨?_, ?_⟩, hmoved.keeps (desc_not_level _) levelBlank_noWeir⟩
  · exact congrArg QRec.rseq ((congrArg (FMap.get {} · _) hrecs).trans (FMap.get_set_self _ _ _ _))
  · exact (congrArg (FMap.get [] · _) hentries).trans (FMap.get_set_self _ _ _ _)
  · exact (congrArg (FMap.get [] · k) hentries).trans (FMap.get_set_other _ _ _ _ _ _ hk)
  · exact (congrArg (FMap.get {} · k) hrecs).trans (FMap.get_set_other _ _ _ _ _ _ hk)

/-- The queue sends again from `n`: nothing else of it changes. -/
theorem does_sendAgain {s : State} {i : Instr} {f : Chip → Chip} {q n : Nat} {m : FMap Nat} (he : exec i s = s.lift f) (hclosed : s.chip.NoSlots)
    (hd : f s.chip = Chip.pumpAll { s.chip with weir := { s.chip.weir with txNext := m } }) (hm : FMap.get 0 m q = n) :
    Does i s (fun d => FMap.get 0 d.weir.txNext q = n ∧ d.entries q = s.chip.entries q ∧ d.qrec q = s.chip.qrec q ∧ s.chip.OtherQueues d q ∧
      s.chip.Keeps d [] Chip.noWeir) :=
  does_of_pumped he hclosed hd rfl ⟨hm, rfl, rfl, fun _ _ => ⟨rfl, rfl⟩,
    ((Chip.Moved.refl s.chip [] Chip.noWeir).putWeir (fun _ _ => rfl) { s.chip.weir with txNext := m }).keeps (by simp) levelBlank_noWeir⟩

theorem does_weirNack {s : State} {f : Frame} {q : Nat} (hclosed : s.chip.NoSlots) (hon : s.chip.domOn dWEI = true) (hkind : f.kind = 2) (hqueue : f.queue.toNat = q)
    (hfrag : fld f.flags.toNat 3 2 = 0) (hen : s.chip.qEn q = true) (hnode : s.chip.qNode q = f.src.toNat) (hout : s.chip.qOut q = true)
    (hpay : f.payload = [3]) (hfrom : serialAfter 16 (s.chip.qrec q).rseq f.seq.toNat = false) (hupto : serialAfter 16 f.seq.toNat (s.chip.qrec q).sseq = false) :
    Does (.weirNackReceive f) s (fun d => FMap.get 0 d.weir.txNext q = f.seq.toNat ∧ d.entries q = s.chip.entries q ∧ d.qrec q = s.chip.qrec q ∧
      s.chip.OtherQueues d q ∧ s.chip.Keeps d [] Chip.noWeir) := by
  subst hqueue
  obtain ⟨hwhole, hdeliver⟩ := weirKind_whole hkind hfrag hon hpay (ks := [3]) rfl
  have hvalid : (!s.chip.qEn f.queue.toNat || !s.chip.qOut f.queue.toNat || s.chip.qNode f.queue.toNat != f.src.toNat) = false := by
    rw [hen, hout, hnode, bne_self_eq_false]
    rfl
  have hnack : s.chip.weirNack f.queue.toNat f.src.toNat f.seq.toNat =
      { s.chip with weir := { s.chip.weir with txNext := FMap.set 0 s.chip.weir.txNext f.queue.toNat f.seq.toNat } } := by
    unfold Chip.weirNack
    dsimp only
    rw [if_neg (by rw [hvalid]; decide), hfrom, hupto]
    rfl
  exact does_sendAgain (show exec (.weirNackReceive f) s = execWeirNackReceive f s from rfl) hclosed (congrArg Chip.pumpAll ((hwhole.trans hdeliver).trans hnack)) (FMap.get_set_self _ _ _ _)

theorem does_weirTimeout {s : State} {q : Fin 16384} (hclosed : s.chip.NoSlots) (hen : s.chip.qEn q = true) (hout : s.chip.qOut q = true)
    (hpresent : s.chip.present (s.chip.qNode q) = true) :
    Does (.weirRetransmitTimeout q) s (fun d => FMap.get 0 d.weir.txNext q = (s.chip.qrec q).rseq ∧ d.entries q = s.chip.entries q ∧ d.qrec q = s.chip.qrec q ∧
      s.chip.OtherQueues d q ∧ s.chip.Keeps d [] Chip.noWeir) := by
  have htimeout : ∃ m, s.chip.weirTimeout q = { s.chip with weir := { s.chip.weir with txNext := m } } ∧ FMap.get 0 m q.val = (s.chip.qrec q).rseq := by
    unfold Chip.weirTimeout
    rw [hen, hout]
    split
    case isTrue => exact ⟨_, rfl, FMap.get_set_self _ _ _ _⟩
    case isFalse h => exact ⟨s.chip.weir.txNext, rfl, (by simpa using h : (s.chip.qrec q).rseq = _).symm⟩
  obtain ⟨m, hm, hnext⟩ := htimeout
  exact does_sendAgain (show exec (.weirRetransmitTimeout q) s = execWeirRetransmitTimeout q s from rfl) hclosed
    ((if_pos hpresent).trans (congrArg Chip.pumpAll hm)) hnext

/-! ### ACKs that are due (R669) -/

theorem setPort_self (c : Chip) (p : Nat) (x : PortSt) : (c.setPort p x).port p = x := FMap.get_set_self _ _ _ _

theorem setPort_other (c : Chip) {p k : Nat} (x : PortSt) (h : k ≠ p) : (c.setPort p x).port k = c.port k := FMap.get_set_other _ _ _ _ _ _ h

/-- A port's state replaced opens no slot unless it does itself. -/
theorem Chip.NoSlots.setPort {c : Chip} (h : c.NoSlots) {p : Nat} {x : PortSt} (hx : x.slot = (c.port p).slot) : (c.setPort p x).NoSlots := by
  intro k hk
  by_cases hkp : k = p
  · rw [hkp, setPort_self, hx]
    exact h p (hkp ▸ hk)
  · rw [setPort_other c x hkp]
    exact h k hk

/-- A number in a bit vector that is wide enough for it. -/
theorem toNat_ofNat_fld (v lo w : Nat) : (BitVec.ofNat w (fld v lo w)).toNat = fld v lo w := by
  rw [BitVec.toNat_ofNat, Nat.mod_eq_of_lt (fld_lt v lo w)]

theorem does_weirAckSend {s : State} {q : Fin 16384} (hclosed : s.chip.NoSlots) (hdue : q.val ∈ s.chip.weir.ackDue) :
    Does (.weirAckSend q) s (fun d => q.val ∉ d.weir.ackDue ∧
      (∃ g : Frame, (d.port (s.chip.qPort q - 1)).origin = (s.chip.port (s.chip.qPort q - 1)).origin ++ [g] ∧ g.kind = 2 ∧ g.payload = [2] ∧
        g.dst.toNat = s.chip.qNode q ∧ g.queue.toNat = s.chip.qChan q ∧ g.seq = BitVec.ofNat 16 (s.chip.qrec q).rseq) ∧
      s.chip.Keeps d [] (fun d => { d with weir := {}, tln := {} })) := by
  let b : Chip := { s.chip with weir := { s.chip.weir with ackDue := s.chip.weir.ackDue.filter (· != q.val) } }
  let g := s.chip.weirFrame q (s.chip.qrec q).rseq [2] 0
  let p := s.chip.qPort q - 1
  have hsend : s.chip.ackSend q = b.setPort p { s.chip.port p with origin := (s.chip.port p).origin ++ [g] } := by
    unfold Chip.ackSend
    exact if_pos (List.contains_iff_mem.mpr hdue)
  have hmoved : s.chip.Moved (b.setPort p { s.chip.port p with origin := (s.chip.port p).origin ++ [g] }) [] (fun d => { d with weir := {}, tln := {} }) :=
    (Chip.Moved.refl _ _ _).put rfl rfl
  have hopen : (b.setPort p { s.chip.port p with origin := (s.chip.port p).origin ++ [g] }).NoSlots := Chip.NoSlots.setPort (hclosed.congr (d := b) rfl) rfl
  have hnot : q.val ∉ b.weir.ackDue := by simp [b]
  refine does_of_lift (show exec (.weirAckSend q) s = execWeirAckSend q s from rfl) ((congrArg Chip.pumpAll hsend).trans hopen.pumpAll)
    ⟨hnot, ⟨g, congrArg PortSt.origin (setPort_self b p _), rfl, rfl, toNat_ofNat_fld _ _ _, toNat_ofNat_fld _ _ _, rfl⟩,
      hmoved.keeps (by simp) ⟨fun _ _ _ _ _ => rfl, fun _ => rfl, fun _ => rfl, fun _ => rfl, fun _ => rfl, fun _ => rfl, fun _ => rfl, fun _ => rfl⟩⟩

theorem weirFrames : Parts.WeirFrames := by
  intro s q f msg span hon hclosed c r n cell only hkind hqueue hfrag hen hnode
  refine ⟨fun hin hepoch hn => ?_, fun hout => ⟨?_, ?_, ?_⟩, fun hdue _ => does_weirAckSend hclosed hdue⟩
  · have hreject := weirReject_none hen hin hnode hepoch
    exact ⟨fun hpay hfrozen hroom hround => does_weirData hon hkind hqueue hfrag hreject hin hn hpay hfrozen hroom hround,
      fun hpay hpos hspan _ => does_weirSkip hon hkind hqueue hfrag hreject hin hn hpay hpos hspan⟩
  · exact fun hpay hafter hupto => does_weirAck hclosed hon hkind hqueue hfrag hen hnode hout hpay hafter hupto
  · exact fun hpay hfrom hupto => does_weirNack hclosed hon hkind hqueue hfrag hen hnode hout hpay hfrom hupto
  · exact fun hpresent => does_weirTimeout hclosed hen hout hpresent

/-! ### A mask of partners -/

/-- The mask of the numbers below `n` that satisfy `p`. -/
def maskOf (p : Nat → Bool) (n : Nat) : Nat := ((List.range n).filter p).foldl (fun a i => a + 2 ^ i) 0

theorem maskOf_succ (p : Nat → Bool) (n : Nat) : maskOf p (n + 1) = maskOf p n + if p n then 2 ^ n else 0 := by
  unfold maskOf
  rw [List.range_succ, List.filter_append, List.foldl_append]
  by_cases h : p n = true <;> simp [h]

theorem maskOf_lt (p : Nat → Bool) (n : Nat) : maskOf p n < 2 ^ n := by
  induction n with
  | zero => exact Nat.one_pos
  | succ n ih =>
    rw [maskOf_succ, pow_succ]
    split <;> omega

theorem bit_maskOf (p : Nat → Bool) (n i : Nat) : bit (maskOf p n) i = (decide (i < n) && p i) := by
  rw [bit_eq_testBit]
  induction n with
  | zero => simp [maskOf]
  | succ n ih =>
    have hlt := maskOf_lt p n
    rw [maskOf_succ]
    by_cases hp : p n = true
    · rw [if_pos hp, Nat.add_comm]
      rcases Nat.lt_trichotomy i n with hi | rfl | hi
      · rw [Nat.testBit_two_pow_add_gt hi, ih]
        simp [hi, Nat.lt_succ_of_lt hi]
      · rw [Nat.testBit_two_pow_add_eq, Nat.testBit_lt_two_pow hlt, hp]
        simp
      · have hsmall : 2 ^ n + maskOf p n < 2 ^ i := calc
          2 ^ n + maskOf p n < 2 ^ (n + 1) := by rw [pow_succ]; omega
          _ ≤ 2 ^ i := Nat.pow_le_pow_right (by decide) hi
        rw [Nat.testBit_lt_two_pow hsmall]
        simp [show ¬ i < n + 1 from by omega]
    · rw [if_neg hp, Nat.add_zero, ih]
      by_cases hi : i = n
      · simp [hi, hp]
      · simp [show i < n + 1 ↔ i < n from by omega]

/-! ### The close of an input window (R682) -/

/-- With no substitute in the descriptor nothing is stored for the partners missing. -/
theorem rndSynthetic_none {c : Chip} {r : Nat} (h : c.rfld (R.RND_CTRL r) 3 2 = 0) (l : List Nat) : l.foldl (fun c i => c.rndSynthetic r i) c = c := by
  have hone (i : Nat) : c.rndSynthetic r i = c := if_pos h
  induction l with
  | nil => rfl
  | cons i l ih => rw [List.foldl_cons, hone, ih]

/-- A round's window closed with nothing stored. -/
def Chip.rndClosed (c : Chip) (r : Nat) : Chip :=
  (c.wr (R.RND_MISSING r) (maskOf (fun i => !c.rbit (R.RND_PRESENT r) i) (c.rndParts r))).wr (R.RND_STATE r) 2

theorem rndClose_eq {c : Chip} {r : Nat} (hen : c.rndEn r = true) (hstate : c.rd (R.RND_STATE r) = 1) (hsub : c.rfld (R.RND_CTRL r) 3 2 = 0) :
    c.rndClose r = (c.rndClosed r).rndBell r 1 := by
  have hctrl : ∀ x, (c.wr (R.RND_MISSING r) x).rfld (R.RND_CTRL r) 3 2 = 0 := fun x => by
    rw [Chip.rfld, Chip.rd_wr_other _ _ _ _ (by simp [R.RND_CTRL, R.RND_MISSING])]
    exact hsub
  unfold Chip.rndClose Chip.rndClosed maskOf
  rw [hen, hstate]
  dsimp only
  rw [if_pos (by decide), rndSynthetic_none (hctrl _)]

/-- The owner's doorbell (R681), to a thread with none, is `b`. -/
theorem doorbells_doorbell {c : Chip} {t : Nat} (hempty : (c.thr t).doorbells = []) (hcpu : c.domOn dCPU = true) (b : Byte) :
    ((c.doorbell t b).1.thr t).doorbells = [b] := by
  have hroom : (c.thr t).doorbells.length < 8 := by rw [hempty]; decide
  unfold Chip.doorbell
  dsimp only
  rw [hcpu, if_neg (by decide), if_pos hroom, Chip.thr_setThr_self, hempty]
  rfl

theorem rnd_not_level (r : Nat) (hr : r < 32) : ∀ q ∈ levelRegs, ∀ x ∈ [R.RND_STATE r, R.RND_MISSING r, R.DOORBELL_OVF], q.addr ≠ x.addr := by
  have hout : ∀ q ∈ levelRegs, (q.addr < 0x807800 ∨ 0x808000 ≤ q.addr) ∧ q.addr ≠ R.DOORBELL_OVF.addr := by decide
  intro q hq x hx
  obtain ⟨hrange, hovf⟩ := hout q hq
  rcases List.mem_cons.mp hx with rfl | hx
  · simp only [R.RND_STATE]
    omega
  · rcases List.mem_cons.mp hx with rfl | hx
    · simp only [R.RND_MISSING]
      omega
    · rw [List.mem_singleton.mp hx]
      exact hovf

theorem rndClosed_spec (c : Chip) (r : Nat) :
    (c.rndClosed r).rd (R.RND_STATE r) = 2 ∧
    (∀ i < 16, bit ((c.rndClosed r).rd (R.RND_MISSING r)) i = (decide (i < c.rndParts r) && !c.rbit (R.RND_PRESENT r) i)) ∧
    (c.rndClosed r).rndOwner r = c.rndOwner r ∧ (c.rndClosed r).rd (R.RND_DB r) = c.rd (R.RND_DB r) ∧
    c.Moved (c.rndClosed r) [R.RND_STATE r, R.RND_MISSING r, R.DOORBELL_OVF] Chip.noThreads := by
  have hmask := bit_maskOf (fun i => !c.rbit (R.RND_PRESENT r) i) (c.rndParts r)
  unfold Chip.rndClosed
  obtain ⟨x, hx⟩ : ∃ x, maskOf (fun i => !c.rbit (R.RND_PRESENT r) i) (c.rndParts r) = x := ⟨_, rfl⟩
  rw [hx] at hmask ⊢
  have hother : ∀ q : Reg, q.addr ≠ (R.RND_STATE r).addr → q.addr ≠ (R.RND_MISSING r).addr → ((c.wr (R.RND_MISSING r) x).wr (R.RND_STATE r) 2).rd q = c.rd q :=
    fun q hs hm => by rw [Chip.rd_wr_other _ _ _ _ hs, Chip.rd_wr_other _ _ _ _ hm]
  refine ⟨Chip.rd_wr_self _ (R.RND_STATE r) 2, fun i hi => ?_, ?_, hother _ (by simp [R.RND_DB, R.RND_STATE]) (by simp [R.RND_DB, R.RND_MISSING]), ?_⟩
  · rw [Chip.rd_wr_other _ _ _ _ (by simp [R.RND_STATE, R.RND_MISSING]), Chip.rd_wr_self, bit_mod_256_pow _ hi]
    exact hmask i
  · rw [Chip.rndOwner, Chip.rfld, hother _ (by simp [R.RND_OWNER, R.RND_STATE]) (by simp [R.RND_OWNER, R.RND_MISSING])]
    rfl
  · exact ((Chip.Moved.refl c _ _).wr (r := R.RND_MISSING r) (by simp) x).wr (r := R.RND_STATE r) (by simp) 2

theorem does_rndClose {s : State} {r : Fin 32} (hen : s.chip.rndEn r = true) (hstate : s.chip.rd (R.RND_STATE r) = 1) (hsub : s.chip.rfld (R.RND_CTRL r) 3 2 = 0) :
    Does (.roundWindowClose r) s (fun d => d.rd (R.RND_STATE r) = 2 ∧
      (∀ i < 16, bit (d.rd (R.RND_MISSING r)) i = (decide (i < s.chip.rndParts r) && !s.chip.rbit (R.RND_PRESENT r) i)) ∧ s.chip.Rings d ∧
      ((s.chip.thr (s.chip.rndOwner r)).doorbells = [] → s.chip.domOn dCPU = true →
        (d.thr (s.chip.rndOwner r)).doorbells = [BitVec.ofNat 8 (s.chip.rd (R.RND_DB r) + 1)]) ∧
      s.chip.Keeps d [R.RND_STATE r, R.RND_MISSING r, R.DOORBELL_OVF] Chip.noThreads) := by
  obtain ⟨hdone, hmissing, howner, hdb, hmoved⟩ := rndClosed_spec s.chip r
  have hdo : s.chip.rndClose r = _ := rndClose_eq hen hstate hsub
  have hthreads : (s.chip.rndClosed r).threads = s.chip.threads := rfl
  have hcpu : (s.chip.rndClosed r).domOn dCPU = s.chip.domOn dCPU := rfl
  unfold Chip.rndBell at hdo
  rw [howner, hdb] at hdo
  obtain ⟨b, hb⟩ : ∃ b, s.chip.rndClosed r = b := ⟨_, rfl⟩
  rw [hb] at hdone hmissing hmoved hdo hthreads hcpu
  have hovf : ∀ q : Reg, q = R.RND_STATE r ∨ q = R.RND_MISSING r → q.addr ≠ R.DOORBELL_OVF.addr := by
    rintro q (rfl | rfl) <;> simp only [R.RND_STATE, R.RND_MISSING, R.DOORBELL_OVF] <;> omega
  refine does_of_lift (show exec (.roundWindowClose r) s = execRoundWindowClose r s from rfl) hdo ⟨?_, fun i hi => ?_, ?_, fun hempty hon => ?_, ?_⟩
  · exact (Chip.rd_doorbell b _ _ (hovf _ (.inl rfl))).trans hdone
  · exact (congrArg (bit · i) (Chip.rd_doorbell b _ _ (hovf _ (.inr rfl)))).trans (hmissing i hi)
  · exact (Chip.Rings.of_threads hthreads).trans (b.rings_doorbell _ _)
  · exact doorbells_doorbell ((congrArg (fun l => (FMap.get ({} : ThreadSt) l (s.chip.rndOwner r)).doorbells) hthreads).trans hempty) (hcpu.trans hon) _
  · exact (hmoved.doorbell (by simp) (fun _ _ => rfl) _ _).keeps (rnd_not_level r r.isLt) levelBlank_noThreads

/-! ### Expiry of a lone partner's output (R686) -/

/-- The expired run at the head of an output is discarded, and its SKIP becomes due. -/
theorem rndExpireOut_eq {c : Chip} {r i q n : Nat} {e : WeirEntry} {l : List WeirEntry} (hq : c.rndOut r i = q) (hen : c.qEn q = true) (hout : c.qOut q = true)
    (hentries : c.entries q = e :: l) (hn : expiredRun (c.wheelTurn (c.rndWheel r)) (e :: l) = n) (hpos : 0 < n) :
    ∃ v m x, c.rndExpireOut r i = ((Chip.wr { c with weir := m } (R.WEI_DESC q) v).wbit (R.RND_NOTAPPLIED r) i true).wr (R.RND_NARND r) x ∧
      m.entries = FMap.set [] c.weir.entries q ((e :: l).drop n) ∧ m.qrec = FMap.set {} c.weir.qrec q { c.qrec q with rseq := (e.seq + n) % 2 ^ 16 } ∧
      m.skipDue = c.weir.skipDue ++ [(q, e.seq, n, 2)] := by
  obtain ⟨v, hv⟩ := setEntries_eq c q ((e :: l).drop n)
  unfold Chip.rndExpireOut
  dsimp only
  rw [hq, hen, hout, hentries, hn, if_neg (by decide), if_neg (by omega), hv]
  exact ⟨v, _, _, congrArg (fun b : Chip => (b.wbit (R.RND_NOTAPPLIED r) i true).wr (R.RND_NARND r) _) (wr_setQrec_put c _ _ _ v q _), rfl, rfl, rfl⟩

theorem expiry_not_level {q r : Nat} (hr : r < 32) :
    ∀ y ∈ levelRegs, ∀ x ∈ [R.WEI_DESC q, R.RND_NOTAPPLIED r, R.RND_NARND r, R.WEI_EVT, R.DOORBELL_OVF], y.addr ≠ x.addr := by
  have hout : ∀ y ∈ levelRegs, (y.addr < 0x807800 ∨ 0x808000 ≤ y.addr) ∧ ∀ x ∈ [R.WEI_EVT, R.DOORBELL_OVF], y.addr ≠ x.addr := by decide
  intro y hy x hx
  obtain ⟨hrange, hothers⟩ := hout y hy
  rcases List.mem_cons.mp hx with rfl | hx
  · exact levelRegs_ne_desc q y hy
  rcases List.mem_cons.mp hx with rfl | hx
  · simp only [R.RND_NOTAPPLIED]
    omega
  rcases List.mem_cons.mp hx with rfl | hx
  · simp only [R.RND_NARND]
    omega
  · exact hothers x hx

/-- The outputs' expiry under way: NOTAPPLIED cleared. -/
theorem expiring_spec (c : Chip) {r q : Nat} (hr : r < 32) :
    let b := c.wr (R.RND_NOTAPPLIED r) 0
    b.rndOut r 0 = c.rndOut r 0 ∧ b.rndWheel r = c.rndWheel r ∧ b.qEn q = c.qEn q ∧ b.qOut q = c.qOut q := by
  intro b
  have hother : ∀ x : Reg, x.addr ≠ (R.RND_NOTAPPLIED r).addr → b.rd x = c.rd x := fun x hx => Chip.rd_wr_other _ _ _ _ hx
  have hdesc : b.rd (R.WEI_DESC q) = c.rd (R.WEI_DESC q) := hother _ (ne_desc q (by simp only [R.RND_NOTAPPLIED]; omega)).symm
  refine ⟨?_, ?_, ?_, ?_⟩
  · rw [Chip.rndOut, hother _ (by simp [R.RND_QOUT, R.RND_NOTAPPLIED])]
    rfl
  · rw [Chip.rndWheel, Chip.rfld, hother _ (by simp [R.RND_CTRL, R.RND_NOTAPPLIED])]
    rfl
  · rw [Chip.qEn, Chip.rbit, hdesc]
    rfl
  · simp only [Chip.qOut, Chip.qPort, Chip.qfld, Chip.rfld, Chip.rbit, hdesc]

theorem phase_wr {c : Chip} {r : Reg} (hr : 0x807800 ≤ r.addr) {v n : Nat} : (c.wr r v).phase n = c.phase n := by
  have hother : ∀ x : Reg, x.addr < 0x807800 → (c.wr r v).rd x = c.rd x := fun x hx => Chip.rd_wr_other _ _ _ _ (by omega)
  unfold Chip.phase
  rw [hother R.W1_DIV (by decide), hother R.SYS_TIME (by decide), hother R.W1_EPOCH (by decide)]
  rfl

/-- The registers and the state of Weir once the run has been discarded. -/
structure Chip.Expired (c : Chip) (r q n : Nat) (e : WeirEntry) (l : List WeirEntry) (b : Chip) : Prop where
  entries : b.weir.entries = FMap.set [] c.weir.entries q ((e :: l).drop n)
  recs : b.weir.qrec = FMap.set {} c.weir.qrec q { c.qrec q with rseq := (e.seq + n) % 2 ^ 16 }
  skipDue : b.weir.skipDue = c.weir.skipDue ++ [(q, e.seq, n, 2)]
  threads : b.threads = c.threads
  notApplied : b.rbit (R.RND_NOTAPPLIED r) 0 = true
  moved : c.Moved b [R.WEI_DESC q, R.RND_NOTAPPLIED r, R.RND_NARND r, R.WEI_EVT, R.DOORBELL_OVF] Chip.noWeirThreads

theorem expired_spec {c : Chip} {r q n : Nat} {e : WeirEntry} {l : List WeirEntry} (hr : r < 32) (hen : c.rndEn r = true) (hparts : c.rndParts r = 1)
    (hq : c.rndOut r 0 = q) (hqen : c.qEn q = true) (hout : c.qOut q = true) (hentries : c.entries q = e :: l)
    (hn : expiredRun (c.wheelTurn (c.rndWheel r)) (e :: l) = n) (hpos : 0 < n) :
    ∃ b, c.rndExpiry r = (b.rndBell r 2).event 8 R.WEI_EVT 4 ∧ c.Expired r q n e l b := by
  obtain ⟨hq', hwheel, hqen', hout'⟩ := expiring_spec c (q := q) hr
  have hturn : (c.wr (R.RND_NOTAPPLIED r) 0).wheelTurn ((c.wr (R.RND_NOTAPPLIED r) 0).rndWheel r) = c.wheelTurn (c.rndWheel r) := by
    rw [hwheel, Chip.wheelTurn, phase_wr (by simp only [R.RND_NOTAPPLIED]; omega), Chip.wheelTurn]
  obtain ⟨v, m, x, hexp, hm⟩ := rndExpireOut_eq (hq'.trans hq) (hqen'.trans hqen) (hout'.trans hout) hentries (by rw [hturn]; exact hn) hpos
  obtain ⟨hmentries, hmrecs, hmskip⟩ := hm
  have hexpiry : c.rndExpiry r = (((c.wr (R.RND_NOTAPPLIED r) 0).rndExpireOut r 0).rndBell r 2).event 8 R.WEI_EVT 4 := by
    unfold Chip.rndExpiry
    rw [hen, hparts]
    simp only [List.range_one, List.any_cons, List.any_nil, List.foldl_cons, List.foldl_nil, hq, hqen, hout, hentries, hn, hpos, decide_true, Bool.and_self, Bool.or_false,
      Bool.not_true, Bool.false_eq_true, if_false, if_true]
  refine ⟨_, hexpiry, ?_⟩
  rw [hexp]
  refine ⟨hmentries, hmrecs, hmskip, rfl, ?_, ?_⟩
  · rw [Chip.rbit, Chip.rd_wr_other _ _ _ _ (by simp [R.RND_NOTAPPLIED, R.RND_NARND])]
    exact (Chip.rbit_wbit (r := R.RND_NOTAPPLIED r) _ 0 true (j := 0) (by simp [R.RND_NOTAPPLIED])).trans (if_pos rfl)
  · exact ((((Chip.Moved.refl c _ _).wr (r := R.RND_NOTAPPLIED r) (by simp) 0).putWeir (fun _ _ => rfl) m).wr (r := R.WEI_DESC q) (by simp) v).wbit (r := R.RND_NOTAPPLIED r) (by simp) 0 true
      |>.wr (r := R.RND_NARND r) (by simp) x

theorem does_rndExpiry {s : State} {r : Fin 32} {q n : Nat} {e : WeirEntry} {l : List WeirEntry} (hen : s.chip.rndEn r = true) (hparts : s.chip.rndParts r = 1)
    (hq : s.chip.rndOut r 0 = q) (hqen : s.chip.qEn q = true) (hout : s.chip.qOut q = true) (hentries : s.chip.entries q = e :: l)
    (hn : expiredRun (s.chip.wheelTurn (s.chip.rndWheel r)) (e :: l) = n) (hpos : 0 < n) :
    Does (.roundExpiry r) s (fun d => d.entries q = (e :: l).drop n ∧ (d.qrec q).rseq = (e.seq + n) % 2 ^ 16 ∧
      d.weir.skipDue = s.chip.weir.skipDue ++ [(q, e.seq, n, 2)] ∧ d.rbit (R.RND_NOTAPPLIED r) 0 = true ∧ bit (d.rd R.WEI_EVT) 2 = true ∧
      s.chip.OtherQueues d q ∧ s.chip.Rings d ∧
      s.chip.Keeps d [R.WEI_DESC q, R.RND_NOTAPPLIED r, R.RND_NARND r, R.WEI_EVT, R.DOORBELL_OVF] Chip.noWeirThreads) := by
  obtain ⟨b, hdo, hentries', hrecs, hskip, hthreads, hnot, hmoved⟩ := expired_spec r.isLt hen hparts hq hqen hout hentries hn hpos
  have hbell : (b.rndBell r 2).weir = b.weir := by
    unfold Chip.rndBell
    rw [Chip.doorbell_eq]
  have hrings : s.chip.Rings (b.rndBell r 2) := (Chip.Rings.of_threads hthreads).trans (b.rings_doorbell _ _)
  have hnot' : (b.rndBell r 2).rbit (R.RND_NOTAPPLIED r) 0 = true := (congrArg (bit · 0) (Chip.rd_doorbell b _ _ (by simp only [R.RND_NOTAPPLIED, R.DOORBELL_OVF]; omega))).trans hnot
  have hmoved' : s.chip.Moved (b.rndBell r 2) _ _ := hmoved.doorbell (by simp) (fun _ _ => rfl) _ _
  obtain ⟨a, ha⟩ : ∃ a, b.rndBell r 2 = a := ⟨_, rfl⟩
  rw [ha] at hbell hrings hnot' hmoved' hdo
  have hweir : (a.event 8 R.WEI_EVT 4).weir = b.weir := by rw [Chip.event_eq, ← hbell]
  have hevt : (a.event 8 R.WEI_EVT 4).rbit R.WEI_EVT 2 = true := by
    rw [Chip.rbit_event _ _ _ _ (by decide) (by decide)]
    exact Bool.or_true _
  have hnot'' : (a.event 8 R.WEI_EVT 4).rbit (R.RND_NOTAPPLIED r) 0 = true := (congrArg (bit · 0) (Chip.rd_event_other a 8 R.WEI_EVT 4
    (by simp only [R.RND_NOTAPPLIED, R.WEI_EVT]; omega) (by simp only [R.RND_NOTAPPLIED, R.DOORBELL_OVF]; omega))).trans hnot'
  have hrings' := hrings.trans (a.rings_event 8 R.WEI_EVT 4)
  have hmoved'' := hmoved'.event (r := R.WEI_EVT) (by simp) (by simp) (fun _ _ => rfl) 8 4
  obtain ⟨d, hd⟩ : ∃ d, a.event 8 R.WEI_EVT 4 = d := ⟨_, rfl⟩
  rw [hd] at hweir hevt hnot'' hrings' hmoved'' hdo
  rw [← hweir] at hentries' hrecs hskip
  refine does_of_lift (show exec (.roundExpiry r) s = execRoundExpiry r s from rfl) hdo
    ⟨?_, ?_, hskip, hnot'', hevt, fun k hk => ⟨?_, ?_⟩, hrings', hmoved''.keeps (expiry_not_level r.isLt) levelBlank_noWeirThreads⟩
  · exact (congrArg (FMap.get [] · _) hentries').trans (FMap.get_set_self _ _ _ _)
  · exact congrArg QRec.rseq ((congrArg (FMap.get {} · _) hrecs).trans (FMap.get_set_self _ _ _ _))
  · exact (congrArg (FMap.get [] · k) hentries').trans (FMap.get_set_other _ _ _ _ _ _ hk)
  · exact (congrArg (FMap.get {} · k) hrecs).trans (FMap.get_set_other _ _ _ _ _ _ hk)

theorem rounds : Parts.Rounds := fun _ _ _ _ =>
  ⟨fun hen hstate hsub => does_rndClose hen hstate hsub, fun hen hparts hqen hout hentries hpos => does_rndExpiry hen hparts rfl hqen hout hentries rfl hpos⟩

/-- Settles O55: the expected frame, acknowledgement or span changes its own queue alone; a window's close marks the partners missing, an expiry discards a run. -/
theorem weirDelivery : Obligations.WeirDelivery := ⟨weirFrames, rounds⟩

end Sys2Proof.Machine
end

section
/-!
PROOFS. The hop layer and orders over the string (15 R700 to R718, R735 to R739).
-/
namespace Sys2Proof.Machine

/-! ### A change of one port -/

/-- Blanks the link layer; blanks the link layer and the threads. -/
def Chip.noTln (d : Chip) : Chip := { d with tln := {} }
def Chip.noTlnThreads (d : Chip) : Chip := { d with tln := {}, threads := [] }

theorem levelBlank_noTln : LevelBlank Chip.noTln :=
  ⟨fun _ _ _ _ _ => rfl, fun _ => rfl, fun _ => rfl, fun _ => rfl, fun _ => rfl, fun _ => rfl, fun _ => rfl, fun _ => rfl⟩

theorem levelBlank_noTlnThreads : LevelBlank Chip.noTlnThreads :=
  ⟨fun _ _ _ _ _ => rfl, fun _ => rfl, fun _ => rfl, fun _ => rfl, fun _ => rfl, fun _ => rfl, fun _ => rfl, fun _ => rfl⟩

/-- The link layer without its ports and the mark that UP has spoken. -/
def TlnSt.rest (t : TlnSt) : TlnSt := { t with ports := [], spoke := false }

/-- Port `p` has become `y`, and nothing else of the machine has changed but `rs` and whether UP has spoken. -/
structure Chip.PortMoved (c d : Chip) (p : Nat) (y : PortSt) (rs : List Reg) : Prop where
  port : d.port p = y
  others : ∀ q, q ≠ p → d.port q = c.port q
  rest : d.tln.rest = c.tln.rest
  moved : c.Moved d rs Chip.noTln

section
variable {c d e : Chip} {p : Nat} {x y : PortSt} {rs : List Reg}

theorem Chip.PortMoved.refl (c : Chip) (p : Nat) (rs : List Reg) : c.PortMoved c p (c.port p) rs := ⟨rfl, fun _ _ => rfl, rfl, Chip.Moved.refl _ _ _⟩

theorem Chip.PortMoved.trans (h : c.PortMoved d p x rs) (h' : d.PortMoved e p y rs) : c.PortMoved e p y rs :=
  ⟨h'.port, fun q hq => (h'.others q hq).trans (h.others q hq), h'.rest.trans h.rest, h.moved.trans h'.moved⟩

theorem Chip.PortMoved.setPort (h : c.PortMoved d p x rs) (y : PortSt) : c.PortMoved (d.setPort p y) p y rs :=
  ⟨setPort_self d p y, fun q hq => (setPort_other d y hq).trans (h.others q hq), h.rest, h.moved.put rfl rfl⟩

theorem Chip.PortMoved.spoke (h : c.PortMoved d p x rs) (b : Bool) : c.PortMoved { d with tln := { d.tln with spoke := b } } p x rs :=
  ⟨h.port, h.others, h.rest, h.moved.put rfl rfl⟩

theorem Chip.PortMoved.inc (h : c.PortMoved d p x rs) {r : Reg} (hr : r ∈ rs) : c.PortMoved (d.inc r) p x rs :=
  ⟨h.port, h.others, h.rest, h.moved.inc hr⟩

/-- The level rules read nothing of it. -/
theorem Chip.PortMoved.pebActive (h : c.PortMoved d p x rs) (hrs : ∀ r ∈ levelRegs, ∀ x ∈ rs, r.addr ≠ x.addr) (i : Nat) : d.pebActive i = c.pebActive i :=
  (h.moved.sameLevels hrs levelBlank_noTln).pebActive i

theorem Chip.PortMoved.ite (q : Prop) [Decidable q] (hd : q → c.PortMoved d p x rs) (he : ¬ q → c.PortMoved e p x rs) :
    c.PortMoved (if q then d else e) p x rs := by
  split
  · exact hd ‹_›
  · exact he ‹_›

/-- A frame on the line of a port without Pebble (18 R869). -/
theorem toLine_of_idle (h : c.pebActive p = false) (f : Frame) : c.toLine p f = c.setPort p { c.port p with sent := (f, false) :: (c.port p).sent } := by
  unfold Chip.toLine Chip.pebble
  rw [h]
  rfl

theorem Chip.PortMoved.toLine (h : c.PortMoved d p x rs) (hrs : ∀ r ∈ levelRegs, ∀ x ∈ rs, r.addr ≠ x.addr) (hidle : c.pebActive p = false) (f : Frame) :
    c.PortMoved (d.toLine p f) p { x with sent := (f, false) :: x.sent } rs := by
  rw [toLine_of_idle ((h.pebActive hrs p).trans hidle), h.port]
  exact h.setPort _

/-- A frame sent on a port without Pebble: numbered and kept where the link has hop state (15 R710). -/
theorem Chip.PortMoved.transmit (h : c.PortMoved d p x rs) (hrs : ∀ r ∈ levelRegs, ∀ x ∈ rs, r.addr ≠ x.addr) (hidle : c.pebActive p = false) (f : Frame) :
    c.PortMoved (d.transmit p f) p (x.sending f) rs := by
  unfold Chip.transmit
  rw [h.port]
  by_cases halive : x.alive = true
  · have hkept := h.setPort { x with txSeq := x.txSeq + 1, window := x.window ++ [{ f with hseq := x.txSeq }] }
    have hspoken : c.PortMoved (if p = pUP then _ else _) p _ rs := Chip.PortMoved.ite (p = pUP) (fun _ => hkept.spoke true) (fun _ => hkept)
    have hsent := hspoken.toLine hrs hidle { f with hseq := x.txSeq }
    simpa [PortSt.sending, halive] using hsent
  · have hspoken : c.PortMoved (if p = pUP then _ else _) p _ rs := Chip.PortMoved.ite (p = pUP) (fun _ => h.spoke true) (fun _ => h)
    have hsent := hspoken.toLine hrs hidle { f with hseq := 0 }
    simpa [PortSt.sending, halive] using hsent

end

/-- What a command that changes one port leaves. -/
theorem portDoes_of_portMoved {s : State} {i : Instr} {f : Chip → Chip} {d : Chip} {p : Nat} {y : PortSt} (he : exec i s = s.lift f) (hd : f s.chip = d)
    (h : s.chip.PortMoved d p y []) : PortDoes i s p y :=
  does_of_lift he hd ⟨h.port, h.others, h.rest, h.moved.keeps (by simp) levelBlank_noTln⟩

/-! ### Counters of the link layer -/

theorem rd_inc_cnt {c : Chip} {k : Nat} (h : c.rd (R.TLN_CNT k) < 0xFFFF) : (c.inc (R.TLN_CNT k)).rd (R.TLN_CNT k) = c.rd (R.TLN_CNT k) + 1 := by
  have hwidth : (R.TLN_CNT k).width = 2 := rfl
  unfold Chip.inc
  rw [Chip.rd_wr_self, hwidth, satInc, if_pos (by omega), Nat.mod_eq_of_lt (by omega)]

theorem cnt_not_level {k : Nat} (hk : k < 16) : ∀ r ∈ levelRegs, ∀ x ∈ [R.TLN_CNT k], r.addr ≠ x.addr := by
  have hout : ∀ r ∈ levelRegs, r.addr < 0x808020 ∨ 0x808040 ≤ r.addr := by decide
  intro r hr x hx
  have := hout r hr
  rw [List.mem_singleton.mp hx]
  simp only [R.TLN_CNT]
  omega

/-- A command that counts, and does nothing else. -/
theorem does_count {s : State} {i : Instr} {f : Chip → Chip} {k : Nat} (he : exec i s = s.lift f) (hk : k < 16) (hd : f s.chip = s.chip.inc (R.TLN_CNT k))
    (hroom : s.chip.rd (R.TLN_CNT k) < 0xFFFF) :
    Does i s (fun d => d.rd (R.TLN_CNT k) = s.chip.rd (R.TLN_CNT k) + 1 ∧ s.chip.Keeps d [R.TLN_CNT k] id) :=
  does_of_lift he hd ⟨rd_inc_cnt hroom, ((Chip.Moved.refl s.chip _ id).inc (List.mem_singleton_self _)).keeps (cnt_not_level hk) levelBlank_id⟩

/-! ### Frames received (R700, R711) -/

section
variable {c : Chip} {p : Nat} {f : Frame}

theorem frameIn_of_idle (hon : c.portOn p = true) (hidle : c.pebActive p = false) (ok : Bool) : c.frameIn p f ok = c.frameItem p (.link f (!ok)) := by
  unfold Chip.frameIn Chip.pebble
  rw [hon, hidle]
  rfl

section
variable (halive : (c.port p).alive = true) (hkind : f.kind ≠ 1)
include halive hkind

/-- A frame on a link with hop state that is not the expected one. -/
theorem frameGood_unexpected (hseq : f.hseq ≠ (c.port p).rxSeq) : c.frameGood p f = c.setPort p { c.port p with hackDue := true } := by
  unfold Chip.frameGood
  simp only [hkind, halive, hseq, Bool.not_true, Bool.false_eq_true, and_false, if_false, ne_eq, not_false_eq_true, if_true]

/-- The expected frame, taken: its hop is acknowledged. -/
theorem frameGood_expected (hseq : f.hseq = (c.port p).rxSeq) {d : Chip} (htake : c.frameTake p f = (d, true)) (hkept : d.port p = c.port p) :
    c.frameGood p f = d.setPort p { c.port p with rxSeq := (c.port p).rxSeq + 1, hackDue := true } := by
  unfold Chip.frameGood
  simp only [hkind, halive, hseq, htake, hkept, Bool.not_true, Bool.false_eq_true, and_false, if_false, ne_eq, not_true_eq_false, if_true]

end

/-- A frame that is forwarded from or to a LONG port waits its store time (R715, R716). -/
theorem forward_of_long {out : Nat} (hlong : c.pmodeOf out = 2) :
    c.forward p out f = c.setPort out { c.port out with store := (c.port out).store ++ [{ f with hop := f.hop + 1 }] } := by
  unfold Chip.forward
  rw [hlong]
  simp only [show ((2 : Nat) == 1) = false from rfl, Bool.and_false, Bool.false_and, Bool.false_eq_true, if_false]

/-- A frame is never forwarded to the port it came from (R701). -/
theorem route15_ne {out : Nat} (h : c.route15 p f = some out) : out ≠ p := by
  unfold Chip.route15 at h
  dsimp only at h
  split at h
  case isTrue hr => exact fun heq => hr.2 (heq ▸ Option.some.inj h)
  case isFalse =>
    split at h
    case isTrue hr => exact fun heq => hr.2.1 (heq ▸ (Option.some.inj h).symm)
    case isFalse => exact absurd h (by simp)

theorem frameTake_forwarded {out : Nat} (hkind : f.kind = 2) (hdst : f.dst.toNat ≠ c.nodeId) (hcast : f.dst ≠ 0x1FFF) (hhop : f.hop ≠ 63)
    (hroute : c.route15 p f = some out) (hon : c.portOn out = true) (hroom : c.bufferFull out = false) : c.frameTake p f = (c.forward p out f, true) := by
  have hnum : f.kind.toNat = 2 := by rw [hkind]; rfl
  have hlow : ¬ 11 ≤ f.kind.toNat := by omega
  unfold Chip.frameTake Chip.passOn
  rw [if_neg hlow, if_neg (by rw [hkind]; decide), if_neg (by rw [hkind]; exact fun h => absurd h.1 (by decide)), if_neg (fun h => hdst h.1), if_neg hcast,
    if_neg (by rw [hkind]; exact fun h => absurd h.2 (by decide)), hroute]
  simp only [hhop, hon, hroom, Bool.not_true, Bool.false_eq_true, if_false]

end

/-! ### The hop layer's commands -/

theorem eq_of_sent {x y : PortSt} {l : List (Frame × Bool)} (h : x = { y with sent := l }) : x = { y with sent := x.sent } := by rw [h]

section
variable {s : State} {p : Fin 3} {f : Frame} (hon : s.chip.portOn p = true) (hidle : s.chip.pebActive p = false)
include hon hidle

theorem does_frameUnexpected (halive : (s.chip.port p).alive = true) (hkind : f.kind ≠ 1) (hseq : f.hseq ≠ (s.chip.port p).rxSeq) :
    PortDoes (.frameReceive p f true) s p { s.chip.port p with hackDue := true } := by
  have hdo := (frameIn_of_idle hon hidle true).trans (frameGood_unexpected halive hkind hseq)
  exact portDoes_of_portMoved (show exec (.frameReceive p f true) s = execFrameReceive p f true s from rfl) hdo ((Chip.PortMoved.refl s.chip p []).setPort _)

theorem does_frameUnknown (halive : (s.chip.port p).alive = true) (hkind : f.kind ≠ 1) (hseq : f.hseq = (s.chip.port p).rxSeq) (htype : 11 ≤ f.kind.toNat)
    (hroom : s.chip.rd (R.TLN_CNT 6) < 0xFFFF) :
    Does (.frameReceive p f true) s (fun d => d.rd (R.TLN_CNT 6) = s.chip.rd (R.TLN_CNT 6) + 1 ∧
      d.port p = { s.chip.port p with rxSeq := (s.chip.port p).rxSeq + 1, hackDue := true } ∧ (∀ q, q ≠ p.val → d.port q = s.chip.port q) ∧
      s.chip.Keeps d [R.TLN_CNT 6] Chip.noTln) := by
  have htake : s.chip.frameTake p f = (s.chip.inc (R.TLN_CNT 6), true) := if_pos htype
  have hdo := (frameIn_of_idle hon hidle true).trans (frameGood_expected halive hkind hseq htake rfl)
  have hmoved := ((Chip.PortMoved.refl s.chip p [R.TLN_CNT 6]).inc (List.mem_singleton_self _)).setPort { s.chip.port p with rxSeq := (s.chip.port p).rxSeq + 1, hackDue := true }
  exact does_of_lift (show exec (.frameReceive p f true) s = execFrameReceive p f true s from rfl) hdo
    ⟨rd_inc_cnt hroom, hmoved.port, hmoved.others, hmoved.moved.keeps (cnt_not_level (by decide)) levelBlank_noTln⟩

theorem does_frameForwarded {out : Fin 3} (halive : (s.chip.port p).alive = true) (hseq : f.hseq = (s.chip.port p).rxSeq) (hkind : f.kind = 2)
    (hdst : f.dst.toNat ≠ s.chip.nodeId) (hcast : f.dst ≠ 0x1FFF) (hhop : f.hop ≠ 63) (hroute : s.chip.route15 p f = some out.val)
    (hout : s.chip.portOn out = true) (hroom : s.chip.bufferFull out = false) (hlong : s.chip.pmodeOf out = 2) :
    Does (.frameReceive p f true) s (fun d =>
      d.port out = { s.chip.port out with store := (s.chip.port out).store ++ [{ f with hop := f.hop + 1 }] } ∧
      d.port p = { s.chip.port p with rxSeq := (s.chip.port p).rxSeq + 1, hackDue := true } ∧ (∀ q, q ≠ p.val → q ≠ out.val → d.port q = s.chip.port q) ∧
      s.chip.Keeps d [] Chip.noTln) := by
  have hne := route15_ne hroute
  have htake := (frameTake_forwarded hkind hdst hcast hhop hroute hout hroom).trans (congrArg (·, true) (forward_of_long hlong))
  have hdo := (frameIn_of_idle hon hidle true).trans (frameGood_expected halive (by rw [hkind]; decide) hseq htake (setPort_other _ _ hne.symm))
  have hmoved : s.chip.Moved _ [] Chip.noTln := (((Chip.PortMoved.refl s.chip out.val []).setPort
    { s.chip.port out with store := (s.chip.port out).store ++ [{ f with hop := f.hop + 1 }] }).moved).put
      (e := Chip.setPort _ p.val { s.chip.port p with rxSeq := (s.chip.port p).rxSeq + 1, hackDue := true }) rfl rfl
  exact does_of_lift (show exec (.frameReceive p f true) s = execFrameReceive p f true s from rfl) hdo
    ⟨(setPort_other _ _ hne).trans (setPort_self s.chip out.val _), setPort_self _ p.val _,
      fun q hq hqout => (setPort_other _ _ hq).trans (setPort_other s.chip _ hqout), hmoved.keeps (by simp) levelBlank_noTln⟩

theorem does_hackSend (hdue : (s.chip.port p).hackDue = true) :
    Does (.hackSend p) s (fun d => d.port p = { s.chip.port p with hackDue := false, sent := (d.port p).sent } ∧
      (∃ g : Frame, (d.port p).sent = (g, false) :: (s.chip.port p).sent ∧ g.kind = 1 ∧ g.seq.toNat = (s.chip.port p).rxSeq.toNat ∧ g.payload = []) ∧
      (∀ q, q ≠ p.val → d.port q = s.chip.port q) ∧ s.chip.Keeps d [] Chip.noTln) := by
  let g : Frame := { dst := 0, src := BitVec.ofNat 13 s.chip.nodeId, kind := 1, hop := 0, queue := 0, seq := BitVec.ofNat 16 (s.chip.port p).rxSeq.toNat
                     flags := 0, epoch := 0, hseq := 0, payload := [], tag := none }
  have hmoved := ((Chip.PortMoved.refl s.chip p []).setPort { s.chip.port p with hackDue := false }).toLine (by simp) hidle g
  have hdo : s.chip.hackSend p = (s.chip.setPort p { s.chip.port p with hackDue := false }).toLine p g := if_pos (by rw [hdue, hon]; rfl)
  have hseq : g.seq.toNat = (s.chip.port p).rxSeq.toNat := by
    have hlt := (s.chip.port p).rxSeq.isLt
    exact (BitVec.toNat_ofNat _ _).trans (Nat.mod_eq_of_lt (by omega))
  refine does_of_lift (show exec (.hackSend p) s = execHackSend p s from rfl) hdo ⟨eq_of_sent hmoved.port, ⟨g, ?_, rfl, hseq, rfl⟩, hmoved.others, hmoved.moved.keeps (by simp) levelBlank_noTln⟩
  exact congrArg PortSt.sent hmoved.port

end

/-! ### Stored and buffered frames, the window (R710, R712, R716, R717) -/

section
variable {s : State} {p : Fin 3} {f : Frame} (hidle : s.chip.pebActive p = false)
include hidle

theorem does_storeStart (hstored : f ∈ (s.chip.port p).store) (hfree : (s.chip.port p).fwd = []) (hroom : (s.chip.port p).window.length < 8) :
    PortDoes (.frameForwardStore p f) s p ({ s.chip.port p with store := (s.chip.port p).store.erase f }.sending f) := by
  let y : PortSt := { s.chip.port p with store := (s.chip.port p).store.erase f }
  have hmoved := (Chip.PortMoved.refl s.chip p []).setPort y
  have hstart : s.chip.storeStart p f = (s.chip.setPort p y).forwardStart p f := if_pos (List.contains_iff_mem.mpr hstored)
  have htransmit : (s.chip.setPort p y).forwardStart p f = (s.chip.setPort p y).transmit p f := by
    unfold Chip.forwardStart
    rw [hmoved.port]
    exact if_pos ⟨hfree, decide_eq_true hroom⟩
  exact portDoes_of_portMoved (show exec (.frameForwardStore p f) s = execFrameForwardStore p f s from rfl) (hstart.trans htransmit) (hmoved.transmit (by simp) hidle f)

theorem does_bufferStart {l : List Frame} (hon : s.chip.portOn p = true) (hbuffer : (s.chip.port p).fwd = f :: l) (hroom : (s.chip.port p).window.length < 8) :
    PortDoes (.forwardBufferStart p) s p ({ s.chip.port p with fwd := l }.sending f) := by
  have hroom' : (s.chip.port p).room = true := decide_eq_true hroom
  have hdo : s.chip.bufferStart p = (s.chip.setPort p { s.chip.port p with fwd := l }).transmit p f := by
    unfold Chip.bufferStart
    dsimp only
    rw [hbuffer]
    exact if_pos (by rw [hroom', hon]; rfl)
  exact portDoes_of_portMoved (show exec (.forwardBufferStart p) s = execForwardBufferStart p s from rfl) hdo
    (((Chip.PortMoved.refl s.chip p []).setPort _).transmit (by simp) hidle f)

end

theorem does_hack {s : State} {p : Fin 3} {g : Frame} {l : List Frame} {next : BitVec 4} (hwindow : (s.chip.port p).window = g :: l)
    (hin : (next - g.hseq).toNat ≤ l.length + 1) (hclosed : (s.chip.port p).slot = none) :
    PortDoes (.hackReceive p next) s p { s.chip.port p with window := (s.chip.port p).window.drop (next - g.hseq).toNat } := by
  have hmoved := (Chip.PortMoved.refl s.chip p []).setPort { s.chip.port p with window := (s.chip.port p).window.drop (next - g.hseq).toNat }
  have hpump : (s.chip.setPort p { s.chip.port p with window := (s.chip.port p).window.drop (next - g.hseq).toNat }).pump p pumpFuel = _ :=
    pump_of_closed ((congrArg PortSt.slot hmoved.port).trans hclosed) pumpFuel
  have hle : (next - g.hseq).toNat ≤ (s.chip.port p).window.length := by rw [hwindow]; exact hin
  have hdo : s.chip.hack p next = (s.chip.setPort p { s.chip.port p with window := (s.chip.port p).window.drop (next - g.hseq).toNat }).pump p pumpFuel := by
    unfold Chip.hack
    extract_lets x
    have hx : x.window = g :: l := hwindow
    split
    case h_1 hnil => exact absurd (hnil.symm.trans hx) (by simp)
    case h_2 h t hcons =>
      obtain ⟨rfl, -⟩ := List.cons.inj (hcons.symm.trans hx)
      exact if_pos hle
  exact portDoes_of_portMoved (show exec (.hackReceive p next) s = execHackReceive p next s from rfl) (hdo.trans hpump) hmoved

/-- Frames put on a line one after the other. -/
theorem Chip.PortMoved.toLines {c d : Chip} {p : Nat} {x : PortSt} {rs : List Reg} (h : c.PortMoved d p x rs)
    (hrs : ∀ r ∈ levelRegs, ∀ x ∈ rs, r.addr ≠ x.addr) (hidle : c.pebActive p = false) (w : List Frame) :
    c.PortMoved (w.foldl (fun d f => d.toLine p f) d) p { x with sent := (w.map (fun g => (g, false))).reverse ++ x.sent } rs := by
  induction w generalizing d x with
  | nil => exact h
  | cons f w ih =>
    have hnext := ih (h.toLine hrs hidle f)
    simpa using hnext

theorem does_hopRetransmit {s : State} {p : Fin 3} (hon : s.chip.portOn p = true) (hidle : s.chip.pebActive p = false)
    (hwindow : (s.chip.port p).window ≠ []) (hplain : ∀ g ∈ (s.chip.port p).window, g.tag = none) (hroom : s.chip.rd (R.TLN_CNT 1) < 0xFFFF) :
    let w := (s.chip.port p).window.map (fun g => { g with flags := g.flags ||| 4 })
    Does (.hopRetransmit p) s (fun d => d.rd (R.TLN_CNT 1) = s.chip.rd (R.TLN_CNT 1) + 1 ∧
      d.port p = { s.chip.port p with window := w, sent := (w.map (fun g => (g, false))).reverse ++ (s.chip.port p).sent } ∧
      (∀ q, q ≠ p.val → d.port q = s.chip.port q) ∧ s.chip.Keeps d [R.TLN_CNT 1] Chip.noTln) := by
  intro w
  let b := (s.chip.setPort p { s.chip.port p with window := w }).inc (R.TLN_CNT 1)
  have hmoved := ((Chip.PortMoved.refl s.chip p [R.TLN_CNT 1]).setPort { s.chip.port p with window := w }).inc (List.mem_singleton_self _)
  have hlines := hmoved.toLines (cnt_not_level (by decide)) hidle w
  have hdo : s.chip.hopRetransmit p = w.foldl (fun d f => d.toLine p f) b := by
    unfold Chip.hopRetransmit
    dsimp only
    rw [if_neg hwindow, List.map_congr_left (g := fun g => { g with flags := g.flags ||| 4 })]
    · rfl
    · intro g hg
      rw [hplain g hg]
      rfl
  have hcount : (w.foldl (fun d f => d.toLine p f) b).rd (R.TLN_CNT 1) = s.chip.rd (R.TLN_CNT 1) + 1 := by
    have hfold := (Chip.PortMoved.refl b p []).toLines (by simp) ((hmoved.pebActive (cnt_not_level (by decide)) p).trans hidle) w
    rw [hfold.moved.1 _ (by simp)]
    exact rd_inc_cnt hroom
  exact does_of_lift (show exec (.hopRetransmit p) s = execHopRetransmit p s from rfl) ((if_pos hon).trans hdo)
    ⟨hcount, hlines.port, hlines.others, hlines.moved.keeps (cnt_not_level (by decide)) levelBlank_noTln⟩

theorem hopLayer : Parts.HopLayer := by
  intro s p out f next hon hidle c x counts room others
  refine ⟨fun hroom => ?_, fun halive hkind => ⟨?_, ?_, ?_⟩, ?_, fun l hbuffer hroom => does_bufferStart hidle hon hbuffer hroom, fun hdue => does_hackSend hon hidle hdue,
    fun g l hwindow hin hclosed => does_hack hwindow hin hclosed, fun hwindow hplain hroom => does_hopRetransmit hon hidle hwindow hplain hroom, fun hroom => ?_⟩
  · exact does_count (show exec (.frameReceive p f false) s = execFrameReceive p f false s from rfl) (by decide) (frameIn_of_idle hon hidle false) hroom
  · exact fun hseq => does_frameUnexpected hon hidle halive hkind hseq
  · exact fun hseq htype hroom => does_frameUnknown hon hidle halive hkind hseq htype hroom
  · exact fun hseq htwo hdst hcast hhop hroute hout hroom hlong => does_frameForwarded hon hidle halive hseq htwo hdst hcast hhop hroute hout hroom hlong
  · exact fun hstored hfree hroom => does_storeStart hidle hstored hfree hroom
  · exact does_count (show exec (.jabberStop p) s = execJabberStop p s from rfl) (by decide) (if_pos hon) hroom

/-! ### Orders received (R737) -/

/-- A frame of the command's type with a good tag at a port that serves. -/
theorem ifFrame_of_good {c : Chip} {p n : Nat} {f : Frame} (hon : c.portOn p = true) (hkind : f.kind.toNat = n) (hmac : c.macOk f = true) (g : Chip → Chip) :
    c.ifFrame p f n g = g c := by
  unfold Chip.ifFrame
  rw [hon, hkind, hmac]
  simp

theorem does_orderReceive {s : State} {p : Fin 3} {f : Frame} (hon : s.chip.portOn p = true) (hkind : f.kind = 3) (hmac : s.chip.macOk f = true) {o : OrderRec} {issue : Nat}
    (ho : s.chip.orderIn p f = s.chip.submit o f.epoch.toNat issue) :
    Does (.orderReceive p f) s (fun d => d.aut = (s.chip.submit o f.epoch.toNat issue).aut) :=
  does_of_lift (show exec (.orderReceive p f) s = execOrderReceive p f s from rfl)
    ((ifFrame_of_good hon (by rw [hkind]; rfl) hmac (fun c => c.orderIn p f)).trans ho) rfl

/-! ### The queue that takes a target's answers (R738) -/

theorem FMap.mem_of_get_ne {α : Type} {d : α} {m : FMap α} {k : Nat} (h : FMap.get d m k ≠ d) : ∃ v, (k, v) ∈ m := by
  induction m with
  | nil => exact absurd rfl h
  | cons e m ih =>
    by_cases hk : k = e.1
    · exact ⟨e.2, by rw [hk]; exact List.mem_cons_self⟩
    · have hget : FMap.get d (e :: m) k = FMap.get d m k := by
        unfold FMap.get
        rw [FMap.find?, if_neg hk]
      obtain ⟨v, hv⟩ := ih (hget ▸ h)
      exact ⟨v, List.mem_cons_of_mem _ hv⟩

/-- The queues whose descriptors are listed. -/
def Chip.listedQueues (c : Chip) : List Nat :=
  c.regs.filterMap (fun e => if 0x840000 ≤ e.1 ∧ e.1 < 0x880000 ∧ e.1 % 16 = 0 then some ((e.1 - 0x840000) / 16) else none)

/-- An enabled queue is listed. -/
theorem mem_listedQueues {c : Chip} {q : Nat} (hq : q < 16384) (hen : c.qEn q = true) : q ∈ c.listedQueues := by
  have hne : FMap.get 0 c.regs (0x840000 + 0x10 * q) ≠ 0 := by
    intro h
    have hzero : c.rd (R.WEI_DESC q) = 0 := h
    rw [Chip.qEn, Chip.rbit, hzero, bit_eq_testBit, Nat.zero_testBit] at hen
    exact absurd hen (by decide)
  obtain ⟨v, hv⟩ := FMap.mem_of_get_ne hne
  refine List.mem_filterMap.mpr ⟨_, hv, ?_⟩
  rw [if_pos (by dsimp only; omega)]
  congr 1
  dsimp only
  omega

/-- A queue that takes the answers of `node`. -/
def Chip.takesAnswers (c : Chip) (node q : Nat) : Bool := c.qEn q && c.qIn q && c.qChan q == 0x3FFF && c.qNode q == node

theorem takesAnswers_iff {c : Chip} {node q : Nat} : c.takesAnswers node q = true ↔ c.qEn q = true ∧ c.qIn q = true ∧ c.qChan q = 0x3FFF ∧ c.qNode q = node := by
  simp only [Chip.takesAnswers, Bool.and_eq_true, beq_iff_eq, and_assoc]

/-- An answer put on queue `k`. -/
def Chip.answered (c : Chip) (k : Nat) (m : List Byte) : Chip :=
  (((c.qStore k (c.qfld k 33 12) m).setEntries k (c.entries k ++ [{ kind := .data, seq := (c.qrec k).rseq, cell := c.qfld k 33 12, len := m.length }])).setQrec k
    { c.qrec k with rseq := ((c.qrec k).rseq + 1) % 2 ^ 16 }).qSync k

theorem orderAnswer_of_found {c : Chip} {node k : Nat} (h : c.listedQueues.find? (c.takesAnswers node) = some k) (m : List Byte) :
    c.orderAnswer node m = if cellsUsed (c.entries k) + 2 ≤ c.qCells k then c.answered k m else c := by
  unfold Chip.listedQueues Chip.takesAnswers at h
  unfold Chip.orderAnswer Chip.qRoom
  dsimp only
  rw [h]
  dsimp only
  split
  case h_1 hnone =>
    rw [if_neg (fun hroom => ?_)]
    rw [if_pos hroom] at hnone
    exact absurd hnone (by simp)
  case h_2 o hsome =>
    split at hsome
    case isTrue hroom =>
      rw [if_pos hroom, ← Option.some.inj hsome]
      rfl
    case isFalse => exact absurd hsome (by simp)

theorem orderAnswer_of_none {c : Chip} {node : Nat} (h : c.listedQueues.find? (c.takesAnswers node) = none) (m : List Byte) : c.orderAnswer node m = c := by
  unfold Chip.listedQueues Chip.takesAnswers at h
  unfold Chip.orderAnswer
  dsimp only
  rw [h]

theorem Chip.OtherQueues.qSync {c d : Chip} {q : Nat} (h : c.OtherQueues d q) : c.OtherQueues (d.qSync q) q := by
  unfold Chip.qSync
  dsimp only
  split
  · exact h.setQrec _
  · split
    · exact h.setQrec _
    · exact h

theorem qBytes_length (c : Chip) (q : Nat) (e : WeirEntry) : (c.qBytes q e).length = e.len := by simp [Chip.qBytes]

/-- What an answer put on a queue leaves. -/
theorem answered_spec (c : Chip) (k : Nat) (m : List Byte) :
    c.OtherQueues (c.answered k m) k ∧ (c.answered k m).tln = c.tln ∧
    ((m.length + 15) / 16 < c.qCells k → ∃ x : WeirEntry, (c.answered k m).entries k = c.entries k ++ [x] ∧ x.kind = .data ∧ (c.answered k m).qBytes k x = m) := by
  let e : WeirEntry := { kind := .data, seq := (c.qrec k).rseq, cell := c.qfld k 33 12, len := m.length }
  have hbase := qfld_setEntries (c.qStore k (c.qfld k 33 12) m) k (c.entries k ++ [e]) (lo := 0) (w := 13) (by decide) (by decide)
  have hcells := qfld_setEntries (c.qStore k (c.qfld k 33 12) m) k (c.entries k ++ [e]) (lo := 13) (w := 8) (by decide) (by decide)
  obtain ⟨v, hv⟩ := setEntries_eq (c.qStore k (c.qfld k 33 12) m) k (c.entries k ++ [e])
  have hothers : c.OtherQueues ((c.qStore k (c.qfld k 33 12) m).setEntries k (c.entries k ++ [e])) k := ((Chip.OtherQueues.refl c k).put (e := c.qStore k _ m) rfl rfl).setEntries _
  have hanswered : c.answered k m = (((c.qStore k (c.qfld k 33 12) m).setEntries k (c.entries k ++ [e])).setQrec k
    { c.qrec k with rseq := ((c.qrec k).rseq + 1) % 2 ^ 16 }).qSync k := rfl
  have hentries := Chip.entries_setEntries_self (c.qStore k (c.qfld k 33 12) m) k (c.entries k ++ [e])
  obtain ⟨b, hb⟩ : ∃ b, (c.qStore k (c.qfld k 33 12) m).setEntries k (c.entries k ++ [e]) = b := ⟨_, rfl⟩
  have hmem : b.mem = (c.qStore k (c.qfld k 33 12) m).mem := by rw [← hb, hv]; rfl
  have htln : b.tln = c.tln := by rw [← hb, hv]; rfl
  rw [hb] at hanswered hothers hbase hcells hentries
  obtain ⟨n, hn⟩ := Chip.qSync_eq (b.setQrec k { c.qrec k with rseq := ((c.qrec k).rseq + 1) % 2 ^ 16 }) k
  refine ⟨?_, ?_, fun hfit => ⟨e, ?_, rfl, ?_⟩⟩
  · rw [hanswered]
    exact (hothers.setQrec _).qSync
  · rw [hanswered, hn]
    exact htln
  · rw [hanswered, hn]
    exact hentries
  · obtain ⟨w, hw, hput, -⟩ := qStore_spec (c := c) (q := k) (o := c.qfld k 33 12) hfit
    have haddr : ∀ d : Chip, d.qfld k 0 13 = c.qfld k 0 13 → d.qfld k 13 8 = c.qfld k 13 8 → ∀ o i, d.qAddr k o i = c.qAddr k o i := by
      intro d h0 h13 o i
      simp only [Chip.qAddr, Chip.qBase, Chip.qCells, h0, h13]
    have hbytes : (c.answered k m).qBytes k e = (List.range m.length).map (fun i => FMap.get 0 w (c.qAddr k (c.qfld k 33 12) i)) := by
      rw [hanswered, hn]
      change b.qBytes k e = _
      unfold Chip.qBytes
      refine List.map_congr_left (fun i _ => ?_)
      rw [haddr _ hbase hcells]
      exact congrArg (fun x : MemSt => FMap.get 0 x.weir _) (hmem.trans (by rw [hw]))
    rw [hbytes]
    refine List.ext_getElem (by simp) (fun i h1 h2 => ?_)
    rw [List.getElem_map, List.getElem_range, hput i h2, List.getD_eq_getElem _ _ h2]

/-- The queue of answers is not an outbound one: an outbound queue stands. -/
theorem orderAnswer_keeps {c : Chip} {q : Nat} (hout : c.qIn q = false) (node : Nat) (m : List Byte) :
    (c.orderAnswer node m).entries q = c.entries q ∧ (c.orderAnswer node m).qrec q = c.qrec q ∧ (c.orderAnswer node m).tln = c.tln := by
  cases hfind : c.listedQueues.find? (c.takesAnswers node) with
  | none => rw [orderAnswer_of_none hfind]; exact ⟨rfl, rfl, rfl⟩
  | some k =>
    obtain ⟨-, hin, -, -⟩ := takesAnswers_iff.mp (List.find?_some hfind)
    have hne : q ≠ k := fun h => by rw [h, hin] at hout; exact absurd hout (by decide)
    obtain ⟨hothers, htln, -⟩ := answered_spec c k m
    rw [orderAnswer_of_found hfind]
    split
    · exact ⟨(hothers q hne).1, (hothers q hne).2, htln⟩
    · exact ⟨rfl, rfl, rfl⟩

/-- The answer stands at the one queue that takes it, when it has room. -/
theorem orderAnswer_stands {c : Chip} {a node : Nat} {m : List Byte} (ha : a < 16384) (htakes : c.takesAnswers node a = true)
    (honly : ∀ k, c.takesAnswers node k = true → k = a) (hroom : cellsUsed (c.entries a) + 2 ≤ c.qCells a) (hshort : m.length ≤ 16) :
    ∃ x : WeirEntry, (c.orderAnswer node m).entries a = c.entries a ++ [x] ∧ x.kind = .data ∧ (c.orderAnswer node m).qBytes a x = m := by
  have hfind : c.listedQueues.find? (c.takesAnswers node) = some a := by
    cases hfind : c.listedQueues.find? (c.takesAnswers node) with
    | none => exact absurd htakes (by simpa using List.find?_eq_none.mp hfind a (mem_listedQueues ha (takesAnswers_iff.mp htakes).1))
    | some k => rw [honly k (List.find?_some hfind)]
  rw [orderAnswer_of_found hfind, if_pos hroom]
  exact (answered_spec c a m).2.2 (by omega)

/-! ### The end of an order (R738, R739) -/

/-- The order at the head of its queue taken off. -/
def Chip.orderTaken (c : Chip) (q : Nat) (e : WeirEntry) (l : List WeirEntry) : Chip :=
  let b := (c.setEntries q l).setQrec q { c.qrec q with rseq := (e.seq + 1) % 2 ^ 16 }
  { b with tln := { b.tln with orderOut := FMap.set none b.tln.orderOut q none } }

theorem orderEnd_eq {c : Chip} {q : Nat} {e : WeirEntry} {l : List WeirEntry} (hentries : c.entries q = e :: l) (m : List Byte) :
    c.orderEnd q m = (c.orderTaken q e l).orderAnswer (c.qNode q) m := by
  unfold Chip.orderEnd
  rw [hentries]
  rfl

theorem orderTaken_spec (c : Chip) (q : Nat) (e : WeirEntry) (l : List WeirEntry) :
    (c.orderTaken q e l).entries q = l ∧ ((c.orderTaken q e l).qrec q).rseq = (e.seq + 1) % 2 ^ 16 ∧
    (c.orderTaken q e l).tln = { c.tln with orderOut := FMap.set none c.tln.orderOut q none } ∧ c.OtherQueues (c.orderTaken q e l) q ∧
    (c.orderTaken q e l).qIn q = c.qIn q ∧ ∀ k, k ≠ q → (c.orderTaken q e l).rd (R.WEI_DESC k) = c.rd (R.WEI_DESC k) := by
  have hentries := Chip.entries_setEntries_self c q l
  have hothers := (Chip.OtherQueues.refl c q).setEntries l
  have hin := qIn_setEntries c q l
  obtain ⟨v, hv⟩ := setEntries_eq c q l
  have hrd : ∀ k, k ≠ q → (c.setEntries q l).rd (R.WEI_DESC k) = c.rd (R.WEI_DESC k) := fun k hk => by
    rw [hv, Chip.rd_wr_other _ _ _ _ (by simp only [R.WEI_DESC]; omega)]
    rfl
  have htln : (c.setEntries q l).tln = c.tln := by rw [hv]; rfl
  unfold Chip.orderTaken
  obtain ⟨b, hb⟩ : ∃ b, c.setEntries q l = b := ⟨_, rfl⟩
  rw [hb] at hentries hothers hin hrd htln ⊢
  refine ⟨hentries, congrArg QRec.rseq (qrec_setQrec_self b q _), ?_, (hothers.setQrec _).put rfl rfl, hin, hrd⟩
  rw [← htln]
  rfl

theorem Chip.NoSlots.congr_ports {c d : Chip} (h : c.NoSlots) (hports : d.tln.ports = c.tln.ports) : d.NoSlots := by
  intro p hp
  have hport : d.port p = c.port p := by rw [Chip.port, hports, Chip.port]
  rw [hport]
  exact h p hp

/-- An order ends: it is off its queue, and its answer stands at the one queue that takes it. -/
theorem does_orderEnd {s : State} {i : Instr} {f : Chip → Chip} {q a : Fin 16384} {e : WeirEntry} {l : List WeirEntry} {m : List Byte} (he : exec i s = s.lift f)
    (hclosed : s.chip.NoSlots) (horder : s.chip.orderQueue q = true) (hentries : s.chip.entries q = e :: l) (hd : f s.chip = (s.chip.orderEnd q m).pumpAll) (hshort : m.length ≤ 16) :
    Does i s (fun d => FMap.get none d.tln.orderOut q = none ∧ d.entries q = l ∧ (d.qrec q).rseq = (e.seq + 1) % 2 ^ 16 ∧
      ((∀ k, s.chip.qEn k = true → s.chip.qIn k = true → s.chip.qChan k = 0x3FFF → s.chip.qNode k = s.chip.qNode q → k = a.val) →
        s.chip.qEn a = true → s.chip.qIn a = true → s.chip.qChan a = 0x3FFF → s.chip.qNode a = s.chip.qNode q → cellsUsed (s.chip.entries a) + 2 ≤ s.chip.qCells a →
        ∃ x : WeirEntry, d.entries a = s.chip.entries a ++ [x] ∧ x.kind = .data ∧ d.qBytes a x = m)) := by
  obtain ⟨htaken, hrseq, htln, hothers, hin, hrd⟩ := orderTaken_spec s.chip q e l
  have hout : s.chip.qIn q = false := by
    obtain ⟨⟨-, hdir⟩, -⟩ : (s.chip.qEn q = true ∧ s.chip.qOut q = true) ∧ (s.chip.qChan q == 0x3FFF) = true := by
      simpa only [Chip.orderQueue, Bool.and_eq_true] using horder
    rw [Chip.qIn, ((Bool.and_eq_true _ _).mp hdir).2]
    exact Bool.and_false _
  rw [orderEnd_eq hentries] at hd
  have htakes : ∀ k, k ≠ q.val → (s.chip.orderTaken q e l).takesAnswers (s.chip.qNode q) k = s.chip.takesAnswers (s.chip.qNode q) k := fun k hk => by
    simp only [Chip.takesAnswers, Chip.qEn, Chip.qIn, Chip.qPort, Chip.qChan, Chip.qNode, Chip.qfld, Chip.rfld, Chip.rbit, hrd k hk]
  have hcells : ∀ k, k ≠ q.val → (s.chip.orderTaken q e l).qCells k = s.chip.qCells k := fun k hk => by
    have hfld : (s.chip.orderTaken q e l).qfld k 13 8 = s.chip.qfld k 13 8 := congrArg (fld · 13 8) (hrd k hk)
    rw [Chip.qCells, Chip.qCells, hfld]
  obtain ⟨b, hb⟩ : ∃ b, s.chip.orderTaken q e l = b := ⟨_, rfl⟩
  rw [hb] at htaken hrseq htln hothers hin htakes hcells hd
  obtain ⟨hkept, hkeptRec, hkeptTln⟩ := orderAnswer_keeps (hin.trans hout) (s.chip.qNode q) m
  have hports : (b.orderAnswer (s.chip.qNode q) m).tln.ports = s.chip.tln.ports := by rw [hkeptTln, htln]
  refine does_of_lift he (hd.trans (hclosed.congr_ports hports).pumpAll) ⟨?_, hkept.trans htaken, (congrArg QRec.rseq hkeptRec).trans hrseq, fun honly hen hina hchan hnode hroom => ?_⟩
  · change FMap.get none (b.orderAnswer (s.chip.qNode q) m).tln.orderOut q = none
    rw [hkeptTln, htln]
    exact FMap.get_set_self none s.chip.tln.orderOut q.val none
  · have hne : a.val ≠ q.val := fun h => by rw [h, hout] at hina; exact absurd hina (by decide)
    obtain ⟨x, hx, hkind, hbytes⟩ := orderAnswer_stands (m := m) a.isLt ((htakes a hne).trans (takesAnswers_iff.mpr ⟨hen, hina, hchan, hnode⟩)) (fun k hk => by
      by_cases hkq : k = q.val
      · rw [hkq] at hk
        exact absurd ((hin.trans hout).symm.trans (takesAnswers_iff.mp hk).2.1) (by decide)
      · obtain ⟨h1, h2, h3, h4⟩ := takesAnswers_iff.mp ((htakes k hkq).symm.trans hk)
        exact honly k h1 h2 h3 h4) (by rw [(hothers a hne).1, hcells a hne]; exact hroom) hshort
    rw [(hothers a hne).1] at hx
    exact ⟨x, hx, hkind, hbytes⟩

theorem stringOrders : Parts.StringOrders := by
  intro s p f q a e l c b n o ends
  refine ⟨fun hon hkind hmac => does_orderReceive hon hkind hmac rfl, fun hclosed horder hentries => ⟨fun hout => ?_, fun hout hnode hon hkind hmac hlen => ?_⟩⟩
  · have hsome : (FMap.get none s.chip.tln.orderOut q.val).isSome = true := by rw [show FMap.get none s.chip.tln.orderOut q.val = some e.seq from hout]; rfl
    exact does_orderEnd (show exec (.orderTimeout q) s = execOrderTimeout q s from rfl) hclosed horder hentries (if_pos hsome) (by decide)
  · have hreply : s.chip.orderReplyIn f = s.chip.orderEnd q b := by
      unfold Chip.orderReplyIn
      rw [show s.chip.tln.orderOut = [(q.val, some f.seq.toNat)] from hout, List.find?_cons_of_pos (by simpa using hnode)]
    exact does_orderEnd (show exec (.orderReplyReceive p f) s = execOrderReplyReceive p f s from rfl) hclosed horder hentries
      ((ifFrame_of_good hon (by rw [hkind]; rfl) hmac (fun c => (c.orderReplyIn f).pumpAll)).trans (congrArg Chip.pumpAll hreply)) (by rw [hlen]; decide)

/-- Settles O58: each hop command changes its own port; an order's end changes its own queue and the one that takes the answer. -/
theorem linkHops : Obligations.LinkHops := ⟨hopLayer, stringOrders⟩

end Sys2Proof.Machine
end

section
/-!
PROOFS. Membership of the string: loss of beacons, isolation, leaving, presence, roles (15 R731 to R734, R745 to R748).
-/
namespace Sys2Proof.Machine

/-! ### Notices of the link layer: its event register and its own state -/

/-- Only the link layer's own state and doorbells have changed, and no event bit of it is lost. -/
structure Chip.Noticed (c d : Chip) : Prop where
  moved : c.Moved d [R.TLN_EVT, R.DOORBELL_OVF] Chip.noTlnThreads
  rings : c.Rings d
  bits : ∀ i < 16, c.rbit R.TLN_EVT i = true → d.rbit R.TLN_EVT i = true

theorem Chip.Noticed.refl (c : Chip) : c.Noticed c := ⟨Chip.Moved.refl _ _ _, Chip.Rings.refl c, fun _ _ h => h⟩

theorem Chip.Noticed.trans {c d e : Chip} (h : c.Noticed d) (h' : d.Noticed e) : c.Noticed e :=
  ⟨h.moved.trans h'.moved, h.rings.trans h'.rings, fun i hi hbit => h'.bits i hi (h.bits i hi hbit)⟩

theorem Chip.Noticed.event (c : Chip) (b : Nat) : c.Noticed (c.event 9 R.TLN_EVT b) :=
  ⟨(Chip.Moved.refl c _ _).event (r := R.TLN_EVT) (by simp) (by simp) (fun _ _ => rfl) 9 b, Chip.rings_event _ _ _ _, fun i hi hbit => by
    rw [Chip.rbit_event c 9 R.TLN_EVT b hi (by decide), hbit, Bool.true_or]⟩

theorem Chip.Noticed.putTln (c : Chip) (t : TlnSt) : c.Noticed { c with tln := t } := ⟨(Chip.Moved.refl c _ _).put rfl rfl, Chip.Rings.of_threads rfl, fun _ _ h => h⟩

theorem Chip.Noticed.mem {c d : Chip} (h : c.Noticed d) : d.mem = c.mem := h.moved.field (f := Chip.mem) (fun _ => rfl)

theorem tln_event (c : Chip) (k : Nat) (r : Reg) (b : Nat) : (c.event k r b).tln = c.tln := by rw [Chip.event_eq]

/-- The bit that an event of the link layer sets. -/
theorem tlnEvt_set (c : Chip) {b i : Nat} (hi : i < 16) (hb : bit b i = true) : (c.event 9 R.TLN_EVT b).rbit R.TLN_EVT i = true := by
  rw [Chip.rbit_event c 9 R.TLN_EVT b hi (by decide), hb, Bool.or_true]

/-! ### The node leaves the string (R732) -/

theorem rd_pmapClear_in (c : Chip) {i : Nat} (hi : i < 1024) : c.pmapClear.rd (R.TLN_PMAP i) = 0 := by
  have hkey := FMap.get_filter 0 c.regs (fun a => !(decide (0x808400 ≤ a) && decide (a < 0x808800))) (0x808400 + 1 * i)
  refine Eq.trans hkey (if_neg ?_)
  rw [decide_eq_true (show 0x808400 ≤ 0x808400 + 1 * i by omega), decide_eq_true (show 0x808400 + 1 * i < 0x808800 by omega)]
  decide

theorem rd_pmapClear_out (c : Chip) {r : Reg} (hr : r.addr < 0x808400 ∨ 0x808800 ≤ r.addr) : c.pmapClear.rd r = c.rd r := by
  have hkey := FMap.get_filter r.reset c.regs (fun a => !(decide (0x808400 ≤ a) && decide (a < 0x808800))) r.addr
  refine Eq.trans hkey (if_pos ?_)
  rcases hr with h | h
  · rw [decide_eq_false (show ¬ 0x808400 ≤ r.addr by omega)]
    rfl
  · rw [decide_eq_false (show ¬ r.addr < 0x808800 by omega), Bool.and_false]
    rfl

/-- What a node out of the string has lost. -/
structure Chip.OutOfString (c d : Chip) : Prop where
  nodeId : d.nodeId = 0
  tstate : d.tstate = tsLISTEN
  routes : d.tln.routes = []
  joinTable : d.tln.joinTable = []
  nonceH : d.tln.nonceH = none
  alive : (d.port 0).alive = false
  window : (d.port 0).window = []
  pmap : ∀ i < 1024, d.rd (R.TLN_PMAP i) = 0
  mem : d.mem = c.mem

/-- What stands when a node leaves the string. -/
structure Chip.LeftBeside (c d : Chip) : Prop where
  rings : c.Rings d
  state : ∀ i, 2 ≤ i → i < 8 → d.rbit R.TLN_STATE i = c.rbit R.TLN_STATE i
  cnt : ∀ k < 16, d.rd (R.TLN_CNT k) = c.rd (R.TLN_CNT k)
  bits : ∀ i < 16, c.rbit R.TLN_EVT i = true → d.rbit R.TLN_EVT i = true

/-- The node's registers and tables given up, before its event. -/
def Chip.unjoinQuiet (c : Chip) : Chip :=
  let b := (c.wr R.TLN_NODEID 0).wfld R.TLN_STATE 0 2 tsLISTEN
  (Chip.pmapClear { b with tln := { b.tln with routes := [], joinTable := [], nonceH := none, nonceJ := none, attempts := 0 } }).hopClear pUP false

theorem unjoin_eq (c : Chip) : c.unjoin = if c.tstate = tsJOINED then c.unjoinQuiet.event 9 R.TLN_EVT 2 else c.unjoinQuiet := rfl

/-- A register of the link layer other than the presence map and the two that leaving writes. -/
theorem rd_unjoinQuiet (c : Chip) {r : Reg} (hr : r.addr < 0x808400) (hid : r.addr ≠ R.TLN_NODEID.addr) (hstate : r.addr ≠ R.TLN_STATE.addr) :
    c.unjoinQuiet.rd r = c.rd r :=
  calc c.unjoinQuiet.rd r = ((c.wr R.TLN_NODEID 0).wfld R.TLN_STATE 0 2 tsLISTEN).rd r := rd_pmapClear_out _ (.inl hr)
    _ = (c.wr R.TLN_NODEID 0).rd r := Chip.rd_wr_other _ _ _ _ hstate
    _ = c.rd r := Chip.rd_wr_other _ _ _ _ hid

theorem rd_unjoinQuiet_state (c : Chip) : c.unjoinQuiet.rd R.TLN_STATE = ((c.wr R.TLN_NODEID 0).wfld R.TLN_STATE 0 2 tsLISTEN).rd R.TLN_STATE :=
  rd_pmapClear_out _ (.inl (by decide))

theorem outOfString_unjoinQuiet (c : Chip) : c.OutOfString c.unjoinQuiet where
  nodeId := calc c.unjoinQuiet.rd R.TLN_NODEID = ((c.wr R.TLN_NODEID 0).wfld R.TLN_STATE 0 2 tsLISTEN).rd R.TLN_NODEID := rd_pmapClear_out _ (.inl (by decide))
    _ = (c.wr R.TLN_NODEID 0).rd R.TLN_NODEID := Chip.rd_wr_other _ _ _ _ (by decide)
    _ = 0 := Chip.rd_wr_self c R.TLN_NODEID 0
  tstate := (congrArg (fld · 0 2) (rd_unjoinQuiet_state c)).trans (Chip.rfld_wfld_self (c := c.wr R.TLN_NODEID 0) tsLISTEN (by decide))
  routes := rfl
  joinTable := rfl
  nonceH := rfl
  alive := congrArg PortSt.alive (setPort_self _ 0 _)
  window := congrArg PortSt.window (setPort_self _ 0 _)
  pmap := fun _ hi => rd_pmapClear_in _ hi
  mem := rfl

theorem leftBeside_unjoinQuiet (c : Chip) : c.LeftBeside c.unjoinQuiet where
  rings := Chip.Rings.of_threads rfl
  state := fun i hi hi8 => ((congrArg (bit · i) (rd_unjoinQuiet_state c)).trans (Chip.rbit_wfld (c := c.wr R.TLN_NODEID 0) hi8 (.inr (by omega)))).trans
    (congrArg (bit · i) (Chip.rd_wr_other _ _ _ _ (by decide)))
  cnt := fun k hk => rd_unjoinQuiet c (by simp only [R.TLN_CNT]; omega) (by simp only [R.TLN_CNT, R.TLN_NODEID]; omega) (by simp only [R.TLN_CNT, R.TLN_STATE]; omega)
  bits := fun i _ hbit => (congrArg (bit · i) (rd_unjoinQuiet c (r := R.TLN_EVT) (by decide) (by decide) (by decide))).trans hbit

/-- An event of the link layer puts nobody back into the string. -/
theorem Chip.OutOfString.event {c d : Chip} (h : c.OutOfString d) (b : Nat) : c.OutOfString (d.event 9 R.TLN_EVT b) := by
  have hport : (d.event 9 R.TLN_EVT b).port 0 = d.port 0 := by rw [Chip.port, tln_event, Chip.port]
  have hnotice := Chip.Noticed.event d b
  have hrd : ∀ r : Reg, r.addr ≠ R.TLN_EVT.addr → r.addr ≠ R.DOORBELL_OVF.addr → (d.event 9 R.TLN_EVT b).rd r = d.rd r := fun r h1 h2 => Chip.rd_event_other d 9 R.TLN_EVT b h1 h2
  exact ⟨(hrd R.TLN_NODEID (by decide) (by decide)).trans h.nodeId, (congrArg (fld · 0 2) (hrd R.TLN_STATE (by decide) (by decide))).trans h.tstate,
    by rw [tln_event]; exact h.routes, by rw [tln_event]; exact h.joinTable, by rw [tln_event]; exact h.nonceH, by rw [hport]; exact h.alive, by rw [hport]; exact h.window,
    fun i hi => (hrd (R.TLN_PMAP i) (by simp only [R.TLN_PMAP, R.TLN_EVT]; omega) (by simp only [R.TLN_PMAP, R.DOORBELL_OVF]; omega)).trans (h.pmap i hi),
    hnotice.mem.trans h.mem⟩

theorem Chip.LeftBeside.noticed {c d e : Chip} (h : c.LeftBeside d) (h' : d.Noticed e) : c.LeftBeside e where
  rings := h.rings.trans h'.rings
  state := fun i hi hi8 => (congrArg (bit · i) (h'.moved.1 R.TLN_STATE (by decide))).trans (h.state i hi hi8)
  cnt := fun k hk => (h'.moved.1 (R.TLN_CNT k) (by simp only [List.forall_mem_cons, R.TLN_CNT, R.TLN_EVT, R.DOORBELL_OVF]; refine ⟨by omega, by omega, by simp⟩)).trans (h.cnt k hk)
  bits := fun i hi hbit => h'.bits i hi (h.bits i hi hbit)

theorem unjoin_spec (c : Chip) : c.OutOfString c.unjoin ∧ c.LeftBeside c.unjoin ∧ (c.tstate = tsJOINED → c.unjoin.rbit R.TLN_EVT 1 = true) := by
  rw [unjoin_eq]
  split
  case isTrue => exact ⟨(outOfString_unjoinQuiet c).event 2, (leftBeside_unjoinQuiet c).noticed (Chip.Noticed.event _ 2), fun _ => tlnEvt_set _ (by decide) (by decide)⟩
  case isFalse h => exact ⟨outOfString_unjoinQuiet c, leftBeside_unjoinQuiet c, fun hj => absurd hj h⟩

/-! ### A child is absent (R733, R734) -/

theorem length_joinEntry (k port hop epoch : Nat) {mid : List Byte} (hmid : mid.length ≤ 8) (req parent : Nat) :
    (joinEntry k port hop epoch mid req parent).length = 16 := by
  simp only [joinEntry, List.length_append, List.length_replicate, leBytes_length]
  omega

theorem joinEntry_kind (k port hop epoch : Nat) (mid : List Byte) (req parent : Nat) : (joinEntry k port hop epoch mid req parent).headD 0 = BitVec.ofNat 8 k := by
  unfold joinEntry
  simp [leBytes]

theorem joinPush_of_room {c : Chip} (hroom : c.tln.joinFifo.length < 8) (e : List Byte) :
    c.joinPush e = Chip.event { c with tln := { c.tln with joinFifo := c.tln.joinFifo ++ [e] } } 9 R.TLN_EVT 0x20 := if_neg (by omega)

/-- One LOST notice leaves every route and every port but UP as it is. -/
theorem lost_spec (c : Chip) (p id : Nat) : c.Noticed (c.lost p id) ∧ (c.lost p id).tln.routes = c.tln.routes ∧ ∀ q, q ≠ 0 → (c.lost p id).port q = c.port q := by
  unfold Chip.lost
  by_cases hhead : c.headActive = true
  · rw [if_pos hhead]
    by_cases hroom : c.tln.joinFifo.length < 8
    · rw [joinPush_of_room hroom]
      refine ⟨(Chip.Noticed.putTln c _).trans (Chip.Noticed.event _ 0x20), by rw [tln_event], fun q _ => ?_⟩
      rw [Chip.port, tln_event, Chip.port]
    · rw [show c.joinPush _ = c from if_pos (by omega)]
      exact ⟨Chip.Noticed.refl c, rfl, fun _ _ => rfl⟩
  · rw [if_neg hhead]
    exact ⟨Chip.Noticed.putTln c _, rfl, fun q hq => FMap.get_set_other _ _ _ _ _ _ hq⟩

theorem foldl_lost_spec (p : Nat) : ∀ (l : List Nat) (c : Chip), c.Noticed (l.foldl (fun c id => c.lost p id) c) ∧
    (l.foldl (fun c id => c.lost p id) c).tln.routes = c.tln.routes ∧ ∀ q, q ≠ 0 → (l.foldl (fun c id => c.lost p id) c).port q = c.port q
  | [], c => ⟨Chip.Noticed.refl c, rfl, fun _ _ => rfl⟩
  | id :: l, c => by
    obtain ⟨hfirst, hroutes, hports⟩ := lost_spec c p id
    obtain ⟨hrest, hroutes', hports'⟩ := foldl_lost_spec p l (c.lost p id)
    exact ⟨hfirst.trans hrest, hroutes'.trans hroutes, fun q hq => (hports' q hq).trans (hports q hq)⟩

/-- What the absence of the child on a port leaves. -/
structure Chip.ChildGone (c d : Chip) (p : Nat) : Prop where
  routes : d.tln.routes = c.tln.routes.filter (fun e => e.2 != p + 1)
  alive : (d.port p).alive = false
  window : (d.port p).window = []
  fwd : (d.port p).fwd = []
  store : (d.port p).store = []
  evt : d.rbit R.TLN_EVT 2 = true
  rings : c.Rings d
  mem : d.mem = c.mem
  bits : ∀ i < 16, c.rbit R.TLN_EVT i = true → d.rbit R.TLN_EVT i = true
  rd : ∀ r : Reg, r.addr ≠ (R.TLN_CNT 2).addr → r.addr ≠ R.TLN_EVT.addr → r.addr ≠ R.DOORBELL_OVF.addr → d.rd r = c.rd r

/-- The routes of a port and what it holds given up, before the notices. -/
def Chip.childDropped (c : Chip) (p : Nat) : Chip :=
  let x := c.port p
  let b := Chip.wr { c with tln := { c.tln with routes := c.tln.routes.filter (fun e => e.2 != p + 1) } } (R.TLN_CNT tcDROPABS)
    (min 0xFFFF (c.rd (R.TLN_CNT tcDROPABS) + (x.fwd.length + x.store.length + x.window.length)))
  (b.setPort p { x with fwd := [], store := [] }).hopClear p false

theorem childAbsent_eq (c : Chip) (p : Nat) : c.childAbsent p =
    (((c.tln.routes.filter (fun e => e.2 == p + 1)).map (fun e => e.1)).foldl (fun c id => c.lost p id) (c.childDropped p)).event 9 R.TLN_EVT 4 := rfl

theorem port_childDropped (c : Chip) (p : Nat) : (c.childDropped p).port p =
    { c.port p with fwd := [], store := [], txSeq := 0, rxSeq := 0, window := [], hackDue := false, alive := false } := by
  unfold Chip.childDropped Chip.hopClear
  dsimp only
  rw [setPort_self, setPort_self]

theorem childAbsent_spec (c : Chip) {p : Nat} (hp : p ≠ 0) : c.ChildGone (c.childAbsent p) p := by
  obtain ⟨hnoticed, hroutes, hports⟩ := foldl_lost_spec p ((c.tln.routes.filter (fun e => e.2 == p + 1)).map (fun e => e.1)) (c.childDropped p)
  rw [childAbsent_eq]
  obtain ⟨b, hb⟩ : ∃ b, ((c.tln.routes.filter (fun e => e.2 == p + 1)).map (fun e => e.1)).foldl (fun c id => c.lost p id) (c.childDropped p) = b := ⟨_, rfl⟩
  rw [hb] at hnoticed hroutes hports ⊢
  have hport : (b.event 9 R.TLN_EVT 4).port p = { c.port p with fwd := [], store := [], txSeq := 0, rxSeq := 0, window := [], hackDue := false, alive := false } := by
    rw [Chip.port, tln_event, ← Chip.port, hports p hp, port_childDropped]
  have hall := hnoticed.trans (Chip.Noticed.event b 4)
  have hdropped : ∀ r : Reg, r.addr ≠ (R.TLN_CNT 2).addr → (c.childDropped p).rd r = c.rd r := fun r hr => Chip.rd_wr_other _ _ _ _ hr
  exact ⟨by rw [tln_event, hroutes]; rfl, by rw [hport], by rw [hport], by rw [hport], by rw [hport], tlnEvt_set b (by decide) (by decide),
    (Chip.Rings.of_threads rfl : c.Rings (c.childDropped p)).trans hall.rings, hall.mem, fun i hi hbit => hall.bits i hi ((congrArg (bit · i) (hdropped R.TLN_EVT (by decide))).trans hbit),
    fun r h1 h2 h3 => (hall.moved.1 r (by simp only [List.forall_mem_cons]; exact ⟨h2, h3, by simp⟩)).trans (hdropped r h1)⟩

/-! ### Random draws (18 R861, R867) -/

/-- A draw changes the entropy source alone. -/
theorem drbgTake_eq {c d : Chip} {n : Nat} {b : List Byte} (h : c.drbgTake n = some (b, d)) : ∃ e, d = { c with ent := e } := by
  unfold Chip.drbgTake at h
  split at h
  case isTrue =>
    obtain ⟨e, he, -⟩ := c.drbgFill_eq 2
    obtain ⟨e', he', -⟩ := Chip.drbgFill_eq { c.drbgFill 2 with ent := { (c.drbgFill 2).ent with buffer := (c.drbgFill 2).ent.buffer.drop n } } 2
    refine ⟨e', ?_⟩
    rw [← (Prod.mk.inj (Option.some.inj h)).2, he', he]
  case isFalse => exact absurd h (by simp)

theorem timingDraw_eq (c : Chip) (i : Nat) : ∃ e, (c.timingDraw i).2 = { c with ent := e } := by
  unfold Chip.timingDraw
  split
  case h_1 b d h => exact drbgTake_eq h
  case h_2 => exact ⟨_, rfl⟩

/-! ### Pebble stores nothing -/

theorem pebActs_mem (c : Chip) (i r : Nat) : (c.pebActs i r).2.mem = c.mem := by
  unfold Chip.pebActs
  dsimp only
  split
  · obtain ⟨e, he⟩ := timingDraw_eq c (5 + i)
    rw [he]
  · split <;> rfl

theorem pebble_mem (c : Chip) (i : Nat) (rx : Bool) (x : PebItem) : (c.pebble i rx x).1.mem = c.mem := by
  unfold Chip.pebble
  split
  · rfl
  · split
    · rfl
    · split
      · rfl
      · dsimp only
        split
        · exact pebActs_mem c i _
        · have hacts := pebActs_mem c i
          split
          case h_5 => split <;> exact hacts _
          case h_6 => split <;> exact hacts _
          all_goals exact hacts _

/-- Whatever Pebble does to a frame that is sent, no memory changes. -/
theorem transmit_mem (c : Chip) (p : Nat) (f : Frame) : (c.transmit p f).mem = c.mem := by
  unfold Chip.transmit
  extract_lets x g a t b
  have hkept : a.mem = c.mem := by unfold a; split <;> rfl
  have hspoke : b.mem = a.mem := by unfold b; split <;> rfl
  exact (pebble_mem b p false (.link g false)).trans (hspoke.trans hkept)


/-! ### Presence (R731) -/

/-- A presence segment written into the map. -/
def Chip.pmapWritten (c : Chip) (base : Nat) (g : Nat → Nat) (n : Nat) : Chip := (List.range n).foldl (fun c i => c.wr (R.TLN_PMAP (base + i)) (g i)) c

theorem pmapWritten_succ (c : Chip) (base : Nat) (g : Nat → Nat) (n : Nat) :
    c.pmapWritten base g (n + 1) = (c.pmapWritten base g n).wr (R.TLN_PMAP (base + n)) (g n) := by
  rw [Chip.pmapWritten, List.range_succ, List.foldl_append]
  rfl

theorem rd_pmapWritten_other (c : Chip) (base : Nat) (g : Nat → Nat) {r : Reg} : ∀ n, (∀ i < n, r.addr ≠ (R.TLN_PMAP (base + i)).addr) → (c.pmapWritten base g n).rd r = c.rd r
  | 0, _ => rfl
  | n + 1, h => by
    rw [pmapWritten_succ, Chip.rd_wr_other _ _ _ _ (h n (by omega))]
    exact rd_pmapWritten_other c base g n (fun i hi => h i (by omega))

theorem rd_pmapWritten_self (c : Chip) (base : Nat) (g : Nat → Nat) : ∀ n, ∀ i < n, g i < 256 → (c.pmapWritten base g n).rd (R.TLN_PMAP (base + i)) = g i
  | n + 1, i, hi, hg => by
    rw [pmapWritten_succ]
    by_cases hn : i = n
    · rw [hn, Chip.rd_wr_self]
      exact Nat.mod_eq_of_lt (by rw [← hn]; exact hg)
    · rw [Chip.rd_wr_other _ _ _ _ (by simp only [R.TLN_PMAP]; omega)]
      exact rd_pmapWritten_self c base g n i (by omega) hg

theorem moved_pmapWritten (c : Chip) {base : Nat} (g : Nat → Nat) : ∀ n, base + n ≤ 1024 → c.Moved (c.pmapWritten base g n) ((List.range 1024).map R.TLN_PMAP) id
  | 0, _ => Chip.Moved.refl _ _ _
  | n + 1, h => by
    rw [pmapWritten_succ]
    exact (moved_pmapWritten c g n (by omega)).wr (List.mem_map.mpr ⟨base + n, List.mem_range.mpr (by omega), rfl⟩) _

theorem pmap_not_level : ∀ r ∈ levelRegs, ∀ x ∈ (List.range 1024).map R.TLN_PMAP, r.addr ≠ x.addr := by
  have hout : ∀ r ∈ levelRegs, r.addr < 0x808400 ∨ 0x808800 ≤ r.addr := by decide
  intro r hr x hx
  obtain ⟨i, hi, rfl⟩ := List.mem_map.mp hx
  have := hout r hr
  have := List.mem_range.mp hi
  simp only [R.TLN_PMAP]
  omega

theorem does_presence {s : State} {f : Frame} (hon : s.chip.portOn 0 = true) (hmac : s.chip.macOk f = true) (hkind : f.kind = 9) (hleaf : s.chip.tln.role = roLEAF) :
    Does (.presenceReceive 0 f) s (fun d =>
      (∀ i < 128, d.rd (R.TLN_PMAP (128 * ((f.payload.headD 0).toNat % 8) + i)) = (f.payload.getD (1 + i) 0).toNat) ∧
      (∀ i < 1024, i / 128 ≠ (f.payload.headD 0).toNat % 8 → d.rd (R.TLN_PMAP i) = s.chip.rd (R.TLN_PMAP i)) ∧
      s.chip.Keeps d ((List.range 1024).map R.TLN_PMAP) id) := by
  let g : Nat → Nat := fun i => ((f.payload.drop (1 + i)).headD 0).toNat
  have hin : s.chip.presenceIn f = s.chip.pmapWritten (128 * ((f.payload.headD 0).toNat % 8)) g 128 := by
    have hrole : (s.chip.pmapWritten (128 * ((f.payload.headD 0).toNat % 8)) g 128).tln.role ≠ roRELAY := by
      have htln : (s.chip.pmapWritten (128 * ((f.payload.headD 0).toNat % 8)) g 128).tln = s.chip.tln :=
        (moved_pmapWritten s.chip g 128 (by omega)).field (f := Chip.tln) (fun _ => rfl)
      rw [htln, hleaf]
      decide
    exact if_neg hrole
  have hdo : (if (0 : Fin 3).val = pUP then s.chip.ifFrame 0 f 9 (fun c => c.presenceIn f) else s.chip) = _ :=
    (if_pos rfl).trans ((ifFrame_of_good hon (by rw [hkind]; rfl) hmac (fun c => c.presenceIn f)).trans hin)
  have hself := fun i hi => rd_pmapWritten_self s.chip (128 * ((f.payload.headD 0).toNat % 8)) g 128 i hi (BitVec.isLt _)
  have hother := fun r => rd_pmapWritten_other s.chip (128 * ((f.payload.headD 0).toNat % 8)) g (r := r) 128
  have hmoved := moved_pmapWritten s.chip (base := 128 * ((f.payload.headD 0).toNat % 8)) g 128 (by omega)
  obtain ⟨b, hb⟩ : ∃ b, s.chip.pmapWritten (128 * ((f.payload.headD 0).toNat % 8)) g 128 = b := ⟨_, rfl⟩
  rw [hb] at hself hother hmoved hdo
  have hbyte : ∀ i, g i = (f.payload.getD (1 + i) 0).toNat := fun i => by
    simp only [g, List.headD_eq_head?_getD, List.head?_drop, List.getD_eq_getElem?_getD]
  exact does_of_lift (show exec (.presenceReceive 0 f) s = execPresenceReceive 0 f s from rfl) hdo
    ⟨fun i hi => (hself i hi).trans (hbyte i), fun i hi hne => hother (R.TLN_PMAP i) (fun j hj => by simp only [R.TLN_PMAP]; omega), hmoved.keeps pmap_not_level levelBlank_id⟩

/-! ### What the head hears (R729) -/

theorem does_pushed {s : State} {i : Instr} {f : Chip → Chip} {k port hop epoch : Nat} {mid : List Byte} {req parent : Nat} (he : exec i s = s.lift f)
    (hd : f s.chip = s.chip.joinPush (joinEntry k port hop epoch mid req parent)) (hmid : mid.length ≤ 8) (hroom : s.chip.tln.joinFifo.length < 8) :
    Does i s (fun d => (∃ e : List Byte, d.tln.joinFifo = s.chip.tln.joinFifo ++ [e] ∧ e.length = 16 ∧ e.headD 0 = BitVec.ofNat 8 k) ∧
      { d.tln with joinFifo := [] } = { s.chip.tln with joinFifo := [] } ∧ (bit (d.rd R.TLN_EVT) 5 = true ∧ s.chip.Rings d) ∧
      s.chip.Keeps d [R.TLN_EVT, R.DOORBELL_OVF] Chip.noTlnThreads) := by
  rw [joinPush_of_room hroom] at hd
  obtain ⟨b, hb⟩ : ∃ b, Chip.event { s.chip with tln := { s.chip.tln with joinFifo := s.chip.tln.joinFifo ++ [joinEntry k port hop epoch mid req parent] } } 9 R.TLN_EVT 0x20 = b := ⟨_, rfl⟩
  have htln : b.tln = { s.chip.tln with joinFifo := s.chip.tln.joinFifo ++ [joinEntry k port hop epoch mid req parent] } := by rw [← hb, tln_event]
  have hnoticed : s.chip.Noticed b := hb ▸ (Chip.Noticed.putTln s.chip _).trans (Chip.Noticed.event _ 0x20)
  have hset : b.rbit R.TLN_EVT 5 = true := hb ▸ tlnEvt_set _ (by decide) (by decide)
  refine does_of_lift he (hd.trans hb) ⟨⟨_, congrArg TlnSt.joinFifo htln, length_joinEntry _ _ _ _ hmid _ _, joinEntry_kind _ _ _ _ _ _ _⟩, ?_, ⟨hset, hnoticed.rings⟩, hnoticed.moved.keeps (by decide) levelBlank_noTlnThreads⟩
  change { b.tln with joinFifo := [] } = _
  rw [htln]

/-! ### Isolation (R748) -/

/-- A port marked isolated, counted and shown. -/
def Chip.isolated (c : Chip) (p : Nat) : Chip := ((c.wbit R.TLN_STATE (3 + p) true).inc (R.TLN_CNT tcISOLATE)).event 9 R.TLN_EVT 8

theorem isolated_spec (c : Chip) {p : Nat} (hp : p < 3) (hroom : c.rd (R.TLN_CNT 7) < 0xFFFF) :
    (c.isolated p).rbit R.TLN_STATE (3 + p) = true ∧ (c.isolated p).rd (R.TLN_CNT 7) = c.rd (R.TLN_CNT 7) + 1 ∧ (c.isolated p).rbit R.TLN_EVT 3 = true ∧
    c.Rings (c.isolated p) ∧ (c.isolated p).mem = c.mem ∧ (c.isolated p).tln = c.tln := by
  let b := c.wbit R.TLN_STATE (3 + p) true
  have hnoticed := Chip.Noticed.event (b.inc (R.TLN_CNT 7)) 8
  have hcnt : b.rd (R.TLN_CNT 7) = c.rd (R.TLN_CNT 7) := Chip.rd_wr_other _ _ _ _ (by decide)
  refine ⟨?_, ?_, tlnEvt_set _ (by decide) (by decide), hnoticed.rings, hnoticed.mem, tln_event _ _ _ _⟩
  · calc (c.isolated p).rbit R.TLN_STATE (3 + p) = (b.inc (R.TLN_CNT 7)).rbit R.TLN_STATE (3 + p) := congrArg (bit · (3 + p)) (hnoticed.moved.1 R.TLN_STATE (by decide))
      _ = b.rbit R.TLN_STATE (3 + p) := congrArg (bit · (3 + p)) (Chip.rd_wr_other _ _ _ _ (by decide))
      _ = true := (Chip.rbit_wbit (r := R.TLN_STATE) c (3 + p) true (by simp only [R.TLN_STATE]; omega)).trans (if_pos rfl)
  · calc (c.isolated p).rd (R.TLN_CNT 7) = (b.inc (R.TLN_CNT 7)).rd (R.TLN_CNT 7) := hnoticed.moved.1 (R.TLN_CNT 7) (by decide)
      _ = b.rd (R.TLN_CNT 7) + 1 := rd_inc_cnt (hcnt ▸ hroom)
      _ = c.rd (R.TLN_CNT 7) + 1 := by rw [hcnt]

theorem portOn_of_isolated {c : Chip} {p : Nat} (h : c.rbit R.TLN_STATE (3 + p) = true) : c.portOn p = false := by
  unfold Chip.portOn
  rw [h]
  simp

/-! ### The commands -/

/-- What a child's absence shows. -/
theorem does_childGone {s : State} {i : Instr} {f : Chip → Chip} {p : Nat} (he : exec i s = s.lift f) (hd : f s.chip = s.chip.childAbsent p) (hp : p ≠ 0) :
    Does i s (fun d => d.tln.routes = s.chip.tln.routes.filter (fun e => e.2 != p + 1) ∧ (d.port p).alive = false ∧ (d.port p).window = [] ∧ (d.port p).fwd = [] ∧
      (d.port p).store = [] ∧ (bit (d.rd R.TLN_EVT) 2 = true ∧ s.chip.Rings d) ∧ d.mem = s.chip.mem) := by
  have hgone := childAbsent_spec s.chip hp
  exact does_of_lift he hd ⟨hgone.routes, hgone.alive, hgone.window, hgone.fwd, hgone.store, ⟨hgone.evt, hgone.rings⟩, hgone.mem⟩

/-- What leaving the string shows, as the statement lists it. -/
theorem Chip.OutOfString.shown {c d : Chip} (h : c.OutOfString d) : d.nodeId = 0 ∧ d.tstate = tsLISTEN ∧ d.tln.routes = [] ∧ d.tln.joinTable = [] ∧ d.tln.nonceH = none ∧
    (d.port 0).alive = false ∧ (d.port 0).window = [] ∧ (∀ i < 1024, d.rd (R.TLN_PMAP i) = 0) ∧ d.mem = c.mem :=
  ⟨h.nodeId, h.tstate, h.routes, h.joinTable, h.nonceH, h.alive, h.window, h.pmap, h.mem⟩

theorem leave_spec (c : Chip) : c.OutOfString c.leave ∧ c.leave.tln.stopped = true := by
  unfold Chip.leave
  extract_lets f b e
  have hmem : b.mem = c.mem := by
    unfold b
    split
    · exact transmit_mem _ _ _
    · rfl
  obtain ⟨hout, -, -⟩ := unjoin_spec b
  exact ⟨⟨hout.nodeId, hout.tstate, hout.routes, hout.joinTable, hout.nonceH, hout.alive, hout.window, hout.pmap, hout.mem.trans hmem⟩, rfl⟩

/-- The role and the port modes taken; a change of role begins anew. -/
def Chip.modesTaken (c : Chip) : Chip := { c with tln := { c.tln with role := c.rd R.TLN_ROLE, pmode := c.rd R.TLN_PMODE } }
def Chip.roleBegun (c : Chip) : Chip :=
  { c.modesTaken with tln := { c.modesTaken.tln with listening := c.rd R.TLN_ROLE == roHEAD, stopped := false, attempts := 0 } }

/-- A role that takes effect where nothing has to be left first. -/
def Chip.roleTaken (c : Chip) : Chip :=
  if c.rd R.TLN_ROLE ≠ c.tln.role then c.roleBegun.wfld R.TLN_STATE 0 2 (if c.rd R.TLN_ROLE = 0 then 0 else tsLISTEN) else c.modesTaken

theorem roleApply_eq {c : Chip} (hon : c.domOn dLNK = true) (hstate : c.tstate ≠ tsJOINED) (hhead : c.headActive = false) : c.roleApply = c.roleTaken := by
  unfold Chip.roleApply
  rw [hon]
  simp only [Bool.not_true, Bool.false_eq_true, hstate, hhead, Bool.not_false, and_true, and_false, if_false]
  rfl

theorem roleTaken_spec (c : Chip) : c.roleTaken.tln.role = c.rd R.TLN_ROLE ∧ c.roleTaken.tln.pmode = c.rd R.TLN_PMODE ∧
    (c.rd R.TLN_ROLE ≠ c.tln.role → c.roleTaken.tstate = (if c.rd R.TLN_ROLE = 0 then 0 else tsLISTEN) ∧ c.roleTaken.tln.stopped = false ∧
      c.roleTaken.tln.listening = decide (c.rd R.TLN_ROLE = 1)) ∧
    c.Moved c.roleTaken [R.TLN_STATE] Chip.noTln := by
  unfold Chip.roleTaken
  split
  case isTrue hne =>
    refine ⟨rfl, rfl, fun _ => ⟨?_, rfl, ?_⟩, ((Chip.Moved.refl c _ _).put (e := c.roleBegun) rfl rfl).wfld (r := R.TLN_STATE) (by simp) _ _ _⟩
    · exact (Chip.rfld_wfld_self (c := c.roleBegun) (r := R.TLN_STATE) (lo := 0) (w := 2) (if c.rd R.TLN_ROLE = 0 then 0 else tsLISTEN) (by decide)).trans (by split <;> rfl)
    · exact Bool.beq_eq_decide_eq (c.rd R.TLN_ROLE) roHEAD
  case isFalse heq => exact ⟨rfl, rfl, fun hne => absurd hne heq, (Chip.Moved.refl c _ _).put rfl rfl⟩

theorem does_roleApply {s : State} (hon : s.chip.domOn dLNK = true) (hstate : s.chip.tstate ≠ tsJOINED) (hhead : s.chip.headActive = false) :
    Does .roleChangeApply s (fun d => d.tln.role = s.chip.rd R.TLN_ROLE ∧ d.tln.pmode = s.chip.rd R.TLN_PMODE ∧
      (s.chip.rd R.TLN_ROLE ≠ s.chip.tln.role → d.tstate = (if s.chip.rd R.TLN_ROLE = 0 then 0 else tsLISTEN) ∧ d.tln.stopped = false ∧
        d.tln.listening = decide (s.chip.rd R.TLN_ROLE = 1)) ∧ s.chip.Keeps d [R.TLN_STATE] Chip.noTln) := by
  obtain ⟨hrole, hpmode, hchange, hmoved⟩ := roleTaken_spec s.chip
  exact does_of_lift (show exec .roleChangeApply s = execRoleChangeApply s from rfl) (roleApply_eq hon hstate hhead) ⟨hrole, hpmode, hchange, hmoved.keeps (by decide) levelBlank_noTln⟩

theorem does_listenSwitch {s : State} (hhalt : s.chip.haltLink = true) (hup : s.chip.domUp dLNK = true) (hfree : s.chip.tln.nonceH = none)
    (hstate : s.chip.tstate ≠ tsJOINED) (hhead : s.chip.headActive = false) :
    Does .otpHaltListenSwitch s (fun d => d.rd R.TLN_PMODE = (if s.chip.rfld R.TLN_PMODE 0 2 = 1 then 2 else 1) ∧ d.tln.pmode = d.rd R.TLN_PMODE) := by
  let b := s.chip.wr R.TLN_PMODE (if s.chip.rfld R.TLN_PMODE 0 2 = 1 then 2 else 1)
  have hon : b.domOn dLNK = true := by
    have hcode : 4 ≤ (s.chip.dom dLNK).state := of_decide_eq_true hup
    exact decide_eq_true (show 2 ≤ (s.chip.dom dLNK).state by omega)
  have hstands : b.rd R.TLN_STATE = s.chip.rd R.TLN_STATE := Chip.rd_wr_other _ _ _ _ (by decide)
  have hmode : b.rd R.TLN_PMODE = if s.chip.rfld R.TLN_PMODE 0 2 = 1 then 2 else 1 := (Chip.rd_wr_self s.chip R.TLN_PMODE _).trans (by split <;> rfl)
  have hdo : s.chip.listenSwitch = b.roleTaken := (if_pos (by rw [hhalt, hup, hfree]; rfl)).trans
    (roleApply_eq hon (by rw [Chip.tstate, Chip.rfld, hstands]; exact hstate) (by rw [Chip.headActive, Chip.rbit, hstands]; exact hhead))
  obtain ⟨-, hpmode, -, hmoved⟩ := roleTaken_spec b
  have hkept := hmoved.1 R.TLN_PMODE (by decide)
  exact does_of_lift (show exec .otpHaltListenSwitch s = execOtpHaltListenSwitch s from rfl) hdo ⟨hkept.trans hmode, hpmode.trans hkept.symm⟩

theorem does_isolate {s : State} {p : Fin 3} (hon : s.chip.portOn p = true) (hroom : s.chip.rd (R.TLN_CNT 7) < 0xFFFF) :
    Does (.portIsolate p) s (fun d => d.rbit R.TLN_STATE (3 + p) = true ∧ d.portOn p = false ∧ d.rd (R.TLN_CNT 7) = s.chip.rd (R.TLN_CNT 7) + 1 ∧
      (bit (d.rd R.TLN_EVT) 3 = true ∧ s.chip.Rings d) ∧
      (if p = 0 then d.nodeId = 0 ∧ d.tstate = tsLISTEN ∧ d.tln.routes = [] ∧ d.tln.joinTable = [] ∧ d.tln.nonceH = none ∧
        (d.port 0).alive = false ∧ (d.port 0).window = [] ∧ (∀ i < 1024, d.rd (R.TLN_PMAP i) = 0) ∧ d.mem = s.chip.mem
      else d.tln.routes = s.chip.tln.routes.filter (fun e => e.2 != p.val + 1))) := by
  obtain ⟨hmark, hcnt, hevt, hrings, hmem, htln⟩ := isolated_spec s.chip p.isLt hroom
  have hdo : (if s.chip.portOn p then s.chip.isolate p else s.chip) = if p.val = pUP then (s.chip.isolated p).unjoin else (s.chip.isolated p).childAbsent p := if_pos hon
  obtain ⟨b, hb⟩ : ∃ b, s.chip.isolated p = b := ⟨_, rfl⟩
  rw [hb] at hmark hcnt hevt hrings hmem htln hdo
  by_cases hp : p = 0
  · obtain ⟨hout, hbeside, -⟩ := unjoin_spec b
    have hpv : p.val = pUP := by rw [hp]; rfl
    replace hdo := hdo.trans (if_pos hpv)
    have hmark' := (hbeside.state (3 + p) (by omega) (by omega)).trans hmark
    refine does_of_lift (show exec (.portIsolate p) s = execPortIsolate p s from rfl) hdo ⟨hmark', portOn_of_isolated hmark', (hbeside.cnt 7 (by decide)).trans hcnt,
      ⟨hbeside.bits 3 (by decide) hevt, hrings.trans hbeside.rings⟩, ?_⟩
    rw [if_pos hp]
    exact ⟨hout.nodeId, hout.tstate, hout.routes, hout.joinTable, hout.nonceH, hout.alive, hout.window, hout.pmap, hout.mem.trans hmem⟩
  · have hpv : p.val ≠ 0 := fun h => hp (Fin.ext h)
    have hgone := childAbsent_spec b hpv
    replace hdo := hdo.trans (if_neg hpv)
    have hmark' : (b.childAbsent p).rbit R.TLN_STATE (3 + p) = true := (congrArg (bit · (3 + p.val)) (hgone.rd R.TLN_STATE (by decide) (by decide) (by decide))).trans hmark
    refine does_of_lift (show exec (.portIsolate p) s = execPortIsolate p s from rfl) hdo ⟨hmark', portOn_of_isolated hmark',
      (hgone.rd (R.TLN_CNT 7) (by decide) (by decide) (by decide)).trans hcnt, ⟨hgone.bits 3 (by decide) hevt, hrings.trans hgone.rings⟩, ?_⟩
    rw [if_neg hp]
    exact hgone.routes.trans (by rw [htln])

theorem does_portRetry {s : State} {p : Fin 3} : Does (.portRetry p) s (fun d => d.rbit R.TLN_STATE (3 + p) = false ∧ s.chip.Keeps d [R.TLN_STATE] id) :=
  does_of_lift (show exec (.portRetry p) s = execPortRetry p s from rfl) rfl
    ⟨(Chip.rbit_wbit (r := R.TLN_STATE) s.chip (3 + p.val) false (by simp only [R.TLN_STATE]; omega)).trans (if_pos rfl),
      ((Chip.Moved.refl s.chip _ _).wbit (by simp) _ _).keeps (by decide) levelBlank_id⟩

/-- Settles O57: each way out of the string is one of two changes, `unjoin` and `childAbsent`, which the two specifications describe. -/
theorem linkMembership : Obligations.LinkMembership := by
  intro s p f w c evt out childless pushed
  refine ⟨fun hon hjoined hhead => ?_, fun hp hon => ?_, fun hp hon hkind hmac => ?_, fun hon hmac hhead hroom hcode => ⟨fun hkind => ?_, fun hkind => ?_⟩,
    fun hon hmac hkind hleaf => does_presence hon hmac hkind hleaf, fun hon => ?_, fun hon => ?_, fun hon hstate hhead => does_roleApply hon hstate hhead,
    fun hon hroom => does_isolate hon hroom, does_portRetry, fun hhalt hup hfree hstate hhead => does_listenSwitch hhalt hup hfree hstate hhead⟩
  · have hdo : (if s.chip.domOn dLNK && s.chip.tstate == tsJOINED && !s.chip.headActive then s.chip.unjoin else s.chip) = s.chip.unjoin :=
      if_pos (by rw [show s.chip.domOn dLNK = true from hon, show s.chip.tstate = tsJOINED from hjoined, show s.chip.headActive = false from hhead]; rfl)
    obtain ⟨hout, hbeside, hevt⟩ := unjoin_spec s.chip
    exact does_of_lift (show exec .beaconLoss s = execBeaconLoss s from rfl) hdo ⟨hout.shown, hevt hjoined, hbeside.rings⟩
  · have hpv : p.val ≠ pUP := fun h => hp (Fin.ext h)
    exact does_childGone (show exec (.childAbsent p) s = execChildAbsent p s from rfl)
      (if_pos (by rw [show s.chip.domOn dLNK = true from hon, bne_iff_ne.mpr hpv]; rfl)) hpv
  · have hpv : p.val ≠ pUP := fun h => hp (Fin.ext h)
    exact does_childGone (show exec (.leaveReceive p f) s = execLeaveReceive p f s from rfl)
      ((ifFrame_of_good hon (by rw [hkind]; rfl) hmac (fun c => c.leaveIn p)).trans (if_neg hpv)) hpv
  · exact does_pushed (show exec (.statusReceive p f) s = execStatusReceive p f s from rfl)
      ((ifFrame_of_good hon (by rw [hkind]; rfl) hmac (fun c => c.statusIn p f)).trans (if_pos ⟨hhead, hcode⟩)) (by split <;> exact (leBytes_length 8 _).le) hroom
  · exact does_pushed (show exec (.noticeReceive p f) s = execNoticeReceive p f s from rfl)
      ((ifFrame_of_good hon (by rw [hkind]; rfl) hmac (fun c => c.noticeIn p f)).trans (if_pos ⟨hhead, hcode⟩)) (by rw [leBytes_length]; decide) hroom
  · exact does_of_lift (show exec (.tlnCmdJoin w) s = execTlnCmdJoin w s from rfl) (if_pos hon)
      ⟨rfl, ((Chip.Moved.refl s.chip [] Chip.noTln).put rfl rfl).keeps (by simp) levelBlank_noTln⟩
  · obtain ⟨hout, hstopped⟩ := leave_spec s.chip
    exact does_of_lift (show exec (.tlnCmdLeave w) s = execTlnCmdLeave w s from rfl) (if_pos hon) ⟨hout.shown, hstopped⟩

end Sys2Proof.Machine
end

section
/-!
PROOFS. The string: beacons, slots and joining (15 R719 to R731, R744).
-/
namespace Sys2Proof.Machine

/-! ### What a reference edge at a wheel moves (03 R104 to R110) -/

/-- The registers that an edge at wheel `n` moves at most. -/
def wheelEdgeRegs (n : Nat) : List Reg := R.WHn_PERR n :: R.WHn_REJCNT n :: wheelStateRegs n

/-- Only the wheels, and what follows them, have changed. -/
def Chip.WheelMoved (c d : Chip) (n : Nat) : Prop := c.Moved d (wheelEdgeRegs n) Chip.noWheels

section
variable {c d : Chip} {n : Fin 4}

theorem Chip.WheelMoved.refl (c : Chip) (n : Nat) : c.WheelMoved c n := Chip.Moved.refl _ _ _

theorem Chip.WheelMoved.setWheel (h : c.WheelMoved d n) (w : Wheel) : c.WheelMoved (d.setWheel n w) n := h.put rfl rfl

theorem Chip.WheelMoved.setWheelState (h : c.WheelMoved d n) (st : Nat) : c.WheelMoved (d.setWheelState n st) n := by
  by_cases hst : (d.wheel n).state = st
  · rw [show d.setWheelState n st = d from if_pos hst]
    exact h
  · obtain ⟨-, -, -, hmoved⟩ := Chip.setWheelState_of_ne hst
    exact h.trans (hmoved.mono (fun x hx => List.mem_cons_of_mem _ (List.mem_cons_of_mem _ hx)))

theorem Chip.WheelMoved.slew (h : c.WheelMoved d n) (e : Int) : c.WheelMoved (d.slew n e) n := h.setWheel _

theorem Chip.WheelMoved.acquireCorrect (h : c.WheelMoved d n) (e : Int) : c.WheelMoved (d.acquireCorrect n e) n :=
  Chip.Moved.ite _ (fun _ => h.setWheel _) (fun _ => h.slew e)

theorem Chip.WheelMoved.seed (h : c.WheelMoved d n) (t : Nat) : c.WheelMoved (d.seed n t) n := Chip.Moved.ite _ (fun _ => h.setWheel _) (fun _ => h)

theorem Chip.WheelMoved.acquireEdge (h : c.WheelMoved d n) (t : Nat) (e : Int) : c.WheelMoved (d.acquireEdge n t e) n := by
  unfold Chip.acquireEdge
  extract_lets w k a b w' tol g
  have hseed : c.WheelMoved a n := by
    refine Chip.Moved.ite _ (fun _ => ?_) (fun _ => h)
    split
    · exact h.seed _
    · exact h
  have hcount : c.WheelMoved g n := (hseed.acquireCorrect e).setWheel _
  exact Chip.Moved.ite _ (fun _ => (hcount.setWheel _).setWheelState whLOCKED) (fun _ => hcount)

theorem Chip.WheelMoved.enterAcquire (h : c.WheelMoved d n) (t : Nat) (e : Int) : c.WheelMoved (d.enterAcquire n t e) n := by
  unfold Chip.enterAcquire
  extract_lets w a
  have hbegun : c.WheelMoved a n := (h.setWheel _).setWheelState whACQUIRE
  exact hbegun.acquireEdge t e

theorem Chip.WheelMoved.acceptEdge (h : c.WheelMoved d n) (t : Nat) (e : Int) : c.WheelMoved (d.acceptEdge n t e) n := by
  unfold Chip.acceptEdge
  extract_lets w a b w'
  have herror : c.WheelMoved a n := h.wr List.mem_cons_self _
  have hstate : c.WheelMoved b n := by
    unfold b
    split
    · exact (herror.setWheel _).enterAcquire t e
    · exact herror.acquireEdge t e
    · exact Chip.Moved.ite _ (fun _ => (herror.setWheel _).slew e) (fun _ => Chip.Moved.ite _ (fun _ => herror.setWheel _) (fun _ => herror.enterAcquire t e))
    · exact herror.enterAcquire t e
    · exact herror
  exact hstate.setWheel _

theorem Chip.WheelMoved.rejectEdge (h : c.WheelMoved d n) (t : Nat) : c.WheelMoved (d.rejectEdge n t) n := by
  unfold Chip.rejectEdge
  extract_lets a w recent b
  have hcount : c.WheelMoved b n := Chip.WheelMoved.setWheel (h.inc (List.mem_cons_of_mem _ List.mem_cons_self)) _
  exact Chip.Moved.ite _ (fun _ => (hcount.setWheel _).setWheelState whNOISY) (fun _ => hcount)

/-- A reference edge, accepted or not. -/
theorem wheelMoved_refEdge (c : Chip) (n : Fin 4) (t angle : Nat) : c.WheelMoved (c.refEdge n t angle).1 n := by
  unfold Chip.refEdge
  split
  · exact Chip.WheelMoved.refl c n
  · split
    · exact (Chip.WheelMoved.refl c n).acceptEdge t _
    · exact (Chip.WheelMoved.refl c n).rejectEdge t

end

/-! ### Nonces (15 R743) -/

/-- Blanks the entropy source and the link layer. -/
def Chip.noDraws (d : Chip) : Chip := { d with ent := {}, tln := {} }

/-- A nonce drawn changes the entropy source, or the counter of nonces and its watermark. -/
theorem drawNonce_spec {c e : Chip} {nj : Nat} (h : c.drawNonce = some (nj, e)) :
    c.Moved e [R.NVM_NWM] Chip.noDraws ∧ e.tln = { c.tln with nonceCtr := e.tln.nonceCtr } := by
  unfold Chip.drawNonce at h
  split at h
  case h_1 b d hdraw =>
    obtain ⟨x, hx⟩ := drbgTake_eq hdraw
    rw [← (Prod.mk.inj (Option.some.inj h)).2, hx]
    exact ⟨(Chip.Moved.refl c _ _).put rfl rfl, rfl⟩
  case h_2 =>
    dsimp only at h
    split at h
    · rw [← (Prod.mk.inj (Option.some.inj h)).2]
      exact ⟨(Chip.Moved.refl c _ _).put rfl rfl, rfl⟩
    · split at h
      · rw [← (Prod.mk.inj (Option.some.inj h)).2]
        exact ⟨((Chip.Moved.refl c _ _).wr (r := R.NVM_NWM) (by simp) _).put rfl rfl, rfl⟩
      · exact absurd h (by simp)

/-! ### Frames without tags -/

theorem tagged_of_open {c : Chip} (h : c.rbit R.TLN_AUTH 0 = false) (f : Frame) : c.tagged f = f := by
  unfold Chip.tagged
  rw [h]
  rfl

theorem macOk_of_open {c : Chip} (h : c.rbit R.TLN_AUTH 0 = false) (f : Frame) : c.macOk f = true := by
  unfold Chip.macOk
  rw [h]
  rfl

/-- Whether a port serves is read from the domain, the role, the port modes and the link state alone. -/
theorem portOn_congr {c d : Chip} (hdoms : d.seq.doms = c.seq.doms) (hrole : d.tln.role = c.tln.role) (hpmode : d.tln.pmode = c.tln.pmode) (hstate : d.rd R.TLN_STATE = c.rd R.TLN_STATE) (p : Nat) :
    d.portOn p = c.portOn p := by
  unfold Chip.portOn Chip.pmodeOf Chip.domOn Chip.dom Chip.rbit
  rw [hdoms, hrole, hpmode, hstate]

theorem Chip.PortMoved.portOn {c d : Chip} {p : Nat} {y : PortSt} {rs : List Reg} (h : c.PortMoved d p y rs) (hrs : ∀ x ∈ rs, R.TLN_STATE.addr ≠ x.addr) (q : Nat) :
    d.portOn q = c.portOn q :=
  portOn_congr (h.moved.field (f := fun x => x.seq.doms) (fun _ => rfl)) (congrArg TlnSt.role h.rest :) (congrArg TlnSt.pmode h.rest :) (h.moved.1 R.TLN_STATE hrs) q

/-! ### The head's beacon (R719, R731) -/

/-- A broadcast of a head whose port DOWN alone serves, without hop state. -/
theorem broadcast_down {c d : Chip} {y : PortSt} (h : c.PortMoved d 1 y []) (hdown : c.portOn 1 = true) (hbranch : c.portOn 2 = false) (hdead : y.alive = false)
    (hidle : c.pebActive 1 = false) (f : Frame) : c.PortMoved (d.broadcast f) 1 (y.sending f) [] := by
  have hsent := h.transmit (by simp) hidle f
  have hdo : d.broadcast f = d.transmit 1 f := by
    unfold Chip.broadcast
    rw [List.foldl_cons, List.foldl_cons, List.foldl_nil, if_pos (show (d.portOn pDOWN && (!(d.port pDOWN).alive || (d.port pDOWN).room)) = true by
      rw [show d.portOn pDOWN = true from (h.portOn (by simp) 1).trans hdown, show d.port pDOWN = y from h.port, hdead]; rfl)]
    refine if_neg ?_
    rw [show (d.transmit pDOWN f).portOn pBRANCH = false from (hsent.portOn (by simp) 2).trans hbranch]
    simp
  rw [hdo]
  exact hsent

/-- The head's count of superframes taken on, and shown. -/
def Chip.superframeCounted (c : Chip) : Chip := { c with tln := { c.tln with sfcount := (c.tln.sfcount + 1) % 2 ^ 32, presSeg := (c.tln.presSeg + 1) % 8 } }
def Chip.beaconBegun (c : Chip) : Chip := c.superframeCounted.wr R.TLN_SFCNT ((c.tln.sfcount + 1) % 2 ^ 32)

/-- A broadcast frame of the head (R719, R731). -/
def Chip.headFrame (c : Chip) (k : Nat) (pay : List Byte) : Frame :=
  { dst := 0x1FFF, src := 1, kind := BitVec.ofNat 4 k, hop := 0, queue := 0, seq := 0, flags := 0, epoch := BitVec.ofNat 8 c.epoch8, hseq := 0, payload := pay, tag := none }

theorem beaconSend_eq {c b : Chip} (hhead : c.headActive = true) (hopen : c.rbit R.TLN_AUTH 0 = false) (hb : c.beaconBegun = b) :
    c.beaconSend = (b.broadcast (b.headFrame 0 (beBytes 4 ((c.tln.sfcount + 1) % 2 ^ 32) ++ beBytes 8 (b.tln.nonceH.getD 0) ++ beBytes 4 0 ++ beBytes 4 b.now))).broadcast
      (b.headFrame 9 ([BitVec.ofNat 8 c.tln.presSeg] ++ b.pmapSegment c.tln.presSeg)) := by
  subst hb
  have hopen' : c.beaconBegun.rbit R.TLN_AUTH 0 = false := (congrArg (bit · 0) (Chip.rd_wr_other c.superframeCounted _ _ _ (by decide))).trans hopen
  unfold Chip.beaconSend
  rw [hhead, if_neg (show ¬ (!true) = true by decide)]
  extract_lets n seg t a d mk beacon pres
  have hd : d = c.beaconBegun := rfl
  rw [tagged_of_open (c := d) (hd ▸ hopen'), tagged_of_open (c := d) (hd ▸ hopen')]
  rfl

theorem pmapSegment_congr {c d : Chip} (h : ∀ i, d.rd (R.TLN_PMAP i) = c.rd (R.TLN_PMAP i)) (k : Nat) : d.pmapSegment k = c.pmapSegment k := by
  simp only [Chip.pmapSegment, h]

theorem does_beaconSend {s : State} (hopen : s.chip.rbit R.TLN_AUTH 0 = false) (hhead : s.chip.headActive = true) (hdown : s.chip.portOn 1 = true)
    (hbranch : s.chip.portOn 2 = false) (hidle : s.chip.pebActive 1 = false) (hdead : (s.chip.port 1).alive = false) :
    Does .beaconSend s (fun d => d.tln.sfcount = (s.chip.tln.sfcount + 1) % 2 ^ 32 ∧ d.rd R.TLN_SFCNT = (s.chip.tln.sfcount + 1) % 2 ^ 32 ∧
      d.tln.presSeg = (s.chip.tln.presSeg + 1) % 8 ∧
      (∃ a b : Frame, (d.port 1).sent = (b, false) :: (a, false) :: (s.chip.port 1).sent ∧ a.kind = 0 ∧ a.dst = 0x1FFF ∧ a.src = 1 ∧
        a.payload = beBytes 4 ((s.chip.tln.sfcount + 1) % 2 ^ 32) ++ beBytes 8 (s.chip.tln.nonceH.getD 0) ++ beBytes 4 0 ++ beBytes 4 s.chip.now ∧
        b.kind = 9 ∧ b.dst = 0x1FFF ∧ b.payload = BitVec.ofNat 8 s.chip.tln.presSeg :: s.chip.pmapSegment s.chip.tln.presSeg) ∧
      s.chip.Keeps d [R.TLN_SFCNT] Chip.noTln) := by
  have hbegun : s.chip.Moved s.chip.beaconBegun [R.TLN_SFCNT] Chip.noTln := ((Chip.Moved.refl s.chip _ _).put (e := s.chip.superframeCounted) rfl rfl).wr (r := R.TLN_SFCNT) (by simp) _
  have htln : s.chip.beaconBegun.tln = { s.chip.tln with sfcount := (s.chip.tln.sfcount + 1) % 2 ^ 32, presSeg := (s.chip.tln.presSeg + 1) % 8 } := rfl
  have hcount : s.chip.beaconBegun.rd R.TLN_SFCNT = (s.chip.tln.sfcount + 1) % 2 ^ 32 :=
    (Chip.rd_wr_self _ R.TLN_SFCNT _).trans (Nat.mod_eq_of_lt (Nat.mod_lt _ (by decide)))
  have hserves : ∀ p, s.chip.beaconBegun.portOn p = s.chip.portOn p := fun p => portOn_congr (c := s.chip) (d := s.chip.beaconBegun) rfl rfl rfl (hbegun.1 R.TLN_STATE (by decide)) p
  obtain ⟨b, hb⟩ : ∃ b, s.chip.beaconBegun = b := ⟨_, rfl⟩
  have hdo := beaconSend_eq hhead hopen hb
  rw [hb] at hbegun htln hcount hserves
  have hport : b.port 1 = s.chip.port 1 := by rw [Chip.port, htln, Chip.port]
  have hdead' : (b.port 1).alive = false := by rw [hport]; exact hdead
  have hidle' : b.pebActive 1 = false := ((hbegun.sameLevels (by decide) levelBlank_noTln).pebActive 1).trans hidle
  have hnow : b.now = s.chip.now := hbegun.1 R.SYS_TIME (by decide)
  have hmap := pmapSegment_congr (fun i => hbegun.1 (R.TLN_PMAP i) (by simp only [List.forall_mem_cons, R.TLN_PMAP, R.TLN_SFCNT]; exact ⟨by omega, by simp⟩)) s.chip.tln.presSeg
  have hnonce : b.tln.nonceH = s.chip.tln.nonceH := by rw [htln]
  rw [hnonce, hnow, hmap] at hdo
  obtain ⟨f, hf⟩ : ∃ f, b.headFrame 0 (beBytes 4 ((s.chip.tln.sfcount + 1) % 2 ^ 32) ++ beBytes 8 (s.chip.tln.nonceH.getD 0) ++ beBytes 4 0 ++ beBytes 4 s.chip.now) = f := ⟨_, rfl⟩
  obtain ⟨g, hg⟩ : ∃ g, b.headFrame 9 ([BitVec.ofNat 8 s.chip.tln.presSeg] ++ s.chip.pmapSegment s.chip.tln.presSeg) = g := ⟨_, rfl⟩
  rw [hf, hg] at hdo
  have hfirst := broadcast_down (Chip.PortMoved.refl b 1 []) ((hserves 1).trans hdown) ((hserves 2).trans hbranch) hdead' hidle' f
  have hboth := broadcast_down hfirst ((hserves 1).trans hdown) ((hserves 2).trans hbranch) hdead' hidle' g
  obtain ⟨d, hd⟩ : ∃ d, (b.broadcast f).broadcast g = d := ⟨_, rfl⟩
  rw [hd] at hdo hboth
  refine does_of_lift (show exec .beaconSend s = execBeaconSend s from rfl) hdo
    ⟨(congrArg TlnSt.sfcount hboth.rest).trans (congrArg TlnSt.sfcount htln), (hboth.moved.1 R.TLN_SFCNT (by simp)).trans hcount,
      (congrArg TlnSt.presSeg hboth.rest).trans (congrArg TlnSt.presSeg htln), ?_,
      (hbegun.trans (hboth.moved.mono (by simp))).keeps (by decide) levelBlank_noTln⟩
  refine ⟨{ f with hseq := 0 }, { g with hseq := 0 }, ?_, ?_⟩
  · have hsent := congrArg PortSt.sent hboth.port
    simp only [PortSt.sending, hdead', Bool.false_eq_true, if_false] at hsent
    rw [hport] at hsent
    exact hsent
  · rw [← hf, ← hg]
    exact ⟨rfl, rfl, rfl, rfl, rfl, rfl, rfl⟩

/-! ### A beacon heard (R720 to R722, R744) -/

/-- Blanks the link layer, the wheels and what follows them. -/
def Chip.noTlnWheels (d : Chip) : Chip := { d with tln := {}, phw := {}, cap := {}, threads := [] }

/-- The nonce and the session of a beacon taken by a node that is not joined, and its count. -/
def Chip.beaconTaken (c : Chip) (f : Frame) : Chip :=
  { c with tln := { c.tln with nonceH := some (beNat ((f.payload.drop 4).take 8)), session := c.sessionKey (beNat ((f.payload.drop 4).take 8)) } }
def Chip.beaconHeard (c : Chip) (f : Frame) : Chip := (c.beaconTaken f).wr R.TLN_SFCNT (beNat (f.payload.take 4))

/-- A leaf that is not joined takes the beacon, and gives its mark to W2 where W2 follows the string. -/
theorem beaconIn_of_leaf {c : Chip} {f : Frame} {stamp : Nat} (hopen : c.rbit R.TLN_AUTH 0 = false) (hleaf : c.tln.role = roLEAF) (hstate : c.tstate ≠ tsJOINED)
    (hlen : 20 ≤ f.payload.length) : ∃ t, c.beaconIn f stamp = if (c.beaconHeard f).src 2 = 5 then ((c.beaconHeard f).refEdge 2 t 0).1 else c.beaconHeard f := by
  have hmac := macOk_of_open hopen f
  have hok : c.beaconOk f = true := by
    unfold Chip.beaconOk
    rw [hmac, decide_eq_true hlen, bne_iff_ne.mpr hstate]
    rfl
  have hrefused : c.headRefused = c := if_neg (by rw [hleaf]; decide)
  have hrole : (c.beaconHeard f).tln.role ≠ roRELAY := by
    change c.tln.role ≠ roRELAY
    rw [hleaf]
    decide
  unfold Chip.beaconIn
  rw [hmac, hok, if_neg (show ¬ (!true) = true by decide), if_neg (show ¬ (!true) = true by decide), hrefused]
  extract_lets a nh t b d corr e
  have hb : b = c.beaconTaken f := if_neg hstate
  have hd : d = c.beaconHeard f := by unfold d; rw [hb]; rfl
  have he : e = c.beaconHeard f := by unfold e; rw [hd, if_neg hrole]
  rw [he]
  exact ⟨_, rfl⟩

theorem does_beaconReceive {s : State} {f : Frame} {stamp : BitVec 64} (hopen : s.chip.rbit R.TLN_AUTH 0 = false) (hon : s.chip.portOn 0 = true)
    (hleaf : s.chip.tln.role = roLEAF) (hstate : s.chip.tstate ≠ tsJOINED) (hkind : f.kind = 0) (hlen : 20 ≤ f.payload.length) :
    Does (.beaconReceive 0 f stamp) s (fun d => d.tln.nonceH = some (beNat ((f.payload.drop 4).take 8)) ∧
      d.tln.session = s.chip.sessionKey (beNat ((f.payload.drop 4).take 8)) ∧ d.rd R.TLN_SFCNT = beNat (f.payload.take 4) ∧
      (s.chip.src 2 ≠ 5 → s.chip.Keeps d [R.TLN_SFCNT] Chip.noTln)) := by
  obtain ⟨t, ht⟩ := beaconIn_of_leaf (stamp := stamp.toNat) hopen hleaf hstate hlen
  have hmoved : s.chip.Moved (s.chip.beaconHeard f) [R.TLN_SFCNT] Chip.noTln :=
    ((Chip.Moved.refl s.chip _ _).put (e := s.chip.beaconTaken f) rfl rfl).wr (r := R.TLN_SFCNT) (by simp) _
  have hlt : beNat (f.payload.take 4) < 256 ^ 4 := (beNat_lt _).trans_le (Nat.pow_le_pow_right (by decide) (by rw [List.length_take]; omega))
  have hcount : (s.chip.beaconHeard f).rd R.TLN_SFCNT = beNat (f.payload.take 4) := (Chip.rd_wr_self (s.chip.beaconTaken f) R.TLN_SFCNT _).trans (Nat.mod_eq_of_lt hlt)
  have hnonce : (s.chip.beaconHeard f).tln.nonceH = some (beNat ((f.payload.drop 4).take 8)) := rfl
  have hsession : (s.chip.beaconHeard f).tln.session = s.chip.sessionKey (beNat ((f.payload.drop 4).take 8)) := rfl
  have hdo : (if s.chip.portOn (0 : Fin 3).val && (0 : Fin 3).val == pUP && f.kind == 0 then s.chip.beaconIn f stamp.toNat else s.chip) = _ :=
    (if_pos (by rw [hkind, show s.chip.portOn (0 : Fin 3).val = true from hon]; rfl)).trans ht
  have hsrc : (s.chip.beaconHeard f).src 2 = s.chip.src 2 := by
    unfold Chip.src Chip.rfld
    rw [hmoved.1 (R.WHn_CTRL 2) (by decide)]
  obtain ⟨b, hb⟩ : ∃ b, s.chip.beaconHeard f = b := ⟨_, rfl⟩
  rw [hb] at hdo hmoved hcount hnonce hsession hsrc
  by_cases h5 : b.src 2 = 5
  · have hedge : b.WheelMoved (b.refEdge 2 t 0).1 2 := wheelMoved_refEdge b 2 t 0
    have htln : (b.refEdge 2 t 0).1.tln = b.tln := hedge.field (f := Chip.tln) (fun _ => rfl)
    have hstands : (b.refEdge 2 t 0).1.rd R.TLN_SFCNT = b.rd R.TLN_SFCNT := hedge.1 R.TLN_SFCNT (by decide)
    replace hdo := hdo.trans (if_pos h5)
    obtain ⟨e, he⟩ : ∃ e, (b.refEdge 2 t 0).1 = e := ⟨_, rfl⟩
    rw [he] at hdo htln hstands
    exact does_of_lift (show exec (.beaconReceive 0 f stamp) s = execBeaconReceive 0 f stamp s from rfl) hdo
      ⟨(congrArg TlnSt.nonceH htln).trans hnonce, (congrArg TlnSt.session htln).trans hsession, hstands.trans hcount, fun hne => absurd (hsrc.symm.trans h5) hne⟩
  · exact does_of_lift (show exec (.beaconReceive 0 f stamp) s = execBeaconReceive 0 f stamp s from rfl) (hdo.trans (if_neg h5))
      ⟨hnonce, hsession, hcount, fun _ => hmoved.keeps (by decide) levelBlank_noTln⟩

/-! ### The head begins (R699) -/

theorem does_headListenEnd {s : State} {nh : Nat} {e : Chip} (hrole : s.chip.tln.role = roHEAD) (hlisten : s.chip.tln.listening = true) (hon : s.chip.domOn dLNK = true)
    (hdraw : s.chip.drawNonce = some (nh, e)) :
    Does .headListenEnd s (fun d => d.nodeId = 1 ∧ d.tstate = tsJOINED ∧ d.headActive = true ∧ d.tln.nonceH = some nh ∧ d.tln.listening = false ∧
      d.mem = s.chip.mem ∧ d.threads = s.chip.threads) := by
  obtain ⟨hmoved, -⟩ := drawNonce_spec hdraw
  have hmem : e.mem = s.chip.mem := hmoved.field (f := Chip.mem) (fun _ => rfl)
  have hthreads : e.threads = s.chip.threads := hmoved.field (f := Chip.threads) (fun _ => rfl)
  let b : Chip := { e with tln := { e.tln with listening := false, nonceH := some nh, session := e.sessionKey nh } }
  have hdo : s.chip.headStart = (b.wr R.TLN_NODEID 1).wfld R.TLN_STATE 0 3 (tsJOINED + 4) := by
    unfold Chip.headStart
    rw [if_pos ⟨hrole, hlisten, hon⟩, hdraw]
  have hid : ((b.wr R.TLN_NODEID 1).wfld R.TLN_STATE 0 3 (tsJOINED + 4)).rd R.TLN_NODEID = 1 :=
    (Chip.rd_wr_other _ _ _ _ (by decide)).trans (Chip.rd_wr_self b R.TLN_NODEID 1)
  have hstate : ((b.wr R.TLN_NODEID 1).wfld R.TLN_STATE 0 3 (tsJOINED + 4)).rfld R.TLN_STATE 0 3 = 7 :=
    Chip.rfld_wfld_self (c := b.wr R.TLN_NODEID 1) (r := R.TLN_STATE) (lo := 0) (w := 3) (tsJOINED + 4) (by decide)
  have htln : ((b.wr R.TLN_NODEID 1).wfld R.TLN_STATE 0 3 (tsJOINED + 4)).tln = b.tln := rfl
  have hmem' : ((b.wr R.TLN_NODEID 1).wfld R.TLN_STATE 0 3 (tsJOINED + 4)).mem = e.mem := rfl
  have hthreads' : ((b.wr R.TLN_NODEID 1).wfld R.TLN_STATE 0 3 (tsJOINED + 4)).threads = e.threads := rfl
  obtain ⟨d, hd⟩ : ∃ d, (b.wr R.TLN_NODEID 1).wfld R.TLN_STATE 0 3 (tsJOINED + 4) = d := ⟨_, rfl⟩
  rw [hd] at hdo hid hstate htln hmem' hthreads'
  have hcode : d.rd R.TLN_STATE % 8 = 7 := by simpa [Chip.rfld, fld] using hstate
  refine does_of_lift (show exec .headListenEnd s = execHeadListenEnd s from rfl) hdo
    ⟨hid, ?_, ?_, congrArg TlnSt.nonceH htln, congrArg TlnSt.listening htln, hmem'.trans hmem, hthreads'.trans hthreads⟩
  · change fld (d.rd R.TLN_STATE) 0 2 = 3
    unfold fld
    omega
  · change bit (d.rd R.TLN_STATE) 2 = true
    simp only [bit]
    simp
    omega

/-! ### Slots (R723 to R726, R750) -/

section
variable {c : Chip} {p : Nat}

/-- In a contention slot, a port with nothing of its own waiting sends nothing. -/
theorem nextOrigin_of_quiet (hslot : (c.port p).slot = some 256) (hnone : (c.port p).origin = []) (hall : c.contentionAll = false) : c.nextOrigin p = none := by
  unfold Chip.nextOrigin
  dsimp only
  rw [hslot]
  dsimp only
  rw [hnone, hall]
  rfl

theorem pump_of_quiet (hslot : (c.port p).slot = some 256) (hnone : (c.port p).origin = []) (hall : c.contentionAll = false) (n : Nat) : c.pump p n = c := by
  cases n with
  | zero => rfl
  | succ n =>
    unfold Chip.pump
    split
    · rw [nextOrigin_of_quiet hslot hnone hall]
    · rfl

/-- The STATUS of a node that has been silent (R733). -/
def Chip.silentStatus (c : Chip) : Frame :=
  { dst := 1, src := BitVec.ofNat 13 c.nodeId, kind := 8, hop := 0, queue := 0, seq := 0, flags := 0, epoch := BitVec.ofNat 8 c.epoch8, hseq := 0, payload := [0], tag := none }

/-- A STATUS that waits alone is sent in a contention slot. -/
theorem nextOrigin_of_status {f : Frame} (hslot : (c.port p).slot = some 256) (hone : (c.port p).origin = [f]) (hkind : f.kind = 8) (hall : c.contentionAll = false) :
    c.nextOrigin p = some ([f], c.setPort p { c.port p with origin := [] }) := by
  have hrank : frameRank true f = 3 := by unfold frameRank; rw [hkind]; rfl
  have hcand : contentionKind f = true := by unfold contentionKind; rw [hkind]; rfl
  unfold Chip.nextOrigin
  dsimp only
  rw [hslot]
  dsimp only
  rw [hone, hall, show (!((256 : Nat) == 0 || (256 : Nat) == 256) || false) = false from rfl, show ((256 : Nat) == 0 || (256 : Nat) == 256) = true from rfl,
    List.filter_cons_of_pos (by rw [hcand]; rfl), List.filter_nil, List.foldl_cons, List.foldl_nil, hrank, if_pos (.inl (by decide)),
    List.find?_cons_of_pos (by rw [hrank]; rfl)]
  simp only [List.erase_cons_head]

end

section
variable {c : Chip} {p : Nat}

theorem slotOpen_contention (hon : c.portOn p = true) : c.slotOpen p 256 = (c.setPort p { c.port p with slot := some 256 }).pump p pumpFuel := by
  have hslot : ¬ ((c.port p).slot = some 256 ∧ (256 : Nat) ≠ 256) := fun h => h.2 rfl
  unfold Chip.slotOpen
  rw [hon, if_neg (show ¬ (!true) = true by decide)]
  dsimp only
  rw [if_neg hslot]

/-- A contention slot that opens on a port with nothing waiting. -/
theorem slotOpen_of_quiet (hon : c.portOn p = true) (hnone : (c.port p).origin = []) (hall : c.contentionAll = false) :
    c.slotOpen p 256 = c.setPort p { c.port p with slot := some 256 } := by
  rw [slotOpen_contention hon]
  have hport := setPort_self c p { c.port p with slot := some 256 }
  exact pump_of_quiet (c := c.setPort p { c.port p with slot := some 256 }) (by rw [hport]) (by rw [hport]; exact hnone) hall _

theorem Chip.PortMoved.contentionAll {c d : Chip} {p : Nat} {y : PortSt} {rs : List Reg} (h : c.PortMoved d p y rs) : d.contentionAll = c.contentionAll := by
  have hphw : d.phw = c.phw := h.moved.field (f := Chip.phw) (fun _ => rfl)
  unfold Chip.contentionAll Chip.wheelState Chip.wheel
  rw [hphw]

/-- The one STATUS that waits is sent, and then nothing more. -/
theorem pump_of_status {f : Frame} {n : Nat} (hslot : (c.port p).slot = some 256) (hone : (c.port p).origin = [f]) (hkind : f.kind = 8) (hall : c.contentionAll = false)
    (hon : c.portOn p = true) (hroom : (c.port p).window.length < 8) (hup : p ≠ pUP ∨ c.headActive = false) (hopen : c.rbit R.TLN_AUTH 0 = false)
    (hidle : c.pebActive p = false) : c.PortMoved (c.pump p (n + 1)) p (({ c.port p with origin := [] } : PortSt).sending f) [] := by
  have hemptied := (Chip.PortMoved.refl c p []).setPort { c.port p with origin := [] }
  have hsent := hemptied.transmit (by simp) hidle f
  have hopen' : (c.setPort p { c.port p with origin := [] }).rbit R.TLN_AUTH 0 = false := hopen
  have hmay : (c.portOn p && (c.port p).room && !(p == pUP && c.headActive)) = true := by
    have hroom' : (c.port p).room = true := decide_eq_true hroom
    rcases hup with h | h
    · rw [hon, hroom', beq_eq_false_iff_ne.mpr h]
      rfl
    · rw [hon, hroom', h, Bool.and_false]
      rfl
  have hpump : c.pump p (n + 1) = ((c.setPort p { c.port p with origin := [] }).transmit p f).pump p n := by
    conv_lhs => unfold Chip.pump
    rw [if_pos hmay, nextOrigin_of_status hslot hone hkind hall]
    dsimp only [List.foldl_cons, List.foldl_nil]
    rw [tagged_of_open hopen']
  rw [hpump, pump_of_quiet (by rw [hsent.port]; exact hslot) (by rw [hsent.port]; rfl) (hsent.contentionAll.trans hall)]
  exact hsent

/-- The contention slot of UP on a node whose firmware runs (R723, R733). -/
def Chip.contentionReady (c : Chip) : Chip :=
  let b := if c.tstate = tsJOINED ∧ !c.headActive ∧ !c.tln.spoke then c.originate pUP c.silentStatus else c
  { b with tln := { b.tln with spoke := false } }

theorem contentionOpen_up (hhalt : c.haltLink = false) : c.contentionOpen pUP = c.contentionReady.slotOpen pUP 256 := by
  have hstand : ∀ b : Chip, b.haltLink = false → (if pUP = pUP ∧ b.haltLink ∧ b.tln.nonceH.isSome then b.originate pUP b.otpStatus else b) = b :=
    fun b hb => if_neg (by rw [hb]; exact fun h => absurd h.2.1 (by decide))
  unfold Chip.contentionOpen Chip.contentionReady
  by_cases hquiet : c.tstate = tsJOINED ∧ !c.headActive ∧ !c.tln.spoke
  · rw [if_pos hquiet]
    extract_lets q f a b t d
    have ha : a = c.originate pUP c.silentStatus := if_pos ⟨rfl, hquiet⟩
    have hb : b = a := hstand a (by rw [ha]; exact hhalt)
    have hd : d = { b with tln := { b.tln with spoke := false } } := if_pos rfl
    rw [hd, hb, ha]
  · rw [if_neg hquiet]
    extract_lets q f a b t d
    have ha : a = c := if_neg (fun h => hquiet h.2)
    have hb : b = a := hstand a (by rw [ha]; exact hhalt)
    have hd : d = { b with tln := { b.tln with spoke := false } } := if_pos rfl
    rw [hd, hb, ha]

theorem contentionOpen_other (hp : p ≠ pUP) : c.contentionOpen p = c.slotOpen p 256 := by
  unfold Chip.contentionOpen
  simp only [hp, false_and, if_false]

end

section
variable {s : State} {p : Fin 3} (hon : s.chip.portOn p = true) (hnone : (s.chip.port p).origin = []) (hall : s.chip.contentionAll = false)
include hon hnone hall

theorem does_contentionOther (hp : p ≠ 0) : PortDoes (.contentionSlotOpen p) s p { s.chip.port p with slot := some 256 } := by
  have hdo := (contentionOpen_other (c := s.chip) (fun h => hp (Fin.ext h))).trans (slotOpen_of_quiet hon hnone hall)
  exact portDoes_of_portMoved (show exec (.contentionSlotOpen p) s = execContentionSlotOpen p s from rfl) ((if_pos hon).trans hdo) ((Chip.PortMoved.refl s.chip p []).setPort _)

theorem does_contentionSpoke (hp : p = 0) (hhalt : s.chip.haltLink = false) (hspoke : s.chip.tln.spoke = true) :
    PortDoes (.contentionSlotOpen p) s p { s.chip.port p with slot := some 256 } := by
  subst hp
  let b : Chip := { s.chip with tln := { s.chip.tln with spoke := false } }
  have hready : s.chip.contentionReady = b := by
    unfold Chip.contentionReady
    rw [if_neg (by rw [hspoke]; exact fun h => absurd h.2.2 (by decide))]
  have hdo := (contentionOpen_up hhalt).trans ((congrArg (·.slotOpen pUP 256) hready).trans (slotOpen_of_quiet (c := b) (p := pUP) hon hnone hall))
  exact portDoes_of_portMoved (show exec (.contentionSlotOpen 0) s = execContentionSlotOpen 0 s from rfl) ((if_pos hon).trans hdo)
    (((Chip.PortMoved.refl s.chip 0 []).spoke false).setPort _)

/-- A silent node reports its status. -/
theorem does_contentionSilent (hp : p = 0) (hopen : s.chip.rbit R.TLN_AUTH 0 = false) (hstate : s.chip.tstate = tsJOINED) (hhead : s.chip.headActive = false)
    (hhalt : s.chip.haltLink = false) (hidle : s.chip.pebActive 0 = false) (hroom : (s.chip.port 0).window.length < 8) (hspoke : s.chip.tln.spoke = false) :
    PortDoes (.contentionSlotOpen p) s p (({ s.chip.port p with slot := some 256 } : PortSt).sending s.chip.silentStatus) := by
  subst hp
  have hready : s.chip.contentionReady = { s.chip.originate pUP s.chip.silentStatus with tln := { (s.chip.originate pUP s.chip.silentStatus).tln with spoke := false } } := by
    unfold Chip.contentionReady
    rw [if_pos (by rw [hstate, hhead, hspoke]; decide)]
  have hmoved : s.chip.PortMoved s.chip.contentionReady 0 { s.chip.port 0 with origin := (s.chip.port 0).origin ++ [s.chip.silentStatus] } [] := by
    rw [hready]
    exact ((Chip.PortMoved.refl s.chip 0 []).setPort _).spoke false
  obtain ⟨b, hb⟩ : ∃ b, s.chip.contentionReady = b := ⟨_, rfl⟩
  have hdo := contentionOpen_up hhalt
  rw [hb] at hmoved hdo
  rw [slotOpen_contention (p := pUP) ((hmoved.portOn (by simp) 0).trans hon)] at hdo
  have hopened := hmoved.setPort { b.port 0 with slot := some 256 }
  obtain ⟨d, hd⟩ : ∃ d, b.setPort 0 { b.port 0 with slot := some 256 } = d := ⟨_, rfl⟩
  rw [show b.setPort pUP { b.port pUP with slot := some 256 } = d from hd] at hdo
  rw [hd, hmoved.port, show (s.chip.port 0).origin = [] from hnone, List.nil_append] at hopened
  have hpumped := pump_of_status (c := d) (p := 0) (f := s.chip.silentStatus) (n := 15) (by rw [hopened.port]) (by rw [hopened.port]) rfl
    (hopened.contentionAll.trans hall) ((hopened.portOn (by simp) 0).trans hon) (by rw [hopened.port]; exact hroom)
    (.inr ((congrArg (bit · 2) (hopened.moved.1 R.TLN_STATE (by simp))).trans hhead)) ((congrArg (bit · 0) (hopened.moved.1 R.TLN_AUTH (by simp))).trans hopen)
    ((hopened.pebActive (by simp) 0).trans hidle)
  have hall := hopened.trans hpumped
  rw [hopened.port] at hall
  have hport : ({ s.chip.port 0 with origin := [], slot := some 256 } : PortSt) = { s.chip.port 0 with slot := some 256 } := by rw [← show (s.chip.port 0).origin = [] from hnone]
  rw [hport] at hall
  exact portDoes_of_portMoved (show exec (.contentionSlotOpen 0) s = execContentionSlotOpen 0 s from rfl) ((if_pos hon).trans hdo) hall

end

theorem does_slotEnd {s : State} {p : Fin 3} (hnext : (s.chip.port p).slotNext = none) : PortDoes (.tarnlineSlotEnd p) s p { s.chip.port p with slot := none } := by
  have hport : ({ s.chip.port p with slot := (s.chip.port p).slotNext, slotNext := none } : PortSt) = { s.chip.port p with slot := none } := by rw [hnext]; rw [← hnext]
  have hdo : s.chip.slotEnd p = s.chip.setPort p { s.chip.port p with slot := none } := by
    unfold Chip.slotEnd
    dsimp only
    rw [hport]
    exact pump_of_closed (congrArg PortSt.slot (setPort_self s.chip p { s.chip.port p with slot := none })) _
  exact portDoes_of_portMoved (show exec (.tarnlineSlotEnd p) s = execTarnlineSlotEnd p s from rfl) hdo ((Chip.PortMoved.refl s.chip p []).setPort _)

/-! ### A node asks to join (R727, R728) -/

/-- An attempt begun with this nonce: the first one gives UP its hop state. -/
def Chip.attemptBegun (c : Chip) (nj : Nat) : Chip :=
  let b := if c.tln.attempts = 0 then c.hopClear pUP true else c
  Chip.wfld { b with tln := { b.tln with nonceJ := some nj, attempts := b.tln.attempts + 1 } } R.TLN_STATE 0 2 tsJOINING

/-- The JOIN_REQ of a node with the time it asks for (R727). -/
def Chip.joinReqFrame (c : Chip) (nj want : Nat) : Frame :=
  { dst := 1, src := 0, kind := 5, hop := 0, queue := 0, seq := 0, flags := 0, epoch := BitVec.ofNat 8 c.epoch8, hseq := 0
    payload := beBytes 8 (FMap.get 0 c.nvm.shadow 0 % 2 ^ 64) ++ be2 (c.rd R.TLN_REQID) ++ be2 want ++ be2 0 ++ beBytes 8 nj ++ [if c.tln.role = roRELAY then 1 else 0]
    tag := none }

/-- An attempt leaves the frame at UP, where nothing is sent while no slot is open. -/
theorem joinReqSend_eq {c e : Chip} {nj : Nat} (hheard : c.tln.nonceH.isSome = true) (hhalt : c.haltLink = false) (hstate : c.tstate ≠ tsJOINED)
    (hgoing : c.tln.stopped = false) (hon : c.portOn 0 = true) (hdraw : c.drawNonce = some (nj, e)) :
    ∃ x n want, c.joinReqSend = Chip.pump (Chip.originate { e.attemptBegun nj with ent := x, free := n } pUP
      (Chip.joinReqFrame { e.attemptBegun nj with ent := x, free := n } nj want)) pUP pumpFuel := by
  have hrole : c.tln.role ≠ 0 := by
    intro h
    unfold Chip.portOn at hon
    rw [h] at hon
    simp at hon
  obtain ⟨x, hx⟩ := timingDraw_eq (e.attemptBegun nj) 2
  unfold Chip.joinReqSend
  rw [if_pos ⟨hheard, by rw [hhalt]; rfl, hstate, by rw [hgoing]; rfl, hrole, hon⟩, hdraw]
  dsimp -zeta only
  extract_lets first b t b2 b3 jitter want b4 pay f
  have hjitter : jitter.2 = { e.attemptBegun nj with ent := x } := hx
  refine ⟨x, (e.attemptBegun nj).free + 1, want.1, ?_⟩
  have hb4 : b4 = { e.attemptBegun nj with ent := x, free := (e.attemptBegun nj).free + 1 } := by
    unfold b4 want Chip.takeFreeNat
    rw [hjitter]
  unfold f pay
  rw [hb4]
  rfl

/-- What an attempt leaves. -/
theorem attemptBegun_spec (e : Chip) (nj : Nat) :
    (e.attemptBegun nj).tstate = tsJOINING ∧ (e.attemptBegun nj).tln.nonceJ = some nj ∧ (e.attemptBegun nj).tln.attempts = e.tln.attempts + 1 ∧
    (e.tln.attempts = 0 → ((e.attemptBegun nj).port 0).alive = true) ∧ ((e.attemptBegun nj).port 0).origin = (e.port 0).origin ∧
    ((e.attemptBegun nj).port 0).slot = (e.port 0).slot ∧ (e.attemptBegun nj).mem = e.mem ∧ (e.attemptBegun nj).threads = e.threads ∧
    (e.attemptBegun nj).nvm = e.nvm := by
  have hstate : ∀ b : Chip, (b.wfld R.TLN_STATE 0 2 tsJOINING).tstate = tsJOINING := fun b =>
    Chip.rfld_wfld_self (c := b) (r := R.TLN_STATE) (lo := 0) (w := 2) tsJOINING (by decide)
  unfold Chip.attemptBegun
  by_cases hfirst : e.tln.attempts = 0
  · rw [if_pos hfirst]
    have hport := setPort_self e 0 { e.port 0 with txSeq := 0, rxSeq := 0, window := [], hackDue := false, alive := true }
    have halive : ((e.hopClear pUP true).port 0).alive = true := congrArg PortSt.alive hport
    have horigin : ((e.hopClear pUP true).port 0).origin = (e.port 0).origin := (congrArg PortSt.origin hport :)
    have hslot : ((e.hopClear pUP true).port 0).slot = (e.port 0).slot := (congrArg PortSt.slot hport :)
    exact ⟨hstate _, rfl, rfl, fun _ => halive, horigin, hslot, rfl, rfl, rfl⟩
  · rw [if_neg hfirst]
    exact ⟨hstate _, rfl, rfl, fun h => absurd h hfirst, rfl, rfl, rfl, rfl, rfl⟩

theorem does_joinReqSend {s : State} {e : Chip} {nj : Nat} (hheard : s.chip.tln.nonceH.isSome = true) (hhalt : s.chip.haltLink = false) (hstate : s.chip.tstate ≠ tsJOINED)
    (hgoing : s.chip.tln.stopped = false) (hon : s.chip.portOn 0 = true) (hdraw : s.chip.drawNonce = some (nj, e)) (hclosed : (s.chip.port 0).slot = none) :
    Does .joinReqSend s (fun d => d.tstate = tsJOINING ∧ d.tln.nonceJ = some nj ∧ d.tln.attempts = s.chip.tln.attempts + 1 ∧
      (s.chip.tln.attempts = 0 → (d.port 0).alive = true) ∧ d.mem = s.chip.mem ∧ d.threads = s.chip.threads ∧
      ∃ g : Frame, (d.port 0).origin = (s.chip.port 0).origin ++ [g] ∧ g.kind = 5 ∧ g.dst = 1 ∧ g.src = 0 ∧ g.hop = 0 ∧
        g.payload.take 8 = beBytes 8 (FMap.get 0 s.chip.nvm.shadow 0 % 2 ^ 64) ∧ (g.payload.drop 14).take 8 = beBytes 8 nj) := by
  obtain ⟨x, n, want, hdo⟩ := joinReqSend_eq hheard hhalt hstate hgoing hon hdraw
  obtain ⟨hjoining, hnonce, hcount, halive, horigin, hslot, hmem, hthreads, hnvm⟩ := attemptBegun_spec e nj
  obtain ⟨hmoved, htln⟩ := drawNonce_spec hdraw
  have hport : e.port 0 = s.chip.port 0 := by rw [Chip.port, htln, Chip.port]
  have hattempts : e.tln.attempts = s.chip.tln.attempts := by rw [htln]
  have hmem' : e.mem = s.chip.mem := hmoved.field (f := Chip.mem) (fun _ => rfl)
  have hthreads' : e.threads = s.chip.threads := hmoved.field (f := Chip.threads) (fun _ => rfl)
  have hnvm' : e.nvm = s.chip.nvm := hmoved.field (f := Chip.nvm) (fun _ => rfl)
  obtain ⟨b, hb⟩ : ∃ b, ({ e.attemptBegun nj with ent := x, free := n } : Chip) = b := ⟨_, rfl⟩
  have hfree : b.rd R.TLN_STATE = (e.attemptBegun nj).rd R.TLN_STATE ∧ b.tln = (e.attemptBegun nj).tln ∧ b.mem = (e.attemptBegun nj).mem ∧
      b.threads = (e.attemptBegun nj).threads ∧ b.nvm = (e.attemptBegun nj).nvm := by rw [← hb]; exact ⟨rfl, rfl, rfl, rfl, rfl⟩
  obtain ⟨hbstate, hbtln, hbmem, hbthreads, hbnvm⟩ := hfree
  have hbport : b.port 0 = (e.attemptBegun nj).port 0 := by rw [Chip.port, hbtln, Chip.port]
  rw [hb] at hdo
  obtain ⟨g, hg⟩ : ∃ g, b.joinReqFrame nj want = g := ⟨_, rfl⟩
  have hout := setPort_self b 0 { b.port 0 with origin := (b.port 0).origin ++ [g] }
  rw [hg, show b.originate pUP g = b.setPort 0 { b.port 0 with origin := (b.port 0).origin ++ [g] } from rfl,
    pump_of_closed (by rw [show pUP = 0 from rfl, hout, ← hclosed, ← hport, ← hslot, ← hbport])] at hdo
  have hpayload : g.payload.take 8 = beBytes 8 (FMap.get 0 b.nvm.shadow 0 % 2 ^ 64) ∧ (g.payload.drop 14).take 8 = beBytes 8 nj := by
    rw [← hg]
    simp only [Chip.joinReqFrame, be2, List.append_assoc]
    refine ⟨List.take_left' (beBytes_length 8 _), ?_⟩
    rw [← List.append_assoc, ← List.append_assoc, ← List.append_assoc, List.drop_left' (by simp [beBytes_length]), List.take_left' (beBytes_length 8 _)]
  refine does_of_lift (show exec .joinReqSend s = execJoinReqSend s from rfl) hdo ⟨?_, ?_, ?_, fun h => ?_, hbmem.trans (hmem.trans hmem'), hbthreads.trans (hthreads.trans hthreads'), g, ?_, ?_⟩
  · exact (congrArg (fld · 0 2) hbstate).trans hjoining
  · exact (congrArg TlnSt.nonceJ hbtln).trans hnonce
  · exact (congrArg TlnSt.attempts hbtln).trans (hcount.trans (by rw [hattempts]))
  · exact (congrArg PortSt.alive hout).trans ((congrArg PortSt.alive hbport).trans (halive (hattempts.trans h)))
  · exact (congrArg PortSt.origin hout).trans (by rw [hbport, horigin, hport])
  · rw [hbnvm, hnvm, hnvm'] at hpayload
    rw [← hg] at hpayload ⊢
    exact ⟨rfl, rfl, rfl, rfl, hpayload⟩

/-! ### A JOIN_REQ at the head and at a relay (R728, R729) -/

/-- A request recorded in the join table. -/
def Chip.requested (c : Chip) (e : JoinEnt) : Chip := { c with tln := { c.tln with joinTable := c.tln.joinTable ++ [e] } }

section
variable {c : Chip} {p : Nat} {f : Frame} (hnew : ∀ e ∈ c.tln.joinTable, e.uid ≠ beNat (f.payload.take 8)) (hroom : c.tln.joinTable.length < 8)
include hnew hroom

theorem joinReqIn_eq (hmac : c.headActive = true → c.macOk f = true) :
    let d := c.requested ⟨beNat (f.payload.take 8), p, beNat ((f.payload.drop 14).take 8)⟩
    let pay := if f.hop = 0 then f.payload.take 12 ++ be2 d.nodeId ++ f.payload.drop 14 else f.payload
    c.joinReqIn p f =
      if d.headActive then d.joinPush (joinEntry 1 p f.hop.toNat f.epoch.toNat (leBytes 8 (beNat (f.payload.take 8))) (beNat ((pay.drop 8).take 2)) (beNat ((pay.drop 12).take 2)))
      else if f.hop = 63 then d.inc (R.TLN_CNT tcHOPLIM)
      else if d.bufferFull pUP then d.inc (R.TLN_CNT tcFWDFULL)
      else d.forward p pUP { f with payload := pay } := by
  have hall : c.tln.joinTable.filter (fun e => e.uid != beNat (f.payload.take 8)) = c.tln.joinTable :=
    List.filter_eq_self.mpr (fun e he => bne_iff_ne.mpr (hnew e he))
  have hhead : ¬ (c.headActive && !c.macOk f) = true := by
    intro h
    obtain ⟨h1, h2⟩ := (Bool.and_eq_true _ _).mp h
    rw [hmac h1] at h2
    exact absurd h2 (by decide)
  intro d pay
  unfold Chip.joinReqIn
  dsimp only
  rw [if_neg hhead, if_neg (by rw [decide_eq_false (by omega), Bool.and_false]; decide), hall]
  rfl

end

/-! ### Requests received -/

theorem leNat_leBytes (n v : Nat) : leNat (leBytes n v) = v % 256 ^ n := by
  induction n generalizing v with
  | zero => simp [leBytes, leNat, Nat.mod_one]
  | succ n ih =>
    have hmod : v % 256 ^ (n + 1) = v % 256 + 256 * (v / 256 % 256 ^ n) := by rw [pow_succ, Nat.mul_comm, Nat.mod_mul]
    rw [leBytes, leNat, ih, BitVec.toNat_ofNat, hmod]

theorem joinEntry_mid {k port hop epoch req parent : Nat} {mid : List Byte} (hmid : mid.length = 8) :
    ((joinEntry k port hop epoch mid req parent).drop 4).take 8 = mid := by
  have hhead : (leBytes 1 k ++ leBytes 1 port ++ leBytes 1 hop ++ leBytes 1 epoch).length = 4 := by simp [leBytes_length]
  unfold joinEntry
  rw [hmid, List.append_assoc, List.append_assoc, List.drop_left' hhead]
  simp only [Nat.sub_self, List.replicate_zero, List.append_nil]
  exact List.take_left' hmid

theorem beNat_take_lt (l : List Byte) (n : Nat) : beNat (l.take n) < 256 ^ n :=
  (beNat_lt _).trans_le (Nat.pow_le_pow_right (by decide) (by rw [List.length_take]; omega))

section
variable {s : State} {p : Fin 3} {f : Frame} (hup : p ≠ 0) (hon : s.chip.portOn p = true) (hkind : f.kind = 5)
  (hnew : ∀ e ∈ s.chip.tln.joinTable, e.uid ≠ beNat (f.payload.take 8)) (hroom : s.chip.tln.joinTable.length < 8)
include hup hon hkind hnew hroom

omit hnew hroom in
/-- A JOIN_REQ below the head is taken in without a check of its tag (R740). -/
theorem joinReqReceive_eq : (if p.val = pUP then s.chip else s.chip.ifFrame p f 5 (fun c => c.joinReqIn p f)) = s.chip.joinReqIn p f := by
  rw [if_neg (show ¬ p.val = pUP from fun h => hup (Fin.ext h))]
  unfold Chip.ifFrame
  rw [hon, hkind]
  rfl

/-- The head records the request and puts it before its firmware. -/
theorem does_joinReqHead (hhead : s.chip.headActive = true) (hmac : s.chip.macOk f = true) (hfifo : s.chip.tln.joinFifo.length < 8) :
    Does (.joinReqReceive p f) s (fun d =>
      d.tln.joinTable = s.chip.tln.joinTable ++ [⟨beNat (f.payload.take 8), p, beNat ((f.payload.drop 14).take 8)⟩] ∧ (bit (d.rd R.TLN_EVT) 5 = true ∧ s.chip.Rings d) ∧
      (∃ e : List Byte, d.tln.joinFifo = s.chip.tln.joinFifo ++ [e] ∧ e.length = 16 ∧ e.headD 0 = 1 ∧ leNat ((e.drop 4).take 8) = beNat (f.payload.take 8)) ∧
      s.chip.Keeps d [R.TLN_EVT, R.DOORBELL_OVF] Chip.noTlnThreads) := by
  obtain ⟨r, hr⟩ : ∃ r : JoinEnt, ⟨beNat (f.payload.take 8), p, beNat ((f.payload.drop 14).take 8)⟩ = r := ⟨_, rfl⟩
  have hdo := (joinReqReceive_eq hup hon hkind).trans ((joinReqIn_eq hnew hroom (fun _ => hmac)).trans (if_pos hhead))
  rw [joinPush_of_room (c := s.chip.requested _) hfifo, hr] at hdo
  obtain ⟨e, he⟩ : ∃ e, joinEntry 1 p f.hop.toNat f.epoch.toNat (leBytes 8 (beNat (f.payload.take 8)))
    (beNat (((if f.hop = 0 then f.payload.take 12 ++ be2 (s.chip.requested r).nodeId ++ f.payload.drop 14 else f.payload).drop 8).take 2))
    (beNat (((if f.hop = 0 then f.payload.take 12 ++ be2 (s.chip.requested r).nodeId ++ f.payload.drop 14 else f.payload).drop 12).take 2)) = e := ⟨_, rfl⟩
  rw [he] at hdo
  have hlen : e.length = 16 := he ▸ length_joinEntry _ _ _ _ (leBytes_length 8 _).le _ _
  have hcode : e.headD 0 = 1 := he ▸ joinEntry_kind _ _ _ _ _ _ _
  have hmid : leNat ((e.drop 4).take 8) = beNat (f.payload.take 8) := by
    rw [← he, joinEntry_mid (leBytes_length 8 _), leNat_leBytes]
    exact Nat.mod_eq_of_lt (beNat_take_lt _ 8)
  obtain ⟨b, hb⟩ : ∃ b, Chip.event { s.chip.requested r with tln := { (s.chip.requested r).tln with joinFifo := (s.chip.requested r).tln.joinFifo ++ [e] } } 9 R.TLN_EVT 0x20 = b := ⟨_, rfl⟩
  have htln : b.tln = { s.chip.tln with joinTable := s.chip.tln.joinTable ++ [r], joinFifo := s.chip.tln.joinFifo ++ [e] } := by rw [← hb, tln_event]; rfl
  have hnoticed : s.chip.Noticed b := hb ▸ ((Chip.Noticed.putTln s.chip _).trans (Chip.Noticed.putTln (s.chip.requested r) _)).trans (Chip.Noticed.event _ 0x20)
  have hset : b.rbit R.TLN_EVT 5 = true := hb ▸ tlnEvt_set _ (by decide) (by decide)
  rw [hb] at hdo
  exact does_of_lift (show exec (.joinReqReceive p f) s = execJoinReqReceive p f s from rfl) hdo
    ⟨(congrArg TlnSt.joinTable htln).trans (by rw [← hr]), ⟨hset, hnoticed.rings⟩, ⟨e, congrArg TlnSt.joinFifo htln, hlen, hcode, hmid⟩, hnoticed.moved.keeps (by decide) levelBlank_noTlnThreads⟩

/-- A relay records the request, names itself in it and passes it upward. -/
theorem does_joinReqRelay (hhead : s.chip.headActive = false) (hhop : f.hop = 0) (hfull : s.chip.bufferFull 0 = false) (hlong : s.chip.pmodeOf 0 = 2) :
    Does (.joinReqReceive p f) s (fun d =>
      d.tln.joinTable = s.chip.tln.joinTable ++ [⟨beNat (f.payload.take 8), p, beNat ((f.payload.drop 14).take 8)⟩] ∧
      (d.port 0).store = (s.chip.port 0).store ++ [{ f with hop := 1, payload := f.payload.take 12 ++ beBytes 2 s.chip.nodeId ++ f.payload.drop 14 }] ∧
      s.chip.Keeps d [] Chip.noTln) := by
  obtain ⟨r, hr⟩ : ∃ r : JoinEnt, ⟨beNat (f.payload.take 8), p, beNat ((f.payload.drop 14).take 8)⟩ = r := ⟨_, rfl⟩
  have heq := joinReqIn_eq (p := p) hnew hroom (fun h => absurd (hhead.symm.trans h) (by decide))
  rw [hr] at heq
  dsimp only at heq
  have hhead' : ¬ (s.chip.requested r).headActive = true := by
    change ¬ s.chip.headActive = true
    rw [hhead]
    decide
  have hfull' : ¬ (s.chip.requested r).bufferFull pUP = true := by
    change ¬ s.chip.bufferFull 0 = true
    rw [hfull]
    decide
  rw [if_neg hhead', if_neg (by rw [hhop]; decide), if_neg hfull', if_pos hhop, forward_of_long (c := s.chip.requested r) (out := pUP) hlong] at heq
  have hmoved := (Chip.PortMoved.refl (s.chip.requested r) 0 []).setPort
    { s.chip.port 0 with store := (s.chip.port 0).store ++ [{ f with hop := f.hop + 1, payload := f.payload.take 12 ++ be2 s.chip.nodeId ++ f.payload.drop 14 }] }
  have hall : s.chip.Moved _ [] Chip.noTln := ((Chip.Moved.refl s.chip _ _).put (e := s.chip.requested r) rfl rfl).trans hmoved.moved
  have hstore := congrArg PortSt.store hmoved.port
  have htable : (s.chip.requested r).tln.joinTable = s.chip.tln.joinTable ++ [r] := rfl
  have hlast : s.chip.tln.joinTable ++ [r] = s.chip.tln.joinTable ++ [⟨beNat (f.payload.take 8), p, beNat ((f.payload.drop 14).take 8)⟩] := by rw [← hr]
  exact does_of_lift (show exec (.joinReqReceive p f) s = execJoinReqReceive p f s from rfl) ((joinReqReceive_eq hup hon hkind).trans heq)
    ⟨htable.trans hlast, hstore.trans (by rw [hhop]; rfl), hall.keeps (by simp) levelBlank_noTln⟩

end

/-! ### The reply (R728, R730) -/

theorem joinReplyReceive_eq {c : Chip} {p : Nat} {f : Frame} (hon : c.portOn p = true) (hkind : f.kind = 6) :
    c.ifFrame p f 6 (fun c => c.joinReplyIn p f) = c.joinReplyIn p f := by
  unfold Chip.ifFrame
  rw [hon, hkind]
  rfl

/-- The identity and the state of a node that has just joined, before its budget settles. -/
def Chip.joinedAs (c : Chip) (id : Nat) : Chip :=
  let b := Chip.wfld (Chip.wr { c with tln := { c.tln with nonceJ := none } } R.TLN_NODEID id) R.TLN_STATE 0 2 tsJOINED
  { b with tln := { b.tln with attempts := 0 } }

theorem rejoinAll_of_none {c : Chip} (h : ∀ r < 32, c.rndEn r = false) : c.rejoinAll = c := by
  have hfold : ∀ l : List Nat, (∀ r ∈ l, c.rndEn r = false) → l.foldl (fun c r =>
      if c.rndEn r then
        (List.range (c.rndParts r)).foldl (fun c i =>
          let q := c.rndOut r i
          if c.qEn q && c.qOut q then c.weirControl q 0 ([7] ++ be2 (c.lastTag r i)) else c) c
      else c) c = c := by
    intro l
    induction l with
    | nil => exact fun _ => rfl
    | cons r l ih =>
      intro hl
      rw [List.foldl_cons, if_neg (by rw [hl r List.mem_cons_self]; decide)]
      exact ih (fun r' hr' => hl r' (List.mem_cons_of_mem _ hr'))
  exact hfold (List.range 32) (fun r hr => h r (List.mem_range.mp hr))

theorem joinReplyIn_own {c : Chip} {p : Nat} {f : Frame} (hown : beNat (f.payload.take 8) = FMap.get 0 c.nvm.shadow 0 % 2 ^ 64) (hstate : c.tstate ≠ tsJOINED)
    (hmac : c.macOk f = true) (hnonce : c.tln.nonceJ = some (beNat ((f.payload.drop 12).take 8))) (hresult : (f.payload.drop 20).headD 0 = 0) :
    c.joinReplyIn p f = (((c.joinedAs (beNat ((f.payload.drop 8).take 2) % 2 ^ 13)).setStrbud (beNat ((f.payload.drop 10).take 2))).event 9 R.TLN_EVT 1).rejoinAll := by
  unfold Chip.joinReplyIn
  dsimp only
  rw [if_pos ⟨hown, hstate⟩]
  unfold Chip.joinedBy
  rw [hmac, if_neg (show ¬ (!true) = true by decide), if_neg (fun h => h hnonce), hresult]
  rfl

/-! ### The node joins (R730) -/

theorem joinedAs_spec (c : Chip) {id : Nat} (hid : id < 2 ^ 13) :
    (c.joinedAs id).nodeId = id ∧ (c.joinedAs id).tstate = tsJOINED ∧ (c.joinedAs id).tln = { c.tln with nonceJ := none, attempts := 0 } ∧
    c.Moved (c.joinedAs id) [R.TLN_NODEID, R.TLN_STATE] Chip.noTln := by
  let a : Chip := { c with tln := { c.tln with nonceJ := none } }
  have hnode : ((a.wr R.TLN_NODEID id).wfld R.TLN_STATE 0 2 tsJOINED).rd R.TLN_NODEID = id :=
    (Chip.rd_wr_other _ _ _ _ (by decide)).trans ((Chip.rd_wr_self a R.TLN_NODEID id).trans (Nat.mod_eq_of_lt (hid.trans (by decide))))
  have hstate : ((a.wr R.TLN_NODEID id).wfld R.TLN_STATE 0 2 tsJOINED).rfld R.TLN_STATE 0 2 = tsJOINED :=
    Chip.rfld_wfld_self (c := a.wr R.TLN_NODEID id) (r := R.TLN_STATE) (lo := 0) (w := 2) tsJOINED (by decide)
  have hmoved : c.Moved ((a.wr R.TLN_NODEID id).wfld R.TLN_STATE 0 2 tsJOINED) [R.TLN_NODEID, R.TLN_STATE] Chip.noTln :=
    (((Chip.Moved.refl c _ _).put (e := a) rfl rfl).wr (r := R.TLN_NODEID) (by simp) _).wfld (r := R.TLN_STATE) (by simp) _ _ _
  exact ⟨hnode, hstate, rfl, hmoved.put rfl rfl⟩

/-- What a node that joins moves besides its link layer: the budget, what follows from it, and its event. -/
def joinRegs : List Reg := R.CHG_STRBUD :: R.TLN_EVT :: shownRegs

theorem rnd_not_joinRegs : ∀ r < 32, ∀ x ∈ joinRegs ++ [R.TLN_NODEID, R.TLN_STATE], (R.RND_CTRL r).addr ≠ x.addr := by decide

/-- The budget taken, its consequences for the charger, and the event. -/
theorem joinSettled_spec (c : Chip) (v : Nat) : c.Moved ((c.setStrbud v).event 9 R.TLN_EVT 1) joinRegs Chip.noChg ∧ c.Rings ((c.setStrbud v).event 9 R.TLN_EVT 1) ∧
    ((c.setStrbud v).event 9 R.TLN_EVT 1).rd R.CHG_STRBUD = v % 2 ^ 16 ∧ bit (((c.setStrbud v).event 9 R.TLN_EVT 1).rd R.TLN_EVT) 0 = true := by
  have hquiet := Chip.chgQuiet_chgSettle (c.wr R.CHG_STRBUD v)
  have hbudget : (c.wr R.CHG_STRBUD v).rd R.CHG_STRBUD = v % 2 ^ 16 := Chip.rd_wr_self c R.CHG_STRBUD v
  have hmoved : c.Moved (c.setStrbud v) joinRegs Chip.noChg :=
    ((Chip.Moved.refl c _ _).wr (r := R.CHG_STRBUD) (by simp [joinRegs]) v).trans
      (hquiet.moved.mono (fun x hx => List.mem_cons_of_mem _ (List.mem_cons_of_mem _ hx)))
  have hstands : (c.setStrbud v).rd R.CHG_STRBUD = v % 2 ^ 16 := (hquiet.moved.1 R.CHG_STRBUD (by decide)).trans hbudget
  have hrings : c.Rings (c.setStrbud v) := (Chip.Rings.of_threads rfl : c.Rings (c.wr R.CHG_STRBUD v)).trans hquiet.rings
  obtain ⟨b, hb⟩ : ∃ b, c.setStrbud v = b := ⟨_, rfl⟩
  rw [hb] at hmoved hstands hrings ⊢
  exact ⟨hmoved.event (r := R.TLN_EVT) (by simp [joinRegs]) (by simp [joinRegs, shownRegs]) (fun _ _ => rfl) 9 1, hrings.trans (Chip.rings_event _ _ _ _),
    (Chip.rd_event_other b 9 R.TLN_EVT 1 (by decide) (by decide)).trans hstands, tlnEvt_set b (by decide) (by decide)⟩

theorem does_joinReplyOwn {s : State} {p : Fin 3} {f : Frame} (hon : s.chip.portOn p = true) (hkind : f.kind = 6) (hresult : (f.payload.drop 20).headD 0 = 0)
    (hown : beNat (f.payload.take 8) = FMap.get 0 s.chip.nvm.shadow 0 % 2 ^ 64) (hstate : s.chip.tstate ≠ tsJOINED) (hmac : s.chip.macOk f = true)
    (hnonce : s.chip.tln.nonceJ = some (beNat ((f.payload.drop 12).take 8))) (hrounds : ∀ r < 32, s.chip.rndEn r = false) :
    Does (.joinReplyReceive p f) s (fun d => d.nodeId = beNat ((f.payload.drop 8).take 2) % 2 ^ 13 ∧ d.tstate = tsJOINED ∧
      d.tln = { s.chip.tln with nonceJ := none, attempts := 0 } ∧ d.rd R.CHG_STRBUD = beNat ((f.payload.drop 10).take 2) % 2 ^ 16 ∧
      (bit (d.rd R.TLN_EVT) 0 = true ∧ s.chip.Rings d) ∧ d.mem = s.chip.mem) := by
  obtain ⟨hid, hjoined, htln, hmoved⟩ := joinedAs_spec s.chip (id := beNat ((f.payload.drop 8).take 2) % 2 ^ 13) (Nat.mod_lt _ (by decide))
  have hdo := (joinReplyReceive_eq hon hkind).trans (joinReplyIn_own (p := p) hown hstate hmac hnonce hresult)
  obtain ⟨b, hb⟩ : ∃ b, s.chip.joinedAs (beNat ((f.payload.drop 8).take 2) % 2 ^ 13) = b := ⟨_, rfl⟩
  rw [hb] at hid hjoined htln hmoved hdo
  obtain ⟨hsettled, hrings, hbudget, hevt⟩ := joinSettled_spec b (beNat ((f.payload.drop 10).take 2))
  obtain ⟨d, hd⟩ : ∃ d, (b.setStrbud (beNat ((f.payload.drop 10).take 2))).event 9 R.TLN_EVT 1 = d := ⟨_, rfl⟩
  rw [hd] at hsettled hrings hbudget hevt hdo
  have hnone : ∀ r < 32, d.rndEn r = false := by
    intro r hr
    have hctrl : d.rd (R.RND_CTRL r) = s.chip.rd (R.RND_CTRL r) :=
      (hsettled.1 _ (fun x hx => rnd_not_joinRegs r hr x (List.mem_append_left _ hx))).trans (hmoved.1 _ (fun x hx => rnd_not_joinRegs r hr x (List.mem_append_right _ hx)))
    rw [Chip.rndEn, Chip.rbit, hctrl]
    exact hrounds r hr
  rw [rejoinAll_of_none hnone] at hdo
  have hmem : d.mem = s.chip.mem := (hsettled.field (f := Chip.mem) (fun _ => rfl)).trans (hmoved.field (f := Chip.mem) (fun _ => rfl))
  have hthreads : b.threads = s.chip.threads := hmoved.field (f := Chip.threads) (fun _ => rfl)
  have htln' : d.tln = b.tln := hsettled.field (f := Chip.tln) (fun _ => rfl)
  exact does_of_lift (show exec (.joinReplyReceive p f) s = execJoinReplyReceive p f s from rfl) hdo
    ⟨(hsettled.1 R.TLN_NODEID (by decide)).trans hid, (congrArg (fld · 0 2) (hsettled.1 R.TLN_STATE (by decide))).trans hjoined, htln'.trans htln, hbudget,
      ⟨hevt, (Chip.Rings.of_threads hthreads).trans hrings⟩, hmem⟩

/-! ### A reply passes through (R728) -/

/-- The request answered: off the table, its route installed. -/
def Chip.answeredJoin (c : Chip) (uid id port : Nat) : Chip :=
  { c with tln := { c.tln with joinTable := c.tln.joinTable.filter (fun x => x.uid != uid), routes := FMap.set 0 c.tln.routes id (port + 1) } }

theorem joinReplyIn_passed {c : Chip} {p : Nat} {f : Frame} {e : JoinEnt} (hown : beNat (f.payload.take 8) ≠ FMap.get 0 c.nvm.shadow 0 % 2 ^ 64)
    (hfind : c.tln.joinTable.find? (fun x => x.uid == beNat (f.payload.take 8)) = some e) (hresult : (f.payload.drop 20).headD 0 = 0) (hhop : f.hop ≠ 63)
    (hfull : c.bufferFull e.port = false) :
    c.joinReplyIn p f = (c.answeredJoin (beNat (f.payload.take 8)) (beNat ((f.payload.drop 8).take 2) % 2 ^ 13) e.port).forward p e.port f := by
  have hfull' : ¬ (c.answeredJoin (beNat (f.payload.take 8)) (beNat ((f.payload.drop 8).take 2) % 2 ^ 13) e.port).bufferFull e.port = true := by
    change ¬ c.bufferFull e.port = true
    rw [hfull]
    decide
  unfold Chip.joinReplyIn
  dsimp only
  rw [if_neg (fun h => hown h.1), hfind]
  dsimp only
  rw [hresult, if_neg hhop]
  exact if_neg hfull'

theorem does_joinReplyPassed {s : State} {p : Fin 3} {f : Frame} {e : JoinEnt} (hon : s.chip.portOn p = true) (hkind : f.kind = 6) (hresult : (f.payload.drop 20).headD 0 = 0)
    (hown : beNat (f.payload.take 8) ≠ FMap.get 0 s.chip.nvm.shadow 0 % 2 ^ 64) (hfind : s.chip.tln.joinTable.find? (fun x => x.uid == beNat (f.payload.take 8)) = some e)
    (hhop : f.hop ≠ 63) (hfull : s.chip.bufferFull e.port = false) (hlong : s.chip.pmodeOf e.port = 2) :
    Does (.joinReplyReceive p f) s (fun d => d.tln.joinTable = s.chip.tln.joinTable.filter (fun x => x.uid != beNat (f.payload.take 8)) ∧
      FMap.get 0 d.tln.routes (beNat ((f.payload.drop 8).take 2) % 2 ^ 13) = e.port + 1 ∧
      (∀ k, k ≠ beNat ((f.payload.drop 8).take 2) % 2 ^ 13 → FMap.get 0 d.tln.routes k = FMap.get 0 s.chip.tln.routes k) ∧
      (d.port e.port).store = (s.chip.port e.port).store ++ [{ f with hop := f.hop + 1 }] ∧ s.chip.Keeps d [] Chip.noTln) := by
  obtain ⟨id, hid⟩ : ∃ id, beNat ((f.payload.drop 8).take 2) % 2 ^ 13 = id := ⟨_, rfl⟩
  have hdo := (joinReplyReceive_eq hon hkind).trans (joinReplyIn_passed (p := p) hown hfind hresult hhop hfull)
  rw [hid, forward_of_long (c := s.chip.answeredJoin _ _ _) hlong] at hdo
  rw [hid]
  have hmoved := (Chip.PortMoved.refl (s.chip.answeredJoin (beNat (f.payload.take 8)) id e.port) e.port []).setPort
    { s.chip.port e.port with store := (s.chip.port e.port).store ++ [{ f with hop := f.hop + 1 }] }
  have hall : s.chip.Moved _ [] Chip.noTln := ((Chip.Moved.refl s.chip _ _).put (e := s.chip.answeredJoin (beNat (f.payload.take 8)) id e.port) rfl rfl).trans hmoved.moved
  exact does_of_lift (show exec (.joinReplyReceive p f) s = execJoinReplyReceive p f s from rfl) hdo
    ⟨rfl, FMap.get_set_self 0 s.chip.tln.routes id (e.port + 1), fun k hk => FMap.get_set_other 0 0 s.chip.tln.routes id k (e.port + 1) hk, congrArg PortSt.store hmoved.port, hall.keeps (by simp) levelBlank_noTln⟩

/-! ### The head's answer (R729) -/

theorem does_tlnJreply {s : State} {w : Writer} {v : BitVec 40} {uid : Nat} {e : JoinEnt} (hon : s.chip.domOn dLNK = true) (hhead : s.chip.headActive = true)
    (hasked : s.chip.tln.asked = some uid) (hfind : s.chip.tln.joinTable.find? (fun x => x.uid == uid) = some e) (hclosed : (s.chip.port e.port).slot = none)
    (hresult : v.toNat / 2 ^ 32 = 0) :
    Does (.tlnJreplyWrite w v) s (fun d => d.tln.asked = none ∧ d.tln.joinTable = s.chip.tln.joinTable.filter (fun x => x.uid != uid) ∧
      FMap.get 0 d.tln.routes (v.toNat % 2 ^ 13) = e.port + 1 ∧
      (∃ g : Frame, (d.port e.port).origin = (s.chip.port e.port).origin ++ [g] ∧ g.kind = 6 ∧ g.dst = 0 ∧
        g.payload = beBytes 8 uid ++ beBytes 2 (v.toNat % 2 ^ 13) ++ beBytes 2 (v.toNat / 2 ^ 16 % 2 ^ 16) ++ beBytes 8 e.nonce ++ [0]) ∧
      s.chip.Keeps d [] Chip.noTln) := by
  obtain ⟨n, hn⟩ : ∃ n, v.toNat = n := ⟨_, rfl⟩
  have hcode : fld n 32 8 = 0 := by unfold fld; rw [← hn, hresult, Nat.zero_mod]
  have hid : fld n 0 16 % 2 ^ 13 = n % 2 ^ 13 := by unfold fld; omega
  let b : Chip := { s.chip with tln := { s.chip.tln with asked := none } }
  let g : Frame := { dst := 0, src := BitVec.ofNat 13 s.chip.nodeId, kind := 6, hop := 0, queue := 0, seq := 0, flags := 0, epoch := BitVec.ofNat 8 s.chip.epoch8, hseq := 0
                     payload := beBytes 8 uid ++ be2 (n % 2 ^ 13) ++ be2 (fld n 16 16) ++ beBytes 8 e.nonce ++ [0], tag := none }
  have hout := setPort_self (b.answeredJoin uid (n % 2 ^ 13) e.port) e.port { s.chip.port e.port with origin := (s.chip.port e.port).origin ++ [g] }
  have hdo : s.chip.jreply n = (b.answeredJoin uid (n % 2 ^ 13) e.port).setPort e.port { s.chip.port e.port with origin := (s.chip.port e.port).origin ++ [g] } := by
    unfold Chip.jreply
    rw [hhead, if_neg (show ¬ (!true) = true by decide), hasked]
    dsimp only
    rw [hfind]
    dsimp only
    rw [hcode, hid, if_pos rfl]
    exact pump_of_closed ((congrArg PortSt.slot hout).trans hclosed) _
  have hmoved : s.chip.Moved ((b.answeredJoin uid (n % 2 ^ 13) e.port).setPort e.port { s.chip.port e.port with origin := (s.chip.port e.port).origin ++ [g] }) [] Chip.noTln :=
    (Chip.Moved.refl s.chip _ _).put rfl rfl
  rw [hn]
  refine does_of_lift (show exec (.tlnJreplyWrite w v) s = execTlnJreplyWrite w v s from rfl) ((if_pos hon).trans ((congrArg s.chip.jreply hn).trans hdo))
    ⟨rfl, rfl, FMap.get_set_self 0 s.chip.tln.routes (n % 2 ^ 13) (e.port + 1), ⟨g, congrArg PortSt.origin hout, rfl, rfl, ?_⟩, hmoved.keeps (by simp) levelBlank_noTln⟩
  rfl

/-! ### TLN_JOINFIFO (R729, 00 R1012) -/

theorem does_joinPop {s : State} {rd : Reader} {v : Nat} {t : TlnSt} (hon : s.chip.domOn dLNK = true)
    (hpop : s.chip.joinPop (readerKind rd) = Chip.setLatch { s.chip with tln := t } (readerKind rd) R.TLN_JOINFIFO v) :
    Does (.tlnJoinfifoPop rd) s (fun d => s.chip.Latched d rd R.TLN_JOINFIFO v ∧ d.tln = t ∧ s.chip.Keeps d [] (fun d => { d with tln := {}, latch := [] })) := by
  have hlatched := latched_setLatch { s.chip with tln := t } rd R.TLN_JOINFIFO v
  have hmoved : s.chip.Moved (Chip.setLatch { s.chip with tln := t } (readerKind rd) R.TLN_JOINFIFO v) [] (fun d => { d with tln := {}, latch := [] }) :=
    (Chip.Moved.refl _ _ _).put rfl rfl
  exact does_of_lift (show exec (.tlnJoinfifoPop rd) s = execTlnJoinfifoPop rd s from rfl) ((if_pos hon).trans hpop) ⟨hlatched, rfl,
    hmoved.keeps (by simp) ⟨fun _ _ _ _ _ => rfl, fun _ => rfl, fun _ => rfl, fun _ => rfl, fun _ => rfl, fun _ => rfl, fun _ => rfl, fun _ => rfl⟩⟩

/-- A pop that only latches. -/
theorem does_joinPopLatch {s : State} {rd : Reader} {v : Nat} (hon : s.chip.domOn dLNK = true)
    (hpop : s.chip.joinPop (readerKind rd) = s.chip.setLatch (readerKind rd) R.TLN_JOINFIFO v) :
    Does (.tlnJoinfifoPop rd) s (fun d => s.chip.Latched d rd R.TLN_JOINFIFO v ∧ d.tln = s.chip.tln ∧ s.chip.Keeps d [] (fun d => { d with latch := [] })) := by
  have hlatched := latched_setLatch s.chip rd R.TLN_JOINFIFO v
  have hmoved : s.chip.Moved (s.chip.setLatch (readerKind rd) R.TLN_JOINFIFO v) [] (fun d => { d with latch := [] }) := (Chip.Moved.refl _ _ _).put rfl rfl
  exact does_of_lift (show exec (.tlnJoinfifoPop rd) s = execTlnJoinfifoPop rd s from rfl) ((if_pos hon).trans hpop) ⟨hlatched, rfl,
    hmoved.keeps (by simp) ⟨fun _ _ _ _ _ => rfl, fun _ => rfl, fun _ => rfl, fun _ => rfl, fun _ => rfl, fun _ => rfl, fun _ => rfl, fun _ => rfl⟩⟩

theorem joinPop_of_empty {c : Chip} (hempty : c.tln.joinFifo = []) (k : Nat) : c.joinPop k = c.setLatch k R.TLN_JOINFIFO 0 := by
  unfold Chip.joinPop
  rw [hempty]

/-! ### The statements -/

theorem beaconsAndSlots : Parts.BeaconsAndSlots := by
  intro s p f stamp hopen c x n
  exact ⟨fun hhead hdown hbranch hidle hdead _ => does_beaconSend hopen hhead hdown hbranch hidle hdead,
    fun hon hleaf hstate hkind hlen => does_beaconReceive hopen hon hleaf hstate hkind hlen,
    fun nh e hrole hlisten hon hdraw => does_headListenEnd hrole hlisten hon hdraw,
    fun hon hnone hall => ⟨fun hp => does_contentionOther hon hnone hall hp, fun hp hstate hhead hhalt hidle hroom =>
      ⟨fun hspoke => does_contentionSpoke hon hnone hall hp hhalt hspoke,
        fun hspoke => does_contentionSilent hon hnone hall hp hopen hstate hhead hhalt hidle (by subst hp; exact hroom) hspoke⟩⟩,
    fun hnext => does_slotEnd hnext⟩

theorem joining : Parts.Joining := by
  intro s p f uid w rd v c own u evt req dropped
  refine ⟨fun nj e hheard hhalt hstate hgoing hon hdraw hclosed => does_joinReqSend hheard hhalt hstate hgoing hon hdraw hclosed,
    fun hup hon hkind hnew hroom => ⟨fun hhead hmac hfifo => does_joinReqHead hup hon hkind hnew hroom hhead hmac hfifo,
      fun hhead hhop hfull hlong => does_joinReqRelay hup hon hkind hnew hroom hhead hhop hfull hlong⟩,
    fun hon hkind hresult => ⟨fun hown hstate hmac hnonce hrounds => does_joinReplyOwn hon hkind hresult hown hstate hmac hnonce hrounds,
      fun e hown hfind hhop hfull hlong => does_joinReplyPassed hon hkind hresult hown hfind hhop hfull hlong⟩, ?_, ?_,
    fun e hon hhead hasked hfind hclosed hresult => does_tlnJreply hon hhead hasked hfind hclosed hresult,
    fun hon => ⟨fun hempty => does_joinPopLatch hon (joinPop_of_empty hempty _), fun e l hfifo => does_joinPop hon ?_⟩⟩
  · exact does_of_lift (show exec (.joinTableExpire uid) s = execJoinTableExpire uid s from rfl) rfl
      ⟨rfl, ((Chip.Moved.refl s.chip [] Chip.noTln).put rfl rfl).keeps (by simp) levelBlank_noTln⟩
  · exact does_of_lift (show exec .joinAnswerTimeout s = execJoinAnswerTimeout s from rfl) rfl
      ⟨rfl, ((Chip.Moved.refl s.chip [] Chip.noTln).put rfl rfl).keeps (by simp) levelBlank_noTln⟩
  · unfold Chip.joinPop
    rw [show s.chip.tln.joinFifo = e :: l from hfifo]

/-- Settles O56: every command of the string changes one port, or the link state that its specification above names. -/
theorem linkString : Obligations.LinkString := ⟨beaconsAndSlots, joining⟩

end Sys2Proof.Machine
end

section
/-!
PROOFS. The sensor ports: SDI-12, UARTs, controllers, GPIO and EVT (19 R911 to R924; 02 R73, R86).
-/
namespace Sys2Proof.Machine

/-- Blanks the sensor ports; blanks them and the threads. -/
def Chip.noSio (d : Chip) : Chip := { d with sio := {} }
def Chip.noSioThreads (d : Chip) : Chip := { d with sio := {}, threads := [] }

theorem levelBlank_noSio : LevelBlank Chip.noSio :=
  ⟨fun _ _ _ _ _ => rfl, fun _ => rfl, fun _ => rfl, fun _ => rfl, fun _ => rfl, fun _ => rfl, fun _ => rfl, fun _ => rfl⟩

theorem levelBlank_noSioThreads : LevelBlank Chip.noSioThreads :=
  ⟨fun _ _ _ _ _ => rfl, fun _ => rfl, fun _ => rfl, fun _ => rfl, fun _ => rfl, fun _ => rfl, fun _ => rfl, fun _ => rfl⟩

/-- The sensor ports' state replaced. -/
def Chip.putSio (c : Chip) (y : SioSt) : Chip := { c with sio := y }

theorem sio_event (c : Chip) (k : Nat) (r : Reg) (b : Nat) : (c.event k r b).sio = c.sio := by rw [Chip.event_eq]

/-- A command that replaces the sensor ports' state and nothing else. -/
theorem does_putSio {s : State} {i : Instr} {f : Chip → Chip} {y : SioSt} (he : exec i s = s.lift f) (hd : f s.chip = s.chip.putSio y) :
    Does i s (fun d => d.sio = y ∧ s.chip.Keeps d [] Chip.noSio) :=
  does_of_lift he hd ⟨rfl, ((Chip.Moved.refl s.chip _ _).put (e := s.chip.putSio y) rfl rfl).keeps (by simp) levelBlank_noSio⟩

/-- What an event of the sensor ports leaves. -/
theorem sioEvent_spec (c : Chip) (y : SioSt) {b k : Nat} (hk : k < 16) (hb : bit b k = true) :
    ((c.putSio y).event 15 R.SIO_EVT b).sio = y ∧ bit (((c.putSio y).event 15 R.SIO_EVT b).rd R.SIO_EVT) k = true ∧ c.Rings ((c.putSio y).event 15 R.SIO_EVT b) ∧
    c.Moved ((c.putSio y).event 15 R.SIO_EVT b) [R.SIO_EVT, R.DOORBELL_OVF] Chip.noSioThreads := by
  refine ⟨sio_event _ _ _ _, ?_, (Chip.Rings.of_threads rfl : c.Rings (c.putSio y)).trans (Chip.rings_event _ _ _ _),
    ((Chip.Moved.refl c _ _).put (e := c.putSio y) rfl rfl).event (r := R.SIO_EVT) (by simp) (by simp) (fun _ _ => rfl) 15 b⟩
  change ((c.putSio y).event 15 R.SIO_EVT b).rbit R.SIO_EVT k = true
  rw [Chip.rbit_event (c.putSio y) 15 R.SIO_EVT b hk (by decide), hb, Bool.or_true]

/-- A command that replaces the sensor ports' state and shows it in an event. -/
theorem does_sioEvent {s : State} {i : Instr} {f : Chip → Chip} {y : SioSt} {b k : Nat} (he : exec i s = s.lift f)
    (hd : f s.chip = (s.chip.putSio y).event 15 R.SIO_EVT b) (hk : k < 16) (hb : bit b k = true) :
    Does i s (fun d => d.sio = y ∧ bit (d.rd R.SIO_EVT) k = true ∧ s.chip.Rings d ∧ s.chip.Keeps d [R.SIO_EVT, R.DOORBELL_OVF] Chip.noSioThreads) := by
  obtain ⟨hsio, hbit, hrings, hmoved⟩ := sioEvent_spec s.chip y hk hb
  exact does_of_lift he hd ⟨hsio, hbit, hrings, hmoved.keeps (by decide) levelBlank_noSioThreads⟩

/-! ### SDI-12: commands and lines (R911 to R914) -/

/-- The line FIFO's entry for a response of at most 82 characters (R914). -/
def sdiEntry (status : Nat) (t : List Byte) : List Byte := chars [status, t.length] ++ t ++ List.replicate (82 - t.length) 0

theorem sdiEntry_spec (status : Nat) {t : List Byte} (ht : t.length ≤ 82) :
    (sdiEntry status t).length = 84 ∧ (sdiEntry status t).take 2 = [BitVec.ofNat 8 status, BitVec.ofNat 8 t.length] ∧ ((sdiEntry status t).drop 2).take t.length = t := by
  refine ⟨?_, rfl, ?_⟩
  · simp only [sdiEntry, chars, List.length_append, List.length_map, List.length_cons, List.length_nil, List.length_replicate]
    omega
  · change (t ++ List.replicate (82 - t.length) 0).take t.length = t
    exact List.take_left' rfl

/-- A line put in the FIFO. -/
def Chip.lineShown (c : Chip) (status : Nat) (t : List Byte) : Chip := (c.putSio { c.sio with lines := c.sio.lines ++ [sdiEntry status t] }).event 15 R.SIO_EVT 1

theorem sdiLine_of_room {c : Chip} (hroom : c.sio.lines.length < 4) (status : Nat) {t : List Byte} (ht : t.length ≤ 82) : c.sdiLine status t = c.lineShown status t := by
  unfold Chip.sdiLine
  dsimp only
  rw [if_pos hroom, List.take_of_length_le ht]
  rfl

/-- What a line in the FIFO shows, as the statement lists it. -/
def Chip.LineStands (c d : Chip) (st : Nat) (t : List Byte) : Prop :=
  (∃ e : List Byte, d.sio.lines = c.sio.lines ++ [e] ∧ e.length = 84 ∧ e.take 2 = [BitVec.ofNat 8 st, BitVec.ofNat 8 t.length] ∧ (e.drop 2).take t.length = t) ∧
  bit (d.rd R.SIO_EVT) 0 = true ∧ c.Rings d

theorem lineStands_lineShown (c : Chip) (st : Nat) {t : List Byte} (ht : t.length ≤ 82) : c.LineStands (c.lineShown st t) st t := by
  obtain ⟨hsio, hbit, hrings, -⟩ := sioEvent_spec c { c.sio with lines := c.sio.lines ++ [sdiEntry st t] } (b := 1) (k := 0) (by decide) (by decide)
  exact ⟨⟨sdiEntry st t, congrArg SioSt.lines hsio, sdiEntry_spec st ht⟩, hbit, hrings⟩

/-- A bit written is a value written: the value itself plays no part in what stands beside it. -/
theorem wbit_eq_wr (c : Chip) (r : Reg) (i : Nat) (b : Bool) : ∃ v, c.wbit r i b = c.wr r v := ⟨_, rfl⟩

/-- The end of a command takes nothing of the line away. -/
theorem Chip.LineStands.sdiEnd {c d : Chip} {st : Nat} {t : List Byte} (h : c.LineStands d st t) : c.LineStands d.sdiEnd st t := by
  obtain ⟨hline, hbit, hrings⟩ := h
  obtain ⟨v, hv⟩ := wbit_eq_wr d R.SIO_SDICMD 120 false
  have hevt : (d.wr R.SIO_SDICMD v).rd R.SIO_EVT = d.rd R.SIO_EVT := Chip.rd_wr_other d R.SIO_SDICMD R.SIO_EVT v (by decide)
  unfold Chip.sdiEnd
  rw [hv]
  exact ⟨hline, (congrArg (bit · 0) hevt).trans hbit, hrings.trans (Chip.Rings.of_threads rfl)⟩

/-- A command that has ended. -/
def Chip.SdiEnded (d : Chip) : Prop := d.sio.sdi = none ∧ d.rbit R.SIO_SDICMD 120 = false

theorem sdiEnded_sdiEnd (c : Chip) : c.sdiEnd.SdiEnded := by
  have hgo : (c.wbit R.SIO_SDICMD 120 false).rbit R.SIO_SDICMD 120 = false := (Chip.rbit_wbit (r := R.SIO_SDICMD) c 120 false (by decide)).trans (if_pos rfl)
  unfold Chip.sdiEnd
  obtain ⟨b, hb⟩ : ∃ b, c.wbit R.SIO_SDICMD 120 false = b := ⟨_, rfl⟩
  rw [hb] at hgo ⊢
  exact ⟨rfl, hgo⟩

/-- A command that ends with a line. -/
theorem lineEnded_spec {c : Chip} (hroom : c.sio.lines.length < 4) (st : Nat) {t : List Byte} (ht : t.length ≤ 82) :
    c.LineStands (c.sdiLine st t).sdiEnd st t ∧ (c.sdiLine st t).sdiEnd.SdiEnded := by
  rw [sdiLine_of_room hroom st ht]
  exact ⟨(lineStands_lineShown c st ht).sdiEnd, sdiEnded_sdiEnd _⟩

/-- The level rules leave what a line shows. -/
theorem Chip.LineStands.settle {c d : Chip} {st : Nat} {t : List Byte} (h : c.LineStands d st t) : c.LineStands d.settle st t := h
theorem Chip.SdiEnded.settle {d : Chip} (h : d.SdiEnded) : d.settle.SdiEnded := h

/-! ### The commands of the recorder -/

section
variable {s : State} {x : SdiCmd} (hcpu : s.chip.sioOn = true)

theorem leBytes_congr {u v : Nat} : ∀ n, u % 256 ^ n = v % 256 ^ n → leBytes n u = leBytes n v
  | 0, _ => rfl
  | n + 1, h => by
    have hsplit : ∀ m, m % 256 ^ (n + 1) = m % 256 + 256 * (m / 256 % 256 ^ n) := fun m => by rw [pow_succ, Nat.mul_comm, Nat.mod_mul]
    have hlow : BitVec.ofNat 8 u = BitVec.ofNat 8 v := BitVec.eq_of_toNat_eq (by
      rw [BitVec.toNat_ofNat, BitVec.toNat_ofNat]
      rw [hsplit u, hsplit v] at h
      omega)
    rw [leBytes, leBytes, hlow, leBytes_congr n (u := u / 256) (v := v / 256) (by rw [hsplit u, hsplit v] at h; omega)]

/-- GO is not part of the command's text. -/
theorem sdiText_wbit (c : Chip) (b : Bool) : (c.wbit R.SIO_SDICMD 120 b).sdiText = c.sdiText := by
  have hfld : fld ((c.wbit R.SIO_SDICMD 120 b).rd R.SIO_SDICMD) 0 120 = fld (c.rd R.SIO_SDICMD) 0 120 := Chip.rfld_wbit c (by decide) (.inl (by decide))
  unfold Chip.sdiText
  rw [leBytes_congr 15]
  simpa [fld] using hfld

include hcpu in
theorem does_sdiCommand (hraw : s.chip.sdiRaw = false) (hfree : s.chip.sio.sdi = none) (hlast : s.chip.sio.sdiLast = none) (hknown : (sdiKind s.chip.sdiText).isSome = true) :
    Does .sdi12Command s (fun d =>
      d.sio = { s.chip.sio with sdi := some { text := s.chip.sdiText, now := s.chip.sdiText }, sdiSent := (true, s.chip.sdiText) :: s.chip.sio.sdiSent } ∧
      d.rbit R.SIO_SDICMD 120 = true ∧ s.chip.Keeps d [R.SIO_SDICMD] Chip.noSio) := by
  have hmoved : s.chip.Moved (s.chip.wbit R.SIO_SDICMD 120 true) [R.SIO_SDICMD] Chip.noSio := (Chip.Moved.refl s.chip _ _).wbit (r := R.SIO_SDICMD) (by simp) _ _
  have htext := sdiText_wbit s.chip true
  have hgo : (s.chip.wbit R.SIO_SDICMD 120 true).rbit R.SIO_SDICMD 120 = true := (Chip.rbit_wbit (r := R.SIO_SDICMD) s.chip 120 true (by decide)).trans (if_pos rfl)
  have hraw' : (s.chip.wbit R.SIO_SDICMD 120 true).sdiRaw = false := ((Chip.rbit_wbit (r := R.SIO_SDICMD) s.chip 120 true (by decide)).trans (if_neg (by decide))).trans hraw
  have hsio : (s.chip.wbit R.SIO_SDICMD 120 true).sio = s.chip.sio := by obtain ⟨v, hv⟩ := wbit_eq_wr s.chip R.SIO_SDICMD 120 true; rw [hv]; rfl
  have hcpu' : (s.chip.wbit R.SIO_SDICMD 120 true).sioOn = true := by obtain ⟨v, hv⟩ := wbit_eq_wr s.chip R.SIO_SDICMD 120 true; rw [hv]; exact hcpu
  obtain ⟨b, hb⟩ : ∃ b, s.chip.wbit R.SIO_SDICMD 120 true = b := ⟨_, rfl⟩
  rw [hb] at hmoved htext hgo hraw' hsio hcpu'
  have hdo : b.sdiGo = b.putSio { s.chip.sio with sdi := some { text := s.chip.sdiText, now := s.chip.sdiText }, sdiSent := (true, s.chip.sdiText) :: s.chip.sio.sdiSent } := by
    have hsend : b.sdiSend s.chip.sdiText false = b.putSio { s.chip.sio with sdiSent := (true, s.chip.sdiText) :: s.chip.sio.sdiSent } := by
      unfold Chip.sdiSend
      rw [hsio, hlast]
      rfl
    unfold Chip.sdiGo
    dsimp only
    rw [htext, hcpu', hraw', hsio, hfree, Option.isNone_eq_false_iff.mpr hknown, if_neg (by decide), hsend]
    rfl
  exact does_of_lift (show exec .sdi12Command s = execSdi12Command s from rfl) ((if_pos hcpu).trans ((congrArg Chip.sdiGo hb).trans hdo))
    ⟨rfl, hgo, (hmoved.put (e := b.putSio _) rfl rfl).keeps (by decide) levelBlank_noSio⟩

end

section
variable {s : State} {x : SdiCmd} (hrun : s.chip.sio.sdi = some x)
include hrun

/-- Another attempt (R912). -/
theorem does_sdiAgain (hphase : x.phase ≠ 1) (hmore : x.attempts < 3) :
    Does .sdi12ResponseTimeout s (fun d => d.sio = { s.chip.sio with sdi := some { x with attempts := x.attempts + 1 }, sdiSent := (true, x.now) :: s.chip.sio.sdiSent } ∧
      s.chip.Keeps d [] Chip.noSio) := by
  refine does_putSio (show exec .sdi12ResponseTimeout s = execSdi12ResponseTimeout s from rfl) ?_
  unfold Chip.sdiTimeout
  rw [hrun]
  dsimp only
  rw [if_neg hphase, if_pos hmore]
  rfl

omit hrun in
/-- A command that ends with a line in the FIFO. -/
theorem does_sdiLineEnds {i : Instr} {f : Chip → Chip} {b : Chip} {st : Nat} {t : List Byte} (he : exec i s = s.lift f) (hd : f s.chip = (b.sdiLine st t).sdiEnd)
    (hlines : b.sio.lines = s.chip.sio.lines) (hrings : s.chip.Rings b) (hroom : s.chip.sio.lines.length < 4) (ht : t.length ≤ 82) :
    Does i s (fun d => s.chip.LineStands d st t ∧ d.SdiEnded) := by
  obtain ⟨⟨hline, hbit, hrings'⟩, hended⟩ := lineEnded_spec (c := b) (by rw [hlines]; exact hroom) st ht
  rw [hlines] at hline
  obtain ⟨d, hd'⟩ : ∃ d, (b.sdiLine st t).sdiEnd = d := ⟨_, rfl⟩
  rw [hd'] at hline hbit hrings' hended hd
  exact does_of_lift he hd ⟨⟨hline, hbit, hrings.trans hrings'⟩, hended⟩

/-- The third attempt without a response (R912). -/
theorem does_sdiGivenUp (hphase : x.phase ≠ 1) (hlast : 3 ≤ x.attempts) (hroom : s.chip.sio.lines.length < 4) :
    Does .sdi12ResponseTimeout s (fun d => s.chip.LineStands d 2 [] ∧ d.SdiEnded) := by
  refine does_sdiLineEnds (b := s.chip) (show exec .sdi12ResponseTimeout s = execSdi12ResponseTimeout s from rfl) ?_ rfl (Chip.Rings.refl _) hroom (by decide)
  unfold Chip.sdiTimeout
  rw [hrun]
  dsimp only
  rw [if_neg hphase, if_neg (by omega)]
  rfl

/-- A bus fault aborts the command (R916). -/
theorem does_sdiBusFault (hcpu : s.chip.sioOn = true) (hroom : s.chip.sio.lines.length < 4) :
    Does .sdi12BusFault s (fun d => s.chip.LineStands d 3 [] ∧ d.SdiEnded ∧ bit (d.rd R.SIO_EVT) 1 = true) := by
  have hsio : (s.chip.event 15 R.SIO_EVT 2).sio = s.chip.sio := sio_event _ _ _ _
  have hfault : (s.chip.event 15 R.SIO_EVT 2).rbit R.SIO_EVT 1 = true := by
    rw [Chip.rbit_event s.chip 15 R.SIO_EVT 2 (by decide) (by decide)]
    exact Bool.or_true _
  have hrings := Chip.rings_event s.chip 15 R.SIO_EVT 2
  obtain ⟨b, hb⟩ : ∃ b, s.chip.event 15 R.SIO_EVT 2 = b := ⟨_, rfl⟩
  rw [hb] at hsio hfault hrings
  have hdo : b.sdiAbort = (b.sdiLine sdABORTED []).sdiEnd := if_pos (by rw [hsio, hrun]; rfl)
  have hkept : (b.sdiLine sdABORTED []).sdiEnd.rbit R.SIO_EVT 1 = true := by
    have hroom' : b.sio.lines.length < 4 := by rw [hsio]; exact hroom
    have hshown : (b.lineShown sdABORTED []).rbit R.SIO_EVT 1 = true := by
      exact (Chip.rbit_event (b.putSio _) 15 R.SIO_EVT 1 (by decide) (by decide)).trans (congrArg (· || bit 1 1) hfault)
    obtain ⟨v, hv⟩ := wbit_eq_wr (b.lineShown sdABORTED []) R.SIO_SDICMD 120 false
    rw [sdiLine_of_room hroom' sdABORTED (by decide), Chip.sdiEnd, hv]
    exact (congrArg (bit · 1) (Chip.rd_wr_other _ _ _ _ (by decide))).trans hshown
  obtain ⟨⟨hline, hbit, hrings'⟩, hended⟩ := lineEnded_spec (c := b) (by rw [hsio]; exact hroom) sdABORTED (t := []) (by decide)
  rw [hsio] at hline
  obtain ⟨d, hd⟩ : ∃ d, (b.sdiLine sdABORTED []).sdiEnd = d := ⟨_, rfl⟩
  rw [hd] at hline hbit hrings' hended hkept hdo
  exact does_of_lift (show exec .sdi12BusFault s = execSdi12BusFault s from rfl) ((if_pos hcpu).trans ((congrArg Chip.sdiAbort hb).trans hdo))
    ⟨⟨hline, hbit, hrings.trans hrings'⟩, hended, hkept⟩

section
variable {line : List Byte} (hphase : x.phase = 0) (hroom : s.chip.sio.lines.length < 4) (hline : line.length ≤ 82)
include hphase hroom hline

/-- The reply of a plain command ends it. -/
theorem does_sdiReplyPlain (hkind : sdiKind x.text = some .plain) : Does (.sdi12LineReceived line) s (fun d => s.chip.LineStands d 0 line ∧ d.SdiEnded) := by
  refine does_sdiLineEnds (b := s.chip.putSio { s.chip.sio with sdiLast := some (line.headD 0, s.chip.phw.tick) })
    (show exec (.sdi12LineReceived line) s = execSdi12LineReceived line s from rfl) ?_ rfl (Chip.Rings.of_threads rfl) hroom hline
  unfold Chip.sdiReceived
  rw [hrun]
  dsimp only
  rw [hphase, hkind]
  rfl

/-- The reply of a measurement that promises values and a time waits for them. -/
theorem does_sdiReplyMeasure {m : Nat} {v r : Bool} {k : Nat} (hkind : sdiKind x.text = some (.measure m v r k)) (hvalues : decimal ((line.drop 4).take m) ≠ 0)
    (htime : decimal ((line.drop 1).take 3) ≠ 0) :
    Does (.sdi12LineReceived line) s (fun d => s.chip.LineStands d 0 line ∧ d.sio.sdi = some { x with expect := decimal ((line.drop 4).take m), phase := 1 }) := by
  obtain ⟨b, hb⟩ : ∃ b, s.chip.putSio { s.chip.sio with sdiLast := some (line.headD 0, s.chip.phw.tick) } = b := ⟨_, rfl⟩
  have hsdi : b.sio.sdi = some x := by rw [← hb]; exact hrun
  have hlines : b.sio.lines = s.chip.sio.lines := by rw [← hb]; rfl
  have hrings : s.chip.Rings b := by rw [← hb]; exact Chip.Rings.of_threads rfl
  have hdo : s.chip.sdiReceived line = b.sdiReply x m line := by
    unfold Chip.sdiReceived
    rw [hrun]
    dsimp only
    rw [hphase, hkind, ← hb]
    rfl
  have hshown : (b.lineShown sdOK line).sio.sdi = some x := (congrArg SioSt.sdi (sio_event _ _ _ _)).trans hsdi
  obtain ⟨hstands, hbit, hrings'⟩ := lineStands_lineShown b sdOK hline
  rw [hlines] at hstands
  have hreply : b.sdiReply x m line = (b.lineShown sdOK line).setSdi { x with expect := decimal ((line.drop 4).take m), phase := 1 } := by
    unfold Chip.sdiReply
    rw [sdiLine_of_room (by rw [hlines]; exact hroom) sdOK hline]
    dsimp only
    rw [hshown, if_neg (show ¬ (some x).isNone = true from Bool.false_ne_true), if_neg hvalues, if_neg htime]
  exact does_of_lift (show exec (.sdi12LineReceived line) s = execSdi12LineReceived line s from rfl) (hdo.trans hreply)
    ⟨⟨hstands, hbit, (hrings.trans hrings').trans (Chip.Rings.of_threads rfl)⟩, rfl⟩

end

/-- The first data command goes out (R913). -/
theorem does_sdiData {i : Instr} {addr : Option Byte} (he : exec i s = s.lift (fun c => c.sdiReady addr)) (hphase : x.phase = 1)
    (haddr : ∀ a, addr = some a → x.text.head? = some a ∧ ∃ m r k, sdiKind x.text = some (.measure m true r k)) :
    Does i s (fun d => d.sio.sdi = some { x with now := x.text.take 1 ++ [68, 48, 33], attempts := 1, retries := 0, phase := 2, index := 0 } ∧
      (∃ k, d.sio.sdiSent = (k, x.text.take 1 ++ [68, 48, 33]) :: s.chip.sio.sdiSent) ∧ s.chip.Keeps d [] Chip.noSio) := by
  have htext : x.text.take 1 ++ [68] ++ digits 0 ++ [33] = x.text.take 1 ++ [68, 48, 33] := by
    rw [List.append_assoc, List.append_assoc]
    rfl
  have hdo : s.chip.sdiReady addr = s.chip.sdiData x 0 0 := by
    unfold Chip.sdiReady
    rw [hrun]
    dsimp only
    cases addr with
    | none => exact if_pos (by rw [decide_eq_true hphase]; rfl)
    | some a =>
      obtain ⟨hhead, m, r, k, hkind⟩ := haddr a rfl
      exact if_pos (by dsimp only; rw [decide_eq_true hphase, decide_eq_true hhead, hkind]; rfl)
  have hdata : s.chip.sdiData x 0 0 = (s.chip.sdiSend (x.text.take 1 ++ [68, 48, 33]) false).setSdi
      { x with now := x.text.take 1 ++ [68, 48, 33], attempts := 1, retries := 0, phase := 2, index := 0 } := by
    unfold Chip.sdiData
    dsimp only
    rw [htext]
    rfl
  have hmoved : s.chip.Moved ((s.chip.sdiSend (x.text.take 1 ++ [68, 48, 33]) false).setSdi
      { x with now := x.text.take 1 ++ [68, 48, 33], attempts := 1, retries := 0, phase := 2, index := 0 }) [] Chip.noSio := (Chip.Moved.refl s.chip _ _).put rfl rfl
  exact does_of_lift he (hdo.trans hdata) ⟨rfl, ⟨_, rfl⟩, hmoved.keeps (by simp) levelBlank_noSio⟩

end

/-! ### Raw mode and the line FIFO (R914, R915) -/

section
variable {s : State}

theorem does_sdiRawWrite {w : Writer} {b : Byte} {brk : Bool} (hcpu : s.chip.sioOn = true) (hraw : s.chip.sdiRaw = true) :
    Does (.sdi12RawWrite w b brk) s (fun d => d.sio = { s.chip.sio with sdiSent := (brk, if brk then [] else [b]) :: s.chip.sio.sdiSent } ∧
      s.chip.Keeps d [R.SIO_SDIRAW] Chip.noSio) := by
  obtain ⟨v, hv⟩ : ∃ v, b.toNat + 256 * (b2n brk + 4 * b2n (s.chip.rbit R.SIO_SDIRAW 10)) = v := ⟨_, rfl⟩
  have hmode : (s.chip.wr R.SIO_SDIRAW v).sdiRaw = true := (congrArg (bit · 121) (Chip.rd_wr_other s.chip R.SIO_SDIRAW R.SIO_SDICMD v (by decide))).trans hraw
  have hon : (s.chip.wr R.SIO_SDIRAW v).sioOn = true := hcpu
  have hwritten : s.chip.Moved (s.chip.wr R.SIO_SDIRAW v) [R.SIO_SDIRAW] Chip.noSio := (Chip.Moved.refl s.chip _ _).wr (by simp) v
  have hmoved : s.chip.Moved ((s.chip.wr R.SIO_SDIRAW v).putSio { s.chip.sio with sdiSent := (brk, if brk then [] else [b]) :: s.chip.sio.sdiSent }) [R.SIO_SDIRAW] Chip.noSio :=
    hwritten.put rfl rfl
  have hdo : (if !s.chip.sioOn then s.chip.offWrite w
      else (s.chip.wr R.SIO_SDIRAW (b.toNat + 256 * (b2n brk + 4 * b2n (s.chip.rbit R.SIO_SDIRAW 10)))).sdiRawSend b brk) =
      (s.chip.wr R.SIO_SDIRAW v).putSio { s.chip.sio with sdiSent := (brk, if brk then [] else [b]) :: s.chip.sio.sdiSent } := by
    rw [hcpu, if_neg (by decide), hv, Chip.sdiRawSend, if_pos (by rw [hon, hmode]; rfl)]
    rfl
  exact does_of_lift (show exec (.sdi12RawWrite w b brk) s = execSdi12RawWrite w b brk s from rfl) hdo
    ⟨rfl, hmoved.keeps (by decide) levelBlank_noSio⟩

theorem does_sdiRawReceive {b : Byte} (hcpu : s.chip.sioOn = true) (hraw : s.chip.sdiRaw = true) :
    Does (.sdi12RawReceive b) s (fun d => d.rfld R.SIO_SDIRAW 0 8 = b.toNat ∧ d.rbit R.SIO_SDIRAW 10 = true ∧ s.chip.Keeps d [R.SIO_SDIRAW] id) := by
  obtain ⟨a, ha⟩ : ∃ a, s.chip.wfld R.SIO_SDIRAW 0 8 b.toNat = a := ⟨_, rfl⟩
  have hbyte : a.rfld R.SIO_SDIRAW 0 8 = b.toNat := ha ▸ (Chip.rfld_wfld_self s.chip (r := R.SIO_SDIRAW) b.toNat (by decide)).trans (Nat.mod_eq_of_lt b.isLt)
  have hmoved : s.chip.Moved (a.wbit R.SIO_SDIRAW 10 true) [R.SIO_SDIRAW] id := by
    rw [← ha]
    exact ((Chip.Moved.refl s.chip _ _).wfld (r := R.SIO_SDIRAW) (by simp) _ _ _).wbit (by simp) _ _
  have hkept : (a.wbit R.SIO_SDIRAW 10 true).rfld R.SIO_SDIRAW 0 8 = b.toNat := (Chip.rfld_wbit a (by decide) (.inl (by decide))).trans hbyte
  have hset : (a.wbit R.SIO_SDIRAW 10 true).rbit R.SIO_SDIRAW 10 = true := (Chip.rbit_wbit (r := R.SIO_SDIRAW) a 10 true (by decide)).trans (if_pos rfl)
  obtain ⟨d, hd⟩ : ∃ d, a.wbit R.SIO_SDIRAW 10 true = d := ⟨_, rfl⟩
  have hdo : (if s.chip.sioOn && s.chip.sdiRaw then (s.chip.wfld R.SIO_SDIRAW 0 8 b.toNat).wbit R.SIO_SDIRAW 10 true else s.chip) = d := by
    rw [hcpu, hraw, ha, hd]
    rfl
  rw [hd] at hmoved hkept hset
  exact does_of_lift (show exec (.sdi12RawReceive b) s = execSdi12RawReceive b s from rfl) hdo ⟨hkept, hset, hmoved.keeps (by decide) levelBlank_id⟩

/-- A pop of the line FIFO that takes its oldest line. -/
theorem does_linePop {rd : Reader} {e : List Byte} {l : List (List Byte)} (hcpu : s.chip.sioOn = true) (hlines : s.chip.sio.lines = e :: l) :
    Does (.sioSdilinePop rd) s (fun d => s.chip.Latched d rd R.SIO_SDILINE (leNat e) ∧ d.sio = { s.chip.sio with lines := l } ∧
      s.chip.Keeps d [] (fun d => { d with sio := {}, latch := [] })) := by
  obtain ⟨v, hv⟩ : ∃ v, leNat e = v := ⟨_, rfl⟩
  have hlatched := latched_setLatch (s.chip.putSio { s.chip.sio with lines := l }) rd R.SIO_SDILINE v
  have hmoved : s.chip.Moved ((s.chip.putSio { s.chip.sio with lines := l }).setLatch (readerKind rd) R.SIO_SDILINE v) [] (fun d => { d with sio := {}, latch := [] }) :=
    (Chip.Moved.refl _ _ _).put rfl rfl
  have hpop : s.chip.linePop (readerKind rd) = (s.chip.putSio { s.chip.sio with lines := l }).setLatch (readerKind rd) R.SIO_SDILINE v := by
    unfold Chip.linePop
    rw [hlines, ← hv]
    rfl
  rw [hv]
  exact does_of_lift (show exec (.sioSdilinePop rd) s = execSioSdilinePop rd s from rfl) ((if_pos hcpu).trans hpop) ⟨hlatched, rfl,
    hmoved.keeps (by simp) ⟨fun _ _ _ _ _ => rfl, fun _ => rfl, fun _ => rfl, fun _ => rfl, fun _ => rfl, fun _ => rfl, fun _ => rfl, fun _ => rfl⟩⟩

/-- A pop that only latches. -/
theorem does_linePopLatch {rd : Reader} {v : Nat} (hcpu : s.chip.sioOn = true) (hpop : s.chip.linePop (readerKind rd) = s.chip.setLatch (readerKind rd) R.SIO_SDILINE v) :
    Does (.sioSdilinePop rd) s (fun d => s.chip.Latched d rd R.SIO_SDILINE v ∧ s.chip.Keeps d [] (fun d => { d with latch := [] })) := by
  have hlatched := latched_setLatch s.chip rd R.SIO_SDILINE v
  have hmoved : s.chip.Moved (s.chip.setLatch (readerKind rd) R.SIO_SDILINE v) [] (fun d => { d with latch := [] }) := (Chip.Moved.refl _ _ _).put rfl rfl
  exact does_of_lift (show exec (.sioSdilinePop rd) s = execSioSdilinePop rd s from rfl) ((if_pos hcpu).trans hpop) ⟨hlatched,
    hmoved.keeps (by simp) ⟨fun _ _ _ _ _ => rfl, fun _ => rfl, fun _ => rfl, fun _ => rfl, fun _ => rfl, fun _ => rfl, fun _ => rfl, fun _ => rfl⟩⟩

end

theorem sdi12 : Parts.Sdi12 := by
  intro s x line a b brk w rd hcpu c only line4 ended data0
  refine ⟨fun hraw hfree hlast hknown => does_sdiCommand hcpu hraw hfree hlast hknown,
    fun hrun => ⟨fun hphase hmore => does_sdiAgain hrun hphase hmore,
      fun hroom => ⟨fun hphase hlast => does_sdiGivenUp hrun hphase hlast hroom, does_sdiBusFault hrun hcpu hroom,
        fun hline hphase => ⟨fun hkind => does_sdiReplyPlain hrun hphase hroom hline hkind,
          fun m v r k hkind hvalues htime => does_sdiReplyMeasure hrun hphase hroom hline hkind hvalues htime⟩⟩,
      fun hphase => ⟨fun m r k hkind haddr => ?_, ?_⟩⟩,
    fun hraw => ⟨does_sdiRawWrite hcpu hraw, does_sdiRawReceive hcpu hraw⟩, fun e l hlines => does_linePop hcpu hlines, fun hempty => does_linePopLatch hcpu ?_⟩
  · exact does_sdiData hrun (addr := some a) (show exec (.sdi12ServiceRequest a) s = execSdi12ServiceRequest a s from rfl) hphase
      (fun a' ha' => ⟨haddr.trans ha', m, r, k, hkind⟩)
  · exact does_sdiData hrun (addr := none) (show exec .sdi12WaitTimeout s = execSdi12WaitTimeout s from rfl) hphase (fun _ h => absurd h (by simp))
  · unfold Chip.linePop
    rw [show s.chip.sio.lines = [] from hempty]

/-! ### UARTs, NMEA and controllers (R917 to R921) -/


theorem bit_two_pow_self (k : Nat) : bit (2 ^ k) k = true := by rw [bit_eq_testBit]; exact Nat.testBit_two_pow_self

/-! ### GPIO (R922, 02 R73, R86) -/

/-- The thread that a pin's doorbell goes to. -/
def Chip.gpioOwner (c : Chip) (p : Nat) : Nat := 8 * (c.rd (R.SIO_GP p) / 2 ^ 9 % 2) + c.rd (R.SIO_GP p) / 2 ^ 10 % 8

theorem gpioBell_eq (c : Chip) (p : Nat) : c.gpioBell p = (c.doorbell (c.gpioOwner p) (BitVec.ofNat 8 (c.rd (R.SIO_GP p) / 2 ^ 16))).1 := by
  have hbyte : BitVec.ofNat 8 (fld (c.rd (R.SIO_GP p)) 16 8) = BitVec.ofNat 8 (c.rd (R.SIO_GP p) / 2 ^ 16) :=
    BitVec.eq_of_toNat_eq (by rw [BitVec.toNat_ofNat, BitVec.toNat_ofNat]; unfold fld; omega)
  unfold Chip.gpioBell
  dsimp only
  rw [hbyte]
  rfl

theorem doorbell_other (c : Chip) (t : Nat) (b : Byte) {k : Nat} (hk : k ≠ t) : (c.doorbell t b).1.thr k = c.thr k := by
  rcases c.doorbell_cases t b with h | h | h <;> rw [h]
  · exact Chip.thr_updThr_other _ _ _ _ hk
  · rfl

theorem doorbell_of_room {c : Chip} {t : Nat} (hcpu : c.domOn dCPU = true) (hroom : (c.thr t).doorbells.length < 8) (b : Byte) :
    ((c.doorbell t b).1.thr t).doorbells = (c.thr t).doorbells ++ [b] := by
  unfold Chip.doorbell
  dsimp only
  rw [hcpu, if_neg (by decide), if_pos hroom, Chip.thr_setThr_self]

/-- A pin's doorbell, with the sensor ports' state replaced. -/
theorem does_gpioBell {s : State} {i : Instr} {f : Chip → Chip} {y : SioSt} {p : Nat} (hcpu : s.chip.sioOn = true) (he : exec i s = s.lift f)
    (hd : f s.chip = (s.chip.putSio y).gpioBell p) :
    Does i s (fun d => d.sio = y ∧ s.chip.Rings d ∧
      ((s.chip.thr (s.chip.gpioOwner p)).doorbells.length < 8 →
        (d.thr (s.chip.gpioOwner p)).doorbells = (s.chip.thr (s.chip.gpioOwner p)).doorbells ++ [BitVec.ofNat 8 (s.chip.rd (R.SIO_GP p) / 2 ^ 16)]) ∧
      (∀ t, t ≠ s.chip.gpioOwner p → d.thr t = s.chip.thr t) ∧ s.chip.Keeps d [R.DOORBELL_OVF] Chip.noSioThreads) := by
  let b := s.chip.putSio y
  rw [gpioBell_eq] at hd
  have hsio : (b.doorbell (s.chip.gpioOwner p) (BitVec.ofNat 8 (s.chip.rd (R.SIO_GP p) / 2 ^ 16))).1.sio = y := by rw [Chip.doorbell_eq]; rfl
  have hrings : s.chip.Rings (b.doorbell (s.chip.gpioOwner p) (BitVec.ofNat 8 (s.chip.rd (R.SIO_GP p) / 2 ^ 16))).1 :=
    (Chip.Rings.of_threads rfl : s.chip.Rings b).trans (Chip.rings_doorbell _ _ _)
  have hmoved : s.chip.Moved (b.doorbell (s.chip.gpioOwner p) (BitVec.ofNat 8 (s.chip.rd (R.SIO_GP p) / 2 ^ 16))).1 [R.DOORBELL_OVF] Chip.noSioThreads :=
    ((Chip.Moved.refl s.chip _ _).put (e := b) rfl rfl).doorbell (by simp) (fun _ _ => rfl) _ _
  exact does_of_lift he hd ⟨hsio, hrings, fun hroom => doorbell_of_room (c := b) hcpu hroom _, fun t ht => doorbell_other b _ _ ht, hmoved.keeps (by decide) levelBlank_noSioThreads⟩

section
variable {s : State} {p : Fin 16} {up : Bool} (hcpu : s.chip.sioOn = true) (hbank : s.chip.bankGood 1 = true) (hblank : s.chip.sup.blanking.contains 1 = false)
  (hedge : bit (s.chip.rfld (R.SIO_GP p) 5 2) (if up then 0 else 1) = true)
include hcpu hbank hblank hedge

/-- An edge that qualifies, of a pin of a good bank that is not blanked. -/
theorem gpioEdge_eq : s.chip.gpioEdge p up =
    if s.chip.sio.gpioLimited.contains p.val then
      (s.chip.putSio { s.chip.sio with gpioIn := putBit s.chip.sio.gpioIn p up
                                       gpioHeld := if s.chip.sio.gpioHeld.contains p.val then s.chip.sio.gpioHeld else s.chip.sio.gpioHeld ++ [p.val]
                                       gpioCoalesced := FMap.upd 0 s.chip.sio.gpioCoalesced p (· + 1) }).event 15 R.SIO_EVT 0x100
    else (s.chip.putSio { s.chip.sio with gpioIn := putBit s.chip.sio.gpioIn p up, gpioLimited := s.chip.sio.gpioLimited ++ [p.val] }).gpioBell p := by
  have hqual : (if up then bit (s.chip.rfld (R.SIO_GP p) 5 2) 0 else bit (s.chip.rfld (R.SIO_GP p) 5 2) 1) = true := by
    cases up
    · exact hedge
    · exact hedge
  unfold Chip.gpioEdge
  rw [hcpu, hbank, if_neg (by decide)]
  refine if_neg ?_
  change ¬ (s.chip.sup.blanking.contains 1 || !(if up then bit (s.chip.rfld (R.SIO_GP p) 5 2) 0 else bit (s.chip.rfld (R.SIO_GP p) 5 2) 1)) = true
  rw [hblank, hqual]
  decide

end

/-! ### EVT (R924) -/

theorem bit_or (a b k : Nat) : bit (a ||| b) k = (bit a k || bit b k) := by simp only [bit_eq_testBit, Nat.testBit_or]

theorem bit_and (a b k : Nat) : bit (a &&& b) k = (bit a k && bit b k) := by simp only [bit_eq_testBit, Nat.testBit_and]

/-- The pins that a byte leaves alone. -/
theorem bit_complement (m : BitVec 8) {k : Nat} (hk : k < 8) : bit (255 - m.toNat) k = !m.getLsbD k := by
  have hnot : 255 - m.toNat = (~~~m).toNat := by rw [BitVec.toNat_not]
  rw [hnot, bit_toNat_eq_getLsbD, BitVec.getLsbD_not, decide_eq_true hk, Bool.true_and]

theorem does_evtPins {s : State} {i : Instr} {f : Chip → Chip} {v : Nat} {q : Nat → Bool} (he : exec i s = s.lift f) (hcpu : s.chip.sioOn = true)
    (hd : f s.chip = s.chip.evtSet v) (hq : ∀ k < 8, bit v k = q k) :
    Does i s (fun d => (∀ k < 8, bit (d.rd R.SIO_EVTOUT) k = q k) ∧ s.chip.Keeps d [R.SIO_EVTOUT] id) := by
  have hset : s.chip.evtSet v = s.chip.wr R.SIO_EVTOUT v := if_pos hcpu
  exact does_of_lift he (hd.trans hset) ⟨fun k hk => (Chip.rbit_wr s.chip v (r := R.SIO_EVTOUT) hk).trans (hq k hk),
    ((Chip.Moved.refl s.chip _ _).wr (r := R.SIO_EVTOUT) (by simp) v).keeps (by decide) levelBlank_id⟩

theorem portsAndPins : Parts.PortsAndPins := by
  intro s u i p b text tick res w m up hcpu c x evt quiet g owner rings
  have hbankC : c.bankGood 2 = true → s.chip.bankC = true := fun h => by rw [Chip.bankC, hcpu, show s.chip.bankGood 2 = true from h]; rfl
  refine ⟨fun hbank => ⟨fun hroom => ?_, ?_, fun hroom => ?_, fun hfull => ?_, ?_, ?_⟩, fun hbusy => ?_, fun hbusy => ?_,
    fun hbank hblank hedge => ⟨fun hfree => ?_, fun hlimited hheld => ?_⟩, fun hheld => ?_, fun hheld => ?_, ?_, ?_⟩
  · exact does_sioEvent (show exec (.uartRxFrame u b) s = execUartRxFrame u b s from rfl)
      (if_pos (by rw [hbankC hbank, decide_eq_true hroom]; rfl)) (by omega) (bit_two_pow_self _)
  · exact does_putSio (show exec (.uartBreak u) s = execUartBreak u s from rfl) (if_pos (hbankC hbank))
  · exact does_sioEvent (show exec (.nmeaSentence text tick) s = execNmeaSentence text tick s from rfl)
      ((if_neg (by rw [hbankC hbank]; decide)).trans (if_pos hroom)) (by decide) (by decide)
  · exact does_putSio (show exec (.nmeaSentence text tick) s = execNmeaSentence text tick s from rfl)
      ((if_neg (by rw [hbankC hbank]; decide)).trans (if_neg (Nat.not_lt.mpr hfull)))
  · exact does_putSio (show exec (.icTransfer i) s = execIcTransfer i s from rfl) (if_pos (hbankC hbank))
  · exact does_putSio (show exec .spc0Transfer s = execSpc0Transfer s from rfl) (if_pos (hbankC hbank))
  · exact does_sioEvent (show exec (.icTransferDone i res text) s = execIcTransferDone i res text s from rfl) (if_pos hbusy) (by omega) (bit_two_pow_self _)
  · exact does_sioEvent (show exec (.spc0TransferDone text) s = execSpc0TransferDone text s from rfl) (if_pos hbusy) (by decide) (by decide)
  · exact does_gpioBell hcpu (show exec (.gpioEdge p up) s = execGpioEdge p up s from rfl)
      ((gpioEdge_eq hcpu hbank hblank hedge).trans (if_neg (by rw [show s.chip.sio.gpioLimited.contains p.val = false from hfree]; decide)))
  · refine does_sioEvent (show exec (.gpioEdge p up) s = execGpioEdge p up s from rfl) ((gpioEdge_eq hcpu hbank hblank hedge).trans ((if_pos hlimited).trans ?_))
      (b := 0x100) (by decide) (by decide)
    rw [if_neg (by rw [show s.chip.sio.gpioHeld.contains p.val = false from hheld]; decide)]
  · exact does_gpioBell hcpu (show exec (.gpioRateLimitExpire p) s = execGpioRateLimitExpire p s from rfl) (if_pos hheld)
  · exact does_putSio (show exec (.gpioRateLimitExpire p) s = execGpioRateLimitExpire p s from rfl)
      (if_neg (by rw [show s.chip.sio.gpioHeld.contains p.val = false from hheld]; decide))
  · refine does_evtPins (show exec (.evtSetWrite w m) s = execEvtSetWrite w m s from rfl) hcpu (if_pos hcpu) (fun k _ => ?_)
    rw [bit_or, bit_toNat_eq_getLsbD]
  · refine does_evtPins (show exec (.evtClearWrite w m) s = execEvtClearWrite w m s from rfl) hcpu (if_pos hcpu) (fun k hk => ?_)
    rw [bit_and, bit_complement m hk]

/-- Settles O59: the recorder's commands change the recorder, the other ports' their own fields; what each shows is one event or one doorbell. -/
theorem sensorPorts : Obligations.SensorPorts := ⟨sdi12, portsAndPins⟩

end Sys2Proof.Machine
end

section
/-!
PROOFS. Reads and writes of the data map (00 R1013, 01 R62).
-/
namespace Sys2Proof.Machine

/-- A SYS_TIME waits that has a bit beyond its 32. No command leaves one; the statement quantifies over every state. -/
def pendingBeyondSysTime : State := ⟨[], { phw := { sysTime := some (2 ^ 32) } }⟩

/-- The time that waits after a write of 5. -/
theorem sysTimeWrite_beyond :
    (match exec (.sysTimeWrite (hostWriter .spi) 5) pendingBeyondSysTime with | .next t => t.chip.phw.sysTime | _ => none) = some (2 ^ 32 + 5) := by
  decide +kernel

/-- Refutes O60: the bytes of SYS_TIME replace their own bits of the value that waits, and a bit beyond them stands. -/
theorem not_dataMap : ¬ Obligations.DataMap := by
  intro h
  obtain ⟨-, -, -, hwrite, -⟩ := h.2 pendingBeyondSysTime .spi 0 [] 0 5 0
  obtain ⟨t, ht, -, hphw, -⟩ := hwrite (by decide +kernel) (by decide +kernel) (by decide +kernel)
  have hwaits := sysTimeWrite_beyond
  rw [ht] at hwaits
  have hclaimed : t.chip.phw.sysTime = some 5 := congrArg PhwSt.sysTime hphw
  exact absurd (hwaits.symm.trans hclaimed) (by decide)

end Sys2Proof.Machine
end

section
/-!
PROOFS. Rounding, and the results of special operands (06 R276, R287 to R290).
-/
namespace Sys2Proof.Machine

/-! ### The four rounding modes (R276) -/

/-- A magnitude below the place it is rounded to: its quotient there, and one more where the mode rounds up. -/
theorem roundTo_of_lt (rm : Rm) (neg : Bool) (m : Nat) {e g : Int} (h : e < g) : roundTo rm neg m e false g =
    (m / 2 ^ (g - e).toNat + b2n (roundsUp rm neg (m / 2 ^ (g - e).toNat) (m % 2 ^ (g - e).toNat) (g - e).toNat false), decide (m % 2 ^ (g - e).toNat ≠ 0)) := by
  unfold roundTo
  rw [if_neg (by omega)]
  dsimp only
  rw [Bool.or_false]

/-- A magnitude at its place stands. -/
theorem roundTo_of_eq (rm : Rm) (neg : Bool) (m : Nat) (e : Int) : roundTo rm neg m e false e = (m, false) := by
  unfold roundTo
  rw [if_pos (Int.le_refl e)]
  simp

/-- What the four modes promise of the multiples they deliver, `k` to the place. -/
def Brackets (neg : Bool) (m k : Nat) (q : Rm → Nat) : Prop :=
  (q .rtz * k ≤ m ∧ m < (q .rtz + 1) * k) ∧
  (2 * m ≤ (2 * q .rne + 1) * k ∧ (2 * q .rne) * k ≤ 2 * m + k ∧ (2 * m = (2 * q .rne + 1) * k ∨ (2 * q .rne) * k = 2 * m + k → q .rne % 2 = 0)) ∧
  (if neg then q .rup = q .rtz else m ≤ q .rup * k ∧ q .rup * k < m + k) ∧
  (if neg then m ≤ q .rdn * k ∧ q .rdn * k < m + k else q .rdn = q .rtz)

theorem brackets_of_exact (neg : Bool) (m : Nat) : Brackets neg m 1 (fun _ => m) := by
  unfold Brackets
  dsimp only
  refine ⟨⟨by omega, by omega⟩, ⟨by omega, by omega, fun h => by omega⟩, ?_, ?_⟩ <;> split <;> omega

/-- To the nearest: up beyond the half, and at the half from an odd quotient. -/
theorem nearest_brackets {Q half r : Nat} (hr : r < 2 * half) {q : Nat}
    (hq : q = Q + b2n (decide (half < r) || (decide (r = half) && bit Q 0))) :
    2 * (Q * (2 * half) + r) ≤ (2 * q + 1) * (2 * half) ∧ (2 * q) * (2 * half) ≤ 2 * (Q * (2 * half) + r) + 2 * half ∧
    (2 * (Q * (2 * half) + r) = (2 * q + 1) * (2 * half) ∨ (2 * q) * (2 * half) = 2 * (Q * (2 * half) + r) + 2 * half → q % 2 = 0) := by
  have hodd : bit Q 0 = decide (Q % 2 = 1) := by rw [bit_eq_testBit, Nat.testBit_zero]
  rw [hodd] at hq
  have hdown : (2 * Q + 1) * (2 * half) = 2 * (Q * (2 * half)) + 2 * half := by ring
  have hup : (2 * (Q + 1) + 1) * (2 * half) = 2 * (Q * (2 * half)) + 6 * half := by ring
  have hdown' : (2 * Q) * (2 * half) = 2 * (Q * (2 * half)) := by ring
  have hup' : (2 * (Q + 1)) * (2 * half) = 2 * (Q * (2 * half)) + 4 * half := by ring
  obtain ⟨P, hP⟩ : ∃ P, Q * (2 * half) = P := ⟨_, rfl⟩
  rw [hP] at hdown hup hdown' hup' ⊢
  by_cases hfar : half < r ∨ (r = half ∧ Q % 2 = 1)
  · have hone : q = Q + 1 := by
      rw [hq]
      rcases hfar with h | ⟨h, hq1⟩
      · simp [h, b2n]
      · simp [h, hq1, b2n]
    rw [hone, hup, hup']
    exact ⟨by omega, by omega, fun h => by omega⟩
  · have hnone : q = Q := by
      rw [hq]
      have h1 : ¬ half < r := fun h => hfar (.inl h)
      have h2 : ¬ (r = half ∧ Q % 2 = 1) := fun h => hfar (.inr h)
      simp [h1, h2, b2n]
    rw [hnone, hdown, hdown']
    exact ⟨by omega, by omega, fun h => by omega⟩

/-- Away from zero: up exactly when a bit is lost. -/
theorem away_brackets {Q k r : Nat} (hr : r < k) : Q * k + r ≤ (Q + b2n (decide (r ≠ 0))) * k ∧ (Q + b2n (decide (r ≠ 0))) * k < Q * k + r + k := by
  by_cases hzero : r = 0
  · rw [hzero]
    simp [b2n]
    omega
  · have hone : (Q + 1) * k = Q * k + k := Nat.succ_mul Q k
    rw [decide_eq_true hzero]
    change Q * k + r ≤ (Q + 1) * k ∧ (Q + 1) * k < Q * k + r + k
    rw [hone]
    omega

/-- The brackets of a quotient with its remainder. -/
theorem brackets_of_quotient (neg : Bool) {Q half r sh : Nat} (hsh : sh ≠ 0) (hhalf : 2 ^ (sh - 1) = half) (hr : r < 2 * half) :
    Brackets neg (Q * (2 * half) + r) (2 * half) (fun rm => Q + b2n (roundsUp rm neg Q r sh false)) := by
  have hdown : Q + b2n (roundsUp .rtz neg Q r sh false) = Q := rfl
  unfold Brackets
  dsimp only
  refine ⟨⟨?_, ?_⟩, ?_, ?_, ?_⟩
  · rw [hdown]
    exact Nat.le_add_right _ _
  · rw [hdown, show (Q + 1) * (2 * half) = Q * (2 * half) + 2 * half from Nat.succ_mul _ _]
    omega
  · refine nearest_brackets hr ?_
    unfold roundsUp
    simp only [hhalf, decide_eq_true hsh, Bool.true_and, Bool.false_or]
  · cases neg
    · simp only [roundsUp, Bool.or_false, Bool.not_false, Bool.and_true, Bool.false_eq_true, if_false]
      exact away_brackets hr
    · simp only [roundsUp, Bool.or_false, Bool.not_true, Bool.and_false, if_true]
  · cases neg
    · simp only [roundsUp, Bool.or_false, Bool.and_false, Bool.false_eq_true, if_false]
    · simp only [roundsUp, Bool.or_false, Bool.and_true, if_true]
      exact away_brackets hr

theorem roundingModes : Parts.RoundingModes := by
  intro neg m e g hle k q
  by_cases hlt : e < g
  · have hsh : (g - e).toNat ≠ 0 := by omega
    have hk : k = 2 * 2 ^ ((g - e).toNat - 1) := by
      change 2 ^ (g - e).toNat = _
      rw [← pow_succ', Nat.sub_add_cancel (by omega)]
    have hq : q = fun rm => m / k + b2n (roundsUp rm neg (m / k) (m % k) (g - e).toNat false) := funext (fun rm => congrArg Prod.fst (roundTo_of_lt rm neg m hlt))
    have hm : m / k * k + m % k = m := Nat.div_add_mod' m k
    have hr : m % k < k := Nat.mod_lt _ (by rw [hk]; positivity)
    have hall := brackets_of_quotient neg (Q := m / k) (r := m % k) hsh rfl (by rw [← hk]; exact hr)
    rw [← hk, hm, ← hq] at hall
    exact ⟨fun rm => congrArg Prod.snd (roundTo_of_lt rm neg m hlt), hall⟩
  · have heq : e = g := by omega
    subst heq
    have hk : k = 1 := by
      change 2 ^ (e - e).toNat = 1
      rw [Int.sub_self]
      rfl
    have hq : q = fun _ => m := funext (fun rm => congrArg Prod.fst (roundTo_of_eq rm neg m e))
    rw [hk, hq]
    exact ⟨fun rm => (congrArg Prod.snd (roundTo_of_eq rm neg m e)).trans (by rw [Nat.mod_one]; rfl), brackets_of_exact neg m⟩

/-! ### Operands (R274, R275, R284) -/

theorem fld_mod_two_pow {v lo w n : Nat} (h : lo + w ≤ n) : fld (v % 2 ^ n) lo w = fld v lo w :=
  fld_congr (fun i _ hi => by rw [bit_eq_testBit, bit_eq_testBit, Nat.testBit_mod_two_pow, decide_eq_true (by omega), Bool.true_and])

theorem bit_mod_two_pow {v i n : Nat} (h : i < n) : bit (v % 2 ^ n) i = bit v i := by
  rw [bit_eq_testBit, bit_eq_testBit, Nat.testBit_mod_two_pow, decide_eq_true h, Bool.true_and]

section
variable {f : Fmt} {x : Nat}

theorem unpack_nan (hexpo : fld x f.fb f.eb = 2 ^ f.eb - 1) (hfrac : fld x 0 f.fb ≠ 0) : ∃ s, unpack f x = .nan s := by
  unfold unpack
  dsimp only
  rw [if_pos hexpo, if_neg hfrac]
  exact ⟨_, rfl⟩

theorem unpack_finite (hexpo : fld x f.fb f.eb ≠ 2 ^ f.eb - 1) : unpack f x =
    if fld x f.fb f.eb = 0 then .fin (bit x (f.eb + f.fb)) (fld x 0 f.fb) (f.emin - f.fb)
    else .fin (bit x (f.eb + f.fb)) (2 ^ f.fb + fld x 0 f.fb) ((fld x f.fb f.eb : Int) - f.bias - f.fb) := by
  unfold unpack
  dsimp only
  rw [if_neg hexpo]

/-- An operand that is not subnormal passes DAZ. -/
theorem dazIn_of_not_subnormal (h : fld x f.fb f.eb ≠ 0 ∨ fld x 0 f.fb = 0) (daz : Bool) : dazIn f daz x = (x % 2 ^ f.bits, false) := by
  have hnot : isSubnormal f x = false := by
    unfold isSubnormal
    rcases h with h | h
    · rw [decide_eq_false h, Bool.false_and]
    · rw [decide_eq_false (not_not.mpr h), Bool.and_false]
  unfold dazIn
  rw [hnot, Bool.and_false, if_neg Bool.false_ne_true]

end

/-- The operand of FPH or FPS in a register, after DAZ. -/
def fpOperand (isH daz : Bool) (x : Nat) : Nat × Bool := dazIn (fpFmt isH) daz (x % 2 ^ (if isH then 16 else 32))

theorem fpFmt_bits (isH : Bool) : (if isH then 16 else 32) = (fpFmt isH).bits := by cases isH <;> rfl

theorem fpFmt_eb_pos (isH : Bool) : 2 ^ (fpFmt isH).eb - 1 ≠ 0 := by cases isH <;> decide

section
variable {isH daz : Bool} {x : Nat}

theorem fpOperand_eq (h : fld x (fpFmt isH).fb (fpFmt isH).eb ≠ 0 ∨ fld x 0 (fpFmt isH).fb = 0) : fpOperand isH daz x = (x % 2 ^ (fpFmt isH).bits, false) := by
  have hbits : (fpFmt isH).fb + (fpFmt isH).eb ≤ (fpFmt isH).bits := by unfold Fmt.bits; omega
  unfold fpOperand
  rw [fpFmt_bits, dazIn_of_not_subnormal (by rw [fld_mod_two_pow hbits, fld_mod_two_pow (by omega)]; exact h), Nat.mod_mod]

theorem fpOperand_nan (hexpo : fld x (fpFmt isH).fb (fpFmt isH).eb = 2 ^ (fpFmt isH).eb - 1) (hfrac : fld x 0 (fpFmt isH).fb ≠ 0) :
    ∃ s, unpack (fpFmt isH) (fpOperand isH daz x).1 = .nan s := by
  have hbits : (fpFmt isH).fb + (fpFmt isH).eb ≤ (fpFmt isH).bits := by unfold Fmt.bits; omega
  rw [fpOperand_eq (.inl (by rw [hexpo]; exact fpFmt_eb_pos isH))]
  exact unpack_nan (by rw [fld_mod_two_pow hbits]; exact hexpo) (by rw [fld_mod_two_pow (by omega)]; exact hfrac)

theorem fpOperand_normal (hlow : 0 < fld x (fpFmt isH).fb (fpFmt isH).eb) (hhigh : fld x (fpFmt isH).fb (fpFmt isH).eb < 2 ^ (fpFmt isH).eb - 1) :
    (fpOperand isH daz x).2 = false ∧
    ∃ m e, unpack (fpFmt isH) (fpOperand isH daz x).1 = .fin (bit x ((fpFmt isH).eb + (fpFmt isH).fb)) m e ∧ m ≠ 0 := by
  have hbits : (fpFmt isH).fb + (fpFmt isH).eb ≤ (fpFmt isH).bits := by unfold Fmt.bits; omega
  rw [fpOperand_eq (.inl (by omega)), unpack_finite (by rw [fld_mod_two_pow hbits]; omega), fld_mod_two_pow hbits, if_neg (by omega),
    bit_mod_two_pow (by unfold Fmt.bits; omega)]
  exact ⟨rfl, _, _, rfl, Nat.ne_of_gt (Nat.add_pos_left (by positivity) _)⟩

theorem fpOperand_zero (hexpo : fld x (fpFmt isH).fb (fpFmt isH).eb = 0) (hfrac : fld x 0 (fpFmt isH).fb = 0) :
    (fpOperand isH daz x).2 = false ∧ ∃ e, unpack (fpFmt isH) (fpOperand isH daz x).1 = .fin (bit x ((fpFmt isH).eb + (fpFmt isH).fb)) 0 e := by
  have hbits : (fpFmt isH).fb + (fpFmt isH).eb ≤ (fpFmt isH).bits := by unfold Fmt.bits; omega
  rw [fpOperand_eq (.inr hfrac), unpack_finite (by rw [fld_mod_two_pow hbits, hexpo]; exact (fpFmt_eb_pos isH).symm), fld_mod_two_pow hbits, if_pos hexpo,
    fld_mod_two_pow (by omega), hfrac, bit_mod_two_pow (by unfold Fmt.bits; omega)]
  exact ⟨rfl, _, rfl⟩

end

/-! ### NaN, division by zero, roots of negative numbers (R287 to R291) -/

section
variable {f : Fmt} {rm : Rm} {ftz : Bool} {u v : FVal}

/-- An operand is a NaN. -/
def FVal.isNan (u : FVal) : Prop := ∃ s, u = .nan s

theorem FVal.isNan.negate (h : v.isNan) : v.negate.isNan := by
  obtain ⟨s, rfl⟩ := h
  exact ⟨s, rfl⟩

section
variable (h : u.isNan ∨ v.isNan)
include h

theorem fAdd_of_nan : (fAdd f rm ftz u v).val = f.qnan := by
  rcases h with ⟨s, rfl⟩ | ⟨s, rfl⟩
  · cases v <;> rfl
  · cases u <;> rfl

theorem fMul_of_nan : (fMul f rm ftz u v).val = f.qnan := by
  rcases h with ⟨s, rfl⟩ | ⟨s, rfl⟩
  · cases v <;> rfl
  · cases u <;> rfl

theorem fDiv_of_nan : (fDiv f rm ftz u v).val = f.qnan := by
  rcases h with ⟨s, rfl⟩ | ⟨s, rfl⟩
  · cases v <;> rfl
  · cases u <;> rfl

end

theorem fDiv_by_zero {n1 n2 : Bool} {m1 : Nat} {e1 e2 : Int} (hm : m1 ≠ 0) :
    fDiv f rm ftz (.fin n1 m1 e1) (.fin n2 0 e2) = ⟨f.inf (xor n1 n2), { dz := true }⟩ := by
  unfold fDiv
  dsimp only
  rw [if_pos rfl, if_neg hm]

theorem fSqrt_of_negative {m : Nat} {e : Int} (hm : m ≠ 0) : fSqrt f rm ftz (.fin true m e) = invalid f := by
  unfold fSqrt
  dsimp only
  rw [if_neg hm, if_pos rfl]

end

theorem floatSpecialOperands : Parts.FloatSpecialOperands := by
  intro isH mode a b f expo frac sign nan normal quiet
  have hfrac : ∀ x, fld x 0 (fpFmt isH).fb = frac x := fun x => by unfold fld; rw [pow_zero, Nat.div_one]
  have hnan : ∀ x, nan x → (unpack (fpFmt isH) (fpOperand isH (bit mode 3) x).1).isNan := fun x hx => fpOperand_nan hx.1 (by rw [hfrac]; exact hx.2)
  have hsign : ∀ x, bit x ((fpFmt isH).eb + (fpFmt isH).fb) = decide (sign x = 1) := fun x => bit_eq_decide _ _
  refine ⟨fun h op hop => ?_, fun h => ?_, fun ha hexpo hzero => ?_, fun ha hneg => ?_⟩
  · have hor : (unpack (fpFmt isH) (fpOperand isH (bit mode 3) a).1).isNan ∨ (unpack (fpFmt isH) (fpOperand isH (bit mode 3) b).1).isNan := h.imp (hnan a) (hnan b)
    simp only [List.mem_cons, List.not_mem_nil, or_false] at hop
    rcases hop with rfl | rfl | rfl | rfl
    · exact fAdd_of_nan hor
    · exact fAdd_of_nan (hor.imp_right FVal.isNan.negate)
    · exact fMul_of_nan hor
    · exact fDiv_of_nan hor
  · obtain ⟨t, ht⟩ := hnan a h
    change (fSqrt (fpFmt isH) _ _ (unpack (fpFmt isH) (fpOperand isH (bit mode 3) a).1)).val = _
    rw [ht]
    rfl
  · obtain ⟨hkept, m, e, hnum, hm⟩ := fpOperand_normal (isH := isH) (daz := bit mode 3) ha.1 ha.2
    obtain ⟨hkept', e', hden⟩ := fpOperand_zero (isH := isH) (daz := bit mode 3) hexpo (by rw [hfrac]; exact hzero)
    have hres : fpRes isH .fdiv mode a b = (fDiv (fpFmt isH) (Rm.ofMode mode) (bit mode 2) (unpack (fpFmt isH) (fpOperand isH (bit mode 3) a).1)
      (unpack (fpFmt isH) (fpOperand isH (bit mode 3) b).1)).withId ((fpOperand isH (bit mode 3) a).2 || (fpOperand isH (bit mode 3) b).2) := rfl
    rw [hres, hnum, hden, hkept, hkept', fDiv_by_zero hm, hsign, hsign]
    have hlt : sign a < 2 ∧ sign b < 2 := ⟨Nat.mod_lt _ (by decide), Nat.mod_lt _ (by decide)⟩
    refine ⟨?_, rfl⟩
    change b2n (xor (decide (sign a = 1)) (decide (sign b = 1))) * 2 ^ (f.eb + f.fb) + (2 ^ f.eb - 1) * 2 ^ f.fb = _
    by_cases hsame : sign a = sign b
    · rw [if_pos hsame, hsame, Bool.xor_self]
      simp [b2n]
    · have hxor : xor (decide (sign a = 1)) (decide (sign b = 1)) = true := by
        rcases (show sign a = 0 ∧ sign b = 1 ∨ sign a = 1 ∧ sign b = 0 by omega) with ⟨h1, h2⟩ | ⟨h1, h2⟩ <;> rw [h1, h2] <;> rfl
      rw [if_neg hsame, hxor]
      simp [b2n]
  · obtain ⟨hkept, m, e, hnum, hm⟩ := fpOperand_normal (isH := isH) (daz := bit mode 3) ha.1 ha.2
    have hres : fpRes isH .fsqrt mode a b = (fSqrt (fpFmt isH) (Rm.ofMode mode) (bit mode 2) (unpack (fpFmt isH) (fpOperand isH (bit mode 3) a).1)).withId
      (fpOperand isH (bit mode 3) a).2 := rfl
    rw [hres, hnum, hkept, hsign, decide_eq_true hneg, fSqrt_of_negative hm]
    rfl

/-- Settles O14: rounding brackets the exact number by the quotient's remainder; a special operand is told by its exponent and fraction fields. -/
theorem floatSpecials : Obligations.FloatSpecials := ⟨roundingModes, floatSpecialOperands⟩

end Sys2Proof.Machine
end
